-- ==== Sys2Proof/Word.lean ====
section
/-! DEFINITION. The word types of the module and the plain data that its commands carry. -/

namespace Sys2Proof

/-- One byte. -/
abbrev Byte := BitVec 8

/-- A 64-bit register word (R7). -/
abbrev Word := BitVec 64

/-- A finite table from numbers to values: keys strictly rising (`Map.wf`), read through a default. -/
abbrev Map (α : Type) := List (Nat × α)

/-- A dictionary value as it is held: a number (BOOL, integers, F32 as its 32 bits) or a byte string
(STR, DOMAIN, TIME80), R82. -/
inductive Val where
  | int (v : Int)
  | bytes (b : List Byte)
  deriving DecidableEq, Repr, Inhabited

end Sys2Proof
end

