-- ==== Sys2Proof/Syntax.lean ====
section
/-! DEFINITION. The commands of the module: one constructor of Instr per row of the command table, with the
operands that its event carries. An operand is what the outside (or an analogue part of the module) supplies. -/

namespace Sys2Proof

abbrev ByteList := List Byte
abbrev PairList := List (Nat × Nat)
abbrev ValList := List (Nat × Val)

/-- The handshake input lines of both sets as read (R354). -/
structure Lines where
  own0 : Bool
  own1 : Bool
  req0 : Bool
  req1 : Bool
  deriving DecidableEq, Repr, Inhabited

/-- The header of a verified firmware image (R59, R70, R72). -/
structure FwHeader where
  version : Nat
  mirrorProto : Nat
  secVersion : Nat
  secFloor : Nat
  digest : ByteList
  deriving DecidableEq, Repr, Inhabited

/-- What the verified bytes of a configuration image say (R79, R85, R172, R249; the image's own byte format
is not in the spec): entry values, program images, static forwarding, stream and VLAN entries, start values
of software bits, and the public key of its signature block. -/
structure CfgImage where
  entries : ValList
  programs : List ByteList
  fdb : List Nat
  streams : List Nat
  vlans : PairList
  swbStart : List Nat
  signer : ByteList
  deriving DecidableEq, Repr, Inhabited

/-- The target of an accepted register write: a dictionary entry by key (index × 256 + subindex), or a
facet window register by offset (R89, R301). -/
inductive RegTarget where
  | entry (key : Nat) (v : Val)
  | facet (n : Nat) (offset : Nat) (v : Nat)
  deriving DecidableEq, Repr

/-- A Management Access Protocol message as it arrives in a session (Table 4.4): `len` is the payload
length field, `payload` the bytes that follow the header. -/
structure MapMsg where
  sess : Nat
  version : Nat
  flags : Nat
  tid : Nat
  index : Nat
  sub : Nat
  typ : Nat
  len : Nat
  payload : ByteList
  deriving DecidableEq, Repr, Inhabited

/-- What a DTLS client hello offers (R94), and where it arrives: on a front-panel service port, or on the station network with
its VLAN; the UDP port; key exchange modes, groups and cipher suites by their TLS code points; whether it carries the cookie
of a HelloRetryRequest and early data; and whether the binder proves the key of the identity. -/
structure DtlsOffer where
  service : Bool
  vlan : Nat
  port : Nat
  modes : List Nat
  groups : List Nat
  suites : List Nat
  cookie : Bool
  earlyData : Bool
  binder : Bool
  deriving DecidableEq, Repr, Inhabited

/-- A cabinet object access request (Table 4.7): the controller that received it, its destination and source
nodes, and the data field. -/
structure CabReq where
  ctrl : Nat
  dst : Nat
  src : Nat
  data : ByteList
  deriving DecidableEq, Repr, Inhabited

/-- A Sync message (R448): supported kind, domain, sequence, two-step flag, origin time in ns and correction in units of
0.25 ns, the resolution of the port stamps (R111). -/
structure SyncMsg where
  supported : Bool
  domain : Nat
  source : Nat
  seq : Nat
  twoStep : Bool
  origin : Int
  correction : Int
  deriving DecidableEq, Repr, Inhabited

/-- A Follow_Up message (R448). -/
structure FollowUpMsg where
  supported : Bool
  domain : Nat
  source : Nat
  seq : Nat
  origin : Int
  correction : Int
  deriving DecidableEq, Repr, Inhabited

/-- An Announce message (R114, R116): grandmaster data set, steps, sending port, UTC offset, the IEEE_C37_238 total time
inaccuracy, and the ALTERNATE_TIME_OFFSET_INDICATOR TLV (empty: none). -/
structure AnnounceMsg where
  supported : Bool
  domain : Nat
  priority1 : Nat
  clockClass : Nat
  accuracy : Nat
  variance : Nat
  priority2 : Nat
  gmIdentity : Nat
  stepsRemoved : Nat
  sourceClock : Nat
  sourcePort : Nat
  utcOffset : Int
  inaccuracy : Nat
  altOffset : ByteList
  deriving DecidableEq, Repr, Inhabited

/-- A Pdelay_Req message (R116). -/
structure PdelayReqMsg where
  supported : Bool
  domain : Nat
  source : Nat
  seq : Nat
  deriving DecidableEq, Repr, Inhabited

/-- A complete peer delay response: the four stamps of the exchange in units of 0.25 ns (R111, R116). -/
structure PdelayRespMsg where
  supported : Bool
  domain : Nat
  seq : Nat
  t1 : Int
  t2 : Int
  t3 : Int
  t4 : Int
  deriving DecidableEq, Repr, Inhabited

/-- What the fabric reads of a PTP message (R116): message type (0 Sync, 8 Follow_Up), sequence, and correction in units of
0.25 ns. -/
structure PtpHead where
  msg : Nat
  seq : Nat
  correction : Int
  deriving DecidableEq, Repr, Inhabited

/-- The head of a frame at an ingress port (R140, R144, R147): `length` counts from the destination address to the FCS, `tag`
is the 802.1Q priority and VID, `seq` the sequence number and path of an HSR tag, `ptp` the header of a PTP message, `cls`
the class that an internal source gives its frame. -/
structure FrameHead where
  port : Nat
  length : Nat
  pause : Bool
  dst : Nat
  src : Nat
  tag : Option (Nat × Nat)
  etherType : Nat
  appid : Nat
  seq : Option (Nat × Nat)
  ptp : Option PtpHead
  cls : Nat
  deriving DecidableEq, Repr, Inhabited

/-- The tail of the frame in reception at a port: FCS good, and the PRP trailer (sequence, LAN) when present. -/
structure FrameTail where
  fcsGood : Bool
  rct : Option (Nat × Nat)
  deriving DecidableEq, Repr, Inhabited

/-- A sampled-value frame at the moment its tail reaches P48 (R183): `entry` is the position of its stream identification
entry, `pdu` its bytes from APPID on, `arrival` the time-base time of its tail in ns. -/
structure SvFrame where
  entry : Nat
  pdu : ByteList
  tailGood : Bool
  arrival : Nat
  deriving DecidableEq, Repr, Inhabited

/-- A subscribed GOOSE frame at the moment its tail reaches P51 (R238): its bytes from APPID on. -/
structure GooseFrame where
  entry : Nat
  pdu : ByteList
  tailGood : Bool
  deriving DecidableEq, Repr, Inhabited

/-- A station response segment (R424, R425): exchange count, segment number and data. -/
structure RespSeg where
  count : Nat
  seg : Nat
  data : ByteList
  deriving DecidableEq, Repr, Inhabited

abbrev SegList := List RespSeg

/-- Answers to a liveness probe (R356): Lens, phasor unit, summation unit, trip lanes, GOOSE engine and the
16 logic processors. -/
structure UnitBits where
  lens : Bool
  phasor : Bool
  summation : Bool
  lanes : Bool
  goose : Bool
  processors : List Bool
  deriving DecidableEq, Repr, Inhabited

/-- A blink (Tables 14.3 and 14.4) with the receiver's arrival stamp (in ns) and the verdict of its tag. `accepts`: the
sender's accepted partner fingerprint 0xC030:05 is the receiver's fingerprint (R76; log 15). -/
structure Blink where
  authentic : Bool
  major : Nat
  minor : Nat
  seq : Nat
  time : Nat
  epoch : Nat
  release : Bool
  handBack : Bool
  slot : Nat
  role : Nat
  linesDriven : Nat
  linesRead : Nat
  health : Nat
  eligibility : Nat
  firmware : Nat
  lanes : Nat
  fingerprint : ByteList
  overlayDigest : ByteList
  newestTickMirror : Nat
  servo : Nat
  utcOffset : Int
  freqCorr : Int
  gmIdentity : Nat
  newestSealed : Nat
  forwardCount : Nat
  pendingJump : Int
  accepts : Bool
  arrival : Nat
  deriving DecidableEq, Repr, Inhabited

/-- The state of one instance as it is mirrored (R364): its name under those of the blocks around it (32 bytes each),
type number, whether it is the data of a RETAIN instance, and its words. -/
structure InstMirror where
  name : ByteList
  typ : Nat
  retained : Bool
  data : List Int
  deriving DecidableEq, Repr, Inhabited

/-- The mirrored state of one program (R364): instances, owned marker and retentive bits by area, and owned words by
space. -/
structure ProgMirror where
  prog : Nat
  insts : List InstMirror
  bits : List (Nat × Nat × Bool)
  words : List (Nat × Nat × Nat)
  deriving DecidableEq, Repr, Inhabited

/-- The mirrored state of one publisher (R234, R364). -/
structure PubMirror where
  pub : Nat
  stNum : Nat
  sqNum : Nat
  values : List Nat
  t : Nat
  k : Nat
  deriving DecidableEq, Repr, Inhabited

/-- The mirror set of one facet (R368). -/
structure FacetMirror where
  facet : Nat
  base : Nat
  data : ByteList
  deriving DecidableEq, Repr, Inhabited

/-- What authenticates a unit of mirror frames (R361, R362): whether its tags hold, its key epoch, and the sequence of its
last frame. -/
structure MirrorTag where
  authentic : Bool
  epoch : Nat
  seq : Nat
  deriving DecidableEq, Repr, Inhabited

/-- The epoch and the sequence of a mirror frame's tag. -/
structure FramePlace where
  epoch : Nat
  seq : Nat
  deriving DecidableEq, Repr, Inhabited

/-- The head of a forwarded write and of its acknowledgement (R93): the tag of its frame and the count of the forward. -/
structure ForwardHead where
  tag : MirrorTag
  count : Nat
  deriving DecidableEq, Repr, Inhabited

/-- The answer to a planned swap (R377): the tag of its frame and the bulk unit that it names. -/
structure SwapAck where
  tag : MirrorTag
  unit : Nat
  deriving DecidableEq, Repr, Inhabited

/-- A unit of tick-class or bulk-class mirror frames (R361, R364, R365); `seq` is the sequence of its last frame. -/
structure MirrorMsg where
  authentic : Bool
  kind : Nat
  epoch : Nat
  seq : Nat
  unit : Nat
  instant : Nat
  handover : Bool
  pubs : List PubMirror
  progs : List ProgMirror
  facets : List FacetMirror
  forwardCount : Nat
  deriving DecidableEq, Repr, Inhabited

/-- The overlay, or the missing forwards, sent to a standby (R371). -/
structure OverlayMsg where
  tag : MirrorTag
  full : Bool
  forwardCount : Nat
  entries : ValList
  deriving DecidableEq, Repr, Inhabited

/-- A record as a source hands it to the log engine (Table 15.1 less the fields the engine fills). -/
structure LogReq where
  typ : Nat
  severity : Nat
  facet : Nat
  code : Nat
  inst : Nat
  data : ByteList
  deriving DecidableEq, Repr, Inhabited

/-- A CAN frame on the bus (R408, R416): identifier, 29-bit format, FD format, bit rate switch, error state
indicator, data. -/
structure CanFrame where
  ident : Nat
  ext : Bool
  fd : Bool
  brs : Bool
  esi : Bool
  data : ByteList
  deriving DecidableEq, Repr, Inhabited

/-- A bus error seen by a controller (R418): as transmitter or receiver, its kind (0x14 codes), in the data
phase, primary error of a receiver (adds 8), and whether an acknowledge error saw no dominant bit during the
passive error flag (R422). -/
structure CanError where
  transmitting : Bool
  kind : Nat
  dataPhase : Bool
  primary : Bool
  noDominant : Bool
  deriving DecidableEq, Repr, Inhabited

/-- An access outside the commands that have rows of their own (R11, R13, R22): of a physical address by the steward, of a
guest-physical one by a guest, 0 read, 1 write, 2 execute; or a guest's read at an offset of its facet window. -/
inductive AccessAt where
  | memory (addr : Nat) (kind : Nat)
  | window (offset : Nat)
  deriving DecidableEq, Repr

/-- The access that the operands of ACCESS_FAULT name. -/
def accessAt (addr kind : Nat) (window : Bool) : AccessAt := if window then .window addr else .memory addr kind

/-- The commands: one constructor per row of the command table, named after it; those with operands first, in the
table's order, then those without. -/
inductive Instr where
  /-- SLOT_STRAP_CONFLICT (R35) -/
  | slotStrapConflict (level : Bool)
  /-- VIN_MAIN_UNDERVOLTAGE (R36) -/
  | vinMainUndervoltage (mv : Nat)
  /-- VIN_MAIN_OVERVOLTAGE_WARNING (R36) -/
  | vinMainOvervoltageWarning (mv : Nat)
  /-- VIN_MAIN_OVERVOLTAGE (R36) -/
  | vinMainOvervoltage (mv : Nat)
  /-- VIN_ANA_UNDERVOLTAGE (R36) -/
  | vinAnaUndervoltage (mv : Nat)
  /-- VIN_IO_LOST (R36) -/
  | vinIoLost (mv : Nat)
  /-- VBAT_LOW (R36) -/
  | vbatLow (mv : Nat)
  /-- VBAT_ABSENT (R36) -/
  | vbatAbsent (mv : Nat)
  /-- PWR_EN_RISE (R45) -/
  | pwrEnRise (junction : Int)
  /-- THERMAL_WARNING (R45) -/
  | thermalWarning (junction : Int)
  /-- THERMAL_SHUTDOWN (R45) -/
  | thermalShutdown (junction : Int)
  /-- THERMAL_RESTART (R45) -/
  | thermalRestart (junction : Int)
  /-- CLUSTER_PAIR_OFF (R41) -/
  | clusterPairOff (d : Nat)
  /-- CLUSTER_PAIR_ON (R41) -/
  | clusterPairOn (d : Nat)
  /-- DOMAIN_RAMPING_DONE (R41) -/
  | domainRampingDone (d : Nat)
  /-- DOMAIN_TESTING_DONE (R41) -/
  | domainTestingDone (d : Nat) (pass : Bool)
  /-- FDO_PULSE_TEST (R48) -/
  | fdoPulseTest (driver : Nat) (pass : Bool)
  /-- SECURE_BOOT (R59) -/
  | secureBoot (sigA : Bool) (sigB : Bool)
  /-- STEWARD_START (R58) -/
  | stewardStart (crcOk : Bool)
  /-- CONFIGURATION_LOAD (R85) -/
  | configurationLoad (activeOk : Bool) (markedOk : Bool)
  /-- ROLE_DECISION (R63) -/
  | roleDecision (lines : Lines)
  /-- FACET_LAUNCH_DEADLINE (R65) -/
  | facetLaunchDeadline (n : Nat)
  /-- FATAL_ERROR (R66) -/
  | fatalError (crossCheck : Bool)
  /-- INSTALLATION_BEGIN (R70) -/
  | installationBegin (sess : Nat)
  /-- INSTALLATION_ABORT (R70) -/
  | installationAbort (sess : Nat)
  /-- INSTALLATION_VERIFY (R70) -/
  | installationVerify (sess : Nat)
  /-- FIRMWARE_SEGMENT (R70) -/
  | firmwareSegment (sess : Nat) (data : ByteList)
  /-- FIRMWARE_VERIFICATION_DONE (R70) -/
  | firmwareVerificationDone (result : Nat) (hdr : FwHeader)
  /-- TRIAL_SLOT (R72) -/
  | trialSlot (n : Nat)
  /-- CONFIGURATION_BEGIN (R79) -/
  | configurationBegin (sess : Nat)
  /-- CONFIGURATION_ABORT (R79) -/
  | configurationAbort (sess : Nat)
  /-- CONFIGURATION_VERIFY (R79) -/
  | configurationVerify (sess : Nat)
  /-- CONFIGURATION_SEGMENT (R79) -/
  | configurationSegment (sess : Nat) (data : ByteList)
  /-- CONFIGURATION_VERIFICATION_DONE (R79) -/
  | configurationVerificationDone (result : Nat) (img : CfgImage)
  /-- REGISTER_WRITE (R89) -/
  | registerWrite (tgt : RegTarget)
  /-- READ (R81) -/
  | read (m : MapMsg)
  /-- WRITE (R82) -/
  | write (m : MapMsg)
  /-- WRITE_SET (R90) -/
  | writeSet (m : MapMsg)
  /-- DESCRIBE (R81) -/
  | describe (m : MapMsg)
  /-- LOCK (R92) -/
  | lock (m : MapMsg)
  /-- UNLOCK (R92) -/
  | unlock (m : MapMsg)
  /-- CLOSE (R95) -/
  | close (m : MapMsg)
  /-- SEG_INIT_DOWN (R98) -/
  | segInitDown (m : MapMsg)
  /-- SEG_DOWN (R98) -/
  | segDown (m : MapMsg)
  /-- SEG_END_DOWN (R98) -/
  | segEndDown (m : MapMsg)
  /-- SEG_INIT_UP (R99) -/
  | segInitUp (m : MapMsg)
  /-- SEG_UP (R99) -/
  | segUp (m : MapMsg)
  /-- ABORT (R101) -/
  | abort (m : MapMsg)
  /-- DTLS_HANDSHAKE (R95) -/
  | dtlsHandshake (identity : ByteList) (offer : DtlsOffer)
  /-- CLOSE_NOTIFY (R95) -/
  | closeNotify (sess : Nat)
  /-- SESSION_IDLE_TIMEOUT (R95) -/
  | sessionIdleTimeout (sess : Nat)
  /-- LOCK_EXPIRY (R92) -/
  | lockExpiry (first : Nat)
  /-- TRANSFER_TIMEOUT (R101) -/
  | transferTimeout (sess : Nat)
  /-- FORWARDED_WRITE (R93) -/
  | forwardedWrite (head : ForwardHead) (items : ValList)
  /-- CABINET_READ (R103) -/
  | cabinetRead (r : CabReq)
  /-- CABINET_WRITE (R103) -/
  | cabinetWrite (r : CabReq)
  /-- CABINET_SEGMENT_INIT_DOWN (R104) -/
  | cabinetSegmentInitDown (r : CabReq)
  /-- CABINET_SEGMENT_DOWN (R104) -/
  | cabinetSegmentDown (r : CabReq)
  /-- CABINET_SEGMENT_END (R104) -/
  | cabinetSegmentEnd (r : CabReq)
  /-- CABINET_SEGMENT_INIT_UP (R104) -/
  | cabinetSegmentInitUp (r : CabReq)
  /-- CABINET_SEGMENT_UP (R104) -/
  | cabinetSegmentUp (r : CabReq)
  /-- CABINET_ABORT (R104) -/
  | cabinetAbort (r : CabReq)
  /-- CABINET_NODE_STATE_RELEASE (R104) -/
  | cabinetNodeStateRelease (node : Nat)
  /-- CABINET_TRANSFER_TIMEOUT (R104) -/
  | cabinetTransferTimeout (node : Nat)
  /-- SYNC (R448) -/
  | sync (port : Nat) (m : SyncMsg)
  /-- FOLLOW_UP (R448) -/
  | followUp (port : Nat) (m : FollowUpMsg)
  /-- ANNOUNCE (R116) -/
  | announce (port : Nat) (m : AnnounceMsg)
  /-- PDELAY_REQ (R116) -/
  | pdelayReq (port : Nat) (m : PdelayReqMsg)
  /-- PDELAY_RESP (R116) -/
  | pdelayResp (port : Nat) (m : PdelayRespMsg)
  /-- SYNC_TRANSMIT (R116) -/
  | syncTransmit (port : Nat)
  /-- ANNOUNCE_TRANSMIT (R117) -/
  | announceTransmit (port : Nat)
  /-- PDELAY_REQ_TRANSMIT (R116) -/
  | pdelayReqTransmit (port : Nat)
  /-- SET_TIME (R136) -/
  | setTime (sec : Nat) (ns : Nat)
  /-- TPO_START (R125) -/
  | tpoStart (n : Nat) (v : Nat)
  /-- TPO_EDGE (R127) -/
  | tpoEdge (n : Nat)
  /-- TPO_PULSE_END (R128) -/
  | tpoPulseEnd (n : Nat)
  /-- TPO_GRANT (R129) -/
  | tpoGrant (n : Nat) (owner : Nat)
  /-- CAPTURE_EDGE (R131) -/
  | captureEdge (n : Nat)
  /-- OLDEST_STAMP_READ (R131) -/
  | oldestStampRead (n : Nat)
  /-- TIME_STATUS_READ (R135) -/
  | timeStatusRead (f : Nat)
  /-- FRAME_HEAD (R144) -/
  | frameHead (h : FrameHead)
  /-- FRAME_TAIL (R153) -/
  | frameTail (port : Nat) (t : FrameTail)
  /-- LINK_DOWN (R157) -/
  | linkDown (port : Nat)
  /-- LINK_DOWN_HOLD_EXPIRY (R157) -/
  | linkDownHoldExpiry (port : Nat)
  /-- LINK_UP (R158) -/
  | linkUp (port : Nat)
  /-- PORT_ENABLE (R159) -/
  | portEnable (port : Nat)
  /-- PORT_DISABLE (R159) -/
  | portDisable (port : Nat)
  /-- AUDIT_PASS (R160) -/
  | auditPass (unreferenced : PairList)
  /-- PORT_CLEAR_COUNTERS (R169) -/
  | portClearCounters (port : Nat)
  /-- SUPERVISION_FRAME (R166) -/
  | supervisionFrame (pair : Nat)
  /-- NODE_FORGET (R168) -/
  | nodeForget (pair : Nat) (mac : Nat) (remove : Bool)
  /-- SAMPLED_VALUE_FRAME (R183) -/
  | sampledValueFrame (fr : SvFrame)
  /-- STREAM_ENABLE (R176) -/
  | streamEnable (n : Nat)
  /-- STREAM_DISABLE (R195) -/
  | streamDisable (n : Nat)
  /-- STREAM_CLEAR_COUNTERS (R175) -/
  | streamClearCounters (n : Nat)
  /-- INSTANT_BATCH (R275) -/
  | instantBatch (lp : Nat)
  /-- SUMMATION_GROUP_ENABLE (R215) -/
  | summationGroupEnable (g : Nat)
  /-- SUMMATION_GROUP_DISABLE (R215) -/
  | summationGroupDisable (g : Nat)
  /-- GROUP_CLEAR (R217) -/
  | groupClear (g : Nat)
  /-- LANE_ENABLE (R226) -/
  | laneEnable (l : Nat)
  /-- LANE_DISABLE (R226) -/
  | laneDisable (l : Nat)
  /-- RESET_LATCH (R224) -/
  | resetLatch (l : Nat)
  /-- PUBLISHER_ENABLE (R236) -/
  | publisherEnable (p : Nat)
  /-- PUBLISHER_DISABLE (R236) -/
  | publisherDisable (p : Nat)
  /-- RETRANSMISSION (R232) -/
  | retransmission (p : Nat)
  /-- GOOSE_SUBMIT (R235) -/
  | gooseSubmit (f : Nat) (v : Nat)
  /-- GOOSE_FRAME (R239) -/
  | gooseFrame (fr : GooseFrame)
  /-- SUBSCRIPTION_TIMEOUT (R240) -/
  | subscriptionTimeout (n : Nat)
  /-- SUBSCRIPTION_ENABLE (R242) -/
  | subscriptionEnable (n : Nat)
  /-- SUBSCRIPTION_DISABLE (R242) -/
  | subscriptionDisable (n : Nat)
  /-- SUBSCRIPTION_CLEAR_COUNTERS (R243) -/
  | subscriptionClearCounters (n : Nat)
  /-- PROGRAM_START (R270) -/
  | programStart (p : Nat)
  /-- PROGRAM_STOP (R270) -/
  | programStop (p : Nat)
  /-- FAST_CYCLE (R272) -/
  | fastCycle (p : Nat)
  /-- NORMAL_CYCLE (R272) -/
  | normalCycle (p : Nat)
  /-- SLOW_CYCLE (R272) -/
  | slowCycle (p : Nat)
  /-- PROGRAM_CLEAR (R294) -/
  | programClear (p : Nat)
  /-- FDI_EDGE (R279) -/
  | fdiEdge (pin : Nat) (level : Bool)
  /-- FDI_FILTER_EXPIRY (R279) -/
  | fdiFilterExpiry (pin : Nat)
  /-- EXCHANGE_SWITCH (R288) -/
  | exchangeSwitch (p : Nat)
  /-- EXCHANGE_DISCARD (R288) -/
  | exchangeDiscard (p : Nat)
  /-- EXCHANGE_SWITCH_AT_BOUNDARY (R289) -/
  | exchangeSwitchAtBoundary (p : Nat)
  /-- STATION_ENABLE (R282) -/
  | stationEnable (n : Nat)
  /-- STATION_DISABLE (R282) -/
  | stationDisable (n : Nat)
  /-- STATION_EXCHANGE (R423) -/
  | stationExchange (n : Nat)
  /-- STATION_RESPONSE (R425) -/
  | stationResponse (n : Nat) (segs : SegList)
  /-- RESPONSE_TIMEOUT (R282) -/
  | responseTimeout (n : Nat)
  /-- STATION_CLEAR (R296) -/
  | stationClear (n : Nat)
  /-- FACET_DEFINE (R299) -/
  | facetDefine (n : Nat)
  /-- FACET_DELETE (R299) -/
  | facetDelete (n : Nat)
  /-- LAUNCH (R314) -/
  | launch (n : Nat)
  /-- FREEZE (R315) -/
  | freeze (n : Nat)
  /-- THAW (R314) -/
  | thaw (n : Nat)
  /-- SAVE (R316) -/
  | save (n : Nat)
  /-- SAVE_COMPLETE (R316) -/
  | saveComplete (n : Nat) (ok : Bool)
  /-- RESTORE (R317) -/
  | restore (n : Nat)
  /-- RESTORE_COMPLETE (R317) -/
  | restoreComplete (n : Nat) (result : Nat)
  /-- FACET_RESET (R318) -/
  | facetReset (n : Nat)
  /-- FACET_RESET_COMPLETE (R318) -/
  | facetResetComplete (n : Nat)
  /-- READY_REPORTED (R314) -/
  | readyReported (n : Nat)
  /-- READY_WITHDRAWN (R314) -/
  | readyWithdrawn (n : Nat)
  /-- GUEST_CORE_FAULT (R314) -/
  | guestCoreFault (n : Nat) (core : Nat)
  /-- FACET_CLEAR (R323) -/
  | facetClear (n : Nat)
  /-- SHARE_CHANGE (R313) -/
  | shareChange (n : Nat) (sub : Nat) (v : Nat)
  /-- MIRROR_BASE (R301) -/
  | mirrorBase (n : Nat) (isSize : Bool) (v : Nat)
  /-- OUT_PROD (R303) -/
  | outProd (n : Nat) (v : Nat)
  /-- IN_CONS (R303) -/
  | inCons (n : Nat) (v : Nat)
  /-- MBOX_STATUS (R303) -/
  | mboxStatus (n : Nat) (v : Nat)
  /-- OUTBOUND_MESSAGE (R304) -/
  | outboundMessage (n : Nat)
  /-- ECHO (R307) -/
  | echo (n : Nat)
  /-- PERSISTENT_READ (R311) -/
  | persistentRead (n : Nat)
  /-- PERSISTENT_WRITE (R311) -/
  | persistentWrite (n : Nat)
  /-- PERSISTENT_SIZE (R311) -/
  | persistentSize (n : Nat)
  /-- SWB_WRITE (R308) -/
  | swbWrite (n : Nat) (w : Nat) (v : Nat)
  /-- SWB_SET (R308) -/
  | swbSet (n : Nat) (w : Nat) (v : Nat)
  /-- SWB_CLR (R308) -/
  | swbClr (n : Nat) (w : Nat) (v : Nat)
  /-- DMA_SUBMIT (R309) -/
  | dmaSubmit (n : Nat) (gpa : Nat)
  /-- DMA_COMPLETION (R309) -/
  | dmaCompletion (n : Nat)
  /-- NQ_RING (R309) -/
  | nqRing (n : Nat) (q : Nat) (v : Nat)
  /-- NQ_TX_TAIL (R310) -/
  | nqTxTail (n : Nat) (q : Nat) (v : Nat)
  /-- NQ_RX_TAIL (R310) -/
  | nqRxTail (n : Nat) (q : Nat) (v : Nat)
  /-- NIC_TRANSMIT (R310) -/
  | nicTransmit (n : Nat) (q : Nat)
  /-- NIC_RECEIVE (R310) -/
  | nicReceive (nic : Nat) (vid : Nat) (tci : Nat) (data : ByteList)
  /-- TAKE (R321) -/
  | take (n : Nat) (core : Nat)
  /-- TAKE_WAIT (R321) -/
  | takeWait (n : Nat) (core : Nat) (irq : Bool)
  /-- WAIT_LIMIT_EXPIRY (R321) -/
  | waitLimitExpiry (n : Nat) (core : Nat)
  /-- DONE (R320) -/
  | done (n : Nat) (core : Nat) (v : Nat)
  /-- POST (R321) -/
  | post (n : Nat) (v : Nat)
  /-- CREATE (R320) -/
  | create (n : Nat) (v : Nat)
  /-- CANCEL (R320) -/
  | cancel (n : Nat) (v : Nat)
  /-- RESTART (R320) -/
  | restart (n : Nat) (v : Nat)
  /-- DELETE (R320) -/
  | delete (n : Nat) (v : Nat)
  /-- SET_PRIORITY_AND_AFFINITY (R320) -/
  | setPriorityAndAffinity (n : Nat) (v : Nat)
  /-- EVENT_BIND (R321) -/
  | eventBind (n : Nat) (i : Nat) (v : Nat)
  /-- ARM (R338) -/
  | arm (r : Nat)
  /-- DISARM (R339) -/
  | disarm (r : Nat)
  /-- MANUAL_TRIGGER (R333) -/
  | manualTrigger (r : Nat)
  /-- RECORD_STORED (R341) -/
  | recordStored (r : Nat)
  /-- AUTO_RE_ARM (R341) -/
  | autoReArm (r : Nat)
  /-- CAPTURE_DEFINE (R348) -/
  | captureDefine (n : Nat)
  /-- CAPTURE_ARM (R348) -/
  | captureArm (n : Nat)
  /-- CAPTURE_DISARM (R348) -/
  | captureDisarm (n : Nat)
  /-- CAPTURE_TRIGGER (R348) -/
  | captureTrigger (n : Nat)
  /-- CAPTURE_STATUS (R348) -/
  | captureStatus (n : Nat)
  /-- CAPTURE_EXPORT (R348) -/
  | captureExport (n : Nat)
  /-- BLINK_RECEIVED (R358) -/
  | blinkReceived (b : Blink) (lines : Lines)
  /-- BLINK_MISSED (R358) -/
  | blinkMissed (lines : Lines)
  /-- PEER_PRESENT_CHANGE (R358) -/
  | peerPresentChange (present : Bool) (lines : Lines)
  /-- HANDSHAKE_SET_FAULT (R354) -/
  | handshakeSetFault (set : Nat)
  /-- LIVENESS_PROBE (R356) -/
  | livenessProbe (answers : UnitBits)
  /-- STATION_BLINK_RECEIVED (R359) -/
  | stationBlinkReceived (b : Blink)
  /-- LANE_MOVE (R360) -/
  | laneMove (lane0 : Bool) (lane1 : Bool)
  /-- SPARE_LANE_TEST_FRAME (R360) -/
  | spareLaneTestFrame (ok : Bool)
  /-- LINK_MEASUREMENT (R363) -/
  | linkMeasurement (lane : Nat) (roundTrip : Nat)
  /-- TICK_MIRROR_APPLIED (R365) -/
  | tickMirrorApplied (m : MirrorMsg)
  /-- SWAP_ACKNOWLEDGEMENT (R377) -/
  | swapAcknowledgement (ack : SwapAck)
  /-- FORCE_OWNERSHIP (R353) -/
  | forceOwnership (lines : Lines)
  /-- FIRST_SYNCHRONISATION (R370) -/
  | firstSynchronisation (m : MirrorMsg)
  /-- OVERLAY_COPY (R371) -/
  | overlayCopy (m : OverlayMsg)
  /-- HEALTH_REPORT_RECEIVED (R405) -/
  | healthReportReceived (authentic : Bool) (place : FramePlace) (data : ByteList)
  /-- IDENTITY_REPORT_RECEIVED (R436) -/
  | identityReportReceived (data : ByteList)
  /-- LOG_RECORD (R386) -/
  | logRecord (r : LogReq)
  /-- AG_CURSOR (R395) -/
  | agCursor (n : Nat) (v : Nat)
  /-- AG_NOTIFY (R397) -/
  | agNotify (n : Nat) (v : Nat)
  /-- SESSION_CURSOR (R398) -/
  | sessionCursor (c : Nat) (v : Nat)
  /-- CLEAR_LOG (R399) -/
  | clearLog (sess : Nat)
  /-- LOG_MEMORY_FAILURE (R400) -/
  | logMemoryFailure (addr : Nat)
  /-- LOG_REMAP (R401) -/
  | logRemap (ok : Bool)
  /-- HEALTH_ACKNOWLEDGE (R403) -/
  | healthAcknowledge (mask : Nat)
  /-- CAN_FRAME_RECEIVED (R416) -/
  | canFrameReceived (c : Nat) (fr : CanFrame)
  /-- FIFO_HEAD_READ (R417) -/
  | fifoHeadRead (c : Nat) (fifo : Nat)
  /-- TRANSMIT_OFFER (R414) -/
  | transmitOffer (c : Nat)
  /-- FRAME_SENT (R414) -/
  | frameSent (c : Nat)
  /-- BUS_ERROR (R418) -/
  | busError (c : Nat) (e : CanError)
  /-- RECOVER_FROM_BUS_OFF (R419) -/
  | recoverFromBusOff (c : Nat)
  /-- RECOVERY_COMPLETE (R418) -/
  | recoveryComplete (c : Nat)
  /-- RESTRICTED_OPERATION_ON (R420) -/
  | restrictedOperationOn (c : Nat)
  /-- RESTRICTED_OPERATION_OFF (R420) -/
  | restrictedOperationOff (c : Nat)
  /-- CONTROLLER_ENABLE (R418) -/
  | controllerEnable (c : Nat)
  /-- CONTROLLER_DISABLE (R421) -/
  | controllerDisable (c : Nat)
  /-- CONTROLLER_CLEAR (R427) -/
  | controllerClear (c : Nat)
  /-- TAMPER_EVENT (R440) -/
  | tamperEvent (sensors : Nat)
  /-- ATTESTATION_NONCE (R435) -/
  | attestationNonce (sess : Nat) (nonce : ByteList)
  /-- UNLOCK_RESPONSE (R443) -/
  | unlockResponse (data : ByteList)
  /-- MIRROR_KEY (R438) -/
  | mirrorKey (data : ByteList)
  /-- MIGRATION_KEY (R438) -/
  | migrationKey (data : ByteList)
  /-- CONFIGURATION_ROOT (R445) -/
  | configurationRoot (i : Nat) (data : ByteList)
  /-- ACCESS_FAULT (R13) -/
  | accessFault (n : Nat) (addr : Nat) (kind : Nat) (window : Bool)
  /-- OSEL_FB_CHANGE (R54) -/
  | oselFbChange (high : Bool)
  /-- INLET_OUTSIDE_RATING (R45) -/
  | inletOutsideRating (inlet : Int)
  /-- DDR_ECC_ERROR (R402) -/
  | ddrEccError (correctable : Bool) (addr : Nat)
  /-- DDR_SCRUB_PASS (R380) -/
  | ddrScrubPass (ok : Bool)
  /-- SRAM_SCRUB (R380) -/
  | sramScrub (ok : Bool) (addr : Nat)
  /-- CORE_CROSS_CHECK (R380) -/
  | coreCrossCheck (core : Nat) (pass : Bool)
  /-- LOGIC_PROCESSOR_TEST (R380) -/
  | logicProcessorTest (lp : Nat) (pass : Bool)
  /-- SERDES_ERROR_RATE (R380) -/
  | serdesErrorRate (lane : Nat) (above : Bool)
  /-- FORWARD_ACKNOWLEDGEMENT (R93) -/
  | forwardAcknowledgement (head : ForwardHead) (ok : Bool)
  /-- BULK_MIRROR_RECEIVED (R364) -/
  | bulkMirrorReceived (m : MirrorMsg)
  /-- VIN_IO_QUALIFIED (R32) -/
  | vinIoQualified
  /-- HOT_SWAP_TURN_ON (R32) -/
  | hotSwapTurnOn
  /-- POWER_GOOD (R33) -/
  | powerGood
  /-- ORDERING_VIOLATION (R34) -/
  | orderingViolation
  /-- PD0_RETENTION_LOSS (R39) -/
  | pd0RetentionLoss
  /-- PWR_EN_FALL (R36) -/
  | pwrEnFall
  /-- SUPPLY_EVENT_QUALIFIED (R37) -/
  | supplyEventQualified
  /-- PFAIL_FDO_SWITCHES_OPEN (R37) -/
  | pfailFdoSwitchesOpen
  /-- PFAIL_FRAME_STOP (R37) -/
  | pfailFrameStop
  /-- LAST_GASP_RECORD (R392) -/
  | lastGaspRecord
  /-- PFAIL_DOMAINS_OFF (R37) -/
  | pfailDomainsOff
  /-- PFAIL_FLUSH (R37) -/
  | pfailFlush
  /-- PFAIL_PD2_OFF (R38) -/
  | pfailPd2Off
  /-- OSEL_FB_STUCK (R54) -/
  | oselFbStuck
  /-- CHASSIS_RESET (R68) -/
  | chassisReset
  /-- CHASSIS_RESET_RELEASE (R68) -/
  | chassisResetRelease
  /-- BOOT_ROM (R58) -/
  | bootRom
  /-- KEY_STORE_UNLOCK (R61) -/
  | keyStoreUnlock
  /-- TIME_ACQUISITION_WAIT_EXPIRED (R62) -/
  | timeAcquisitionWaitExpired
  /-- MIRROR_LINK_TRAINING_TIMEOUT (R63) -/
  | mirrorLinkTrainingTimeout
  /-- LENS_START (R64) -/
  | lensStart
  /-- PROTECTION_START (R64) -/
  | protectionStart
  /-- FACET_AUTOSTART (R65) -/
  | facetAutostart
  /-- STEWARD_WATCHDOG_EXPIRY (R66) -/
  | stewardWatchdogExpiry
  /-- ORDERLY_RESET (R69) -/
  | orderlyReset
  /-- FORCED_RESET (R69) -/
  | forcedReset
  /-- COMMIT (R72) -/
  | commit
  /-- TRIAL_PERIOD_EXPIRED (R72) -/
  | trialPeriodExpired
  /-- ACTIVATE_PENDING (R74) -/
  | activatePending
  /-- ACTIVATE_PREVIOUS (R74) -/
  | activatePrevious
  /-- OVERLAY_SAVE (R86) -/
  | overlaySave
  /-- OVERLAY_DISCARD (R86) -/
  | overlayDiscard
  /-- FORWARD_ACK_TIMEOUT (R93) -/
  | forwardAckTimeout
  /-- MASTER_LOST (R118) -/
  | masterLost
  /-- HOLDOVER_LIMIT_EXPIRED (R118) -/
  | holdoverLimitExpired
  /-- ACCEPT_JUMP (R122) -/
  | acceptJump
  /-- JUMP_STEP (R122) -/
  | jumpStep
  /-- RTC_COPY (R112) -/
  | rtcCopy
  /-- TIME_ANCHOR (R134) -/
  | timeAnchor
  /-- CELL_TIME (R141) -/
  | cellTime
  /-- LEARNING_AGEING_STEP (R162) -/
  | learningAgeingStep
  /-- DATABASE_WRITE (R170) -/
  | databaseWrite
  /-- DATABASE_DELETE_BY_KEY (R170) -/
  | databaseDeleteByKey
  /-- DATABASE_READ_BY_KEY (R170) -/
  | databaseReadByKey
  /-- DATABASE_READ_BY_POSITION (R170) -/
  | databaseReadByPosition
  /-- STREAM_TABLE_WRITE (R170) -/
  | streamTableWrite
  /-- STREAM_TABLE_DELETE_BY_KEY (R170) -/
  | streamTableDeleteByKey
  /-- STREAM_TABLE_READ_BY_KEY (R170) -/
  | streamTableReadByKey
  /-- STREAM_TABLE_READ_BY_POSITION (R170) -/
  | streamTableReadByPosition
  /-- VLAN_WRITE (R170) -/
  | vlanWrite
  /-- VLAN_READ (R170) -/
  | vlanRead
  /-- VLAN_INVALIDATE (R170) -/
  | vlanInvalidate
  /-- FLUSH_LEARNED (R170) -/
  | flushLearned
  /-- GRID_TICK (R173) -/
  | gridTick
  /-- ALIGNMENT_WAIT_EXPIRY (R188) -/
  | alignmentWaitExpiry
  /-- LENS_CLEAR_TOTALS (R197) -/
  | lensClearTotals
  /-- ROW_EVALUATION (R16) -/
  | rowEvaluation
  /-- ROW_SEALED (R17) -/
  | rowSealed
  /-- ROW_CAPTURE (R327) -/
  | rowCapture
  /-- BINARY_CAPTURE (R327) -/
  | binaryCapture
  /-- DELETE_SELECTED (R347) -/
  | deleteSelected
  /-- DELETE_EXPORTED (R347) -/
  | deleteExported
  /-- BLINK_TRANSMIT (R358) -/
  | blinkTransmit
  /-- SELF_FENCE (R356) -/
  | selfFence
  /-- RELEASE_SWITCHES_OPEN (R357) -/
  | releaseSwitchesOpen
  /-- FENCE (R357) -/
  | fence
  /-- STATION_BLINK_TRANSMIT (R359) -/
  | stationBlinkTransmit
  /-- STATION_BLINK_LOST (R359) -/
  | stationBlinkLost
  /-- TICK_MIRROR (R365) -/
  | tickMirror
  /-- BULK_MIRROR (R368) -/
  | bulkMirror
  /-- TAKEOVER_CHECK (R374) -/
  | takeoverCheck
  /-- PLANNED_SWAP (R377) -/
  | plannedSwap
  /-- SWAP_TIMEOUT (R378) -/
  | swapTimeout
  /-- CLEAR_TAKEOVER_FAULT (R374) -/
  | clearTakeoverFault
  /-- LEAVE_SAFE_HOLD (R374) -/
  | leaveSafeHold
  /-- RESYNCHRONISE (R370) -/
  | resynchronise
  /-- PAIR_CLEAR (R382) -/
  | pairClear
  /-- HEALTH_REPORT_TRANSMIT (R405) -/
  | healthReportTransmit
  /-- PARTNER_REPORT_TIMEOUT (R405) -/
  | partnerReportTimeout
  /-- IDENTITY_EXCHANGE (R436) -/
  | identityExchange
  /-- SUPPRESSION_SECOND (R387) -/
  | suppressionSecond
  /-- LOG_EXPORT (R391) -/
  | logExport
  /-- REPORT_SIGNED (R432) -/
  | reportSigned
  /-- TOKEN_GAIN (R433) -/
  | tokenGain
  /-- UNLOCK_CHALLENGE (R443) -/
  | unlockChallenge
  /-- LOCK_DEBUG_PORT (R443) -/
  | lockDebugPort
  /-- DEBUG_PORT_TIMEOUT (R443) -/
  | debugPortTimeout
  /-- GENERATE_IDENTITY (R444) -/
  | generateIdentity
  /-- BIND_RECEIVED (R437) -/
  | bindReceived
  /-- UNBIND (R437) -/
  | unbind
  /-- ACTIVATE_PENDING_MIRROR_KEY (R438) -/
  | activatePendingMirrorKey
  /-- OCXO_WARM_UP (R33) -/
  | ocxoWarmUp
  /-- LATE_MIRROR_EXPIRY (R365) -/
  | lateMirrorExpiry
  deriving DecidableEq, Repr

end Sys2Proof
end

