-- ==== Sys2Proof/Decode.lean ====
section
/-! DEFINITION. The commands that table words spell. The command table gives no row any bits, so no word spells a
command. -/

namespace Sys2Proof

def decodeTableWord (_nbits _w : Nat) : Option Instr := none

end Sys2Proof
end

