-- ==== Sys2Proof/Config.lean ====
section
/-! DEFINITION. What an implementation fixes and the spec leaves open: opaque constants without a body that
any proof could see (assumption log 3 and 5). -/

namespace Sys2Proof.Config

/-- The n-th free value that a run uses where the spec states no value (log 3). -/
opaque freeValue : Nat → Nat

/-- The n-th free byte string of a given length: nonces, key material, challenges (log 3). -/
opaque freeBytes : Nat → Nat → List Byte

/-- HSS signature verification of RFC 8554 within the parameter sets of R429: public key, message, signature. -/
opaque hssVerify : List Byte → List Byte → List Byte → Bool

/-- The HSS signature that the identity key makes over a message with a leaf (R431). -/
opaque hssSign : List Byte → Nat → List Byte → List Byte

/-- The identity public key that a seed generates (R431). -/
opaque identityPublicKey : List Byte → List Byte

/-- Values fixed at manufacture: serial number (12 characters), MAC address, EUI-64, the ordering code
(false A, true X), firmware root digest of the fuses, own mirror protocol minor version (R88, R228, R361). -/
opaque serialNumber : List Byte
opaque ownMac : Nat
opaque clockIdentity : Nat
opaque orderingCodeX : Bool
opaque firmwareRootDigest : List Byte
opaque mirrorMinor : Nat

/-- Cells that the egress FIFO of an external port holds above the 12 of one frame (R141). -/
opaque egressFifoExtra : Nat

/-- A measured analogue quantity that the spec gives within an accuracy only (R447): entry key and read number. -/
opaque measured : Nat → Nat → Int

end Sys2Proof.Config
end

