-- ==== Sys2Proof/Machine/Dict.lean ====
section
/-! DEFINITION. The object dictionary: one row per entry of the spec's entry tables (R81), with its attributes,
and the named lists of the chapters. -/

namespace Sys2Proof.Machine

/-- A row of an entry table: indices `lo` to `hi` and subindices `s0` to `s1` share its attributes (R81): type
code of Table 4.1, access code (0 RO, 1 RW, 2 WO, 3 RWS, 4 CMD), roles that may read and write (R84; 0 none),
default, range (for STR and DOMAIN the length in bytes), values allowed beside the range, and, where not empty,
the only values allowed; and its name. The range of an F32 entry is given by bit patterns. -/
structure Entry where
  lo : Nat
  hi : Nat
  s0 : Nat
  s1 : Nat
  typ : Nat
  acc : Nat
  rd : Nat
  wr : Nat
  dflt : Int
  min : Int
  max : Int
  also : List Int
  only : List Int
  name : String
  deriving DecidableEq, Repr, Inhabited

/-- Entries of 02_connectors_supplies.md, part 1. -/
def dict02a : List Entry := [
  ⟨0x1800, 0x1800, 0x1, 0x1, 0x6, 0, 1, 0, 0, 0, 65535, [], [], "VIN_MAIN voltage"⟩,
  ⟨0x1800, 0x1800, 0x2, 0x2, 0x6, 0, 1, 0, 0, 0, 65535, [], [], "VIN_MAIN current"⟩,
  ⟨0x1800, 0x1800, 0x3, 0x3, 0x6, 0, 1, 0, 0, 0, 65535, [], [], "VIN_IO voltage"⟩,
  ⟨0x1800, 0x1800, 0x4, 0x4, 0x6, 0, 1, 0, 0, 0, 65535, [], [], "VIN_ANA voltage"⟩,
  ⟨0x1800, 0x1800, 0x5, 0x5, 0x6, 0, 1, 0, 0, 0, 65535, [], [], "VBAT voltage"⟩,
  ⟨0x1800, 0x1800, 0x6, 0x6, 0x7, 0, 1, 0, 0, 0, 4294967295, [], [], "Module input power"⟩,
  ⟨0x1800, 0x1800, 0x7, 0x7, 0x7, 0, 1, 0, 0, 0, 4294967295, [], [], "Supply status"⟩,
  ⟨0x1800, 0x1800, 0x8, 0x8, 0x7, 0, 1, 0, 0, 0, 4294967295, [], [], "Ordering violation count"⟩,
  ⟨0x1800, 0x1800, 0x9, 0x9, 0x7, 0, 1, 0, 0, 0, 4294967295, [], [], "Power-fail count"⟩,
  ⟨0x1801, 0x1801, 0x1, 0xc, 0x5, 0, 1, 0, 0, 0, 4, [], [], "Domain state, PD0–PD11"⟩,
  ⟨0x1802, 0x1802, 0x1, 0x4, 0x5, 4, 1, 3, 1, 0, 1, [], [], "Cluster-pair command, PD3–PD6"⟩,
  ⟨0x1803, 0x1803, 0x1, 0x1, 0x3, 0, 1, 0, 0, (-32768), 32767, [], [], "Inlet temperature"⟩,
  ⟨0x1803, 0x1803, 0x2, 0x2, 0x3, 0, 1, 0, 0, (-32768), 32767, [], [], "Outlet temperature"⟩,
  ⟨0x1803, 0x1803, 0x3, 0x3, 0x3, 0, 1, 0, 0, (-32768), 32767, [], [], "Highest junction temperature"⟩,
  ⟨0x1803, 0x1803, 0x4, 0x4, 0x3, 0, 1, 0, 0, (-32768), 32767, [], [], "DDR temperature"⟩,
  ⟨0x1803, 0x1803, 0x5, 0x5, 0x3, 0, 1, 0, 0, (-32768), 32767, [], [], "OCXO temperature"⟩,
  ⟨0x1803, 0x1803, 0x6, 0x6, 0x5, 0, 1, 0, 0, 0, 2, [], [], "Thermal state"⟩,
  ⟨0x1803, 0x1803, 0x7, 0x7, 0x3, 1, 1, 3, 1000, 800, 1000, [], [], "Junction warning threshold"⟩,
  ⟨0x1803, 0x1803, 0x8, 0x8, 0x5, 4, 1, 3, 0, 1, 1, [], [], "Thermal restart"⟩]

/-- Entries of 03_start_up_and_update.md, part 1. -/
def dict03a : List Entry := [
  ⟨0xc000, 0xc000, 0x1, 0x1, 0x5, 0, 1, 0, 0, 1, 10, [], [], "Start-up phase"⟩,
  ⟨0xc000, 0xc000, 0x2, 0x2, 0x5, 0, 1, 0, 0, 0, 1, [], [], "Booted slot"⟩,
  ⟨0xc000, 0xc000, 0x3, 0x3, 0x5, 0, 1, 0, 0, 0, 2, [], [], "Boot state"⟩,
  ⟨0xc000, 0xc000, 0x4, 0x4, 0x5, 0, 1, 0, 0, 1, 7, [], [], "Last reset class"⟩,
  ⟨0xc000, 0xc000, 0x5, 0x5, 0x7, 0, 1, 0, 0, 0, 4294967295, [], [], "Reset count"⟩,
  ⟨0xc000, 0xc000, 0x6, 0x6, 0x7, 0, 1, 0, 0, 0, 4294967295, [], [], "Start-up time"⟩,
  ⟨0xc000, 0xc000, 0x7, 0x7, 0x7, 0, 1, 0, 0, 0, 4294967295, [], [], "Running firmware version"⟩,
  ⟨0xc001, 0xc001, 0x1, 0x1, 0x6, 1, 1, 3, 20, 0, 300, [], [], "Time acquisition wait"⟩,
  ⟨0xc001, 0xc001, 0x2, 0x2, 0x5, 1, 1, 3, 0, 0, 1, [], [], "Hold without lock"⟩,
  ⟨0xc001, 0xc001, 0x3, 0x3, 0x6, 1, 1, 3, 100, 10, 1000, [], [], "Steward watchdog timeout"⟩,
  ⟨0xc001, 0xc001, 0x4, 0x4, 0x6, 1, 1, 3, 10, 1, 120, [], [], "Facet launch deadline"⟩,
  ⟨0xc002, 0xc002, 0x1, 0x1, 0x5, 4, 1, 3, 0, 1, 1, [], [], "Orderly reset"⟩,
  ⟨0xc002, 0xc002, 0x2, 0x2, 0x5, 4, 1, 5, 0, 1, 1, [], [], "Forced reset"⟩,
  ⟨0xc010, 0xc010, 0x1, 0x1, 0x5, 4, 1, 3, 0, 0, 2, [], [], "Installation command"⟩,
  ⟨0xc010, 0xc010, 0x2, 0x2, 0xf, 2, 0, 3, 0, 0, 1610612736, [], [], "Firmware image"⟩,
  ⟨0xc010, 0xc010, 0x3, 0x3, 0x5, 0, 1, 0, 0, 0, 4, [], [], "Installation state"⟩,
  ⟨0xc010, 0xc010, 0x4, 0x4, 0x5, 0, 1, 0, 0, 0, 1, [], [], "Target slot"⟩,
  ⟨0xc010, 0xc010, 0x5, 0x5, 0x7, 0, 1, 0, 0, 0, 4294967295, [], [], "Bytes received"⟩,
  ⟨0xc010, 0xc010, 0x6, 0x6, 0x6, 0, 1, 0, 0, 0, 65535, [], [], "Last installation result"⟩,
  ⟨0xc010, 0xc010, 0x7, 0x7, 0x7, 0, 1, 0, 0, 0, 4294967295, [], [], "Inactive slot version"⟩,
  ⟨0xc011, 0xc011, 0x1, 0x1, 0x5, 4, 1, 3, 0, 0, 1, [], [], "Trial slot"⟩,
  ⟨0xc011, 0xc011, 0x2, 0x2, 0x5, 4, 1, 3, 0, 1, 1, [], [], "Commit"⟩,
  ⟨0xc011, 0xc011, 0x3, 0x3, 0x6, 1, 1, 3, 600, 0, 3600, [], [], "Trial period"⟩,
  ⟨0xc011, 0xc011, 0x4, 0x4, 0x5, 0, 1, 0, 0, 0, 3, [], [], "Trial attempts left"⟩]

/-- Entries of 03_start_up_and_update.md, part 2. -/
def dict03b : List Entry := [
  ⟨0xc030, 0xc030, 0x1, 0x1, 0x5, 4, 1, 3, 0, 0, 4, [], [], "Configuration command"⟩,
  ⟨0xc030, 0xc030, 0x2, 0x2, 0xf, 2, 0, 3, 0, 0, 268435456, [], [], "Configuration image"⟩,
  ⟨0xc030, 0xc030, 0x3, 0x3, 0x5, 0, 1, 0, 0, 0, 5, [], [], "Pending state"⟩,
  ⟨0xc030, 0xc030, 0x4, 0x4, 0xf, 0, 1, 0, 0, 32, 32, [], [], "Pending fingerprint"⟩,
  ⟨0xc030, 0xc030, 0x5, 0x5, 0xf, 1, 1, 3, 0, 32, 32, [], [], "Accepted partner fingerprint"⟩,
  ⟨0xc030, 0xc030, 0x6, 0x6, 0x6, 0, 1, 0, 0, 0, 65535, [], [], "Last configuration result"⟩]

/-- Entries of 04_object_dictionary.md, part 1. -/
def dict04a : List Entry := [
  ⟨0x1000, 0x1000, 0x1, 0x1, 0x9, 0, 1, 0, 0, 25, 25, [], [], "Vendor name"⟩,
  ⟨0x1000, 0x1000, 0x2, 0x2, 0x9, 0, 1, 0, 0, 8, 8, [], [], "Product"⟩,
  ⟨0x1000, 0x1000, 0x3, 0x3, 0x9, 0, 1, 0, 0, 10, 10, [], [], "Ordering code"⟩,
  ⟨0x1000, 0x1000, 0x4, 0x4, 0x5, 0, 1, 0, 0, 1, 1, [], [], "Hardware issue"⟩,
  ⟨0x1000, 0x1000, 0x5, 0x5, 0x9, 0, 1, 0, 0, 12, 12, [], [], "Serial number"⟩,
  ⟨0x1000, 0x1000, 0x6, 0x6, 0x7, 0, 1, 0, 0, 0, 4294967295, [], [], "Steward firmware version"⟩,
  ⟨0x1000, 0x1000, 0x7, 0x7, 0x7, 0, 1, 0, 0, 0, 4294967295, [], [], "Dictionary version"⟩,
  ⟨0x1000, 0x1000, 0x8, 0x8, 0x5, 0, 1, 0, 0, 0, 1, [], [], "Slot"⟩,
  ⟨0x1010, 0x1010, 0x1, 0x1, 0x5, 4, 1, 3, 0, 1, 2, [], [], "Overlay command"⟩,
  ⟨0x1010, 0x1010, 0x2, 0x2, 0x7, 0, 1, 0, 0, 0, 65536, [], [], "Overlay entry count"⟩,
  ⟨0x1010, 0x1010, 0x3, 0x3, 0xf, 0, 1, 0, 0, 32, 32, [], [], "Overlay digest"⟩,
  ⟨0x1010, 0x1010, 0x4, 0x4, 0x5, 0, 1, 0, 0, 0, 255, [], [], "Saved overlay state"⟩,
  ⟨0x1010, 0x1010, 0x5, 0x5, 0x6, 0, 1, 0, 0, 0, 65535, [], [], "Last overlay result"⟩,
  ⟨0x1010, 0x1010, 0x6, 0x6, 0xf, 0, 1, 0, 0, 32, 32, [], [], "Configuration fingerprint"⟩,
  ⟨0x1100, 0x1100, 0x1, 0x1, 0x6, 1, 1, 4, 4731, 1024, 65535, [], [], "UDP port"⟩,
  ⟨0x1100, 0x1100, 0x2, 0x2, 0x5, 1, 1, 4, 8, 1, 8, [], [], "Session limit"⟩,
  ⟨0x1100, 0x1100, 0x3, 0x3, 0x6, 1, 1, 4, 300, 10, 3600, [], [], "Idle timeout"⟩,
  ⟨0x1100, 0x1100, 0x4, 0x4, 0x5, 0, 1, 0, 0, 0, 8, [], [], "Open sessions"⟩,
  ⟨0x1100, 0x1100, 0x5, 0x5, 0x6, 1, 1, 4, 1, 1, 4094, [], [], "Station network VLAN"⟩,
  ⟨0x1100, 0x1100, 0x6, 0x6, 0x7, 0, 1, 0, 0, 0, 4294967295, [], [], "Failed handshakes"⟩,
  ⟨0x1100, 0x1100, 0x7, 0x7, 0x7, 0, 1, 0, 0, 0, 4294967295, [], [], "Repeated requests answered"⟩,
  ⟨0x1110, 0x112f, 0x1, 0x1, 0x9, 1, 4, 4, 0, 1, 64, [], [], "Identity"⟩,
  ⟨0x1110, 0x112f, 0x2, 0x2, 0x5, 1, 4, 4, 1, 1, 5, [], [], "Role"⟩,
  ⟨0x1110, 0x112f, 0x3, 0x3, 0x1, 1, 4, 4, 0, 0, 1, [], [], "Enabled"⟩]

/-- Entries of 04_object_dictionary.md, part 2. -/
def dict04b : List Entry := [
  ⟨0x1110, 0x112f, 0x4, 0x4, 0xf, 2, 0, 4, 0, 32, 32, [], [], "Key"⟩,
  ⟨0x1140, 0x1140, 0x1, 0x10, 0x6, 1, 1, 4, 0, 0, 65535, [], [], "Cabinet client"⟩]

/-- Entries of 05_time.md, part 1. -/
def dict05a : List Entry := [
  ⟨0x3000, 0x3000, 0x1, 0x1, 0x30, 0, 1, 0, 0, 10, 10, [], [], "Current time"⟩,
  ⟨0x3000, 0x3000, 0x2, 0x2, 0x5, 0, 1, 0, 0, 0, 255, [], [], "Servo state"⟩,
  ⟨0x3000, 0x3000, 0x3, 0x3, 0x4, 0, 1, 0, 0, (-2147483648), 2147483647, [], [], "Offset from master"⟩,
  ⟨0x3000, 0x3000, 0x4, 0x4, 0x4, 0, 1, 0, 0, (-2147483648), 2147483647, [], [], "Frequency correction"⟩,
  ⟨0x3000, 0x3000, 0x5, 0x5, 0x30, 4, 1, 3, 0, 10, 10, [], [], "Set time"⟩,
  ⟨0x3000, 0x3000, 0x6, 0x6, 0x3, 0, 1, 0, 0, (-32768), 32767, [], [], "UTC offset"⟩,
  ⟨0x3000, 0x3000, 0x7, 0x7, 0x7, 0, 1, 0, 0, 0, 4294967295, [], [], "Holdover elapsed"⟩,
  ⟨0x3000, 0x3000, 0x8, 0x8, 0x7, 0, 1, 0, 0, 0, 4294967295, [], [], "Steps"⟩,
  ⟨0x3000, 0x3000, 0x9, 0x9, 0x7, 0, 1, 0, 0, 0, 4294967295, [], [], "Outliers discarded"⟩,
  ⟨0x3001, 0x3001, 0x1, 0x1, 0x7, 1, 1, 3, 1000, 50, 1000000000, [], [], "Jump threshold"⟩,
  ⟨0x3001, 0x3001, 0x2, 0x2, 0x6, 1, 1, 3, 20, 1, 500, [], [], "Maximum slew rate"⟩,
  ⟨0x3001, 0x3001, 0x3, 0x3, 0x7, 1, 1, 3, 3600, 60, 86400, [], [], "Holdover limit"⟩,
  ⟨0x3001, 0x3001, 0x4, 0x4, 0x6, 1, 1, 3, 250, 50, 1000, [], [], "Lock bound"⟩,
  ⟨0x3001, 0x3001, 0x5, 0x5, 0x5, 4, 1, 3, 0, 1, 1, [], [], "Accept jump"⟩,
  ⟨0x3001, 0x3001, 0x6, 0x6, 0x15, 0, 1, 0, 0, (-9223372036854775808), 9223372036854775807, [], [], "Pending jump offset"⟩,
  ⟨0x3001, 0x3001, 0x7, 0x7, 0x6, 1, 1, 3, 60, 1, 3600, [], [], "Anchor interval"⟩,
  ⟨0x3001, 0x3001, 0x8, 0x8, 0x4, 0, 1, 0, 0, (-2147483648), 2147483647, [], [], "Partner time difference"⟩,
  ⟨0x3010, 0x3010, 0x1, 0x1, 0x5, 3, 1, 3, 0, 0, 1, [], [], "Profile"⟩,
  ⟨0x3010, 0x3010, 0x2, 0x2, 0x5, 3, 1, 3, 1, 0, 2, [], [], "Clock role"⟩,
  ⟨0x3010, 0x3010, 0x3, 0x3, 0x5, 3, 1, 3, 0, 0, 255, [], [], "Domain"⟩,
  ⟨0x3010, 0x3010, 0x4, 0x4, 0x5, 1, 1, 3, 128, 0, 255, [], [], "Priority1"⟩,
  ⟨0x3010, 0x3010, 0x5, 0x5, 0x5, 1, 1, 3, 128, 0, 255, [], [], "Priority2"⟩,
  ⟨0x3010, 0x3010, 0x6, 0x6, 0x1, 1, 1, 3, 0, 0, 1, [], [], "Slave only"⟩,
  ⟨0x3010, 0x3010, 0x7, 0x7, 0x1b, 0, 1, 0, 0, 0, 18446744073709551615, [], [], "Clock identity"⟩]

/-- Entries of 05_time.md, part 2. -/
def dict05b : List Entry := [
  ⟨0x3010, 0x3010, 0x8, 0x8, 0x1, 1, 1, 3, 1, 0, 1, [], [], "PTP enabled"⟩,
  ⟨0x3010, 0x3010, 0x9, 0x9, 0x6, 3, 1, 3, 0, 1, 4094, [0], [], "VLAN"⟩,
  ⟨0x3010, 0x3010, 0xa, 0xa, 0x5, 3, 1, 3, 4, 0, 7, [], [], "Priority code"⟩,
  ⟨0x3011, 0x3011, 0x1, 0x1, 0x1b, 0, 1, 0, 0, 0, 18446744073709551615, [], [], "Grandmaster identity"⟩,
  ⟨0x3011, 0x3011, 0x2, 0x2, 0x5, 0, 1, 0, 255, 0, 255, [], [], "Grandmaster clock class"⟩,
  ⟨0x3011, 0x3011, 0x3, 0x3, 0x5, 0, 1, 0, 255, 0, 255, [], [], "Grandmaster priority1"⟩,
  ⟨0x3011, 0x3011, 0x4, 0x4, 0x6, 0, 1, 0, 0, 0, 65535, [], [], "Steps removed"⟩,
  ⟨0x3011, 0x3011, 0x5, 0x5, 0xf, 0, 1, 0, 0, 10, 10, [], [], "Parent port identity"⟩,
  ⟨0x3011, 0x3011, 0x6, 0x6, 0x7, 0, 1, 0, 0, 0, 4294967295, [], [], "Grandmaster changes"⟩,
  ⟨0x3011, 0x3011, 0x7, 0x7, 0x7, 0, 1, 0, 0, 0, 4294967295, [], [], "Total time inaccuracy"⟩,
  ⟨0x3040, 0x306f, 0x1, 0x1, 0x1, 1, 1, 3, 0, 0, 1, [], [], "Port PTP enabled"⟩,
  ⟨0x3040, 0x306f, 0x2, 0x2, 0x5, 0, 1, 0, 1, 1, 9, [], [], "Port state"⟩,
  ⟨0x3040, 0x306f, 0x3, 0x3, 0x5, 1, 1, 3, 1, 0, 1, [], [], "Transmit mode"⟩,
  ⟨0x3040, 0x306f, 0x4, 0x4, 0x2, 1, 1, 3, 0, (-4), 0, [], [], "Sync interval"⟩,
  ⟨0x3040, 0x306f, 0x5, 0x5, 0x2, 1, 1, 3, 0, (-3), 1, [], [], "Announce interval"⟩,
  ⟨0x3040, 0x306f, 0x6, 0x6, 0x2, 1, 1, 3, 0, (-4), 0, [], [], "Pdelay interval"⟩,
  ⟨0x3040, 0x306f, 0x7, 0x7, 0x7, 0, 1, 0, 0, 0, 4294967295, [], [], "Mean link delay"⟩,
  ⟨0x3040, 0x306f, 0x8, 0x8, 0x4, 1, 1, 3, 0, (-100000), 100000, [], [], "Delay asymmetry"⟩,
  ⟨0x3040, 0x306f, 0x9, 0x9, 0x7, 0, 1, 0, 0, 0, 4294967295, [], [], "Discarded messages"⟩,
  ⟨0x3100, 0x310f, 0x1, 0x1, 0x5, 1, 1, 3, 0, 0, 3, [], [], "Mode"⟩,
  ⟨0x3100, 0x310f, 0x2, 0x2, 0x31, 1, 1, 3, 0, 0, 1099511627775, [], [], "Start time"⟩,
  ⟨0x3100, 0x310f, 0x3, 0x3, 0x7, 1, 1, 3, 1000000000, 40, 4000000000, [], [], "Period"⟩,
  ⟨0x3100, 0x310f, 0x4, 0x4, 0x7, 1, 1, 3, 1000, 8, 4000000000, [], [], "Width"⟩,
  ⟨0x3100, 0x310f, 0x5, 0x5, 0x7, 1, 1, 3, 0, 0, 4294967295, [], [], "Count"⟩]

/-- Entries of 05_time.md, part 3. -/
def dict05c : List Entry := [
  ⟨0x3100, 0x310f, 0x6, 0x6, 0x6, 1, 1, 3, 1, 1, 14400, [], [], "Grid divider"⟩,
  ⟨0x3100, 0x310f, 0x7, 0x7, 0x5, 1, 1, 3, 0, 0, 1, [], [], "Polarity"⟩,
  ⟨0x3100, 0x310f, 0x8, 0x8, 0x1, 1, 1, 3, 1, 0, 1, [], [], "LIT only"⟩,
  ⟨0x3100, 0x310f, 0x9, 0x9, 0x1, 1, 1, 3, 1, 0, 1, [], [], "Time gate"⟩,
  ⟨0x3100, 0x310f, 0xa, 0xa, 0x6, 1, 1, 3, 65535, 0, 255, [65535], [], "Grant"⟩,
  ⟨0x3100, 0x310f, 0xb, 0xb, 0x5, 0, 1, 0, 0, 0, 5, [], [], "Output state"⟩,
  ⟨0x3100, 0x310f, 0xc, 0xc, 0x7, 0, 1, 0, 0, 0, 4294967295, [], [], "Late and gated edges"⟩,
  ⟨0x3120, 0x3123, 0x1, 0x1, 0x1, 1, 1, 3, 0, 0, 1, [], [], "Capture enabled"⟩,
  ⟨0x3120, 0x3123, 0x2, 0x2, 0x1b, 0, 1, 0, 0, 0, 18446744073709551615, [], [], "Oldest stamp"⟩,
  ⟨0x3120, 0x3123, 0x3, 0x3, 0x5, 0, 1, 0, 0, 0, 16, [], [], "Stamps queued"⟩,
  ⟨0x3120, 0x3123, 0x4, 0x4, 0x7, 0, 1, 0, 0, 0, 4294967295, [], [], "Overflow count"⟩,
  ⟨0x3120, 0x3123, 0x5, 0x5, 0x7, 1, 1, 3, 0, 10, 1000000, [0], [], "Reference check limit"⟩,
  ⟨0x3120, 0x3123, 0x6, 0x6, 0x4, 0, 1, 0, 0, (-2147483648), 2147483647, [], [], "Reference deviation"⟩]

/-- Entries of 06_switch_fabric.md, part 1. -/
def dict06a : List Entry := [
  ⟨0x2000, 0x2033, 0x1, 0x1, 0x1, 1, 1, 3, 1, 0, 1, [], [], "Port enable"⟩,
  ⟨0x2000, 0x2033, 0x2, 0x2, 0x5, 0, 1, 0, 0, 0, 3, [], [], "Link state"⟩,
  ⟨0x2000, 0x2027, 0x3, 0x3, 0x5, 3, 1, 3, 1, 0, 2, [], [], "Interface"⟩,
  ⟨0x2028, 0x202f, 0x3, 0x3, 0x5, 3, 1, 3, 2, 0, 2, [], [], "Interface"⟩,
  ⟨0x2030, 0x2033, 0x3, 0x3, 0x5, 3, 1, 3, 0, 0, 2, [], [], "Interface"⟩,
  ⟨0x2000, 0x2033, 0x4, 0x4, 0x5, 3, 1, 3, 0, 0, 3, [], [], "Lane polarity"⟩,
  ⟨0x2000, 0x2033, 0x5, 0x5, 0x6, 1, 1, 3, 1, 1, 4094, [], [], "PVID"⟩,
  ⟨0x2000, 0x2033, 0x6, 0x6, 0x5, 1, 1, 3, 0, 0, 2, [], [], "Acceptable frames"⟩,
  ⟨0x2000, 0x2033, 0x7, 0x7, 0x5, 1, 1, 3, 0, 0, 7, [], [], "Default priority"⟩,
  ⟨0x2000, 0x2033, 0x8, 0x8, 0x1, 1, 1, 3, 1, 0, 1, [], [], "Ingress filtering"⟩,
  ⟨0x2000, 0x2033, 0x9, 0x9, 0x1, 1, 1, 3, 0, 0, 1, [], [], "Through-connection"⟩,
  ⟨0x2000, 0x2033, 0xa, 0xa, 0x1, 1, 1, 3, 0, 0, 1, [], [], "Protection egress"⟩,
  ⟨0x2000, 0x2033, 0xb, 0xb, 0x1, 1, 1, 3, 0, 0, 1, [], [], "Class 7 by priority"⟩,
  ⟨0x2000, 0x2033, 0xc, 0xc, 0x6, 1, 1, 3, 0, 0, 10000, [], [], "Link-down hold"⟩,
  ⟨0x2000, 0x2033, 0xd, 0xd, 0x1, 1, 1, 3, 1, 0, 1, [], [], "Learning"⟩,
  ⟨0x2000, 0x2033, 0x10, 0x10, 0x1b, 0, 1, 0, 0, 0, 18446744073709551615, [], [], "Frames received"⟩,
  ⟨0x2000, 0x2033, 0x11, 0x11, 0x1b, 0, 1, 0, 0, 0, 18446744073709551615, [], [], "Octets received"⟩,
  ⟨0x2000, 0x2033, 0x12, 0x12, 0x1b, 0, 1, 0, 0, 0, 18446744073709551615, [], [], "Frames transmitted"⟩,
  ⟨0x2000, 0x2033, 0x13, 0x13, 0x1b, 0, 1, 0, 0, 0, 18446744073709551615, [], [], "Octets transmitted"⟩,
  ⟨0x2000, 0x2033, 0x14, 0x14, 0x1b, 0, 1, 0, 0, 0, 18446744073709551615, [], [], "FCS errors"⟩,
  ⟨0x2000, 0x2033, 0x15, 0x15, 0x1b, 0, 1, 0, 0, 0, 18446744073709551615, [], [], "Length errors"⟩,
  ⟨0x2000, 0x2033, 0x16, 0x16, 0x1b, 0, 1, 0, 0, 0, 18446744073709551615, [], [], "VLAN discards"⟩,
  ⟨0x2000, 0x2033, 0x17, 0x17, 0x1b, 0, 1, 0, 0, 0, 18446744073709551615, [], [], "Admission discards"⟩,
  ⟨0x2000, 0x2033, 0x18, 0x18, 0x1b, 0, 1, 0, 0, 0, 18446744073709551615, [], [], "Aged discards"⟩]

/-- Entries of 06_switch_fabric.md, part 2. -/
def dict06b : List Entry := [
  ⟨0x2000, 0x2033, 0x19, 0x19, 0x1b, 0, 1, 0, 0, 0, 18446744073709551615, [], [], "Link-down discards"⟩,
  ⟨0x2000, 0x2033, 0x1a, 0x1a, 0x1b, 0, 1, 0, 0, 0, 18446744073709551615, [], [], "Administration discards"⟩,
  ⟨0x2000, 0x2033, 0x1b, 0x1b, 0x1b, 0, 1, 0, 0, 0, 18446744073709551615, [], [], "Stomped"⟩,
  ⟨0x2000, 0x2033, 0x1c, 0x1c, 0x1b, 0, 1, 0, 0, 0, 18446744073709551615, [], [], "Bad tails discarded"⟩,
  ⟨0x2000, 0x2033, 0x1d, 0x1d, 0x1b, 0, 1, 0, 0, 0, 18446744073709551615, [], [], "PAUSE frames received"⟩,
  ⟨0x2000, 0x2033, 0x1e, 0x1e, 0x1b, 0, 1, 0, 0, 0, 18446744073709551615, [], [], "Class 7 held behind stream"⟩,
  ⟨0x2000, 0x2033, 0x1f, 0x1f, 0x1b, 0, 1, 0, 0, 0, 18446744073709551615, [], [], "Protection egress discards"⟩,
  ⟨0x2000, 0x2033, 0x20, 0x20, 0x1b, 0, 1, 0, 0, 0, 18446744073709551615, [], [], "Streamed frames"⟩,
  ⟨0x2000, 0x2033, 0x21, 0x21, 0x5, 4, 1, 3, 0, 1, 1, [], [], "Clear counters"⟩,
  ⟨0x2400, 0x2400, 0x1, 0x1, 0x7, 1, 1, 3, 1024, 0, 64512, [], [], "Class reserve"⟩,
  ⟨0x2401, 0x2401, 0x1, 0x1, 0x7, 1, 1, 3, 1024, 0, 64512, [], [], "Class reserve"⟩,
  ⟨0x2402, 0x2402, 0x1, 0x1, 0x7, 1, 1, 3, 1024, 0, 64512, [], [], "Class reserve"⟩,
  ⟨0x2403, 0x2403, 0x1, 0x1, 0x7, 1, 1, 3, 1024, 0, 64512, [], [], "Class reserve"⟩,
  ⟨0x2404, 0x2404, 0x1, 0x1, 0x7, 1, 1, 3, 1024, 0, 64512, [], [], "Class reserve"⟩,
  ⟨0x2405, 0x2405, 0x1, 0x1, 0x7, 1, 1, 3, 1024, 0, 64512, [], [], "Class reserve"⟩,
  ⟨0x2406, 0x2406, 0x1, 0x1, 0x7, 1, 1, 3, 2048, 0, 64512, [], [], "Class reserve"⟩,
  ⟨0x2407, 0x2407, 0x1, 0x1, 0x7, 1, 1, 3, 8192, 0, 64512, [], [], "Class reserve"⟩,
  ⟨0x2400, 0x2400, 0x2, 0x2, 0x7, 1, 1, 3, 16384, 0, 65536, [], [], "Shared limit"⟩,
  ⟨0x2401, 0x2401, 0x2, 0x2, 0x7, 1, 1, 3, 16384, 0, 65536, [], [], "Shared limit"⟩,
  ⟨0x2402, 0x2402, 0x2, 0x2, 0x7, 1, 1, 3, 16384, 0, 65536, [], [], "Shared limit"⟩,
  ⟨0x2403, 0x2403, 0x2, 0x2, 0x7, 1, 1, 3, 16384, 0, 65536, [], [], "Shared limit"⟩,
  ⟨0x2404, 0x2404, 0x2, 0x2, 0x7, 1, 1, 3, 16384, 0, 65536, [], [], "Shared limit"⟩,
  ⟨0x2405, 0x2405, 0x2, 0x2, 0x7, 1, 1, 3, 16384, 0, 65536, [], [], "Shared limit"⟩,
  ⟨0x2406, 0x2406, 0x2, 0x2, 0x7, 1, 1, 3, 4096, 0, 65536, [], [], "Shared limit"⟩]

/-- Entries of 06_switch_fabric.md, part 3. -/
def dict06c : List Entry := [
  ⟨0x2407, 0x2407, 0x2, 0x2, 0x7, 1, 1, 3, 8192, 0, 65536, [], [], "Shared limit"⟩,
  ⟨0x2400, 0x2400, 0x3, 0x3, 0x7, 1, 1, 3, 2048, 16, 16384, [], [], "Per-port limit"⟩,
  ⟨0x2401, 0x2401, 0x3, 0x3, 0x7, 1, 1, 3, 2048, 16, 16384, [], [], "Per-port limit"⟩,
  ⟨0x2402, 0x2402, 0x3, 0x3, 0x7, 1, 1, 3, 2048, 16, 16384, [], [], "Per-port limit"⟩,
  ⟨0x2403, 0x2403, 0x3, 0x3, 0x7, 1, 1, 3, 2048, 16, 16384, [], [], "Per-port limit"⟩,
  ⟨0x2404, 0x2404, 0x3, 0x3, 0x7, 1, 1, 3, 2048, 16, 16384, [], [], "Per-port limit"⟩,
  ⟨0x2405, 0x2405, 0x3, 0x3, 0x7, 1, 1, 3, 2048, 16, 16384, [], [], "Per-port limit"⟩,
  ⟨0x2406, 0x2406, 0x3, 0x3, 0x7, 1, 1, 3, 1024, 16, 16384, [], [], "Per-port limit"⟩,
  ⟨0x2407, 0x2407, 0x3, 0x3, 0x7, 1, 1, 3, 4096, 16, 16384, [], [], "Per-port limit"⟩,
  ⟨0x2400, 0x2400, 0x4, 0x4, 0x7, 1, 1, 3, 100000, 10, 1000000, [0], [], "Age limit"⟩,
  ⟨0x2401, 0x2401, 0x4, 0x4, 0x7, 1, 1, 3, 100000, 10, 1000000, [0], [], "Age limit"⟩,
  ⟨0x2402, 0x2402, 0x4, 0x4, 0x7, 1, 1, 3, 100000, 10, 1000000, [0], [], "Age limit"⟩,
  ⟨0x2403, 0x2403, 0x4, 0x4, 0x7, 1, 1, 3, 100000, 10, 1000000, [0], [], "Age limit"⟩,
  ⟨0x2404, 0x2404, 0x4, 0x4, 0x7, 1, 1, 3, 100000, 10, 1000000, [0], [], "Age limit"⟩,
  ⟨0x2405, 0x2405, 0x4, 0x4, 0x7, 1, 1, 3, 100000, 10, 1000000, [0], [], "Age limit"⟩,
  ⟨0x2406, 0x2406, 0x4, 0x4, 0x7, 1, 1, 3, 10000, 10, 1000000, [0], [], "Age limit"⟩,
  ⟨0x2407, 0x2407, 0x4, 0x4, 0x7, 1, 1, 3, 2000, 10, 1000000, [0], [], "Age limit"⟩,
  ⟨0x2400, 0x2400, 0x5, 0x5, 0x5, 1, 1, 3, 1, 1, 64, [], [], "Weight"⟩,
  ⟨0x2401, 0x2401, 0x5, 0x5, 0x5, 1, 1, 3, 2, 1, 64, [], [], "Weight"⟩,
  ⟨0x2402, 0x2402, 0x5, 0x5, 0x5, 1, 1, 3, 4, 1, 64, [], [], "Weight"⟩,
  ⟨0x2403, 0x2403, 0x5, 0x5, 0x5, 1, 1, 3, 8, 1, 64, [], [], "Weight"⟩,
  ⟨0x2404, 0x2404, 0x5, 0x5, 0x5, 1, 1, 3, 8, 1, 64, [], [], "Weight"⟩,
  ⟨0x2405, 0x2405, 0x5, 0x5, 0x5, 1, 1, 3, 16, 1, 64, [], [], "Weight"⟩,
  ⟨0x2406, 0x2406, 0x5, 0x5, 0x5, 1, 1, 3, 0, 1, 0, [], [], "Weight"⟩]

/-- Entries of 06_switch_fabric.md, part 4. -/
def dict06d : List Entry := [
  ⟨0x2407, 0x2407, 0x5, 0x5, 0x5, 1, 1, 3, 0, 1, 0, [], [], "Weight"⟩,
  ⟨0x2400, 0x2407, 0x6, 0x6, 0x7, 0, 1, 0, 0, 0, 4294967295, [], [], "Cells in use"⟩,
  ⟨0x2400, 0x2407, 0x7, 0x7, 0x7, 0, 1, 0, 0, 0, 4294967295, [], [], "Highest cells in use"⟩,
  ⟨0x2400, 0x2407, 0x8, 0x8, 0x1b, 0, 1, 0, 0, 0, 18446744073709551615, [], [], "Admission discards"⟩,
  ⟨0x2400, 0x2407, 0x9, 0x9, 0x1b, 0, 1, 0, 0, 0, 18446744073709551615, [], [], "Internal hold-backs"⟩,
  ⟨0x2410, 0x2410, 0x1, 0x1, 0x7, 0, 1, 0, 65536, 0, 4294967295, [], [], "Free cells"⟩,
  ⟨0x2410, 0x2410, 0x2, 0x2, 0x7, 0, 1, 0, 0, 0, 4294967295, [], [], "Shared pool in use"⟩,
  ⟨0x2410, 0x2410, 0x3, 0x3, 0x6, 0, 1, 0, 0, 0, 1024, [], [], "Completion reserve in use"⟩,
  ⟨0x2420, 0x2420, 0x1, 0x1, 0x6, 1, 1, 3, 300, 10, 65535, [], [], "Learning ageing time"⟩,
  ⟨0x2420, 0x2420, 0x2, 0x2, 0x6, 0, 1, 0, 0, 0, 32768, [], [], "Entries in use"⟩,
  ⟨0x2420, 0x2420, 0x3, 0x3, 0x6, 0, 1, 0, 0, 0, 65535, [], [], "Learned entries"⟩,
  ⟨0x2420, 0x2420, 0x4, 0x4, 0x1b, 0, 1, 0, 0, 0, 18446744073709551615, [], [], "Learning failures"⟩,
  ⟨0x2420, 0x2420, 0x5, 0x5, 0x5, 4, 1, 3, 0, 1, 1, [], [], "Flush learned"⟩,
  ⟨0x2421, 0x2421, 0x1, 0x1, 0x5, 4, 1, 3, 0, 1, 4, [], [], "Database operation"⟩,
  ⟨0x2421, 0x2421, 0x2, 0x2, 0xf, 1, 1, 3, 0, 16, 16, [], [], "Database entry"⟩,
  ⟨0x2421, 0x2421, 0x3, 0x3, 0x6, 1, 1, 3, 0, 0, 32767, [], [], "Database position"⟩,
  ⟨0x2421, 0x2421, 0x4, 0x4, 0x6, 0, 1, 0, 0, 0, 65535, [], [], "Database result"⟩,
  ⟨0x2430, 0x2430, 0x1, 0x1, 0x5, 4, 1, 3, 0, 1, 4, [], [], "Stream table operation"⟩,
  ⟨0x2430, 0x2430, 0x2, 0x2, 0xf, 1, 1, 3, 0, 16, 16, [], [], "Stream table entry"⟩,
  ⟨0x2430, 0x2430, 0x3, 0x3, 0x6, 1, 1, 3, 0, 0, 16383, [], [], "Stream table position"⟩,
  ⟨0x2430, 0x2430, 0x4, 0x4, 0x6, 0, 1, 0, 0, 0, 65535, [], [], "Stream table result"⟩,
  ⟨0x2430, 0x2430, 0x5, 0x5, 0x6, 0, 1, 0, 0, 0, 16384, [], [], "Stream entries in use"⟩,
  ⟨0x2440, 0x2440, 0x1, 0x1, 0x5, 4, 1, 3, 0, 1, 3, [], [], "VLAN operation"⟩,
  ⟨0x2440, 0x2440, 0x2, 0x2, 0x6, 1, 1, 3, 1, 1, 4094, [], [], "VID"⟩]

/-- Entries of 06_switch_fabric.md, part 5. -/
def dict06e : List Entry := [
  ⟨0x2440, 0x2440, 0x3, 0x3, 0xf, 1, 1, 3, 0, 16, 16, [], [], "VLAN entry"⟩,
  ⟨0x2440, 0x2440, 0x4, 0x4, 0x6, 0, 1, 0, 0, 0, 65535, [], [], "VLAN result"⟩,
  ⟨0x2450, 0x2450, 0x1, 0x1, 0x5, 1, 1, 3, 0, 0, 7, [], [], "Priority to class"⟩,
  ⟨0x2450, 0x2450, 0x2, 0x2, 0x5, 1, 1, 3, 1, 0, 7, [], [], "Priority to class"⟩,
  ⟨0x2450, 0x2450, 0x3, 0x3, 0x5, 1, 1, 3, 2, 0, 7, [], [], "Priority to class"⟩,
  ⟨0x2450, 0x2450, 0x4, 0x4, 0x5, 1, 1, 3, 3, 0, 7, [], [], "Priority to class"⟩,
  ⟨0x2450, 0x2450, 0x5, 0x5, 0x5, 1, 1, 3, 4, 0, 7, [], [], "Priority to class"⟩,
  ⟨0x2450, 0x2450, 0x6, 0x6, 0x5, 1, 1, 3, 5, 0, 7, [], [], "Priority to class"⟩,
  ⟨0x2450, 0x2450, 0x7, 0x7, 0x5, 1, 1, 3, 6, 0, 7, [], [], "Priority to class"⟩,
  ⟨0x2450, 0x2450, 0x8, 0x8, 0x5, 1, 1, 3, 7, 0, 7, [], [], "Priority to class"⟩,
  ⟨0x2460, 0x2467, 0x1, 0x1, 0x5, 3, 1, 3, 0, 0, 4, [], [], "Pair mode"⟩,
  ⟨0x2460, 0x2467, 0x2, 0x2, 0x5, 3, 1, 3, 0, 0, 47, [], [], "Port A"⟩,
  ⟨0x2460, 0x2467, 0x3, 0x3, 0x5, 3, 1, 3, 1, 0, 47, [], [], "Port B"⟩,
  ⟨0x2460, 0x2467, 0x4, 0x4, 0x5, 3, 1, 3, 0, 0, 255, [], [], "Supervision address octet"⟩,
  ⟨0x2460, 0x2467, 0x5, 0x5, 0x6, 1, 1, 3, 400, 10, 10000, [], [], "Entry forget time"⟩,
  ⟨0x2460, 0x2467, 0x6, 0x6, 0x6, 1, 1, 3, 60, 1, 3600, [], [], "Node forget time"⟩,
  ⟨0x2460, 0x2467, 0x10, 0x10, 0x1b, 0, 1, 0, 0, 0, 18446744073709551615, [], [], "Duplicates discarded"⟩,
  ⟨0x2460, 0x2467, 0x11, 0x11, 0x1b, 0, 1, 0, 0, 0, 18446744073709551615, [], [], "Wrong LAN"⟩,
  ⟨0x2460, 0x2467, 0x12, 0x12, 0x1b, 0, 1, 0, 0, 0, 18446744073709551615, [], [], "Passed without discard"⟩,
  ⟨0x2468, 0x2468, 0x1, 0x1, 0x6, 0, 1, 0, 0, 0, 4096, [], [], "Node entries in use"⟩,
  ⟨0x2468, 0x2468, 0x2, 0x2, 0x6, 0, 1, 0, 0, 0, 512, [], [], "Proxied nodes"⟩,
  ⟨0x2470, 0x2470, 0x1, 0x1, 0x1b, 0, 1, 0, 0, 0, 18446744073709551615, [], [], "P48 class-7 excess"⟩,
  ⟨0x2470, 0x2470, 0x2, 0x2, 0x6, 0, 1, 0, 0, 0, 65535, [], [], "P48 class-7 largest wait"⟩,
  ⟨0x2500, 0x2533, 0x1, 0x1, 0xf, 0, 1, 0, 0, 192, 192, [], [], "Class counters"⟩]

/-- Entries of 06_switch_fabric.md, part 6. -/
def dict06f : List Entry := [
  ⟨0x2600, 0x2633, 0x1, 0x1, 0xf, 0, 1, 0, 0, 320, 320, [], [], "Latency record"⟩,
  ⟨0x2700, 0x2700, 0x1, 0x1, 0x6, 1, 1, 3, 1, 1, 60, [], [], "Audit interval"⟩,
  ⟨0x2700, 0x2700, 0x2, 0x2, 0x7, 0, 1, 0, 0, 0, 4294967295, [], [], "Audit passes"⟩,
  ⟨0x2700, 0x2700, 0x3, 0x3, 0x7, 0, 1, 0, 0, 0, 4294967295, [], [], "Cells reclaimed"⟩,
  ⟨0x2700, 0x2700, 0x4, 0x4, 0x7, 0, 1, 0, 0, 0, 4294967295, [], [], "Cells allocated"⟩,
  ⟨0x2700, 0x2700, 0x5, 0x5, 0x7, 0, 1, 0, 65536, 0, 4294967295, [], [], "Cells free"⟩]

/-- Entries of 07_lens_sample_plane.md, part 1. -/
def dict07a : List Entry := [
  ⟨0x4000, 0x43ff, 0x1, 0x1, 0x1, 1, 1, 3, 0, 0, 1, [], [], "Enabled"⟩,
  ⟨0x4000, 0x43ff, 0x2, 0x2, 0x9, 3, 1, 3, 0, 1, 129, [], [], "svID"⟩,
  ⟨0x4000, 0x43ff, 0x3, 0x3, 0x7, 3, 1, 3, 1, 0, 4294967295, [], [], "confRev"⟩,
  ⟨0x4000, 0x43ff, 0x4, 0x4, 0x6, 3, 1, 3, 4800, 4000, 15360, [], [4000, 4800, 12800, 14400, 15360], "Stream rate"⟩,
  ⟨0x4000, 0x43ff, 0x5, 0x5, 0x5, 3, 1, 3, 1, 1, 8, [], [], "ASDUs per frame"⟩,
  ⟨0x4000, 0x43ff, 0x6, 0x6, 0x5, 3, 1, 3, 8, 1, 24, [], [], "Channels per ASDU"⟩,
  ⟨0x4000, 0x43ff, 0x7, 0x7, 0x7, 3, 1, 3, 255, 0, 4294967295, [], [], "Channel mask"⟩,
  ⟨0x4000, 0x43ff, 0x8, 0x8, 0x6, 3, 1, 3, 0, 0, 8191, [], [], "Plane base channel"⟩,
  ⟨0x4000, 0x43ff, 0x9, 0x9, 0x5, 3, 1, 3, 0, 0, 2, [], [], "Synchronisation policy"⟩,
  ⟨0x4000, 0x43ff, 0xa, 0xa, 0x6, 3, 1, 3, 0, 0, 2000, [], [], "Arrival latency"⟩,
  ⟨0x4000, 0x43ff, 0xb, 0xb, 0x1, 1, 1, 3, 0, 0, 1, [], [], "Test accept"⟩,
  ⟨0x4000, 0x43ff, 0xc, 0xc, 0x5, 0, 1, 0, 0, 0, 4, [], [], "Stream state"⟩,
  ⟨0x4000, 0x43ff, 0xd, 0xd, 0x6, 0, 1, 0, 0, 0, 65535, [], [], "Last smpCnt"⟩,
  ⟨0x4000, 0x43ff, 0xe, 0xe, 0x5, 0, 1, 0, 0, 0, 255, [], [], "Last smpSynch"⟩,
  ⟨0x4000, 0x43ff, 0xf, 0xf, 0x1, 0, 1, 0, 0, 0, 1, [], [], "Using simulated frames"⟩,
  ⟨0x4000, 0x43ff, 0x10, 0x10, 0x1b, 0, 1, 0, 0, 0, 18446744073709551615, [], [], "Frames accepted"⟩,
  ⟨0x4000, 0x43ff, 0x11, 0x11, 0x1b, 0, 1, 0, 0, 0, 18446744073709551615, [], [], "Samples placed"⟩,
  ⟨0x4000, 0x43ff, 0x12, 0x12, 0x1b, 0, 1, 0, 0, 0, 18446744073709551615, [], [], "Late samples"⟩,
  ⟨0x4000, 0x43ff, 0x13, 0x13, 0x1b, 0, 1, 0, 0, 0, 18446744073709551615, [], [], "Duplicate samples"⟩,
  ⟨0x4000, 0x43ff, 0x14, 0x14, 0x1b, 0, 1, 0, 0, 0, 18446744073709551615, [], [], "Out-of-order samples"⟩,
  ⟨0x4000, 0x43ff, 0x15, 0x15, 0x1b, 0, 1, 0, 0, 0, 18446744073709551615, [], [], "Sequence gap samples"⟩,
  ⟨0x4000, 0x43ff, 0x16, 0x16, 0x1b, 0, 1, 0, 0, 0, 18446744073709551615, [], [], "svID mismatches"⟩,
  ⟨0x4000, 0x43ff, 0x17, 0x17, 0x1b, 0, 1, 0, 0, 0, 18446744073709551615, [], [], "confRev mismatches"⟩,
  ⟨0x4000, 0x43ff, 0x18, 0x18, 0x1b, 0, 1, 0, 0, 0, 18446744073709551615, [], [], "Structure errors"⟩]

/-- Entries of 07_lens_sample_plane.md, part 2. -/
def dict07b : List Entry := [
  ⟨0x4000, 0x43ff, 0x19, 0x19, 0x1b, 0, 1, 0, 0, 0, 18446744073709551615, [], [], "Count out of range"⟩,
  ⟨0x4000, 0x43ff, 0x1a, 0x1a, 0x1b, 0, 1, 0, 0, 0, 18446744073709551615, [], [], "Bad tails"⟩,
  ⟨0x4000, 0x43ff, 0x1b, 0x1b, 0x1b, 0, 1, 0, 0, 0, 18446744073709551615, [], [], "Simulated frames discarded"⟩,
  ⟨0x4000, 0x43ff, 0x1c, 0x1c, 0x1b, 0, 1, 0, 0, 0, 18446744073709551615, [], [], "Rows substituted"⟩,
  ⟨0x4000, 0x43ff, 0x1d, 0x1d, 0x1b, 0, 1, 0, 0, 0, 18446744073709551615, [], [], "Rows invalid as missing"⟩,
  ⟨0x4000, 0x43ff, 0x1e, 0x1e, 0x1b, 0, 1, 0, 0, 0, 18446744073709551615, [], [], "Stalls"⟩,
  ⟨0x4000, 0x43ff, 0x1f, 0x1f, 0x1b, 0, 1, 0, 0, 0, 18446744073709551615, [], [], "Samples refused on synchronisation"⟩,
  ⟨0x4000, 0x43ff, 0x20, 0x20, 0x1b, 0, 1, 0, 0, 0, 18446744073709551615, [], [], "Arrival re-locks"⟩,
  ⟨0x4000, 0x43ff, 0x21, 0x21, 0x7, 0, 1, 0, 0, 0, 4294967295, [], [], "Last sample age"⟩,
  ⟨0x4000, 0x43ff, 0x22, 0x22, 0x7, 0, 1, 0, 0, 0, 4294967295, [], [], "Highest sample age"⟩,
  ⟨0x4000, 0x43ff, 0x23, 0x23, 0x5, 4, 1, 3, 0, 1, 1, [], [], "Clear counters"⟩,
  ⟨0x4000, 0x43ff, 0x24, 0x24, 0x5, 0, 1, 0, 0, 0, 24, [], [], "Plane channels used"⟩,
  ⟨0x47f0, 0x47f0, 0x1, 0x1, 0x6, 0, 1, 0, 4800, 4000, 14400, [], [4000, 4800, 14400], "Grid rate"⟩,
  ⟨0x47f0, 0x47f0, 0x2, 0x2, 0x5, 0, 1, 0, 50, 50, 60, [], [50, 60], "Nominal frequency"⟩,
  ⟨0x47f0, 0x47f0, 0x3, 0x3, 0x6, 1, 1, 3, 600, 50, 2000, [], [], "Alignment wait"⟩,
  ⟨0x47f0, 0x47f0, 0x4, 0x4, 0x5, 1, 1, 3, 2, 0, 4, [], [], "Substitution depth"⟩,
  ⟨0x47f0, 0x47f0, 0x5, 0x5, 0x1, 1, 1, 3, 0, 0, 1, [], [], "Simulation mode"⟩,
  ⟨0x47f0, 0x47f0, 0x6, 0x6, 0x5, 0, 1, 0, 0, 0, 2, [], [], "Lens state"⟩,
  ⟨0x47f0, 0x47f0, 0x7, 0x7, 0x1b, 0, 1, 0, 0, 0, 18446744073709551615, [], [], "Rows sealed"⟩,
  ⟨0x47f0, 0x47f0, 0x8, 0x8, 0x1b, 0, 1, 0, 0, 0, 18446744073709551615, [], [], "Rows sealed by expiry"⟩,
  ⟨0x47f0, 0x47f0, 0x9, 0x9, 0x1b, 0, 1, 0, 0, 0, 18446744073709551615, [], [], "Newest sealed row"⟩,
  ⟨0x47f0, 0x47f0, 0xa, 0xa, 0x30, 0, 1, 0, 0, 10, 10, [], [], "Newest sealed tick"⟩,
  ⟨0x47f0, 0x47f0, 0xb, 0xb, 0x6, 0, 1, 0, 0, 0, 1024, [], [], "Streams enabled"⟩,
  ⟨0x47f0, 0x47f0, 0xc, 0xc, 0x6, 0, 1, 0, 0, 0, 8192, [], [], "Channels in use"⟩]

/-- Entries of 07_lens_sample_plane.md, part 3. -/
def dict07c : List Entry := [
  ⟨0x47f0, 0x47f0, 0xd, 0xd, 0x6, 0, 1, 0, 0, 0, 65535, [], [], "Highest open rows"⟩,
  ⟨0x47f0, 0x47f0, 0xe, 0xe, 0x1b, 0, 1, 0, 0, 0, 18446744073709551615, [], [], "Rows held behind stage 8"⟩,
  ⟨0x47f0, 0x47f0, 0xf, 0xf, 0x7, 0, 1, 0, 0, 0, 4294967295, [], [], "Discontinuities"⟩,
  ⟨0x47f0, 0x47f0, 0x10, 0x10, 0x7, 0, 1, 0, 0, 0, 4294967295, [], [], "Highest seal delay"⟩,
  ⟨0x47f0, 0x47f0, 0x11, 0x11, 0x5, 4, 1, 3, 0, 1, 1, [], [], "Clear totals"⟩]

/-- Entries of 08_phasors_summation.md, part 1. -/
def dict08a : List Entry := [
  ⟨0x4400, 0x45ff, 0x1, 0x1, 0x1, 1, 1, 3, 0, 0, 1, [], [], "Enabled"⟩,
  ⟨0x4400, 0x45ff, 0x2, 0x2, 0x5, 3, 1, 3, 1, 1, 64, [], [], "Member count"⟩,
  ⟨0x4400, 0x45ff, 0x3, 0x3, 0x5, 3, 1, 3, 0, 0, 31, [], [], "Frequency group"⟩,
  ⟨0x4400, 0x45ff, 0x4, 0x4, 0x8, 3, 1, 3, 1065353216, 4286578687, 2139095039, [], [], "Base"⟩,
  ⟨0x4400, 0x45ff, 0x5, 0x5, 0x5, 1, 1, 3, 1, 0, 255, [], [], "Quality policy"⟩,
  ⟨0x4400, 0x45ff, 0x6, 0x6, 0x7, 0, 1, 0, 35, 0, 4294967295, [], [], "Status"⟩,
  ⟨0x4400, 0x45ff, 0x7, 0x7, 0x8, 0, 1, 0, 0, 4286578687, 2139095039, [], [], "Differential"⟩,
  ⟨0x4400, 0x45ff, 0x8, 0x8, 0x8, 0, 1, 0, 0, 4286578687, 2139095039, [], [], "Differential RMS"⟩,
  ⟨0x4400, 0x45ff, 0x9, 0x9, 0x8, 0, 1, 0, 0, 4286578687, 2139095039, [], [], "Restraint"⟩,
  ⟨0x4400, 0x45ff, 0xa, 0xa, 0x1b, 0, 1, 0, 0, 0, 18446744073709551615, [], [], "Invalid rows"⟩,
  ⟨0x4400, 0x45ff, 0xb, 0xb, 0x1b, 0, 1, 0, 0, 0, 18446744073709551615, [], [], "Selection changes"⟩,
  ⟨0x4400, 0x45ff, 0xc, 0xc, 0x5, 4, 1, 3, 0, 1, 1, [], [], "Clear"⟩,
  ⟨0x4400, 0x45ff, 0x10, 0x4f, 0x1b, 3, 1, 3, 0, 0, 18446744073709551615, [], [], "Member descriptor"⟩,
  ⟨0x4600, 0x467f, 0x1, 0x10, 0x1b, 1, 1, 3, 0, 0, 18446744073709551615, [], [], "Triple descriptor"⟩,
  ⟨0x4680, 0x46ff, 0x1, 0x40, 0x5, 1, 1, 3, 0, 0, 31, [], [], "Channel frequency group"⟩,
  ⟨0x4700, 0x471f, 0x1, 0x1, 0x5, 1, 1, 3, 1, 0, 1, [], [], "Mode"⟩,
  ⟨0x4700, 0x471f, 0x2, 0x2, 0x6, 1, 1, 3, 65535, 0, 40959, [65535], [], "Primary source"⟩,
  ⟨0x4700, 0x471f, 0x3, 0x3, 0x6, 1, 1, 3, 65535, 0, 40959, [65535], [], "Alternate source"⟩,
  ⟨0x4700, 0x471f, 0x4, 0x4, 0x8, 1, 1, 3, 0, 0, 2139095039, [], [], "Minimum source magnitude"⟩,
  ⟨0x4700, 0x471f, 0x5, 0x5, 0x5, 1, 1, 3, 6, 0, 8, [], [], "Filter exponent"⟩,
  ⟨0x4700, 0x471f, 0x6, 0x6, 0x6, 1, 1, 3, 2000, 1, 60000, [], [], "Hold limit"⟩,
  ⟨0x4700, 0x471f, 0x7, 0x7, 0x6, 1, 1, 3, 100, 20, 1000, [], [], "ROCOF interval"⟩,
  ⟨0x4700, 0x471f, 0x8, 0x8, 0x8, 0, 1, 0, 0, 4286578687, 2139095039, [], [], "Frequency"⟩,
  ⟨0x4700, 0x471f, 0x9, 0x9, 0x8, 0, 1, 0, 0, 4286578687, 2139095039, [], [], "ROCOF"⟩]

/-- Entries of 08_phasors_summation.md, part 2. -/
def dict08b : List Entry := [
  ⟨0x4700, 0x471f, 0xa, 0xa, 0x5, 0, 1, 0, 0, 0, 255, [], [], "Group status"⟩,
  ⟨0x4700, 0x471f, 0xb, 0xb, 0x7, 0, 1, 0, 0, 0, 4294967295, [], [], "Source changes"⟩,
  ⟨0x4700, 0x471f, 0xc, 0xc, 0x7, 0, 1, 0, 0, 0, 4294967295, [], [], "Holds"⟩,
  ⟨0x47e0, 0x47e0, 0x1, 0x1, 0x6, 1, 1, 2, 0, 0, 2047, [], [], "Monitored triple"⟩,
  ⟨0x47e0, 0x47e0, 0x2, 0x2, 0xf, 0, 1, 0, 0, 8, 8, [], [], "Zero sequence"⟩,
  ⟨0x47e0, 0x47e0, 0x3, 0x3, 0xf, 0, 1, 0, 0, 8, 8, [], [], "Positive sequence"⟩,
  ⟨0x47e0, 0x47e0, 0x4, 0x4, 0xf, 0, 1, 0, 0, 8, 8, [], [], "Negative sequence"⟩,
  ⟨0x47e0, 0x47e0, 0x5, 0x5, 0x7, 0, 1, 0, 32768, 0, 4294967295, [], [], "Triple quality"⟩,
  ⟨0x47e0, 0x47e0, 0x6, 0x6, 0x6, 0, 1, 0, 0, 0, 65535, [], [], "Channels computed"⟩,
  ⟨0x47e0, 0x47e0, 0x7, 0x7, 0x6, 0, 1, 0, 0, 0, 2048, [], [], "Triples in use"⟩,
  ⟨0x47e0, 0x47e0, 0x8, 0x8, 0x6, 0, 1, 0, 0, 0, 65535, [], [], "Highest phasor time"⟩]

/-- Entries of 09_trip_lanes_goose.md, part 1. -/
def dict09a : List Entry := [
  ⟨0x4800, 0x4bff, 0x1, 0x1, 0x1, 1, 1, 3, 0, 0, 1, [], [], "Enabled"⟩,
  ⟨0x4800, 0x4bff, 0x2, 0x2, 0x5, 3, 1, 3, 0, 0, 11, [], [], "Quantity"⟩,
  ⟨0x4800, 0x4bff, 0x3, 0x3, 0x6, 3, 1, 3, 0, 0, 65535, [], [], "Source"⟩,
  ⟨0x4800, 0x4bff, 0x4, 0x4, 0x5, 3, 1, 3, 0, 0, 3, [], [], "Characteristic"⟩,
  ⟨0x4800, 0x4bff, 0x5, 0x5, 0x8, 1, 1, 3, 1065353216, 4286578687, 2139095039, [], [], "Threshold"⟩,
  ⟨0x4800, 0x4bff, 0x6, 0x6, 0x8, 1, 1, 3, 1064514355, 1056964608, 1065353216, [], [], "Dropout ratio"⟩,
  ⟨0x4800, 0x4bff, 0x7, 0x7, 0x8, 1, 1, 3, 1050253722, 0, 1073741824, [], [], "Slope 1"⟩,
  ⟨0x4800, 0x4bff, 0x8, 0x8, 0x8, 1, 1, 3, 1060320051, 0, 1082130432, [], [], "Slope 2"⟩,
  ⟨0x4800, 0x4bff, 0x9, 0x9, 0x8, 1, 1, 3, 1073741824, 4286578687, 2139095039, [], [], "Breakpoint"⟩,
  ⟨0x4800, 0x4bff, 0xa, 0xa, 0x5, 3, 1, 3, 1, 1, 16, [], [], "Rate span"⟩,
  ⟨0x4800, 0x4bff, 0xb, 0xb, 0x5, 3, 1, 3, 1, 1, 64, [], [], "Count window"⟩,
  ⟨0x4800, 0x4bff, 0xc, 0xc, 0x5, 3, 1, 3, 1, 1, 64, [], [], "Count required"⟩,
  ⟨0x4800, 0x4bff, 0xd, 0xd, 0x1, 1, 1, 3, 0, 0, 1, [], [], "Latch"⟩,
  ⟨0x4800, 0x4bff, 0xe, 0xe, 0x5, 1, 1, 3, 0, 0, 1, [], [], "Invalid policy"⟩,
  ⟨0x4800, 0x4bff, 0xf, 0xf, 0x6, 1, 1, 3, 65535, 0, 2047, [65535], [], "Block bit"⟩,
  ⟨0x4800, 0x4bff, 0x10, 0x10, 0x6, 1, 1, 3, 65535, 0, 2047, [65535], [], "Reset bit"⟩,
  ⟨0x4800, 0x4bff, 0x11, 0x11, 0x5, 4, 1, 2, 0, 1, 1, [], [], "Reset latch"⟩,
  ⟨0x4800, 0x4bff, 0x12, 0x12, 0x6, 0, 1, 0, 0, 0, 65535, [], [], "Status"⟩,
  ⟨0x4800, 0x4bff, 0x13, 0x13, 0x8, 0, 1, 0, 0, 4286578687, 2139095039, [], [], "Quantity value"⟩,
  ⟨0x4800, 0x4bff, 0x14, 0x14, 0x1b, 0, 1, 0, 0, 0, 18446744073709551615, [], [], "Pickups"⟩,
  ⟨0x4800, 0x4bff, 0x15, 0x15, 0x1b, 0, 1, 0, 0, 0, 18446744073709551615, [], [], "Last pickup row"⟩,
  ⟨0x4800, 0x4bff, 0x16, 0x16, 0x1b, 0, 1, 0, 0, 0, 18446744073709551615, [], [], "Invalid rows"⟩,
  ⟨0x5800, 0x59ff, 0x1, 0x1, 0x1, 1, 1, 3, 0, 0, 1, [], [], "Enabled"⟩,
  ⟨0x5800, 0x59ff, 0x2, 0x2, 0x6, 3, 1, 3, 65535, 0, 255, [65535], [], "Owner"⟩]

/-- Entries of 09_trip_lanes_goose.md, part 2. -/
def dict09b : List Entry := [
  ⟨0x5800, 0x59ff, 0x3, 0x3, 0x1, 3, 1, 3, 0, 0, 1, [], [], "Trip publisher"⟩,
  ⟨0x5800, 0x59ff, 0x4, 0x4, 0xf, 3, 1, 3, 0, 6, 6, [], [], "Destination address"⟩,
  ⟨0x5800, 0x59ff, 0x5, 0x5, 0x6, 3, 1, 3, 0, 1, 4094, [0], [], "VLAN"⟩,
  ⟨0x5800, 0x59ff, 0x6, 0x6, 0x5, 3, 1, 3, 4, 0, 7, [], [], "Priority"⟩,
  ⟨0x5800, 0x59ff, 0x7, 0x7, 0x5, 3, 1, 3, 6, 0, 7, [], [], "Class"⟩,
  ⟨0x5800, 0x59ff, 0x8, 0x8, 0x6, 3, 1, 3, 0, 0, 16383, [], [], "APPID"⟩,
  ⟨0x5800, 0x59ff, 0x9, 0x9, 0x9, 3, 1, 3, 0, 1, 129, [], [], "gocbRef"⟩,
  ⟨0x5800, 0x59ff, 0xa, 0xa, 0x9, 3, 1, 3, 0, 1, 129, [], [], "datSet"⟩,
  ⟨0x5800, 0x59ff, 0xb, 0xb, 0x9, 3, 1, 3, 0, 0, 129, [], [], "goID"⟩,
  ⟨0x5800, 0x59ff, 0xc, 0xc, 0x7, 3, 1, 3, 1, 0, 4294967295, [], [], "confRev"⟩,
  ⟨0x5800, 0x59ff, 0xd, 0xd, 0x6, 1, 1, 3, 2, 1, 60000, [], [], "Minimum interval"⟩,
  ⟨0x5800, 0x59ff, 0xe, 0xe, 0x6, 1, 1, 3, 1000, 1, 60000, [], [], "Maximum interval"⟩,
  ⟨0x5800, 0x59ff, 0xf, 0xf, 0x5, 1, 1, 3, 2, 2, 4, [], [], "TAL factor"⟩,
  ⟨0x5800, 0x59ff, 0x10, 0x10, 0x1, 1, 1, 3, 0, 0, 1, [], [], "Test"⟩,
  ⟨0x5800, 0x59ff, 0x11, 0x11, 0x1, 1, 1, 3, 0, 0, 1, [], [], "Simulation"⟩,
  ⟨0x5800, 0x59ff, 0x12, 0x12, 0x5, 3, 1, 3, 1, 1, 32, [], [], "Member count"⟩,
  ⟨0x5800, 0x59ff, 0x13, 0x13, 0x7, 0, 1, 0, 0, 0, 4294967295, [], [], "stNum"⟩,
  ⟨0x5800, 0x59ff, 0x14, 0x14, 0x7, 0, 1, 0, 0, 0, 4294967295, [], [], "sqNum"⟩,
  ⟨0x5800, 0x59ff, 0x15, 0x15, 0x5, 0, 1, 0, 0, 0, 2, [], [], "Publisher state"⟩,
  ⟨0x5800, 0x59ff, 0x16, 0x16, 0x1b, 0, 1, 0, 0, 0, 18446744073709551615, [], [], "Frames sent"⟩,
  ⟨0x5800, 0x59ff, 0x17, 0x17, 0x1b, 0, 1, 0, 0, 0, 18446744073709551615, [], [], "State changes"⟩,
  ⟨0x5800, 0x59ff, 0x18, 0x18, 0x1b, 0, 1, 0, 0, 0, 18446744073709551615, [], [], "Muted frames"⟩,
  ⟨0x5800, 0x59ff, 0x19, 0x19, 0x1b, 0, 1, 0, 0, 0, 18446744073709551615, [], [], "Submissions refused or discarded"⟩,
  ⟨0x5800, 0x59ff, 0x1a, 0x1a, 0x1b, 0, 1, 0, 0, 0, 18446744073709551615, [], [], "Late frames"⟩]

/-- Entries of 09_trip_lanes_goose.md, part 3. -/
def dict09c : List Entry := [
  ⟨0x5800, 0x59ff, 0x20, 0x3f, 0x7, 3, 1, 3, 0, 0, 4294967295, [], [], "Member descriptor"⟩,
  ⟨0x6000, 0x6fff, 0x1, 0x1, 0x1, 1, 1, 3, 0, 0, 1, [], [], "Enabled"⟩,
  ⟨0x6000, 0x6fff, 0x2, 0x2, 0x9, 3, 1, 3, 0, 1, 129, [], [], "gocbRef"⟩,
  ⟨0x6000, 0x6fff, 0x3, 0x3, 0x9, 3, 1, 3, 0, 0, 129, [], [], "goID"⟩,
  ⟨0x6000, 0x6fff, 0x4, 0x4, 0x9, 3, 1, 3, 0, 0, 129, [], [], "datSet"⟩,
  ⟨0x6000, 0x6fff, 0x5, 0x5, 0x7, 3, 1, 3, 1, 0, 4294967295, [], [], "confRev"⟩,
  ⟨0x6000, 0x6fff, 0x6, 0x6, 0x5, 3, 1, 3, 1, 1, 128, [], [], "Data set entries"⟩,
  ⟨0x6000, 0x6fff, 0x7, 0x7, 0x5, 3, 1, 3, 0, 0, 16, [], [], "Member count"⟩,
  ⟨0x6000, 0x6fff, 0x8, 0x8, 0x1, 1, 1, 3, 0, 0, 1, [], [], "Test accept"⟩,
  ⟨0x6000, 0x6fff, 0x9, 0x9, 0x6, 1, 1, 3, 2, 0, 1000, [], [], "Supervision margin"⟩,
  ⟨0x6000, 0x6fff, 0xa, 0xa, 0x5, 1, 1, 3, 0, 0, 1, [], [], "Loss behaviour"⟩,
  ⟨0x6000, 0x6fff, 0x10, 0x1f, 0x7, 3, 1, 3, 0, 0, 4294967295, [], [], "Member descriptor"⟩,
  ⟨0x6000, 0x6fff, 0x20, 0x20, 0x5, 0, 1, 0, 0, 0, 3, [], [], "State"⟩,
  ⟨0x6000, 0x6fff, 0x21, 0x21, 0x7, 0, 1, 0, 0, 0, 4294967295, [], [], "Last stNum"⟩,
  ⟨0x6000, 0x6fff, 0x22, 0x22, 0x7, 0, 1, 0, 0, 0, 4294967295, [], [], "Last sqNum"⟩,
  ⟨0x6000, 0x6fff, 0x23, 0x23, 0x1b, 0, 1, 0, 0, 0, 18446744073709551615, [], [], "Frames accepted"⟩,
  ⟨0x6000, 0x6fff, 0x24, 0x24, 0x1b, 0, 1, 0, 0, 0, 18446744073709551615, [], [], "State changes"⟩,
  ⟨0x6000, 0x6fff, 0x26, 0x26, 0x1b, 0, 1, 0, 0, 0, 18446744073709551615, [], [], "Structure errors"⟩,
  ⟨0x6000, 0x6fff, 0x27, 0x27, 0x1b, 0, 1, 0, 0, 0, 18446744073709551615, [], [], "Configuration mismatches"⟩,
  ⟨0x6000, 0x6fff, 0x28, 0x28, 0x1b, 0, 1, 0, 0, 0, 18446744073709551615, [], [], "Simulated frames discarded"⟩,
  ⟨0x6000, 0x6fff, 0x29, 0x29, 0x1b, 0, 1, 0, 0, 0, 18446744073709551615, [], [], "Repeated or out of order"⟩,
  ⟨0x6000, 0x6fff, 0x2a, 0x2a, 0x1b, 0, 1, 0, 0, 0, 18446744073709551615, [], [], "stNum regressions"⟩,
  ⟨0x6000, 0x6fff, 0x2b, 0x2b, 0x1b, 0, 1, 0, 0, 0, 18446744073709551615, [], [], "Timeouts"⟩,
  ⟨0x6000, 0x6fff, 0x2c, 0x2c, 0x5, 4, 1, 3, 0, 1, 1, [], [], "Clear counters"⟩]

/-- Entries of 10_scheme_logic_programs.md, part 1. -/
def dict10a : List Entry := [
  ⟨0x5400, 0x57ff, 0x1, 0x1, 0x1, 1, 1, 3, 0, 0, 1, [], [], "Run"⟩,
  ⟨0x5400, 0x57ff, 0x2, 0x2, 0xf, 3, 0, 3, 0, 0, 1048576, [], [], "Program image"⟩,
  ⟨0x5400, 0x57ff, 0x3, 0x3, 0x5, 0, 1, 0, 0, 0, 3, [], [], "State"⟩,
  ⟨0x5400, 0x57ff, 0x4, 0x4, 0x5, 0, 1, 0, 0, 0, 255, [], [], "Form"⟩,
  ⟨0x5400, 0x57ff, 0x5, 0x5, 0x5, 0, 1, 0, 0, 0, 255, [], [], "Cycle class"⟩,
  ⟨0x5400, 0x57ff, 0x6, 0x6, 0x6, 0, 1, 0, 0, 0, 65535, [], [], "Period"⟩,
  ⟨0x5400, 0x57ff, 0x7, 0x7, 0x5, 0, 1, 0, 0, 0, 255, [], [], "Logic processor"⟩,
  ⟨0x5400, 0x57ff, 0x8, 0x8, 0x1, 0, 1, 0, 0, 0, 1, [], [], "Trip program"⟩,
  ⟨0x5400, 0x57ff, 0x9, 0x9, 0x6, 0, 1, 0, 0, 0, 65535, [], [], "Worst-case cost"⟩,
  ⟨0x5400, 0x57ff, 0xa, 0xa, 0x6, 0, 1, 0, 0, 0, 65535, [], [], "Instruction count"⟩,
  ⟨0x5400, 0x57ff, 0xb, 0xb, 0xf, 0, 1, 0, 0, 32, 32, [], [], "Image digest"⟩,
  ⟨0x5400, 0x57ff, 0xc, 0xc, 0x1b, 0, 1, 0, 0, 0, 18446744073709551615, [], [], "Arithmetic substitutions"⟩,
  ⟨0x5400, 0x57ff, 0xd, 0xd, 0x5, 1, 1, 3, 0, 0, 1, [], [], "Outputs on stop"⟩,
  ⟨0x5400, 0x57ff, 0xe, 0xe, 0x9, 0, 1, 0, 0, 0, 256, [], [], "Program name"⟩,
  ⟨0x5400, 0x57ff, 0xf, 0xf, 0x6, 0, 1, 0, 0, 0, 65535, [], [], "Instances"⟩,
  ⟨0x5400, 0x57ff, 0x10, 0x10, 0x7, 0, 1, 0, 0, 0, 4294967295, [], [], "Retentive data"⟩]

/-- Entries of 11_scheme_logic_cycle.md, part 1. -/
def dict11a : List Entry := [
  ⟨0x5400, 0x57ff, 0x20, 0x20, 0x6, 1, 1, 3, 0, 0, 65535, [], [], "Phase"⟩,
  ⟨0x5400, 0x57ff, 0x21, 0x21, 0x6, 1, 1, 3, 65535, 0, 1023, [65535], [], "Error task"⟩,
  ⟨0x5400, 0x57ff, 0x22, 0x22, 0xf, 2, 0, 3, 0, 0, 1048576, [], [], "Exchange image"⟩,
  ⟨0x5400, 0x57ff, 0x23, 0x23, 0x5, 4, 1, 3, 0, 1, 2, [], [], "Exchange command"⟩,
  ⟨0x5400, 0x57ff, 0x24, 0x24, 0x5, 0, 1, 0, 0, 0, 5, [], [], "Exchange state"⟩,
  ⟨0x5400, 0x57ff, 0x25, 0x25, 0x6, 0, 1, 0, 0, 0, 65535, [], [], "Last exchange result"⟩,
  ⟨0x5400, 0x57ff, 0x26, 0x26, 0xf, 0, 1, 0, 0, 0, 4294967295, [], [], "Exchange report"⟩,
  ⟨0x5400, 0x57ff, 0x27, 0x27, 0x7, 0, 1, 0, 0, 0, 4294967295, [], [], "Exchanges"⟩,
  ⟨0x5400, 0x57ff, 0x28, 0x28, 0x1b, 0, 1, 0, 0, 0, 18446744073709551615, [], [], "Cycles run"⟩,
  ⟨0x5400, 0x57ff, 0x29, 0x29, 0x1b, 0, 1, 0, 0, 0, 18446744073709551615, [], [], "Skipped triggers"⟩,
  ⟨0x5400, 0x57ff, 0x2a, 0x2a, 0x7, 0, 1, 0, 0, 0, 4294967295, [], [], "Last cycle cost"⟩,
  ⟨0x5400, 0x57ff, 0x2b, 0x2b, 0x7, 0, 1, 0, 0, 0, 4294967295, [], [], "Highest cycle cost"⟩,
  ⟨0x5400, 0x57ff, 0x2c, 0x2c, 0x7, 0, 1, 0, 0, 0, 4294967295, [], [], "Highest start delay"⟩,
  ⟨0x5400, 0x57ff, 0x2d, 0x2d, 0x1b, 0, 1, 0, 0, 0, 18446744073709551615, [], [], "Error task runs"⟩,
  ⟨0x5400, 0x57ff, 0x2e, 0x2e, 0x5, 0, 1, 0, 0, 0, 7, [], [], "Cycle status"⟩,
  ⟨0x5400, 0x57ff, 0x2f, 0x2f, 0x5, 4, 1, 3, 0, 1, 1, [], [], "Clear"⟩,
  ⟨0x5400, 0x57ff, 0x30, 0x30, 0x1b, 0, 1, 0, 0, 0, 18446744073709551615, [], [], "Stations used"⟩,
  ⟨0x5400, 0x57ff, 0x31, 0x31, 0x6, 0, 1, 0, 0, 0, 65535, [], [], "Processor load"⟩,
  ⟨0x5400, 0x5400, 0x80, 0x9f, 0x6, 1, 1, 3, 0, 0, 10000, [], [], "FDI filter time, FDI0–FDI31"⟩,
  ⟨0x5400, 0x5400, 0xa0, 0xaf, 0x6, 0, 1, 0, 0, 0, 65535, [], [], "Processor load, 0–15"⟩,
  ⟨0x5400, 0x5400, 0xb0, 0xbf, 0x6, 0, 1, 0, 32, 0, 65535, [], [], "Instant cost, 0–15"⟩,
  ⟨0xb040, 0xb07f, 0x1, 0x1, 0x1, 1, 1, 3, 0, 0, 1, [], [], "Enabled"⟩,
  ⟨0xb040, 0xb07f, 0x2, 0x2, 0x5, 3, 1, 3, 0, 0, 1, [], [], "Controller"⟩,
  ⟨0xb040, 0xb07f, 0x3, 0x3, 0x5, 3, 1, 3, 1, 1, 254, [], [], "Node"⟩]

/-- Entries of 11_scheme_logic_cycle.md, part 2. -/
def dict11b : List Entry := [
  ⟨0xb040, 0xb07f, 0x4, 0x4, 0x6, 3, 1, 3, 0, 0, 1023, [], [], "Input count"⟩,
  ⟨0xb040, 0xb07f, 0x5, 0x5, 0x6, 3, 1, 3, 0, 0, 1024, [], [], "Output count"⟩,
  ⟨0xb040, 0xb07f, 0x6, 0x6, 0x6, 1, 1, 3, 10, 1, 1000, [], [], "Exchange period"⟩,
  ⟨0xb040, 0xb07f, 0x7, 0x7, 0x6, 1, 1, 3, 1000, 100, 10000, [], [], "Response timeout"⟩,
  ⟨0xb040, 0xb07f, 0x8, 0x8, 0x5, 1, 1, 3, 3, 1, 16, [], [], "Drop count"⟩,
  ⟨0xb040, 0xb07f, 0x9, 0x9, 0x5, 1, 1, 3, 2, 1, 16, [], [], "Rejoin count"⟩,
  ⟨0xb040, 0xb07f, 0xa, 0xa, 0x5, 1, 1, 3, 0, 0, 2, [], [], "Substitute mode"⟩,
  ⟨0xb040, 0xb07f, 0xb, 0xb, 0xf, 1, 1, 3, 0, 128, 128, [], [], "Substitute pattern"⟩,
  ⟨0xb040, 0xb07f, 0xc, 0xc, 0x5, 0, 1, 0, 0, 0, 3, [], [], "State"⟩,
  ⟨0xb040, 0xb07f, 0xd, 0xd, 0xf, 0, 1, 0, 0, 128, 128, [], [], "Delivered output image"⟩,
  ⟨0xb040, 0xb07f, 0xe, 0xe, 0x1b, 0, 1, 0, 0, 0, 18446744073709551615, [], [], "Exchanges"⟩,
  ⟨0xb040, 0xb07f, 0xf, 0xf, 0x1b, 0, 1, 0, 0, 0, 18446744073709551615, [], [], "Misses"⟩,
  ⟨0xb040, 0xb07f, 0x10, 0x10, 0x7, 0, 1, 0, 0, 0, 4294967295, [], [], "Drops"⟩,
  ⟨0xb040, 0xb07f, 0x11, 0x11, 0x5, 4, 1, 3, 0, 1, 1, [], [], "Clear"⟩]

/-- Entries of 12_facets_dispatch.md, part 1. -/
def dict12a : List Entry := [
  ⟨0x5000, 0x50ff, 0x1, 0x1, 0x1, 1, 1, 3, 0, 0, 1, [], [], "Defined"⟩,
  ⟨0x5000, 0x50ff, 0x2, 0x2, 0x5, 4, 1, 3, 0, 1, 6, [], [], "Command"⟩,
  ⟨0x5000, 0x50ff, 0x3, 0x3, 0x5, 0, 1, 0, 0, 0, 8, [], [], "State"⟩,
  ⟨0x5000, 0x50ff, 0x4, 0x4, 0x9, 3, 1, 3, 0, 0, 32, [], [], "Name"⟩,
  ⟨0x5000, 0x50ff, 0x5, 0x5, 0x1b, 3, 1, 3, 0, 0, 18446744073709551615, [], [], "Core mask"⟩,
  ⟨0x5000, 0x50ff, 0x6, 0x6, 0x6, 3, 1, 3, 0, 1, 28672, [], [], "Guest memory"⟩,
  ⟨0x5000, 0x50ff, 0x7, 0x7, 0xf, 1, 1, 3, 0, 16, 16, [], [], "Plane grant"⟩,
  ⟨0x5000, 0x50ff, 0x8, 0x8, 0x6, 3, 1, 3, 0, 0, 4095, [], [], "Task base"⟩,
  ⟨0x5000, 0x50ff, 0x9, 0x9, 0x6, 3, 1, 3, 0, 0, 4096, [], [], "Task count"⟩,
  ⟨0x5000, 0x50ff, 0xa, 0xa, 0xf, 3, 1, 3, 0, 96, 96, [], [], "Receive filters"⟩,
  ⟨0x5000, 0x50ff, 0xb, 0xb, 0x6, 1, 1, 3, 0, 0, 4096, [], [], "DMA share"⟩,
  ⟨0x5000, 0x50ff, 0xc, 0xc, 0x6, 1, 1, 3, 0, 0, 16384, [], [], "NIC share"⟩,
  ⟨0x5000, 0x50ff, 0xd, 0xd, 0x6, 1, 1, 3, 0, 0, 4096, [], [], "Capture quota"⟩,
  ⟨0x5000, 0x50ff, 0xe, 0xe, 0x5, 1, 1, 3, 8, 1, 64, [], [], "Dispatch weight"⟩,
  ⟨0x5000, 0x50ff, 0xf, 0xf, 0x7, 3, 1, 3, 0, 0, 65536, [], [], "Mirror set limit"⟩,
  ⟨0x5000, 0x50ff, 0x10, 0x10, 0x1, 1, 1, 3, 0, 0, 1, [], [], "Autostart"⟩,
  ⟨0x5000, 0x50ff, 0x11, 0x11, 0x6, 1, 1, 3, 0, 1, 120, [0], [], "Launch deadline"⟩,
  ⟨0x5000, 0x50ff, 0x12, 0x12, 0xf, 3, 1, 3, 0, 32, 32, [], [], "Boot image digest"⟩,
  ⟨0x5000, 0x50ff, 0x13, 0x13, 0x7, 0, 1, 0, 0, 0, 4294967295, [], [], "Boot image size"⟩,
  ⟨0x5000, 0x50ff, 0x14, 0x14, 0xf, 2, 0, 3, 0, 0, 268435456, [], [], "Boot image"⟩,
  ⟨0x5000, 0x50ff, 0x15, 0x15, 0x6, 3, 1, 3, 0, 0, 8192, [], [], "Persistent area"⟩,
  ⟨0x5000, 0x50ff, 0x16, 0x16, 0x5, 1, 1, 3, 0, 0, 15, [], [], "Blob number"⟩,
  ⟨0x5000, 0x50ff, 0x17, 0x17, 0x6, 0, 1, 0, 0, 0, 65535, [], [], "Last command result"⟩,
  ⟨0x5000, 0x50ff, 0x18, 0x18, 0x7, 0, 1, 0, 0, 0, 4294967295, [], [], "Resets"⟩]

/-- Entries of 12_facets_dispatch.md, part 2. -/
def dict12b : List Entry := [
  ⟨0x5000, 0x50ff, 0x19, 0x19, 0x1b, 0, 1, 0, 0, 0, 18446744073709551615, [], [], "Plane faults"⟩,
  ⟨0x5000, 0x50ff, 0x1a, 0x1a, 0x1b, 0, 1, 0, 0, 0, 18446744073709551615, [], [], "Access faults"⟩,
  ⟨0x5000, 0x50ff, 0x1b, 0x1b, 0x1b, 0, 1, 0, 0, 0, 18446744073709551615, [], [], "Over-share refusals"⟩,
  ⟨0x5000, 0x50ff, 0x1c, 0x1c, 0x1b, 0, 1, 0, 0, 0, 18446744073709551615, [], [], "Mailbox errors"⟩,
  ⟨0x5000, 0x50ff, 0x1d, 0x1d, 0x1b, 0, 1, 0, 0, 0, 18446744073709551615, [], [], "Messages taken"⟩,
  ⟨0x5000, 0x50ff, 0x1e, 0x1e, 0x1b, 0, 1, 0, 0, 0, 18446744073709551615, [], [], "Lost posts"⟩,
  ⟨0x5000, 0x50ff, 0x1f, 0x1f, 0x1b, 0, 1, 0, 0, 0, 18446744073709551615, [], [], "NIC receive discards"⟩,
  ⟨0x5000, 0x50ff, 0x20, 0x20, 0x1b, 0, 1, 0, 0, 0, 18446744073709551615, [], [], "Dispatches"⟩,
  ⟨0x5000, 0x50ff, 0x21, 0x21, 0xf, 0, 1, 0, 0, 16, 16, [], [], "Ready depth"⟩,
  ⟨0x5000, 0x50ff, 0x22, 0x22, 0xf, 0, 1, 0, 0, 32, 32, [], [], "Longest ready wait"⟩,
  ⟨0x5000, 0x50ff, 0x23, 0x23, 0x5, 4, 1, 3, 0, 1, 1, [], [], "Clear"⟩,
  ⟨0x5000, 0x5000, 0x80, 0xbf, 0x6, 0, 1, 0, 0, 0, 65535, [], [], "Core load, cores 0–63"⟩,
  ⟨0x5000, 0x5000, 0xc0, 0xcf, 0xf, 1, 3, 3, 0, 0, 4294901760, [], [], "Blob 0–15"⟩,
  ⟨0x5000, 0x5000, 0xd0, 0xd0, 0xf, 0, 1, 0, 0, 16, 16, [], [], "Blob states"⟩,
  ⟨0x5000, 0x5000, 0xd1, 0xd1, 0x6, 0, 1, 0, 0, 0, 4096, [], [], "Tasks in use"⟩,
  ⟨0x5000, 0x5000, 0xd2, 0xd2, 0x6, 0, 1, 0, 28672, 0, 65535, [], [], "Free guest memory"⟩,
  ⟨0x5000, 0x5000, 0xd3, 0xd3, 0x6, 0, 1, 0, 0, 0, 256, [], [], "Facets defined"⟩]

/-- Entries of 13_disturbance_capture.md, part 1. -/
def dict13a : List Entry := [
  ⟨0x7000, 0x701f, 0x1, 0x1, 0x1, 1, 1, 3, 0, 0, 1, [], [], "Armed"⟩,
  ⟨0x7000, 0x701f, 0x2, 0x2, 0x6, 3, 1, 3, 65535, 0, 255, [65535], [], "Owner"⟩,
  ⟨0x7000, 0x701f, 0x3, 0x3, 0x5, 3, 1, 3, 0, 0, 1, [], [], "Mode"⟩,
  ⟨0x7000, 0x701f, 0x4, 0x4, 0x5, 3, 1, 3, 0, 0, 16, [], [], "Averaging exponent"⟩,
  ⟨0x7000, 0x701f, 0x5, 0x5, 0x7, 3, 1, 3, 0, 0, 4294967295, [], [], "Pre-trigger"⟩,
  ⟨0x7000, 0x701f, 0x6, 0x6, 0x7, 3, 1, 3, 1, 1, 2147483648, [], [], "Post-trigger"⟩,
  ⟨0x7000, 0x701f, 0x7, 0x7, 0x6, 3, 1, 3, 1, 1, 4096, [], [], "Allocation"⟩,
  ⟨0x7000, 0x701f, 0x8, 0x8, 0x5, 3, 1, 3, 0, 0, 1, [], [], "Retrigger"⟩,
  ⟨0x7000, 0x701f, 0x9, 0x9, 0x1, 1, 1, 3, 0, 0, 1, [], [], "Auto re-arm"⟩,
  ⟨0x7000, 0x701f, 0xa, 0xa, 0x6, 3, 1, 3, 0, 0, 2048, [], [], "Analogue count"⟩,
  ⟨0x7000, 0x701f, 0xb, 0xb, 0x6, 3, 1, 3, 0, 0, 4096, [], [], "Binary count"⟩,
  ⟨0x7000, 0x701f, 0xc, 0xc, 0x6, 3, 1, 3, 0, 0, 256, [], [], "Condition count"⟩,
  ⟨0x7000, 0x701f, 0xd, 0xd, 0x9, 3, 1, 3, 0, 0, 64, [], [], "Station name"⟩,
  ⟨0x7000, 0x701f, 0x10, 0x10, 0xf, 3, 1, 3, 0, 0, 16384, [], [], "Analogue descriptors"⟩,
  ⟨0x7000, 0x701f, 0x11, 0x11, 0xf, 3, 1, 3, 0, 0, 16384, [], [], "Binary descriptors"⟩,
  ⟨0x7000, 0x701f, 0x12, 0x12, 0xf, 3, 1, 3, 0, 0, 4096, [], [], "Trigger conditions"⟩,
  ⟨0x7000, 0x701f, 0x13, 0x13, 0xf, 3, 1, 3, 0, 0, 98304, [], [], "Channel names"⟩,
  ⟨0x7000, 0x701f, 0x14, 0x14, 0x5, 4, 1, 2, 0, 1, 1, [], [], "Manual trigger"⟩,
  ⟨0x7000, 0x701f, 0x18, 0x18, 0x5, 0, 1, 0, 0, 0, 3, [], [], "State"⟩,
  ⟨0x7000, 0x701f, 0x19, 0x19, 0x5, 0, 1, 0, 0, 0, 255, [], [], "Flags"⟩,
  ⟨0x7000, 0x701f, 0x1a, 0x1a, 0x7, 0, 1, 0, 0, 0, 4294967295, [], [], "Intervals written"⟩,
  ⟨0x7000, 0x701f, 0x1b, 0x1b, 0x7, 0, 1, 0, 0, 0, 4294967295, [], [], "Capacity"⟩,
  ⟨0x7000, 0x701f, 0x1c, 0x1c, 0x6, 0, 1, 0, 65535, 0, 256, [65535], [], "Primary trigger"⟩,
  ⟨0x7000, 0x701f, 0x1d, 0x1d, 0x1b, 0, 1, 0, 0, 0, 18446744073709551615, [], [], "Trigger row"⟩]

/-- Entries of 13_disturbance_capture.md, part 2. -/
def dict13b : List Entry := [
  ⟨0x7000, 0x701f, 0x1e, 0x1e, 0x30, 0, 1, 0, 0, 10, 10, [], [], "Trigger time"⟩,
  ⟨0x7000, 0x701f, 0x1f, 0x1f, 0x7, 0, 1, 0, 0, 0, 4294967295, [], [], "Last record ID"⟩,
  ⟨0x7000, 0x701f, 0x20, 0x20, 0x7, 0, 1, 0, 0, 0, 4294967295, [], [], "Records stored"⟩,
  ⟨0x7000, 0x701f, 0x21, 0x21, 0x6, 0, 1, 0, 0, 0, 65535, [], [], "Last result"⟩,
  ⟨0x7000, 0x7000, 0x80, 0x80, 0x6, 0, 1, 0, 4096, 0, 65535, [], [], "Pool free"⟩,
  ⟨0x7000, 0x7000, 0x81, 0x81, 0x7, 0, 1, 0, 0, 0, 4294967295, [], [], "Store free"⟩,
  ⟨0x7000, 0x7000, 0x82, 0x82, 0x7, 0, 1, 0, 0, 0, 4294967295, [], [], "Records in store"⟩,
  ⟨0x7000, 0x7000, 0x83, 0x83, 0x5, 1, 1, 3, 1, 0, 2, [], [], "Store policy"⟩,
  ⟨0x7000, 0x7000, 0x84, 0x84, 0xf, 0, 1, 0, 0, 0, 4294967295, [], [], "Store directory"⟩,
  ⟨0x7000, 0x7000, 0x85, 0x85, 0x7, 1, 1, 1, 0, 0, 4294967295, [], [], "Selected record"⟩,
  ⟨0x7000, 0x7000, 0x86, 0x86, 0xf, 0, 1, 0, 0, 0, 4294967295, [], [], "Configuration file"⟩,
  ⟨0x7000, 0x7000, 0x87, 0x87, 0xf, 0, 1, 0, 0, 0, 4294967295, [], [], "Data file"⟩,
  ⟨0x7000, 0x7000, 0x88, 0x88, 0xf, 0, 1, 0, 0, 0, 4294967295, [], [], "Information file"⟩,
  ⟨0x7000, 0x7000, 0x89, 0x89, 0x5, 4, 1, 3, 0, 1, 2, [], [], "Delete"⟩,
  ⟨0x7000, 0x7000, 0x8a, 0x8a, 0x7, 0, 1, 0, 0, 0, 4294967295, [], [], "Deleted by policy"⟩,
  ⟨0x7000, 0x7000, 0x8b, 0x8b, 0x7, 0, 1, 0, 0, 0, 4294967295, [], [], "Highest capture time"⟩]

/-- Entries of 14_redundant_pair.md, part 1. -/
def dict14a : List Entry := [
  ⟨0x8000, 0x8000, 0x1, 0x1, 0x5, 0, 1, 0, 0, 0, 3, [], [], "Own role"⟩,
  ⟨0x8000, 0x8000, 0x2, 0x2, 0x5, 0, 1, 0, 0, 0, 4, [], [], "Partner role"⟩,
  ⟨0x8000, 0x8000, 0x3, 0x3, 0x7, 0, 1, 0, 0, 0, 4294967295, [], [], "Pair flags"⟩,
  ⟨0x8000, 0x8000, 0x4, 0x4, 0x7, 0, 1, 0, 16, 0, 4294967295, [], [], "Eligibility"⟩,
  ⟨0x8000, 0x8000, 0x5, 0x5, 0x7, 0, 1, 0, 0, 0, 4294967295, [], [], "Takeovers"⟩,
  ⟨0x8000, 0x8000, 0x6, 0x6, 0x5, 0, 1, 0, 0, 0, 7, [], [], "Last takeover cause"⟩,
  ⟨0x8000, 0x8000, 0x7, 0x7, 0x7, 0, 1, 0, 0, 0, 4294967295, [], [], "Last takeover time"⟩,
  ⟨0x8000, 0x8000, 0x8, 0x8, 0x7, 0, 1, 0, 0, 0, 4294967295, [], [], "Dual claims"⟩,
  ⟨0x8000, 0x8000, 0x9, 0x9, 0x7, 0, 1, 0, 0, 0, 4294967295, [], [], "Partner firmware version"⟩,
  ⟨0x8000, 0x8000, 0xa, 0xa, 0x6, 0, 1, 0, 0, 0, 65535, [], [], "Partner mirror protocol version"⟩,
  ⟨0x8000, 0x8000, 0xb, 0xb, 0x6, 0, 1, 0, 0, 0, 65535, [], [], "Own mirror protocol version"⟩,
  ⟨0x8000, 0x8000, 0xc, 0xc, 0x5, 0, 1, 0, 0, 0, 255, [], [], "Lines read"⟩,
  ⟨0x8000, 0x8000, 0xd, 0xd, 0x5, 4, 1, 3, 0, 1, 1, [], [], "Clear"⟩,
  ⟨0x8001, 0x8001, 0x1, 0x1, 0x6, 1, 1, 3, 0, 1, 4094, [0], [], "Station blink VLAN"⟩,
  ⟨0x8001, 0x8001, 0x2, 0x2, 0x5, 1, 1, 3, 6, 0, 7, [], [], "Station blink priority"⟩,
  ⟨0x8001, 0x8001, 0x3, 0x3, 0x6, 1, 1, 3, 10, 1, 1000, [], [], "Bulk mirror period"⟩,
  ⟨0x8001, 0x8001, 0x4, 0x4, 0x6, 1, 1, 3, 100, 60, 1000, [], [], "Takeover check time"⟩,
  ⟨0x8001, 0x8001, 0x5, 0x5, 0x1, 1, 1, 3, 1, 0, 1, [], [], "Hand-back"⟩,
  ⟨0x8001, 0x8001, 0x6, 0x6, 0x6, 1, 1, 3, 5, 1, 100, [], [], "Swap acknowledgement timeout"⟩,
  ⟨0x8001, 0x8001, 0x7, 0x7, 0x5, 1, 1, 3, 0, 0, 1, [], [], "Preferred lane"⟩,
  ⟨0x8002, 0x8002, 0x1, 0x1, 0x5, 4, 1, 3, 0, 1, 1, [], [], "Planned swap"⟩,
  ⟨0x8002, 0x8002, 0x2, 0x2, 0x5, 4, 1, 3, 0, 1, 1, [], [], "Clear takeover fault"⟩,
  ⟨0x8002, 0x8002, 0x3, 0x3, 0x5, 4, 1, 3, 0, 1, 1, [], [], "Leave safe hold"⟩,
  ⟨0x8002, 0x8002, 0x4, 0x4, 0x5, 4, 1, 3, 0, 1, 1, [], [], "Force ownership"⟩]

/-- Entries of 14_redundant_pair.md, part 2. -/
def dict14b : List Entry := [
  ⟨0x8002, 0x8002, 0x5, 0x5, 0x5, 4, 1, 3, 0, 1, 1, [], [], "Resynchronise"⟩,
  ⟨0x8003, 0x8003, 0x1, 0xe, 0x1b, 0, 1, 0, 0, 0, 18446744073709551615, [], [], "Mirror counters"⟩,
  ⟨0x8004, 0x8004, 0x1, 0x1, 0x7, 0, 1, 0, 0, 0, 4294967295, [], [], "Tick budget"⟩,
  ⟨0x8004, 0x8004, 0x2, 0x2, 0x7, 0, 1, 0, 0, 0, 4294967295, [], [], "Tick worst case"⟩,
  ⟨0x8004, 0x8004, 0x3, 0x3, 0x7, 0, 1, 0, 0, 0, 4294967295, [], [], "Bulk backlog"⟩,
  ⟨0x8020, 0x8023, 0x1, 0x40, 0x5, 1, 1, 3, 0, 0, 2, [], [], "Facet mirror class"⟩]

/-- Entries of 15_afterglow_health.md, part 1. -/
def dict15a : List Entry := [
  ⟨0x9000, 0x9000, 0x1, 0x1, 0x1b, 0, 1, 0, 0, 0, 18446744073709551615, [], [], "Next sequence"⟩,
  ⟨0x9000, 0x9000, 0x2, 0x2, 0x1b, 0, 1, 0, 0, 0, 18446744073709551615, [], [], "Oldest held"⟩,
  ⟨0x9000, 0x9000, 0x3, 0x3, 0x7, 0, 1, 0, 0, 0, 1048576, [], [], "Records held"⟩,
  ⟨0x9000, 0x9000, 0x4, 0x4, 0x5, 0, 1, 0, 0, 0, 3, [], [], "Log state"⟩,
  ⟨0x9000, 0x9000, 0x5, 0x5, 0x1b, 0, 1, 0, 0, 0, 18446744073709551615, [], [], "Last exported"⟩,
  ⟨0x9000, 0x9000, 0x6, 0x6, 0x1b, 0, 1, 0, 0, 0, 18446744073709551615, [], [], "Records suppressed"⟩,
  ⟨0x9000, 0x9000, 0x7, 0x7, 0x1b, 0, 1, 0, 0, 0, 18446744073709551615, [], [], "Records lost"⟩,
  ⟨0x9000, 0x9000, 0x8, 0x8, 0x7, 0, 1, 0, 0, 0, 4294967295, [], [], "Log memory errors"⟩,
  ⟨0x9000, 0x9000, 0x9, 0x9, 0x5, 0, 1, 0, 0, 0, 16, [], [], "Bank entries valid"⟩,
  ⟨0x9000, 0x9000, 0xa, 0xa, 0x5, 4, 1, 4, 0, 1, 1, [], [], "Clear log"⟩,
  ⟨0x9001, 0x9001, 0x1, 0x1, 0x1b, 1, 1, 1, 0, 0, 18446744073709551615, [], [], "Cursor"⟩,
  ⟨0x9001, 0x9001, 0x2, 0x2, 0xf, 0, 1, 0, 0, 1024, 1024, [], [], "Window"⟩,
  ⟨0x9001, 0x9001, 0x3, 0x3, 0x1b, 0, 1, 0, 0, 0, 18446744073709551615, [], [], "Window status"⟩,
  ⟨0x9001, 0x9001, 0x4, 0x4, 0x1b, 0, 1, 0, 0, 0, 18446744073709551615, [], [], "Skipped"⟩,
  ⟨0x9001, 0x9001, 0x5, 0x5, 0x1b, 0, 1, 0, 0, 0, 18446744073709551615, [], [], "Resume"⟩,
  ⟨0x9010, 0x9010, 0x1, 0x1, 0x5, 0, 1, 0, 0, 0, 3, [], [], "Health flags"⟩,
  ⟨0x9010, 0x9010, 0x2, 0x2, 0x1b, 0, 1, 0, 0, 0, 18446744073709551615, [], [], "Warning causes"⟩,
  ⟨0x9010, 0x9010, 0x3, 0x3, 0x1b, 0, 1, 0, 0, 0, 18446744073709551615, [], [], "Fault causes"⟩,
  ⟨0x9010, 0x9010, 0x4, 0x4, 0x1b, 0, 1, 0, 0, 0, 18446744073709551615, [], [], "Latched causes"⟩,
  ⟨0x9010, 0x9010, 0x5, 0x5, 0x1b, 4, 1, 2, 0, 0, 18446744073709551615, [], [], "Acknowledge"⟩,
  ⟨0x9010, 0x9010, 0x6, 0x6, 0xf, 0, 1, 0, 0, 256, 256, [], [], "Health report"⟩,
  ⟨0x9010, 0x9010, 0x7, 0x7, 0xf, 0, 1, 0, 0, 256, 256, [], [], "Partner report"⟩,
  ⟨0x9010, 0x9010, 0x8, 0x8, 0x7, 0, 1, 0, 4294967295, 0, 4294967295, [], [], "Partner report age"⟩,
  ⟨0x9010, 0x9010, 0x9, 0x9, 0x5, 0, 1, 0, 0, 0, 3, [], [], "Partner report status"⟩]

/-- Entries of 15_afterglow_health.md, part 2. -/
def dict15b : List Entry := [
  ⟨0x9010, 0x9010, 0xa, 0xa, 0x6, 1, 1, 3, 100, 1, 10000, [], [], "DDR correctable limit"⟩]

/-- Entries of 16_cabinet_bus.md, part 1. -/
def dict16a : List Entry := [
  ⟨0xb000, 0xb001, 0x1, 0x1, 0x1, 1, 1, 3, 1, 0, 1, [], [], "Enabled"⟩,
  ⟨0xb000, 0xb000, 0x2, 0x2, 0x5, 3, 1, 3, 1, 1, 254, [], [], "Node, slot A"⟩,
  ⟨0xb001, 0xb001, 0x2, 0x2, 0x5, 3, 1, 3, 3, 1, 254, [], [], "Node, slot A"⟩,
  ⟨0xb000, 0xb000, 0x3, 0x3, 0x5, 3, 1, 3, 2, 1, 254, [], [], "Node, slot B"⟩,
  ⟨0xb001, 0xb001, 0x3, 0x3, 0x5, 3, 1, 3, 4, 1, 254, [], [], "Node, slot B"⟩,
  ⟨0xb000, 0xb001, 0x4, 0x4, 0x5, 3, 1, 3, 2, 1, 32, [], [], "Nominal prescaler"⟩,
  ⟨0xb000, 0xb001, 0x5, 0x5, 0x5, 3, 1, 3, 63, 2, 255, [], [], "NTSEG1"⟩,
  ⟨0xb000, 0xb001, 0x6, 0x6, 0x5, 3, 1, 3, 16, 1, 128, [], [], "NTSEG2"⟩,
  ⟨0xb000, 0xb001, 0x7, 0x7, 0x1, 3, 1, 3, 1, 0, 1, [], [], "Bit rate switch"⟩,
  ⟨0xb000, 0xb001, 0x8, 0x8, 0x5, 3, 1, 3, 1, 1, 32, [], [], "Data prescaler"⟩,
  ⟨0xb000, 0xb001, 0x9, 0x9, 0x5, 3, 1, 3, 31, 1, 31, [], [], "DTSEG1"⟩,
  ⟨0xb000, 0xb001, 0xa, 0xa, 0x5, 3, 1, 3, 8, 1, 16, [], [], "DTSEG2"⟩,
  ⟨0xb000, 0xb001, 0xb, 0xb, 0x5, 3, 1, 3, 16, 1, 128, [], [], "NSJW"⟩,
  ⟨0xb000, 0xb001, 0xc, 0xc, 0x5, 3, 1, 3, 8, 1, 16, [], [], "DSJW"⟩,
  ⟨0xb000, 0xb001, 0xd, 0xd, 0x5, 3, 1, 3, 0, 1, 127, [0], [], "Delay compensation offset"⟩,
  ⟨0xb000, 0xb001, 0xe, 0xe, 0x1, 1, 1, 3, 0, 0, 1, [], [], "Restricted operation"⟩,
  ⟨0xb000, 0xb001, 0xf, 0xf, 0x5, 1, 1, 3, 64, 1, 255, [], [], "No-acknowledge limit"⟩,
  ⟨0xb000, 0xb001, 0x10, 0x10, 0x5, 4, 1, 2, 0, 1, 1, [], [], "Recover from bus-off"⟩,
  ⟨0xb000, 0xb001, 0x11, 0x11, 0x5, 0, 1, 0, 0, 0, 5, [], [], "State"⟩,
  ⟨0xb000, 0xb001, 0x12, 0x12, 0x6, 0, 1, 0, 0, 0, 256, [], [], "Transmit error counter"⟩,
  ⟨0xb000, 0xb001, 0x13, 0x13, 0x5, 0, 1, 0, 0, 0, 128, [], [], "Receive error counter"⟩,
  ⟨0xb000, 0xb001, 0x14, 0x14, 0x5, 0, 1, 0, 0, 0, 255, [], [], "Last error"⟩,
  ⟨0xb000, 0xb001, 0x15, 0x15, 0x1b, 0, 1, 0, 0, 0, 18446744073709551615, [], [], "Frames sent"⟩,
  ⟨0xb000, 0xb001, 0x16, 0x16, 0x1b, 0, 1, 0, 0, 0, 18446744073709551615, [], [], "Frames received"⟩]

/-- Entries of 16_cabinet_bus.md, part 2. -/
def dict16b : List Entry := [
  ⟨0xb000, 0xb001, 0x17, 0x17, 0x1b, 0, 1, 0, 0, 0, 18446744073709551615, [], [], "Error frames"⟩,
  ⟨0xb000, 0xb001, 0x18, 0x18, 0x1b, 0, 1, 0, 0, 0, 18446744073709551615, [], [], "FIFO 0 overflows"⟩,
  ⟨0xb000, 0xb001, 0x19, 0x19, 0x1b, 0, 1, 0, 0, 0, 18446744073709551615, [], [], "FIFO 1 overflows"⟩,
  ⟨0xb000, 0xb001, 0x1a, 0x1a, 0x1b, 0, 1, 0, 0, 0, 18446744073709551615, [], [], "Late cancels"⟩,
  ⟨0xb000, 0xb001, 0x1b, 0x1b, 0x1b, 0, 1, 0, 0, 0, 18446744073709551615, [], [], "Administration discards"⟩,
  ⟨0xb000, 0xb001, 0x1c, 0x1c, 0x1b, 0, 1, 0, 0, 0, 18446744073709551615, [], [], "No-peer aborts"⟩,
  ⟨0xb000, 0xb001, 0x1d, 0x1d, 0x1b, 0, 1, 0, 0, 0, 18446744073709551615, [], [], "Stale response segments"⟩,
  ⟨0xb000, 0xb001, 0x1e, 0x1e, 0x7, 0, 1, 0, 0, 0, 4294967295, [], [], "Bus-off events"⟩,
  ⟨0xb000, 0xb001, 0x1f, 0x1f, 0x5, 4, 1, 3, 0, 1, 1, [], [], "Clear"⟩]

/-- Entries of 17_security_tamper.md, part 1. -/
def dict17a : List Entry := [
  ⟨0xa000, 0xa000, 0x1, 0x1, 0x5, 0, 1, 0, 0, 0, 3, [], [], "Provisioning state"⟩,
  ⟨0xa000, 0xa000, 0x2, 0x2, 0xf, 0, 1, 0, 0, 60, 60, [], [], "Identity public key"⟩,
  ⟨0xa000, 0xa000, 0x3, 0x3, 0xf, 0, 1, 0, 0, 32, 32, [], [], "Identity digest"⟩,
  ⟨0xa000, 0xa000, 0x4, 0x4, 0x7, 0, 1, 0, 0, 0, 4294967295, [], [], "Leaf counter"⟩,
  ⟨0xa000, 0xa000, 0x5, 0x5, 0x7, 0, 1, 0, 0, 0, 4294967295, [], [], "Leaves left"⟩,
  ⟨0xa000, 0xa000, 0x6, 0x6, 0xf, 0, 1, 0, 0, 32, 32, [], [], "Firmware root digest"⟩,
  ⟨0xa000, 0xa000, 0x7, 0x7, 0x7, 0, 1, 0, 0, 0, 4294967295, [], [], "Security version floor"⟩,
  ⟨0xa000, 0xa000, 0x8, 0x8, 0xf, 0, 1, 0, 0, 32, 32, [], [], "Owner root digest"⟩,
  ⟨0xa000, 0xa000, 0x9, 0x9, 0x5, 0, 1, 0, 4, 0, 4, [], [], "Owner slots left"⟩,
  ⟨0xa001, 0xa001, 0x1, 0x2, 0xf, 1, 1, 4, 0, 60, 60, [], [], "Configuration root"⟩,
  ⟨0xa010, 0xa010, 0x1, 0x1, 0xf, 4, 0, 2, 0, 32, 32, [], [], "Attestation nonce"⟩,
  ⟨0xa010, 0xa010, 0x2, 0x2, 0xf, 0, 1, 0, 0, 5652, 5652, [], [], "Attestation report"⟩,
  ⟨0xa010, 0xa010, 0x3, 0x3, 0x5, 0, 1, 0, 0, 0, 3, [], [], "Report state"⟩,
  ⟨0xa010, 0xa010, 0x4, 0x4, 0x6, 0, 1, 0, 0, 0, 65535, [], [], "Last attestation result"⟩,
  ⟨0xa020, 0xa020, 0x1, 0x1, 0xf, 1, 1, 4, 0, 32, 32, [], [], "Bound partner identity"⟩,
  ⟨0xa020, 0xa020, 0x2, 0x2, 0xf, 0, 1, 0, 0, 32, 32, [], [], "Partner identity received"⟩,
  ⟨0xa020, 0xa020, 0x3, 0x3, 0x5, 0, 1, 0, 0, 0, 3, [], [], "Partner identity state"⟩,
  ⟨0xa020, 0xa020, 0x4, 0x4, 0x5, 4, 1, 4, 0, 1, 3, [], [], "Binding command"⟩,
  ⟨0xa020, 0xa020, 0x5, 0x5, 0xf, 2, 0, 4, 0, 36, 36, [], [], "Mirror key"⟩,
  ⟨0xa020, 0xa020, 0x6, 0x6, 0x7, 0, 1, 0, 0, 0, 4294967295, [], [], "Mirror key epoch"⟩,
  ⟨0xa020, 0xa020, 0x7, 0x7, 0x7, 0, 1, 0, 0, 0, 4294967295, [], [], "Pending epoch"⟩,
  ⟨0xa020, 0xa020, 0x8, 0x8, 0xf, 2, 0, 4, 0, 32, 32, [], [], "Migration key"⟩,
  ⟨0xa030, 0xa030, 0x1, 0x1, 0x5, 0, 1, 0, 0, 0, 1, [], [], "Tamper state"⟩,
  ⟨0xa030, 0xa030, 0x2, 0x2, 0x7, 0, 1, 0, 0, 0, 4294967295, [], [], "Tamper events"⟩]

/-- Entries of 17_security_tamper.md, part 2. -/
def dict17b : List Entry := [
  ⟨0xa030, 0xa030, 0x3, 0x3, 0x5, 0, 1, 0, 0, 0, 31, [], [], "Last event sensors"⟩,
  ⟨0xa030, 0xa030, 0x4, 0x4, 0x30, 0, 1, 0, 0, 10, 10, [], [], "Last event time"⟩,
  ⟨0xa030, 0xa030, 0x5, 0x5, 0x3, 0, 1, 0, 0, (-32768), 32767, [], [], "PD0 board temperature"⟩,
  ⟨0xa040, 0xa040, 0x1, 0x1, 0xf, 0, 1, 0, 0, 64, 64, [], [], "Unlock challenge"⟩,
  ⟨0xa040, 0xa040, 0x2, 0x2, 0xf, 2, 0, 1, 0, 0, 32768, [], [], "Unlock response"⟩,
  ⟨0xa040, 0xa040, 0x3, 0x3, 0x5, 0, 1, 0, 0, 0, 1, [], [], "Debug port state"⟩,
  ⟨0xa040, 0xa040, 0x4, 0x4, 0x5, 4, 1, 5, 0, 1, 1, [], [], "Lock debug port"⟩,
  ⟨0xa050, 0xa050, 0x1, 0x1, 0x5, 4, 1, 5, 0, 1, 1, [], [], "Generate identity"⟩,
  ⟨0xa050, 0xa050, 0x2, 0x2, 0xf, 2, 0, 5, 0, 0, 65536, [], [], "Provisioning bundle"⟩]

/-- The parts of the dictionary with the lowest and highest index of each. -/
def dictionary : List (Nat × Nat × List Entry) := [
  (0x1800, 0x1803, dict02a),
  (0xc000, 0xc011, dict03a),
  (0xc030, 0xc030, dict03b),
  (0x1000, 0x112f, dict04a),
  (0x1110, 0x1140, dict04b),
  (0x3000, 0x3010, dict05a),
  (0x3010, 0x310f, dict05b),
  (0x3100, 0x3123, dict05c),
  (0x2000, 0x2033, dict06a),
  (0x2000, 0x2407, dict06b),
  (0x2400, 0x2407, dict06c),
  (0x2400, 0x2440, dict06d),
  (0x2440, 0x2533, dict06e),
  (0x2600, 0x2700, dict06f),
  (0x4000, 0x43ff, dict07a),
  (0x4000, 0x47f0, dict07b),
  (0x47f0, 0x47f0, dict07c),
  (0x4400, 0x471f, dict08a),
  (0x4700, 0x47e0, dict08b),
  (0x4800, 0x59ff, dict09a),
  (0x5800, 0x59ff, dict09b),
  (0x5800, 0x6fff, dict09c),
  (0x5400, 0x57ff, dict10a),
  (0x5400, 0xb07f, dict11a),
  (0xb040, 0xb07f, dict11b),
  (0x5000, 0x50ff, dict12a),
  (0x5000, 0x50ff, dict12b),
  (0x7000, 0x701f, dict13a),
  (0x7000, 0x701f, dict13b),
  (0x8000, 0x8002, dict14a),
  (0x8002, 0x8023, dict14b),
  (0x9000, 0x9010, dict15a),
  (0x9010, 0x9010, dict15b),
  (0xb000, 0xb001, dict16a),
  (0xb000, 0xb001, dict16b),
  (0xa000, 0xa030, dict17a),
  (0xa030, 0xa050, dict17b)]

/-- The row that covers an index and subindex. -/
def findEntry (index sub : Nat) : List Entry → Option Entry
  | [] => none
  | e :: l =>
    if e.lo ≤ index ∧ index ≤ e.hi ∧ e.s0 ≤ sub ∧ sub ≤ e.s1 then some e else findEntry index sub l

/-- As `findEntry`, over the parts whose indices take the index in. -/
def findPart (index sub : Nat) : List (Nat × Nat × List Entry) → Option Entry
  | [] => none
  | (lo, hi, es) :: l =>
    if lo ≤ index ∧ index ≤ hi then
      match findEntry index sub es with
      | some e => some e
      | none => findPart index sub l
    else findPart index sub l

/-- The attributes of the entry with key index × 256 + subindex. -/
def entryOf (key : Nat) : Option Entry := findPart (key / 256) (key % 256) dictionary

/-- The default of a numeric entry (0 where its table gives none, log 1). -/
def entryDefault (key : Nat) : Int :=
  match entryOf key with
  | some e => e.dflt
  | none => 0

/-- The highest subindex of an index: the value of its subindex 0 (R81), none where the index does not exist. -/
def topSub (index : Nat) : Option Nat :=
  (dictionary.flatMap fun p => p.2.2).foldl
    (fun acc e => if e.lo ≤ index ∧ index ≤ e.hi then
      match acc with
      | none => some e.s1
      | some m => some (if m < e.s1 then e.s1 else m)
     else acc) none

end Sys2Proof.Machine
end

