-- ==== Sys2Proof/Machine/State.lean ====
section
/-! DEFINITION. The state of the module as plain data, the reasons a command can stop, and the state after
reset. Every field follows the chapter of the spec that its docstring names. -/

namespace Sys2Proof.Machine

/-- The byte memory of the module: address and byte pairs, addresses strictly rising, no entry equal to what an
unlisted address reads as (`Memory.wf`). -/
abbrev Mem := List Host.Cell

/-- What answered the last command: a result code and the payload of the answer, and the whole messages of the Management
Access Protocol that the module sent to its client, each with its header, oldest first (R96; the model's own field, log 2). -/
structure Reply where
  code : Nat
  payload : ByteList
  msgs : List ByteList
  deriving DecidableEq, Repr, Inhabited

/-- Who asks: the role held, the session or client, and the path (R84, R94, R105). -/
structure Requester where
  role : Nat
  /-- the session number, or 512 plus the source node of a cabinet client; also the key of its log window -/
  who : Nat
  cabinet : Bool
  deriving DecidableEq, Repr, Inhabited

/-- Stages of the supply sequence (R32 to R38, R45). -/
inductive Stage where
  /-- no VIN_IO qualified: PD1 off -/
  | off
  /-- standby management only -/
  | standby
  /-- hot-swap on, power-on order of Table 2.5 running -/
  | rising
  /-- all domains up -/
  | up
  /-- power-fail sequence of Table 2.7 running, from its 2 µs row -/
  | failing
  deriving DecidableEq, Repr, Inhabited

/-- State of a power domain (0x1801). -/
inductive DomState where
  | off | ramping | testing | on | failed
  deriving DecidableEq, Repr, Inhabited

/-- Supplies, pins, domains and fast direct I/O (chapter 2). Levels are the measured input levels in mV and
0.1 °C where a command carries one; `inlet` is the last inlet reading reported. `crossing` holds the rows of Table 2.6
whose threshold is crossed and not yet qualified, oldest first (R36), `cause` the row of the power-fail sequence in
progress, 9 for a thermal shutdown; `riseStep` counts the steps of the power-on order done (Table 2.5). `thermal` is
0x1803:06. -/
structure Power where
  stage : Stage
  riseStep : Nat
  crossing : List Nat
  cause : Nat
  thermal : Nat
  junction : Int
  inlet : Option Int
  mains : Nat
  ana : Nat
  io : Nat
  bat : Nat
  mainOv : Bool
  ioLost : Bool
  batLow : Bool
  batAbsent : Bool
  inletRange : Bool
  strapConflict : Bool
  strapLevel : Option Bool
  pwrEn : Bool
  restartAsked : Bool
  anaOk : Bool
  pgood : Bool
  pfailN : Bool
  thermAlertN : Bool
  dom : Map DomState
  violations : Nat
  violationPending : Bool
  powerFails : Nat
  latch : Bool
  slotB : Bool
  fdoSwitches : Bool
  fdo : Nat
  fdi : Nat
  oselOwn : Bool
  oselFb : Bool
  peerPresentN : Bool
  ocxoWarm : Bool
  framesStopped : Bool
  gasped : Bool
  pulses : Nat
  deriving DecidableEq, Repr, Inhabited

/-- A firmware slot (R59, R70): valid header with its verified header fields, or invalid; the image written to it, empty
in a slot that was programmed at manufacture (log 1). -/
structure FwSlot where
  hdr : Option FwHeader
  image : ByteList
  deriving DecidableEq, Repr, Inhabited

/-- One copy of the boot record (R59). -/
structure BootRecord where
  seq : Nat
  good : Bool
  committed : Nat
  trial : Option Nat
  attempts : Nat
  /-- 0 none, 1 pending, 2 previous configuration image marked for activation (R74) -/
  marked : Nat
  deriving DecidableEq, Repr, Inhabited

/-- Start-up, resets, firmware and configuration (chapter 3). `phase` is 0xC000:01 (0 before phase 1); `held` is
set while a chassis reset keeps the steward halted; `lastClass` is 0xC000:04, and `startClass` the class of the reset that
this start follows; `waited` tells that the wait of phase 6 has elapsed once;
`awaited` holds the autostart facets of phase 9 that are not yet ready and whose deadline has not expired. -/
structure Boot where
  phase : Nat
  held : Bool
  recA : BootRecord
  recB : BootRecord
  slotA : FwSlot
  slotB : FwSlot
  floor : Nat
  booted : Nat
  bootState : Nat
  failedSlots : List Nat
  lastClass : Nat
  startClass : Nat
  waited : Bool
  resetCount : Nat
  startedAt : Nat
  startTime : Nat
  inst : Nat
  instOwner : Nat
  instBytes : Nat
  instResult : Nat
  active : CfgImage
  pending : Option CfgImage
  previous : Option CfgImage
  activeRaw : ByteList
  pendingRaw : ByteList
  previousRaw : ByteList
  pend : Nat
  pendOwner : Nat
  cfgResult : Nat
  cfgBad : Bool
  lensDue : Bool
  launched : Bool
  awaited : List Nat
  swapThenReset : Bool
  trialSince : Option Nat
  deriving DecidableEq, Repr, Inhabited

/-- A segmented transfer (R98, R99, R104): download or upload, the entry, its total length, the next segment
expected, the segments discarded, and the data received or the snapshot sent. -/
structure Transfer where
  down : Bool
  key : Nat
  total : Nat
  next : Nat
  discarded : Nat
  data : ByteList
  deriving DecidableEq, Repr, Inhabited

/-- An executed request that the duplicate window keeps (R97): identifier, digest of the request, header of its response
without result and length, response. -/
structure Executed where
  tid : Nat
  digest : ByteList
  head : ByteList
  code : Nat
  payload : ByteList
  msgs : List ByteList
  deriving DecidableEq, Repr, Inhabited

/-- An open session (R95, R97): identity record number (32 on the debug port), role, last executed ID, window
of at most 64 executed requests (newest first), transfer in progress. -/
structure Session where
  record : Nat
  role : Nat
  lastId : Option Nat
  window : List Executed
  transfer : Option Transfer
  deriving DecidableEq, Repr, Inhabited

/-- A lock of an index range (R92). -/
structure Lock where
  sess : Nat
  first : Nat
  last : Nat
  deriving DecidableEq, Repr, Inhabited

/-- What the module keeps for a cabinet source node (R104). -/
structure CabClient where
  toggle : Bool
  request : ByteList
  response : ByteList
  transfer : Option Transfer
  deriving DecidableEq, Repr, Inhabited

/-- A write forwarded to the standby and not yet acknowledged (R93): its number, its items, who gets the answer. -/
structure Forward where
  count : Nat
  items : ValList
  req : Requester
  deriving DecidableEq, Repr, Inhabited

/-- One of the two copies of the saved overlay (R86): sequence number, fingerprint recorded with it, its entries, and its
CRC-32. -/
structure SavedOverlay where
  seq : Nat
  fingerprint : ByteList
  items : Map Val
  crc : Nat
  deriving DecidableEq, Repr, Inhabited

/-- A dictionary operation that waits for the one in progress (R91): a protocol message with its opcode, a cabinet request with
its command, or the write, the read or the segment of a download that a command names. -/
inductive Waiting where
  | map (op : Nat) (m : MapMsg)
  | cabinet (cmd : Nat) (r : CabReq)
  | write (q : Requester) (key : Nat) (v : Val)
  | read (q : Requester) (key : Nat)
  | segment (sess key : Nat) (data : ByteList)
  deriving DecidableEq, Repr

/-- Management access: sessions (by number 0 to 7), locks, cabinet clients (by node), the overlay and the two copies of the
saved overlay, the R450 flag, the values the active image sets, forwards; the UDP port and the VLAN in force (R107), and the
operations that wait while a forwarded write is on its way (R91). -/
structure Access where
  sessions : Map Session
  locks : List Lock
  clients : Map CabClient
  image : Map Val
  overlay : Map Val
  copyA : Option SavedOverlay
  copyB : Option SavedOverlay
  savedDiscarded : Bool
  fingerprint : ByteList
  overlayResult : Nat
  repeats : Nat
  failedHandshakes : Nat
  forwardsSent : List (Nat × ValList)
  forwardCount : Nat
  applied : Nat
  pendingForwards : List Forward
  waiting : List Waiting
  port : Nat
  vlan : Nat
  deriving DecidableEq, Repr, Inhabited

def Access.reset : Access := { (default : Access) with port := 4731, vlan := 1 }

/-- The settings that an armed output runs with (R127, R128). -/
structure TpoRun where
  mode : Nat
  start : Nat
  period : Nat
  width : Nat
  count : Nat
  div : Nat
  deriving DecidableEq, Repr, Inhabited

/-- A time pulse output (R125 to R130): the run in progress, the NS64 time of its next edge, pulses produced,
whether a pulse is in progress and whether it was suppressed, a change waiting for the end of the pulse (none inside:
Off), the owner in force and one waiting, count run out, late and gated counts, last result code, START as last accepted, a
forward step that has passed the next edge, and the polarity of the pulse in progress. -/
structure Tpo where
  run : Option TpoRun
  next : Nat
  done : Nat
  pulse : Bool
  muted : Bool
  change : Option (Option TpoRun)
  owner : Nat
  newOwner : Option Nat
  finished : Bool
  late : Nat
  gated : Nat
  result : Nat
  startReg : Nat
  passed : Bool
  activeLow : Bool
  deriving DecidableEq, Repr, Inhabited

/-- A time capture input (R131): stamps in units of 0.25 ns, oldest first, the last edge on the monotonic count in the same
units, overflow, deviation. -/
structure Tci where
  queue : List Nat
  last : Option Nat
  overflow : Nat
  deviation : Int
  deriving DecidableEq, Repr, Inhabited

/-- A PTP port (R114 to R117): state code, the last Announce of each foreign master heard on it, a two-step Sync that awaits
its Follow_Up with its reception stamp in units of 0.25 ns, mean link delay, discarded messages, sequence numbers of Sync,
Announce and Pdelay_Req, messages sent, delay responses; the last Sync, Follow_Up, Announce and delay response sent; and of
a Sync forwarded with two-step transmit its sequence and the residence time in units of 0.25 ns that its Follow_Up takes. -/
structure PtpPort where
  state : Nat
  foreign : List AnnounceMsg
  pending : Option (SyncMsg × Int)
  delay : Int
  discarded : Nat
  seqSync : Nat
  seqAnnounce : Nat
  seqPdelay : Nat
  sent : Nat
  responses : Nat
  lastSync : Option SyncMsg
  lastFollowUp : Option FollowUpMsg
  lastAnnounce : Option AnnounceMsg
  lastResponse : Option PdelayRespMsg
  carried : Option (Nat × Nat)
  deriving DecidableEq, Repr, Inhabited

/-- The time unit (chapter 5). `frac` and `monoFrac` are in units of 2^-32 ns, `corr` in units of 2^-32 ns per
CLK_TIME cycle: the frequency estimate `freq` and the extra rate of slewing (R119), with the corrections superseded in the
last 64 s; offsets in ns. `master` is the Announce of the selected master, `altOffset` the stored
ALTERNATE_TIME_OFFSET_INDICATOR TLV (Table 5.1). `rtc` is the PD0 real-time counter, `rtcPhase` its count within the second
in units of 1/64 ns, and `rtcSet` whether it was ever set (R112). -/
structure Time where
  sec : Nat
  ns : Nat
  frac : Nat
  mono : Nat
  monoFrac : Nat
  corr : Int
  freq : Int
  corrHist : List (Nat × Int)
  servo : Nat
  degraded : Bool
  lockedOnce : Bool
  lockedAt : Option Nat
  frozenAt : Option Nat
  filter : List Int
  aside : List Int
  lockRun : Nat
  withinRun : Nat
  loaded : Option Int
  accepted : Option Int
  steps : Nat
  outliers : Nat
  utc : Int
  gm : Nat
  gmClass : Nat
  gmPriority1 : Nat
  stepsRemoved : Nat
  parent : Option (Nat × Nat)
  master : Option AnnounceMsg
  altOffset : ByteList
  slavePort : Option Nat
  gmChanges : Nat
  inaccuracy : Nat
  ports : Map PtpPort
  tpo : Map Tpo
  tci : Map Tci
  rtc : Nat
  rtcPhase : Nat
  rtcSet : Bool
  deriving DecidableEq, Repr, Inhabited

/-- A frame that the fabric holds or receives (R138, R144): class, ingress stamp on the monotonic count in units of 0.25 ns,
stream table position (none: unmatched), VID and priority (R148), PRP trailer received, sequence number of each pair it is
sent into (R167), quarter bytes received, tail seen, bad-tail mark, the source of each cell taken so far (0 class reserve, 1
shared pool, 2 completion reserve), the cells given back, destinations, and fabric replication. -/
structure Frame where
  head : FrameHead
  cls : Nat
  stamp : Nat
  entry : Option Nat
  vid : Nat
  prio : Nat
  rct : Option (Nat × Nat)
  pairSeq : Map Nat
  received : Nat
  tail : Bool
  bad : Bool
  cells : List Nat
  freed : Nat
  outs : List Nat
  multi : Bool
  deriving DecidableEq, Repr, Inhabited

/-- A frame as an egress MAC sends it or an internal port takes it (R148 rule 4, R153, R167): its head with the tags it
leaves with, its PRP trailer, and whether its FCS is good. -/
structure SentFrame where
  head : FrameHead
  rct : Option (Nat × Nat)
  good : Bool
  deriving DecidableEq, Repr, Inhabited

/-- The copy of a frame for one output: the frame's number in the fabric, the output, the cells that have been
matched and those that have crossed. -/
structure Copy where
  fr : Nat
  out : Nat
  sent : Nat
  crossed : Nat
  deriving DecidableEq, Repr, Inhabited

/-- The egress of an external port: cells that wait for the wire (frame number, quarter bytes left, tail), the
frame being sent, and the quarter bytes of preamble and gap still owed. -/
structure Egress where
  fifo : List (Nat × Nat × Bool)
  current : Option Nat
  gap : Nat
  deriving DecidableEq, Repr, Inhabited

/-- A node table entry (R168): the window of accepted sequence numbers, newest first, and the monotonic counts of
the last refresh and the last sight. -/
structure Node where
  window : List Nat
  refreshed : Nat
  seen : Nat
  deriving DecidableEq, Repr, Inhabited

/-- Counters of one port and class: Table 6.6, and the eight residence counts. -/
structure ClassBlock where
  sent : Nat
  discarded : Nat
  highest : Nat
  minNs : Nat
  maxNs : Nat
  counts : Map Nat
  deriving DecidableEq, Repr, Inhabited

/-- The switch fabric (chapter 6). `link` is :02 by port, `upAt` the monotonic count at which a link came up within its hold
(R158), `classSet` the class settings in force in this cell time (R145), `rx` the frame number in reception by port, `copies`
hold every queued copy in arrival order, `held` the heads of internal sources that admission holds back, each with its tail
once it is in (R146), `sent` the last frame handed to each egress,
`setups` and `joins` the streams (R151) as frame number, input and output, `flight` the cells that the crossbar carries in this cell
time, `grantPtr` and `acceptPtr` the pointers of R141 by port × 16 + class (8 for STREAM), `credit` the weighted
round robin by output × 8 + class, `closing` the ports whose disabling waits for a frame's end (R159). Tables are
held by position, VLANs by VID; the node table by pair × 2^48 + MAC. -/
structure Fabric where
  link : Map Nat
  upAt : Map Nat
  classSet : Map Int
  nextFrame : Nat
  frames : Map Frame
  rx : Map Nat
  copies : List Copy
  held : List (FrameHead × Option FrameTail)
  setups : List (Nat × Nat × Nat)
  joins : List (Nat × Nat × Nat)
  flight : List (Nat × Nat × Nat)
  egress : Map Egress
  sent : Map SentFrame
  grantPtr : Map Nat
  acceptPtr : Map Nat
  credit : Map Nat
  closing : List Nat
  block : Map ClassBlock
  highCells : Map Nat
  fdb : Map Nat
  streamTab : Map Nat
  vlans : Map Nat
  nodes : Map Node
  proxies : List (Nat × Nat)
  txSeq : Map Nat
  suspects : List (Nat × Nat)
  deriving DecidableEq, Repr, Inhabited

/-- A source sample of a resampled stream (R185): source sample number since the epoch, values of the selected
channels, received quality words, and which of them are invalid. -/
structure SrcSample where
  idx : Nat
  vals : List Int
  qual : List Nat
  bad : List Bool
  deriving DecidableEq, Repr, Inhabited

/-- A subscribed stream of the Lens (R175 to R191). `state` is :0C; `cnt` holds the counters :10 to :22 by
subindex; `history` holds source samples newest first; the stream is
expected from row `expFrom` on. -/
structure Stream where
  state : Nat
  expFrom : Nat
  last : Option Nat
  lastPlaced : Nat
  lastSynch : Nat
  usingSim : Bool
  miss : Nat
  offset : Option Nat
  good : Nat
  bad : Nat
  arrivalMode : Bool
  history : List SrcSample
  srcMiss : Nat
  cnt : Map Nat
  deriving DecidableEq, Repr, Inhabited

/-- A frequency group as it stood at a seal (R200): F as binary32, holding or reverted, clamped. -/
structure RowFreq where
  freq : Nat
  held : Bool
  limit : Bool
  deriving DecidableEq, Repr, Inhabited

/-- A row that the Lens has opened (R173): number, tick instant, absolute tick (second × f + k), seal deadline,
first after a discontinuity, the settings in force at its opening, streams delivered into it, and those disabled since it
opened before they delivered (R195); from its seal on, the frequency groups as they stood at it. -/
structure Row where
  num : Nat
  inst : Nat
  tick : Nat
  deadline : Nat
  disc : Bool
  oos : Bool
  cfg : Map Int
  delivered : List Nat
  off : List Nat
  freqs : Map RowFreq
  deriving DecidableEq, Repr, Inhabited

/-- The Lens (chapter 7). `state` is 0x47F0:06; `opened` holds the open rows, oldest first; `start` is the second
at which the first row opens; `inUse` the channel ranges in use; `sealedQueue` the sealed rows that wait for stage 8, oldest first; `rowsOk` counts rows sealed since the start or
the last discontinuity. -/
structure Lens where
  state : Nat
  startAt : Nat
  next : Nat
  lastTick : Option Nat
  disc : Bool
  opened : List Row
  sealedQueue : List Row
  newest : Option (Nat × Nat)
  rowsOk : Nat
  streams : Map Stream
  inUse : List (Nat × Nat)
  sealedRows : Nat
  expiryRows : Nat
  highestOpen : Nat
  heldRows : Nat
  discs : Nat
  highestDelay : Nat
  deriving DecidableEq, Repr, Inhabited

/-- A 6-row mean of the 14,400 grid (R202): its row, value, validity and the flags its samples carried. -/
structure UBlock where
  row : Nat
  value : Nat
  valid : Bool
  flags : Nat
  deriving DecidableEq, Repr, Inhabited

/-- The latest block phasor of a channel (R201): row, real and imaginary part, reason and flags. -/
structure BlockPhasor where
  row : Nat
  val : Option (Nat × Nat)
  reason : Nat
  flags : Nat
  deriving DecidableEq, Repr, Inhabited

/-- A frequency group (R206 to R208): frequency as binary32 (none: nominal), reference source, held time in rows, state code of :0A (0 fixed,
1 primary, 2 alternate, 3 held, 4 reverted), limit mark, frequencies of past rows as (tick instant, F), newest
first, the instant at which it last resumed with the state it resumed from, and the row of the last update with V of the
sources then named. -/
structure FreqGroup where
  freq : Option Nat
  ref : Option Nat
  held : Nat
  state : Nat
  limit : Bool
  hist : List (Nat × Nat)
  resumed : Option (Nat × Nat)
  changes : Nat
  holds : Nat
  prev : Option (Nat × List (Nat × Option (Nat × Nat)))
  deriving DecidableEq, Repr, Inhabited

/-- A row of a summation group (R212): DIFF and A as binary32, and whether the row was invalid. -/
structure SumRow where
  row : Nat
  diff : Nat
  a : Nat
  bad : Bool
  deriving DecidableEq, Repr, Inhabited

/-- Outputs of a summation group for a row: DIFF, DIFF_RMS, REST and the status of Table 8.5 without
MEMBER_UNSUBSCRIBED. -/
structure SumOut where
  row : Nat
  diff : Nat
  rms : Nat
  rest : Nat
  status : Nat
  deriving DecidableEq, Repr, Inhabited

/-- A summation group: rows kept for the window, newest first, outputs of the 16 most recent rows, selection bits
of the last row by member, row of their last change, sticky MEMBER_UNSUBSCRIBED, in force. -/
structure SumGroup where
  rows : List SumRow
  outs : List SumOut
  sel : Map Bool
  selRow : Option Nat
  unsub : Bool
  on : Bool
  deriving DecidableEq, Repr, Inhabited

/-- Phasor and summation units (chapter 8), and stage 8 (R16): `row` is the row in stage 8, `posted` tells that its
row sealed event has been posted, `batches` the logic processors whose instant batch has ended, `start` the first
row of the stretch since the Lens start or the last discontinuity, `newest` the newest evaluated row. -/
structure Phasor where
  row : Option Row
  posted : Bool
  batches : List Nat
  start : Nat
  newest : Option Row
  groups : Map FreqGroup
  u : Map (List UBlock)
  block : Map BlockPhasor
  sums : Map SumGroup
  channels : Nat
  deriving DecidableEq, Repr, Inhabited

/-- A trip lane (R223): pickup, latch, record H newest first, INV, last quantities newest first, output, validity of
the row, status of Table 9.4, :13, :15, a pending reset command, and the first row of an enable that has not been evaluated
yet (R226). -/
structure Lane where
  p : Bool
  latch : Bool
  h : List Bool
  inv : Nat
  rate : List Nat
  out : Bool
  valid : Bool
  status : Nat
  value : Nat
  pickRow : Nat
  reset : Bool
  fresh : Option Nat
  deriving DecidableEq, Repr, Inhabited

/-- A publisher (R230 to R236): enabled, ever enabled since reset, stNum and sqNum of the last frame built, time of the current state, member
values, times of their last changes, curve position, monotonic time of the next frame, TAL of the last frame, a
submission accepted since the enable, queued submissions with the times of their acceptance, the last mirrored state, a
change of :10 or :11 that waits for the next frame, the row that made the last state, and the last frame sent. -/
structure Publisher where
  on : Bool
  started : Bool
  stNum : Nat
  sqNum : Nat
  t : Nat
  values : List Nat
  changed : List Nat
  k : Nat
  next : Nat
  tal : Nat
  submitted : Bool
  queue : List (Nat × List Nat)
  mirrored : Option PubMirror
  modeChange : Bool
  row : Option Nat
  frame : ByteList
  deriving DecidableEq, Repr, Inhabited

/-- A subscription (R238 to R242): state of :20, last numbers, deadline in the monotonic count, simulated frames in
use. -/
structure Sub where
  state : Nat
  lastSt : Nat
  lastSq : Nat
  deadline : Nat
  usingSim : Bool
  deriving DecidableEq, Repr, Inhabited

/-- Trip lanes and GOOSE (chapter 9). -/
structure Goose where
  lanes : Map Lane
  pubs : Map Publisher
  subs : Map Sub
  deriving DecidableEq, Repr, Inhabited

/-- An entry of an instance table (R267) with its wiring descriptors (inputs, EN, output bindings) and start
values: PT or PV, ET or CV, Q, PREV (PREV_U), PREV_D (log 9). -/
structure InstDesc where
  name : ByteList
  typ : Nat
  flags : Nat
  offset : Nat
  size : Nat
  wiring : List Nat
  pt : Int
  et : Int
  q : Nat
  prev : Nat
  prevD : Nat
  deriving DecidableEq, Repr, Inhabited

/-- A user block type (R263): number, interface digest, input and output pin types (0 B, 1 I, 2 F, 3 T) with names,
body words and sub-instance table. -/
structure UserType where
  number : Nat
  digest : ByteList
  inputs : List (Nat × ByteList)
  outputs : List (Nat × ByteList)
  body : List Nat
  subs : List InstDesc
  deriving DecidableEq, Repr, Inhabited

/-- A program image (R267): the header's figures, and the sections. A claim is space, first and count. -/
structure ProgImage where
  raw : ByteList
  number : Nat
  form : Nat
  cls : Nat
  period : Nat
  lp : Nat
  flags : Nat
  cost : Nat
  count : Nat
  instData : Nat
  retData : Nat
  name : ByteList
  code : List Nat
  types : List UserType
  insts : List InstDesc
  pool : List Nat
  claims : List (Nat × Nat × Nat)
  retStart : Map Nat
  rwdStart : Map Nat
  reserved : Bool
  deriving DecidableEq, Repr, Inhabited

/-- The data of an instance (R253, R262, R263): ET or CV, preset, flags (bit 0 Q, 1 PREV, further bits by block), further words (FAVG16, ARC),
outputs as 32-bit words, and for a user block its PIN and LOC bits. -/
structure InstData where
  et : Int
  pt : Int
  flags : Nat
  hist : List Nat
  outs : List Nat
  pins : Nat
  loc : Nat
  deriving DecidableEq, Repr, Inhabited

/-- A program (R269 to R294): loaded image, state of :03, start waiting for a cycle boundary, SYS bits 2 and 3 of the
last cycle, instance data by path (a path is the parent's × 4097 + instance + 1), row and time of the previous
cycle, the first row of its stretch, the end of the last cycle in quarters of a ns of the monotonic count, the error
task due and whether it has run, OVERRUN and whether the last trigger overran, and the on-line exchange: state,
image, result and report. -/
structure Prog where
  image : Option ProgImage
  state : Nat
  startDue : Bool
  first : Bool
  arith : Bool
  data : Map InstData
  lastRow : Nat
  lastMark : Nat
  stretch : Nat
  endsAt : Nat
  errDue : Bool
  errRan : Bool
  overrun : Bool
  skippedLast : Bool
  exState : Nat
  exImage : Option ProgImage
  exResult : Nat
  report : ByteList
  deriving DecidableEq, Repr, Inhabited

/-- A remote station (R281 to R286): state of :0C, consecutive misses and valid responses, last received inputs (bit
i: input i), delivered outputs and the outputs of the frame that awaits its response, the exchange count and whether
a response is awaited, the frames of the exchange still to be sent, segments received. -/
structure Station where
  state : Nat
  misses : Nat
  goods : Nat
  inputs : Nat
  delivered : ByteList
  sending : ByteList
  count : Nat
  awaiting : Bool
  segs : Map ByteList
  deriving DecidableEq, Repr, Inhabited

/-- Scheme logic (chapters 10 and 11): programs, FDI levels that a filter times as (level, start), committed values at
the start of the row's batches, times at which each processor was busy in the last second (processor, start,
length; quarters of a ns), and stations. -/
structure Logic where
  progs : Map Prog
  fdiWait : Map (Bool × Nat)
  batch : Option Mem
  busy : List (Nat × Nat × Nat)
  stations : Map Station
  deriving DecidableEq, Repr, Inhabited

/-- A DMA descriptor accepted and not completed (Table 12.8). -/
structure DmaDesc where
  src : Nat
  dst : Nat
  len : Nat
  tag : Nat
  completion : Nat
  deriving DecidableEq, Repr, Inhabited

/-- The registers of one core NIC queue of a facet (Table 12.9): ring base and K as written, tails, completed
counts, and the count of transmit descriptors that the NIC has taken. -/
structure NicQueue where
  ring : Nat
  txTail : Nat
  rxTail : Nat
  txHead : Nat
  rxHead : Nat
  taken : Nat
  deriving DecidableEq, Repr, Inhabited

/-- A task of the dispatch unit (Table 12.15): state code, flags, mask, mode ALL, priority, affinity, ready stamp
and its time, core running it, cancel pending. -/
structure Task where
  state : Nat
  flags : Nat
  mask : Nat
  all : Bool
  priority : Nat
  affinity : Nat
  stamp : Nat
  since : Nat
  core : Nat
  cancelPending : Bool
  deriving DecidableEq, Repr, Inhabited

/-- The mailbox of a facet (R302 to R305): slots and counts of both rings, control, status, messages held by the
steward because the inbound ring is full, tag of the next notice. -/
structure Mailbox where
  inSlots : Map Nat
  outSlots : Map Nat
  inProd : Nat
  inCons : Nat
  outProd : Nat
  outCons : Nat
  ctrl : Nat
  status : Nat
  held : List (List Nat)
  noticeTag : Nat
  deriving DecidableEq, Repr, Inhabited

/-- The guest-visible state that a save records and a restore places (R316). The registers of the cores are not
held: no command of the module executes guest instructions. -/
structure Snapshot where
  cores : Nat
  units : Nat
  taskCount : Nat
  /-- interrupts pending, by core position -/
  irq : Nat
  mbox : Mailbox
  swb : Map Nat
  dma : List DmaDesc
  dmaCompleted : Nat
  dmaAccepted : Nat
  nic : Map NicQueue
  tasks : List (Nat × Task)
  bindings : Map Nat
  waitLimit : Nat
  mirrorBase : Nat
  mirrorSize : Nat
  ready : Bool
  memory : List (Nat × Byte)
  deriving DecidableEq, Repr, Inhabited

/-- A facet (Tables 12.3 to 12.13). `state` is the code of Table 12.13. `failed` holds where its launch deadline or a
fault froze it and it has been neither thawed nor reset since (Table 15.4, FACET_FROZEN). -/
structure Facet where
  state : Nat
  failed : Bool
  ready : Bool
  restored : Bool
  mirrorErr : Bool
  overShare : Bool
  refusals : Nat
  units : List Nat
  mirrorBase : Nat
  mirrorSize : Nat
  mbox : Mailbox
  irq : Nat
  swb : Map Nat
  gooseBits : Nat
  gooseF : Map Nat
  gooseResult : Nat
  dma : List DmaDesc
  dmaResult : Nat
  dmaCompleted : Nat
  dmaAccepted : Nat
  nic : Map NicQueue
  bindings : Map Nat
  waitLimit : Nat
  affinityReg : Nat
  dispatchResult : Nat
  taskQuery : Nat
  waiters : List Nat
  answers : Map Nat
  running : List Nat
  plane : Nat
  tpoGranted : Nat
  stepped : Bool
  persist : Mem
  boot : ByteList
  result : Nat
  resets : Nat
  planeFaults : Nat
  accessFaults : Nat
  overRefusals : Nat
  mboxErrors : Nat
  taken : Nat
  lostPosts : Nat
  nicDiscards : Nat
  dispatches : Nat
  longest : Map Nat
  deriving DecidableEq, Repr, Inhabited

/-- A facet blob (R316, Table 12.14): state (0 empty, 1 writing, 2 valid, 3 invalid), length, the facet state it
held and the migration key when this module wrote it, and its bytes when it was downloaded. -/
structure Blob where
  state : Nat
  size : Nat
  source : Nat
  savedAt : Nat × Nat
  snap : Option Snapshot
  key : ByteList
  raw : ByteList
  deriving DecidableEq, Repr, Inhabited

/-- A frame on the steward's own queues of a core NIC (R22, Table 1.10): network interface, VLAN, tag, bytes. -/
structure StewardFrame where
  nic : Nat
  vid : Nat
  tci : Nat
  data : ByteList
  deriving DecidableEq, Repr, Inhabited

/-- Facets, blobs and the dispatch unit: tasks by global number, the stamp of the next ready task, and the frames that the
steward's own queues have received, oldest first. -/
structure Facets where
  facet : Map Facet
  blobs : Map Blob
  tasks : Map Task
  stamp : Nat
  steward : List StewardFrame
  deriving DecidableEq, Repr, Inhabited

/-- A record's definition as it stood at arm (R325, Table 13.6). -/
structure CapDef where
  owner : Nat
  mode : Nat
  k : Nat
  pre : Nat
  post : Nat
  alloc : Nat
  extend : Bool
  station : ByteList
  analog : List Nat
  binary : List Nat
  conds : List Nat
  names : ByteList
  deriving DecidableEq, Repr, Inhabited

/-- A stored interval (R328, R329): its first row and tick instant, a 64-bit entry and the count of valid rows by
analogue channel, its binary channels as bits. -/
structure Interval where
  row : Nat
  inst : Nat
  vals : List Nat
  valid : List Nat
  bins : Nat
  disc : Bool
  oos : Bool
  deriving DecidableEq, Repr, Inhabited

/-- The interval being collected: first row and instant, rows so far, the 64-bit row entries of each channel (oldest
row first), binary channels seen 1, a first row with ROW_DISC, a row with TIME_OOS. -/
structure Gather where
  row : Nat
  inst : Nat
  rows : Nat
  vals : List (List Nat)
  bins : Nat
  disc : Bool
  oos : Bool
  deriving DecidableEq, Repr, Inhabited

/-- A trigger list entry (R336): condition, flags, interval index, row and its tick instant. -/
structure CapTrig where
  cond : Nat
  flags : Nat
  index : Nat
  row : Nat
  inst : Nat
  deriving DecidableEq, Repr, Inhabited

/-- The record in progress of a slot, and what the store holds of it: definition, stored intervals newest first,
primary trigger, its row and instant, trigger list, conditions not listed, last interval of the record (none: not
triggered), flags [3:0] of :19. -/
structure CapRec where
  defn : CapDef
  capacity : Nat
  ivs : List Interval
  count : Nat
  primary : Nat
  trigRow : Nat
  trigInst : Nat
  trigs : List CapTrig
  unlisted : Nat
  last : Option Nat
  flags : Nat
  deriving DecidableEq, Repr, Inhabited

/-- A record slot (R337): state of :18, the tick instant from which rows are captured (none: at the next boundary), a
disarm that waits for the boundary, or for the end of the row in progress, a manual trigger that waits for a row, its record and the interval being
collected, the condition bits and the analogue entries of the row before, and the analogue entries of the row in progress. -/
structure CapSlot where
  state : Nat
  startAt : Option Nat
  disarm : Bool
  closing : Bool
  manual : Bool
  rearm : Bool
  data : Option CapRec
  gather : Option Gather
  prevBits : Option Nat
  prevVals : List Nat
  vals : List Nat
  deriving DecidableEq, Repr, Inhabited

/-- A stored record: ID, slot, exported. -/
structure StoredRec where
  id : Nat
  slot : Nat
  exported : Bool
  record : CapRec
  deriving DecidableEq, Repr, Inhabited

/-- Disturbance capture (chapter 13): slots, the row whose capture is in progress, the record store oldest first, the
next record ID (NAND), and a deletion that waits for an upload's end. -/
structure Capture where
  slots : Map CapSlot
  row : Option Row
  ready : Bool
  store : List StoredRec
  nextId : Nat
  deleteDue : List Nat
  deriving DecidableEq, Repr, Inhabited

/-- The images whose delivery safe hold freezes (R374): bytes of PUB, FDO and STO. -/
structure SafeHold where
  pub : ByteList
  fdo : Nat
  sto : ByteList
  deriving DecidableEq, Repr, Inhabited

/-- A frame queued for the mirror lane in use, or on it (R361, Table 14.3): kind, sequence, time, unit, segment, last of its
unit, handover flag, and the length of its payload. Its content is that of its unit. -/
structure MirrorFrame where
  kind : Nat
  seq : Nat
  time : Nat
  unit : Nat
  segment : Nat
  last : Bool
  handover : Bool
  bytes : Nat
  deriving DecidableEq, Repr, Inhabited

/-- The redundant pair (chapter 14). `role` and `partnerRole` are the codes of Table 14.1; `elig` is 0x8000:04;
`counters` is 0x8003 by subindex; `lastSeq` is the last accepted sequence by kind and epoch; `gain` is the time of
a declaration or release seen whose OSEL_FB rise is awaited; `predecessor` tells that the partner held ownership
immediately before; `handover` is the unit whose acknowledgement is awaited, or on a SHADE the one it has acknowledged; `swapFrom` is the
tick instant from which rows carry the handover flag; `stationTag` is the class, priority and VLAN of the last station-network blink
(R359); `synced` tells that the bulk part of first synchronisation has
been applied; `probe` holds the answers to the last liveness
probe; `seenAt` is the time of the last blink that showed presence only. `outbox` holds the mirror frames queued, oldest
first, `onLane` the one on the lane with the bytes of it left, and `bulkCredit` the bulk bytes that the rate of R366 allows,
in 10^-10 of a byte; `sendSeq` is the last sequence sent by kind; `staged` is the unit that landed last in the mirror staging
region and passed its checks (R23). -/
structure Pair where
  role : Nat
  partnerRole : Nat
  elig : Nat
  takeovers : Nat
  cause : Nat
  takeTime : Nat
  gain : Option Nat
  dualClaims : Nat
  counters : Map Nat
  lines : Lines
  own : Bool
  req : Bool
  partner : Option Blink
  partnerAt : Option Nat
  station : Option Blink
  stationAt : Option Nat
  missed : Nat
  setFault : Bool
  contradict0 : Nat
  contradict1 : Nat
  stationLost : Bool
  spareInUse : Bool
  lateMirror : Bool
  divergence : Bool
  protoMinor : Bool
  lane0 : Bool
  lane1 : Bool
  lane : Nat
  laneErr : Nat
  laneDelay : Map Nat
  trained : Bool
  takeoverFault : Bool
  safeHold : Option SafeHold
  checking : Bool
  predecessor : Bool
  fit : Bool
  blinking : Bool
  switchesDue : Bool
  fenceDue : Bool
  blinkSeq : Nat
  stationSeq : Nat
  lastSeq : Map Nat
  lastBlink : Option Blink
  lastStation : Option Blink
  stationTag : Nat × Nat × Nat
  swapArmed : Bool
  swapFrom : Nat
  handover : Option Nat
  tickUnit : Nat
  bulkUnit : Nat
  lastTick : Option MirrorMsg
  lastBulk : Option MirrorMsg
  newestTick : Nat
  synced : Bool
  syncSent : Bool
  overlayAsked : Bool
  timeDiff : Int
  selfFenced : Bool
  probe : UnitBits
  seenAt : Option Nat
  outbox : List MirrorFrame
  onLane : Option (MirrorFrame × Nat)
  bulkCredit : Nat
  sendSeq : Map Nat
  staged : Option MirrorMsg
  deriving DecidableEq, Repr, Inhabited

/-- An afterglow record (Table 15.1). -/
structure LogRecord where
  seq : Nat
  typ : Nat
  severity : Nat
  fromBank : Bool
  facet : Nat
  code : Nat
  row : Option Nat
  inst : Nat
  data : ByteList
  boot : Nat
  deriving DecidableEq, Repr, Inhabited

/-- A reader's cursor and window (R394, R395, Table 15.3). -/
structure Cursor where
  cursor : Nat
  slots : List LogRecord
  bank : Bool
  overrun : Bool
  newEntered : Bool
  skipped : Nat
  resume : Nat
  notify : Bool
  deriving DecidableEq, Repr, Inhabited

/-- The afterglow log: next number and recorded block end (PD0 and NAND, R384), records held in the ring (newest
first), exported records (newest first), state of 0x9000:04, last-gasp bank by entry and its ring pointer,
failure number, counts of this second by type, cursors by reader (facet n, 256 + session, 512 + node), requests
made before the log of this start is prepared (R393), totals. -/
structure Log where
  next : Nat
  blockEnd : Nat
  ready : Bool
  state : Nat
  held : List LogRecord
  exported : List LogRecord
  exportedThrough : Nat
  bank : Map LogRecord
  bankPtr : Nat
  failedAt : Nat
  pushedOut : Option (Nat × Nat)
  second : Map Nat
  cursors : Map Cursor
  waiting : List LogReq
  suppressed : Nat
  lost : Nat
  memErrors : Nat
  lastHealth : Nat
  deriving DecidableEq, Repr, Inhabited

/-- One test of Table 15.7 (Table 15.6). -/
structure TestEntry where
  result : Nat
  unit : Nat
  passes : Nat
  failures : Nat
  lastPass : Option Nat
  deriving DecidableEq, Repr, Inhabited

/-- Health (R402 to R405): causes set, latched causes whose condition is present, tests, DDR error counts, the
times of the correctable errors of the last hour, the partner's report, its arrival time and its status, reports sent, and
the lanes above the error rate as bits. -/
structure Health where
  causes : Nat
  present : Nat
  tests : Map TestEntry
  ddrCorrectable : Nat
  ddrRecent : List Nat
  partner : ByteList
  partnerAt : Option Nat
  partnerStatus : Nat
  reportsSent : Nat
  reportSent : ByteList
  serdes : Nat
  deriving DecidableEq, Repr, Inhabited

/-- A transmit object that holds a frame (R413, R415): the frame, the station it serves, a cancel that reached it. -/
structure TxObject where
  frame : CanFrame
  station : Option Nat
  cancelled : Bool
  deriving DecidableEq, Repr, Inhabited

/-- A receive FIFO entry: the frame and the monotonic count at its end of frame (R416). -/
structure RxEntry where
  frame : CanFrame
  stamp : Nat
  deriving DecidableEq, Repr, Inhabited

/-- A CAN FD controller (chapter 16). `state`, `tec` and `recv` are :11 to :13; `alone` is the consecutive count of
acknowledge errors of one frame with its object, `aloneLogged` whether event 3 was recorded since the last good
frame; `offered` is the object in the frame in progress, and `limit` the no-acknowledge limit as that frame began (R89); `nextResp` the response object next in turn; `stopping` is a
disabling that waits for the bus; a shadow buffer is none until its first head read, and some none when it reads EMPTY. -/
structure CanCtl where
  state : Nat
  tec : Nat
  recv : Nat
  lastErr : Nat
  alone : Nat × Nat
  aloneLogged : Bool
  offered : Option Nat
  limit : Nat
  nextResp : Nat
  objects : Map TxObject
  stopping : Bool
  fifo0 : List RxEntry
  fifo1 : List RxEntry
  shadow0 : Option (Option RxEntry)
  shadow1 : Option (Option RxEntry)
  deriving DecidableEq, Repr, Inhabited

/-- The cabinet bus: controllers, transmit objects by station (first object), and the settings kept in the always-on
domain for standby management (R106, R427). -/
structure Can where
  ctl : Map CanCtl
  pool : Map (List Nat)
  kept : Map Int
  deriving DecidableEq, Repr, Inhabited

/-- The binding record of the steward persistent data partition: partner's serial number and time of binding. -/
structure BindRecord where
  serial : ByteList
  sec : Nat
  ns : Nat
  deriving DecidableEq, Repr, Inhabited

/-- Identity, attestation and tamper response (chapter 17). `state` is 0xA000:01; `seed` names the identity key
(empty: none); `queue` holds the requests that wait for a signature, session and nonce (9 for the partner's
exchange, which goes ahead); `reports` the newest report of each session and `repState` its state; `records` the
identity records that the bundle brought; `binding` is the binding record in NAND, and `receivedSerial` the serial number of the
last report received. The tamper record of 0xA030 and everything above it stand in PD0. -/
structure Security where
  state : Nat
  seed : ByteList
  q : Nat
  roots : Map ByteList
  psk : Map ByteList
  mirrorKey : ByteList
  epoch : Nat
  pendKey : ByteList
  pendEpoch : Nat
  sendPending : Bool
  migration : ByteList
  bound : ByteList
  records : Map (ByteList × Nat × Bool)
  binding : Option BindRecord
  received : ByteList
  receivedSerial : ByteList
  sinceTraining : Bool
  partnerState : Nat
  nonce : Option ByteList
  queue : List (Nat × ByteList)
  reports : Map ByteList
  repState : Map Nat
  attResult : Nat
  sent : ByteList
  tokens : Nat
  owners : List ByteList
  tamperState : Nat
  tamperEvents : Nat
  tamperSensors : Nat
  tamperTime : Nat
  debugOpen : Bool
  challenge : Option ByteList
  challenges : Nat
  deriving DecidableEq, Repr, Inhabited

/-- Provisioned: state 2 of 0xA000:01. -/
def Security.provisioned (x : Security) : Bool := x.state == 2

/-- The module. `pending` is the queue of commands that wait, oldest first; `reply` and `freeCount` are the model's
own (log 2, 3). `regs` holds every numeric dictionary entry that has been written, by key index × 256 + subindex,
and `blobs` every STR, DOMAIN and TIME80 one; entries not listed have their default. `tickRegs`
is `regs` as it stood at the last grid tick boundary (R89). `mem` is the addressed RAM (R11). -/
structure State where
  pending : List Instr
  reply : Reply
  freeCount : Nat
  regs : Map Int
  blobs : Map ByteList
  tickRegs : Map Int
  mem : Mem
  /-- supplies, pins, domains, fast direct I/O (chapter 2) -/
  power : Power
  /-- start-up, resets, firmware, configuration (chapter 3) -/
  boot : Boot
  /-- management access (chapter 4) -/
  access : Access
  /-- time unit (chapter 5) -/
  time : Time
  /-- switch fabric (chapter 6) -/
  fabric : Fabric
  /-- Lens (chapter 7) -/
  lens : Lens
  /-- phasor unit, frequency, summation (chapter 8) -/
  phasor : Phasor
  /-- trip lanes and GOOSE engine (chapter 9) -/
  goose : Goose
  /-- scheme logic (chapters 10 and 11) -/
  logic : Logic
  /-- facets and dispatch unit (chapter 12) -/
  facets : Facets
  /-- disturbance capture (chapter 13) -/
  capture : Capture
  /-- redundant pair (chapter 14) -/
  pair : Pair
  /-- afterglow log (chapter 15) -/
  log : Log
  /-- health report (chapter 15) -/
  health : Health
  /-- cabinet bus (chapter 16) -/
  can : Can
  /-- identity, attestation, tamper response (chapter 17) -/
  sec : Security
  deriving DecidableEq, Repr, Inhabited

/-- The reasons a command can stop the model. -/
inductive Fault where
  /-- Raised by every meaning on a command whose operands name a unit that the module does not have (a port above
  51, a facet above 255): no event of the hardware. Safe. -/
  | illFormed
  deriving DecidableEq, Repr

/-- The refusals of the model. -/
inductive Refusal where
  /-- Raised by the dispatcher on a command without a meaning, by its mnemonic. Safe. -/
  | notModelled (mnemonic : String)
  deriving DecidableEq, Repr

/-! ### Reset

The state after manufacture with no supply present. Fields not named below are 0, empty, false or none (log 1). -/

/-- No supply; PWR_EN and PEER_PRESENT_N read high by their pull-ups (Tables 2.1, 2.2); open drain pins released; the
retention latch reads as fallen (R39). -/
def Power.reset : Power :=
  { (default : Power) with
    stage := .off, bat := 3000, junction := 250, pwrEn := true, pfailN := true, thermAlertN := true, peerPresentN := true,
    dom := [(0, .on)], latch := true }

/-- The firmware header that a factory image carries (log 1). -/
def FwHeader.factory : FwHeader :=
  { version := 0x01000000, mirrorProto := 0x0100, secVersion := 0, secFloor := 0, digest := [] }

/-- Both copies of the boot record are good; the first is the newer. -/
def BootRecord.factory (seq : Nat) : BootRecord :=
  { seq := seq, good := true, committed := 0, trial := none, attempts := 0, marked := 0 }

/-- Slot A holds valid firmware, slot B none; the active configuration image is empty (log 1). -/
def Boot.reset : Boot :=
  { (default : Boot) with
    recA := BootRecord.factory 1, recB := BootRecord.factory 0, slotA := { hdr := some FwHeader.factory, image := [] },
    slotB := { hdr := none, image := [] } }

/-- 0x3011:02 and :03 read 255 (Table 5.7); the servo is in FREERUN (Table 5.2). -/
def Time.reset : Time := { (default : Time) with gmClass := 255, gmPriority1 := 255 }

/-- The partner identity of nothing bound: 32 zeros (0xA020:01); the token bucket is full (log 1). -/
def Security.reset : Security :=
  { (default : Security) with bound := List.replicate 32 0#8, received := List.replicate 32 0#8, tokens := 16 }

/-- 0x8000:04 reads SYNC_PENDING (Table 14.12). -/
def Pair.reset : Pair := { (default : Pair) with elig := 0x10 }

/-- The first record after manufacture has number 1; no block of numbers has been entered yet (R384). -/
def Log.reset : Log := { (default : Log) with next := 1 }

/-- Record IDs count from 1 (R341). -/
def Capture.reset : Capture := { (default : Capture) with nextId := 1 }

/-- The module after manufacture: no supply, an empty key store, nothing in memory or in any queue. Dictionary
entries have the defaults of their tables. -/
def State.reset : State :=
  { (default : State) with
    access := Access.reset, power := Power.reset, boot := Boot.reset, time := Time.reset, capture := Capture.reset, pair := Pair.reset,
    log := Log.reset, sec := Security.reset }

end Sys2Proof.Machine
end

