-- ==== Sys2Proof/WellFormed.lean ====
section
/-! DEFINITION. Which commands name units that the module has: a command is well-formed when every port, facet,
program, lane, slot, register and field it names lies in the range that the spec gives the unit. -/

namespace Sys2Proof

/-- The target of a register write exists: a facet window of 64 KiB (R301) or an index:subindex. -/
def wfTarget : RegTarget → Bool
  | .entry key _ => decide (key < 2 ^ 24)
  | .facet n offset v => decide (n < 256 ∧ offset < 65536 ∧ v < 2 ^ 64)

/-- Accesses: a steward has 40 address bits and no facet window; the reads of a window that take work or clear a flag are
commands of their own (TAKE, TAKE_WAIT, TIME_STATUS). -/
def AccessAt.wf (n : Nat) : AccessAt → Bool
  | .memory addr kind => decide ((n < 256 ∧ addr < 2 ^ 64 ∨ n = 0xFFFF ∧ addr < 2 ^ 40) ∧ kind < 3)
  | .window offset => decide (n < 256 ∧ offset < 65536 ∧ offset ≠ 0x1000 ∧ offset ≠ 0x1008 ∧ offset ≠ 0x3008)

/-- The check, one arm per constructor. -/
def Instr.wf : Instr → Bool
  | .vinIoQualified => true
  | .hotSwapTurnOn => true
  | .powerGood => true
  | .orderingViolation => true
  | .slotStrapConflict _ => true
  | .pd0RetentionLoss => true
  | .vinMainUndervoltage mv => decide (mv < 2 ^ 16)
  | .vinMainOvervoltageWarning mv => decide (mv < 2 ^ 16)
  | .vinMainOvervoltage mv => decide (mv < 2 ^ 16)
  | .vinAnaUndervoltage mv => decide (mv < 2 ^ 16)
  | .vinIoLost mv => decide (mv < 2 ^ 16)
  | .vbatLow mv => decide (mv < 2 ^ 16)
  | .vbatAbsent mv => decide (mv < 2 ^ 16)
  | .pwrEnFall => true
  | .pwrEnRise _ => true
  | .supplyEventQualified => true
  | .pfailFdoSwitchesOpen => true
  | .pfailFrameStop => true
  | .lastGaspRecord => true
  | .pfailDomainsOff => true
  | .pfailFlush => true
  | .pfailPd2Off => true
  | .thermalWarning _ => true
  | .thermalShutdown _ => true
  | .thermalRestart _ => true
  | .clusterPairOff d => decide (3 ≤ d ∧ d ≤ 6)
  | .clusterPairOn d => decide (3 ≤ d ∧ d ≤ 6)
  | .domainRampingDone d => decide (3 ≤ d ∧ d ≤ 6)
  | .domainTestingDone d _ => decide (3 ≤ d ∧ d ≤ 6)
  | .oselFbStuck => true
  | .fdoPulseTest driver _ => decide (driver < 32)
  | .chassisReset => true
  | .chassisResetRelease => true
  | .bootRom => true
  | .secureBoot _ _ => true
  | .keyStoreUnlock => true
  | .stewardStart _ => true
  | .configurationLoad _ _ => true
  | .timeAcquisitionWaitExpired => true
  | .roleDecision _ => true
  | .mirrorLinkTrainingTimeout => true
  | .lensStart => true
  | .protectionStart => true
  | .facetAutostart => true
  | .facetLaunchDeadline n => decide (n < 256)
  | .stewardWatchdogExpiry => true
  | .fatalError _ => true
  | .orderlyReset => true
  | .forcedReset => true
  | .installationBegin sess => decide (sess ≤ 8)
  | .installationAbort sess => decide (sess ≤ 8)
  | .installationVerify sess => decide (sess ≤ 8)
  | .firmwareSegment sess _ => decide (sess ≤ 8)
  | .firmwareVerificationDone _ _ => true
  | .trialSlot n => decide (n < 256)
  | .commit => true
  | .trialPeriodExpired => true
  | .configurationBegin sess => decide (sess ≤ 8)
  | .configurationAbort sess => decide (sess ≤ 8)
  | .configurationVerify sess => decide (sess ≤ 8)
  | .configurationSegment sess _ => decide (sess ≤ 8)
  | .configurationVerificationDone _ _ => true
  | .activatePending => true
  | .activatePrevious => true
  | .registerWrite tgt => decide (wfTarget tgt)
  | .read m => decide (m.sess ≤ 8)
  | .write m => decide (m.sess ≤ 8)
  | .writeSet m => decide (m.sess ≤ 8)
  | .describe m => decide (m.sess ≤ 8)
  | .lock m => decide (m.sess ≤ 8)
  | .unlock m => decide (m.sess ≤ 8)
  | .close m => decide (m.sess ≤ 8)
  | .segInitDown m => decide (m.sess ≤ 8)
  | .segDown m => decide (m.sess ≤ 8)
  | .segEndDown m => decide (m.sess ≤ 8)
  | .segInitUp m => decide (m.sess ≤ 8)
  | .segUp m => decide (m.sess ≤ 8)
  | .abort m => decide (m.sess ≤ 8)
  | .dtlsHandshake _ _ => true
  | .closeNotify sess => decide (sess ≤ 8)
  | .sessionIdleTimeout sess => decide (sess ≤ 8)
  | .lockExpiry first => decide (first < 65536)
  | .transferTimeout sess => decide (sess ≤ 8)
  | .overlaySave => true
  | .overlayDiscard => true
  | .forwardedWrite _ _ => true
  | .forwardAckTimeout => true
  | .cabinetRead r => decide (r.ctrl < 2 ∧ r.dst < 256 ∧ r.src < 256 ∧ r.data.length ≤ 64)
  | .cabinetWrite r => decide (r.ctrl < 2 ∧ r.dst < 256 ∧ r.src < 256 ∧ r.data.length ≤ 64)
  | .cabinetSegmentInitDown r => decide (r.ctrl < 2 ∧ r.dst < 256 ∧ r.src < 256 ∧ r.data.length ≤ 64)
  | .cabinetSegmentDown r => decide (r.ctrl < 2 ∧ r.dst < 256 ∧ r.src < 256 ∧ r.data.length ≤ 64)
  | .cabinetSegmentEnd r => decide (r.ctrl < 2 ∧ r.dst < 256 ∧ r.src < 256 ∧ r.data.length ≤ 64)
  | .cabinetSegmentInitUp r => decide (r.ctrl < 2 ∧ r.dst < 256 ∧ r.src < 256 ∧ r.data.length ≤ 64)
  | .cabinetSegmentUp r => decide (r.ctrl < 2 ∧ r.dst < 256 ∧ r.src < 256 ∧ r.data.length ≤ 64)
  | .cabinetAbort r => decide (r.ctrl < 2 ∧ r.dst < 256 ∧ r.src < 256 ∧ r.data.length ≤ 64)
  | .cabinetNodeStateRelease node => decide (node < 256)
  | .cabinetTransferTimeout node => decide (node < 256)
  | .sync port _ => decide (port < 48)
  | .followUp port _ => decide (port < 48)
  | .announce port _ => decide (port < 48)
  | .pdelayReq port _ => decide (port < 48)
  | .pdelayResp port _ => decide (port < 48)
  | .syncTransmit port => decide (port < 48)
  | .announceTransmit port => decide (port < 48)
  | .pdelayReqTransmit port => decide (port < 48)
  | .masterLost => true
  | .holdoverLimitExpired => true
  | .acceptJump => true
  | .jumpStep => true
  | .setTime sec ns => decide (sec < 2 ^ 48 ∧ ns < 2 ^ 32)
  | .rtcCopy => true
  | .timeAnchor => true
  | .tpoStart n v => decide (n < 16 ∧ v < 2 ^ 40)
  | .tpoEdge n => decide (n < 16)
  | .tpoPulseEnd n => decide (n < 16)
  | .tpoGrant n owner => decide (n < 16 ∧ owner < 65536)
  | .captureEdge n => decide (n < 4)
  | .oldestStampRead n => decide (n < 4)
  | .timeStatusRead f => decide (f < 256)
  | .frameHead h => decide (h.port < 52)
  | .frameTail port _ => decide (port < 52)
  | .cellTime => true
  | .linkDown port => decide (port < 52)
  | .linkDownHoldExpiry port => decide (port < 52)
  | .linkUp port => decide (port < 52)
  | .portEnable port => decide (port < 52)
  | .portDisable port => decide (port < 52)
  | .auditPass unreferenced => decide ((∀ x ∈ unreferenced, x.1 < 65536))
  | .learningAgeingStep => true
  | .databaseWrite => true
  | .databaseDeleteByKey => true
  | .databaseReadByKey => true
  | .databaseReadByPosition => true
  | .streamTableWrite => true
  | .streamTableDeleteByKey => true
  | .streamTableReadByKey => true
  | .streamTableReadByPosition => true
  | .vlanWrite => true
  | .vlanRead => true
  | .vlanInvalidate => true
  | .flushLearned => true
  | .portClearCounters port => decide (port < 52)
  | .supervisionFrame pair => decide (pair < 8)
  | .nodeForget pair mac _ => decide (pair < 8 ∧ mac < 2 ^ 48)
  | .gridTick => true
  | .sampledValueFrame fr => decide (fr.entry < 16384)
  | .alignmentWaitExpiry => true
  | .streamEnable n => decide (n < 1024)
  | .streamDisable n => decide (n < 1024)
  | .streamClearCounters n => decide (n < 1024)
  | .lensClearTotals => true
  | .rowEvaluation => true
  | .rowSealed => true
  | .instantBatch lp => decide (lp < 16)
  | .summationGroupEnable g => decide (g < 512)
  | .summationGroupDisable g => decide (g < 512)
  | .groupClear g => decide (g < 512)
  | .laneEnable l => decide (l < 1024)
  | .laneDisable l => decide (l < 1024)
  | .resetLatch l => decide (l < 1024)
  | .publisherEnable p => decide (p < 512)
  | .publisherDisable p => decide (p < 512)
  | .retransmission p => decide (p < 512)
  | .gooseSubmit f v => decide (f < 256 ∧ v < 2 ^ 64)
  | .gooseFrame fr => decide (fr.entry < 16384)
  | .subscriptionTimeout n => decide (n < 4096)
  | .subscriptionEnable n => decide (n < 4096)
  | .subscriptionDisable n => decide (n < 4096)
  | .subscriptionClearCounters n => decide (n < 4096)
  | .programStart p => decide (p < 1024)
  | .programStop p => decide (p < 1024)
  | .fastCycle p => decide (p < 1024)
  | .normalCycle p => decide (p < 1024)
  | .slowCycle p => decide (p < 1024)
  | .programClear p => decide (p < 1024)
  | .fdiEdge pin _ => decide (pin < 32)
  | .fdiFilterExpiry pin => decide (pin < 32)
  | .exchangeSwitch p => decide (p < 1024)
  | .exchangeDiscard p => decide (p < 1024)
  | .exchangeSwitchAtBoundary p => decide (p < 1024)
  | .stationEnable n => decide (n < 64)
  | .stationDisable n => decide (n < 64)
  | .stationExchange n => decide (n < 64)
  | .stationResponse n _ => decide (n < 64)
  | .responseTimeout n => decide (n < 64)
  | .stationClear n => decide (n < 64)
  | .facetDefine n => decide (n < 256)
  | .facetDelete n => decide (n < 256)
  | .launch n => decide (n < 256)
  | .freeze n => decide (n < 256)
  | .thaw n => decide (n < 256)
  | .save n => decide (n < 256)
  | .saveComplete n _ => decide (n < 256)
  | .restore n => decide (n < 256)
  | .restoreComplete n _ => decide (n < 256)
  | .facetReset n => decide (n < 256)
  | .facetResetComplete n => decide (n < 256)
  | .readyReported n => decide (n < 256)
  | .readyWithdrawn n => decide (n < 256)
  | .guestCoreFault n core => decide (n < 256 ∧ core < 64)
  | .facetClear n => decide (n < 256)
  | .shareChange n sub v => decide (n < 256 ∧ 11 ≤ sub ∧ sub ≤ 14 ∧ v < 2 ^ 64)
  | .mirrorBase n _ v => decide (n < 256 ∧ v < 2 ^ 64)
  | .outProd n v => decide (n < 256 ∧ v < 2 ^ 64)
  | .inCons n v => decide (n < 256 ∧ v < 2 ^ 64)
  | .mboxStatus n v => decide (n < 256 ∧ v < 2 ^ 64)
  | .outboundMessage n => decide (n < 256)
  | .echo n => decide (n < 256)
  | .persistentRead n => decide (n < 256)
  | .persistentWrite n => decide (n < 256)
  | .persistentSize n => decide (n < 256)
  | .swbWrite n w v => decide (n < 256 ∧ w < 4 ∧ v < 2 ^ 64)
  | .swbSet n w v => decide (n < 256 ∧ w < 4 ∧ v < 2 ^ 64)
  | .swbClr n w v => decide (n < 256 ∧ w < 4 ∧ v < 2 ^ 64)
  | .dmaSubmit n gpa => decide (n < 256 ∧ gpa < 2 ^ 64)
  | .dmaCompletion n => decide (n < 256)
  | .nqRing n q v => decide (n < 256 ∧ q < 8 ∧ v < 2 ^ 64)
  | .nqTxTail n q v => decide (n < 256 ∧ q < 8 ∧ v < 2 ^ 64)
  | .nqRxTail n q v => decide (n < 256 ∧ q < 8 ∧ v < 2 ^ 64)
  | .nicTransmit n q => decide (n < 256 ∧ q < 8)
  | .nicReceive nic vid tci _ => decide (nic < 2 ∧ vid < 4096 ∧ tci < 65536)
  | .take n core => decide (n < 256 ∧ core < 64)
  | .takeWait n core _ => decide (n < 256 ∧ core < 64)
  | .waitLimitExpiry n core => decide (n < 256 ∧ core < 64)
  | .done n core v => decide (n < 256 ∧ core < 64 ∧ v < 2 ^ 64)
  | .post n v => decide (n < 256 ∧ v < 2 ^ 64)
  | .create n v => decide (n < 256 ∧ v < 2 ^ 64)
  | .cancel n v => decide (n < 256 ∧ v < 2 ^ 64)
  | .restart n v => decide (n < 256 ∧ v < 2 ^ 64)
  | .delete n v => decide (n < 256 ∧ v < 2 ^ 64)
  | .setPriorityAndAffinity n v => decide (n < 256 ∧ v < 2 ^ 64)
  | .eventBind n i v => decide (n < 256 ∧ i < 16 ∧ v < 2 ^ 64)
  | .arm r => decide (r < 32)
  | .disarm r => decide (r < 32)
  | .manualTrigger r => decide (r < 32)
  | .rowCapture => true
  | .binaryCapture => true
  | .recordStored r => decide (r < 32)
  | .autoReArm r => decide (r < 32)
  | .deleteSelected => true
  | .deleteExported => true
  | .captureDefine n => decide (n < 256)
  | .captureArm n => decide (n < 256)
  | .captureDisarm n => decide (n < 256)
  | .captureTrigger n => decide (n < 256)
  | .captureStatus n => decide (n < 256)
  | .captureExport n => decide (n < 256)
  | .blinkTransmit => true
  | .blinkReceived _ _ => true
  | .blinkMissed _ => true
  | .peerPresentChange _ _ => true
  | .handshakeSetFault set => decide (set < 2)
  | .livenessProbe answers => decide (answers.processors.length = 16)
  | .selfFence => true
  | .releaseSwitchesOpen => true
  | .fence => true
  | .stationBlinkTransmit => true
  | .stationBlinkReceived _ => true
  | .stationBlinkLost => true
  | .laneMove _ _ => true
  | .spareLaneTestFrame _ => true
  | .linkMeasurement lane _ => decide (lane < 2)
  | .tickMirror => true
  | .tickMirrorApplied _ => true
  | .bulkMirror => true
  | .takeoverCheck => true
  | .plannedSwap => true
  | .swapAcknowledgement ack => decide (ack.unit < 2 ^ 32)
  | .swapTimeout => true
  | .clearTakeoverFault => true
  | .leaveSafeHold => true
  | .forceOwnership _ => true
  | .resynchronise => true
  | .firstSynchronisation _ => true
  | .overlayCopy _ => true
  | .pairClear => true
  | .healthReportTransmit => true
  | .healthReportReceived _ _ _ => true
  | .partnerReportTimeout => true
  | .identityExchange => true
  | .identityReportReceived data => decide (data.length = 5652)
  | .logRecord r => decide (r.typ < 65536 ∧ r.data.length ≤ 32)
  | .suppressionSecond => true
  | .logExport => true
  | .agCursor n v => decide (n < 256 ∧ v < 2 ^ 64)
  | .agNotify n v => decide (n < 256 ∧ v < 2 ^ 64)
  | .sessionCursor c v => decide (256 ≤ c ∧ c < 768 ∧ v < 2 ^ 64)
  | .clearLog sess => decide (sess ≤ 8)
  | .logMemoryFailure addr => decide (addr < 2 ^ 40)
  | .logRemap _ => true
  | .healthAcknowledge mask => decide (mask < 2 ^ 64)
  | .canFrameReceived c fr => decide (c < 2 ∧ (fr.ident < if fr.ext then 2 ^ 29 else 2 ^ 11) ∧ fr.data.length ≤ 64)
  | .fifoHeadRead c fifo => decide (c < 2 ∧ fifo < 2)
  | .transmitOffer c => decide (c < 2)
  | .frameSent c => decide (c < 2)
  | .busError c e => decide (c < 2 ∧ e.kind < 7)
  | .recoverFromBusOff c => decide (c < 2)
  | .recoveryComplete c => decide (c < 2)
  | .restrictedOperationOn c => decide (c < 2)
  | .restrictedOperationOff c => decide (c < 2)
  | .controllerEnable c => decide (c < 2)
  | .controllerDisable c => decide (c < 2)
  | .controllerClear c => decide (c < 2)
  | .tamperEvent sensors => decide (sensors < 2 ^ 32)
  | .attestationNonce sess _ => decide (sess ≤ 8)
  | .reportSigned => true
  | .tokenGain => true
  | .unlockChallenge => true
  | .unlockResponse _ => true
  | .lockDebugPort => true
  | .debugPortTimeout => true
  | .generateIdentity => true
  | .bindReceived => true
  | .unbind => true
  | .activatePendingMirrorKey => true
  | .mirrorKey _ => true
  | .migrationKey _ => true
  | .configurationRoot i _ => decide (1 ≤ i ∧ i ≤ 2)
  | .accessFault n addr kind window => (accessAt addr kind window).wf n
  | .oselFbChange _ => true
  | .inletOutsideRating _ => true
  | .ocxoWarmUp => true
  | .ddrEccError _ addr => decide (addr < 2 ^ 40)
  | .ddrScrubPass _ => true
  | .sramScrub _ addr => decide (addr < 2 ^ 40)
  | .coreCrossCheck core _ => decide (core < 64)
  | .logicProcessorTest lp _ => decide (lp < 16)
  | .serdesErrorRate lane _ => decide (lane < 50)
  | .forwardAcknowledgement _ _ => true
  | .bulkMirrorReceived _ => true
  | .lateMirrorExpiry => true

end Sys2Proof
end

