-- ==== Sys2Proof/Machine/Ops.lean ====
section
/-! DEFINITION. The named operations over tables, numbers, bytes, registers, memory and time that every meaning
uses, and the one form of a meaning. -/

namespace Sys2Proof.Machine

/-- The form of every meaning: a command whose operands name units of the module has its effect; any other is no
event of the hardware. -/
def checked (i : Instr) (s' : State) : Host.Outcome State Fault Refusal :=
  if i.wf then .next s' else .fault .illFormed

/-! ### Tables -/

def mapFind {α : Type} : Map α → Nat → Option α
  | [], _ => none
  | (k, v) :: m, i => if k = i then some v else mapFind m i

def mapPut {α : Type} (i : Nat) (v : α) : Map α → Map α
  | [] => [(i, v)]
  | (k, w) :: m =>
    if i < k then (i, v) :: (k, w) :: m
    else if k = i then (i, v) :: m
    else (k, w) :: mapPut i v m

def mapDel {α : Type} (i : Nat) (m : Map α) : Map α := m.filter fun p => p.1 ≠ i

/-- Reading with a default. -/
def mapGet {α : Type} (m : Map α) (i : Nat) (d : α) : α := (mapFind m i).getD d

/-- Adding to a counter of a table; a counter wraps at its width w in bits. -/
def mapAdd (w i n : Nat) (m : Map Nat) : Map Nat := mapPut i ((mapGet m i 0 + n) % 2 ^ w) m

def mapKeys {α : Type} (m : Map α) : List Nat := m.map (·.1)

/-- Writing a list of entries. -/
def mapPutAll {α : Type} : Map α → Map α → Map α
  | [], m => m
  | (k, v) :: l, m => mapPutAll l (mapPut k v m)

/-! ### Bits, numbers and bytes -/

/-- The field of `w` bits from bit `lo`. -/
def bitsAt (n lo w : Nat) : Nat := n / 2 ^ lo % 2 ^ w

def boolNat (b : Bool) : Nat := if b then 1 else 0

/-- n with bit i set to b. -/
def withBit (n i : Nat) (b : Bool) : Nat :=
  if n.testBit i = b then n else if b then n + 2 ^ i else n - 2 ^ i

/-- The bits set in n below w, ascending. -/
def bitList (n w : Nat) : List Nat := (List.range w).filter fun i => n.testBit i

def popCount (n w : Nat) : Nat := (bitList n w).length

/-- Two's complement of an integer in w bits. -/
def toBits (w : Nat) (i : Int) : Nat := (i % (2 ^ w : Int)).toNat

/-- The signed value of w bits. -/
def ofBits (w n : Nat) : Int :=
  let m := n % 2 ^ w
  if m < 2 ^ (w - 1) then (m : Int) else (m : Int) - (2 ^ w : Int)

def byteOf (n : Nat) : Byte := BitVec.ofNat 8 n

/-- n as w bytes, least significant first. -/
def leBytes : Nat → Nat → ByteList
  | 0, _ => []
  | w + 1, n => byteOf n :: leBytes w (n / 256)

def leNat : ByteList → Nat
  | [] => 0
  | b :: l => b.toNat + 256 * leNat l

/-- n as w bytes, most significant first (R82). -/
def beBytes (w n : Nat) : ByteList := (leBytes w n).reverse

def beNat (l : ByteList) : Nat := leNat l.reverse

/-- The bytes from offset `o`, `n` of them; bytes beyond the end read 0. -/
def bytesAt (l : ByteList) (o n : Nat) : ByteList :=
  let x := (l.drop o).take n
  x ++ List.replicate (n - x.length) (byteOf 0)

def leAt (l : ByteList) (o n : Nat) : Nat := leNat (bytesAt l o n)
def beAt (l : ByteList) (o n : Nat) : Nat := beNat (bytesAt l o n)

def padTo (n : Nat) (l : ByteList) : ByteList := bytesAt l 0 n

/-- Saturating counters of the entry tables count modulo their width. -/
def wrap (w n : Nat) : Nat := n % 2 ^ w

/-! ### Registers -/

/-- Key of index:subindex. -/
def ek (index sub : Nat) : Nat := index * 256 + sub

/-- The value of a numeric entry in a register map: as written, else its default. -/
def regIn (m : Map Int) (k : Nat) : Int :=
  match mapFind m k with
  | some v => v
  | none => entryDefault k

def State.reg (s : State) (index sub : Nat) : Int := regIn s.regs (ek index sub)
def State.regN (s : State) (index sub : Nat) : Nat := (s.reg index sub).toNat
def State.flag (s : State) (index sub : Nat) : Bool := decide (s.reg index sub ≠ 0)

/-- The value in force for functions whose boundary is the grid tick (R89). -/
def State.tickReg (s : State) (index sub : Nat) : Int := regIn s.tickRegs (ek index sub)

def State.setReg (s : State) (index sub : Nat) (v : Int) : State :=
  { s with regs := mapPut (ek index sub) v s.regs }

/-- The value of a byte-string entry: as written, else its default (Zero entries have their length in zeros). -/
def blobDefault (k : Nat) : ByteList :=
  if k % 256 = 4 ∧ 0x5800 ≤ k / 256 ∧ k / 256 ≤ 0x59FF then
    [byteOf 0x01, byteOf 0x0C, byteOf 0xCD, byteOf 0x01, byteOf 0, byteOf 0]
  else
    match entryOf k with
    | some e => if e.typ = 0x0F ∧ e.min = e.max then List.replicate e.max.toNat (byteOf 0) else []
    | none => []

def blobIn (m : Map ByteList) (k : Nat) : ByteList := (mapFind m k).getD (blobDefault k)

def State.blob (s : State) (index sub : Nat) : ByteList := blobIn s.blobs (ek index sub)

def State.setBlob (s : State) (index sub : Nat) (v : ByteList) : State :=
  { s with blobs := mapPut (ek index sub) v s.blobs }

/-! ### Memory (R11, R12, Table 10.1) -/

/-- The named regions of Table 1.5; `boot` is the part below 0x01_0000_0000, whose layout is the firmware's. -/
inductive Region where
  | boot | sampleRing | phasorRing | logicData | tables | steward | log | logSpare | staging | reserved | capture | guest
  deriving DecidableEq, Repr

/-- Table 1.5: region, base, last address. What no row names is unmapped. -/
def regionTable : List (Region × Nat × Nat) :=
  [(.boot, 0, 0x00FFFFFFFF), (.sampleRing, 0x0100000000, 0x0100FFFFFF), (.phasorRing, 0x0101000000, 0x01017FFFFF),
   (.logicData, 0x0104000000, 0x01043FFFFF), (.tables, 0x0105000000, 0x01053FFFFF), (.steward, 0x1000000000, 0x107FFFFFFF),
   (.log, 0x1080000000, 0x1083FFFFFF), (.logSpare, 0x1084000000, 0x1087FFFFFF), (.staging, 0x1088000000, 0x108FFFFFFF),
   (.reserved, 0x1090000000, 0x10FFFFFFFF), (.capture, 0x1100000000, 0x11FFFFFFFF), (.guest, 0x1200000000, 0x1FFFFFFFFF)]

/-- The region that holds an address; none where it is unmapped (R11). -/
def regionOf (a : Nat) : Option Region :=
  (regionTable.find? fun r => decide (r.2.1 ≤ a ∧ a ≤ r.2.2)).map (·.1)

def sampleBase : Nat := 0x0100000000
def phasorBase : Nat := 0x0101000000
def logicBase : Nat := 0x0104000000
def guestBase : Nat := 0x1200000000

/-- What a byte that memory does not list reads as: in the sample ring value 0 and REASON 2 (R193: quality bits
[17:14] = 2, byte 5 = 0x80), in the phasor ring 0 and REASON 2 (R204, byte 13), elsewhere 0 (log 4). -/
def unlisted (a : Nat) : Byte :=
  if sampleBase ≤ a ∧ a < phasorBase then (if a % 8 = 5 then byteOf 0x80 else byteOf 0)
  else if phasorBase ≤ a ∧ a < phasorBase + 0x800000 then (if a % 16 = 13 then byteOf 0x80 else byteOf 0)
  else byteOf 0

def memRead (m : Mem) (a : Nat) : Byte :=
  match m with
  | [] => unlisted a
  | (k, b) :: l => if k = a then b else memRead l a

/-- Writing one byte keeps the canonical form: the value of an unlisted byte removes the entry. -/
def memWrite (m : Mem) (a : Nat) (v : Byte) : Mem :=
  match m with
  | [] => if v = unlisted a then [] else [(a, v)]
  | (k, b) :: l =>
    if a < k then (if v = unlisted a then (k, b) :: l else (a, v) :: (k, b) :: l)
    else if a = k then (if v = unlisted a then l else (a, v) :: l)
    else (k, b) :: memWrite l a v

def memWriteList (m : Mem) (a : Nat) : ByteList → Mem
  | [] => m
  | b :: l => memWriteList (memWrite m a b) (a + 1) l

def memReadList (m : Mem) (a : Nat) : Nat → ByteList
  | 0 => []
  | n + 1 => memRead m a :: memReadList m (a + 1) n

/-- Making every byte of a range read as an unlisted one. -/
def memClear (m : Mem) (lo hi : Nat) : Mem := m.filter fun c => decide (¬(lo ≤ c.1 ∧ c.1 < hi))

/-- The canonical form: addresses strictly rising, no entry equal to what an unlisted byte reads as. -/
def Memory.wf : Mem → Bool
  | [] => true
  | [c] => decide (c.2 ≠ unlisted c.1)
  | c :: d :: l => decide (c.2 ≠ unlisted c.1) && decide (c.1 < d.1) && Memory.wf (d :: l)

/-- Bits of the scheme logic areas: bit i of an area is bit i mod 64 of the little-endian word at its offset plus
8 × (i / 64), R247. -/
def areaOffset (area : Nat) : Nat :=
  match area with
  | 0 => 0x362C00 | 1 => 0x350000 | 2 => 0x35C000 | 3 => 0x362F00 | 4 => 0x35E000 | 5 => 0x362E80
  | 6 => 0x358000 | 7 => 0x362000 | 8 => 0x362800 | 9 => 0x362D00 | 10 => 0x362E00 | 11 => 0x362F08
  | _ => 0x360000

/-- Size of an area in bits (Table 10.1; 64 PIN and 4,096 LOC bits). -/
def areaSize (area : Nat) : Nat :=
  match area with
  | 0 => 2048 | 1 => 262144 | 2 => 65536 | 3 => 32 | 4 => 65536 | 5 => 1024 | 6 => 131072 | 7 => 16384
  | 8 => 8192 | 9 => 2048 | 10 => 1024 | 11 => 32 | 12 => 65536 | 13 => 64 | 14 => 4096 | _ => 0

def areaByte (area i : Nat) : Nat := logicBase + areaOffset area + i / 8

def areaBit (m : Mem) (area i : Nat) : Bool := (memRead m (areaByte area i)).toNat.testBit (i % 8)

def setAreaBit (area i : Nat) (b : Bool) (m : Mem) : Mem :=
  memWrite m (areaByte area i) (byteOf (withBit (memRead m (areaByte area i)).toNat (i % 8) b))

/-- Words of 32 bits: GWD (kind 0) and RWD (kind 1), Table 10.2. -/
def wordAddr (kind i : Nat) : Nat := logicBase + (if kind = 0 then 0x300000 else 0x340000) + 4 * i

def memWord (m : Mem) (kind i : Nat) : Nat := leNat (memReadList m (wordAddr kind i) 4)
def setMemWord (kind i v : Nat) (m : Mem) : Mem := memWriteList m (wordAddr kind i) (leBytes 4 v)

/-! ### Answers and free values -/

def State.answer (s : State) (code : Nat) (payload : ByteList := []) : State :=
  { s with reply := { code := code, payload := payload, msgs := [] } }

/-- The free value of this moment, and the state with the next one due (log 3). -/
def State.free (s : State) : Nat := Config.freeValue s.freeCount
def State.nextFree (s : State) : State := { s with freeCount := s.freeCount + 1 }

/-! ### Time -/

/-- The time base as NS64 (R111). -/
def State.now (s : State) : Nat := 1000000000 * s.time.sec + s.time.ns

def State.mono (s : State) : Nat := s.time.mono

/-- A stamp of the time base, and one of the monotonic count, in units of 0.25 ns (R111). -/
def State.quarterStamp (s : State) : Nat := s.now * 4 + s.time.frac / 2 ^ 30
def State.monoStamp (s : State) : Nat := s.time.mono * 4 + s.time.monoFrac / 2 ^ 30

/-- Time status in specification (R120). -/
def Time.inSpec (t : Time) (limit : Nat) : Bool :=
  match t.servo with
  | 2 | 3 => true
  | 1 | 5 => t.lockedOnce &&
      (match t.frozenAt with
       | some f => decide (t.mono < f + 1000000000 * limit)
       | none => true)
  | _ => false

def State.inSpec (s : State) : Bool := s.time.inSpec (s.regN 0x3001 3)

/-- The grid rate and the nominal frequency of the active configuration image (R172). -/
def State.grid (s : State) : Nat := s.regN 0x47F0 1
def State.nominal (s : State) : Nat := s.regN 0x47F0 2

/-- The NS64 instant of absolute tick T = S × f + k (R132). -/
def tickInstant (f T : Nat) : Nat :=
  if f = 0 then 0 else 1000000000 * (T / f) + 1000000000 * (T % f) / f

/-- The newest tick whose instant is not after t. -/
def tickAt (f t : Nat) : Nat :=
  let S := t / 1000000000
  let g := f * S + f * (t % 1000000000) / 1000000000
  if tickInstant f (g + 1) ≤ t then g + 1 else g

/-- The first tick whose instant is not before t. -/
def tickFrom (f t : Nat) : Nat :=
  let g := tickAt f t
  if tickInstant f g = t then g else g + 1

/-- The PD0 real-time counter counts whole seconds of CLK_AON (R112); n in units of 1/64 ns. -/
def Time.rtcCount (t : Time) (n : Nat) : Time :=
  { t with rtc := t.rtc + (t.rtcPhase + n) / 64000000000, rtcPhase := (t.rtcPhase + n) % 64000000000 }

/-- The real-time counter of PD0 now (R112). -/
def Time.rtcNow (t : Time) : Nat := if t.rtcSet then t.rtc else 0

/-- The time unit at a reset: only PD0 is kept, and the time base starts from it (R112). -/
def Time.afterReset (t : Time) : Time :=
  { Time.reset with rtc := t.rtc, rtcPhase := t.rtcPhase, rtcSet := t.rtcSet, sec := t.rtcNow }

/-- The time base moved forward to NS64 t (never back); the monotonic count advances with it (R113), and the real-time
counter, whose rate against the time base the spec does not give, by as much (log 3). -/
def State.advanceTo (s : State) (t : Nat) : State :=
  if s.now < t then
    { s with time := Time.rtcCount { s.time with
        sec := t / 1000000000, ns := t % 1000000000, frac := 0, mono := s.time.mono + (t - s.now) } (64 * (t - s.now)) }
  else s

/-- A whole second of the monotonic count passes before the end of an interval that a command reports. -/
def State.advanceMono (s : State) (n : Nat) : State := s.advanceTo (s.now + n)

/-! ### Power and phase guards -/

def State.domOn (s : State) (d : Nat) : Bool :=
  match mapGet s.power.dom d .off with
  | .on => true
  | _ => false

/-- The power-fail sequence has qualified: the class-1 reset has taken hold (R37). -/
def Power.failing (p : Power) : Bool :=
  match p.stage with
  | .failing => true
  | _ => false

/-- The steward executes: PD2 is up, no reset holds it and phase 4 has served the dictionary. -/
def State.stewardUp (s : State) : Bool :=
  s.domOn 2 && !s.boot.held && decide (5 ≤ s.boot.phase) && !s.power.failing

/-- All engines run: every domain of the power-on order is up and phase 5 has ended. -/
def State.running (s : State) : Bool := s.stewardUp && decide (6 ≤ s.boot.phase)

/-- `f` where the guard holds; otherwise nothing happens. -/
def State.when (s : State) (b : Bool) (f : State → State) : State := if b then f s else s

def applyAll {α : Type} (f : α → State → State) : List α → State → State
  | [], s => s
  | a :: l, s => applyAll f l (f a s)

end Sys2Proof.Machine
end

