-- ==== Sys2Proof/Machine/Ber.lean ====
section
/-! DEFINITION. Decoding received sampled-value and GOOSE frames: definite-length BER with length fields of up to 3 bytes
(R177, R238). The spec names the fields; their tags are those of IEC 61850-9-2 and IEC 61850-8-1 (PRESUMED, log 8). -/

namespace Sys2Proof.Machine

/-! ### Fields -/

/-- A length field: the length, and what follows. Indefinite lengths and fields of more than 3 bytes are malformed. -/
def berLength : ByteList → Option (Nat × ByteList)
  | [] => none
  | b :: l =>
    if b.toNat < 128 then some (b.toNat, l)
    else
      match b.toNat, l with
      | 129, x :: r => some (x.toNat, r)
      | 130, x :: y :: r => some (256 * x.toNat + y.toNat, r)
      | _, _ => none

/-- The fields of a content as tag and content; none where it is not well formed. -/
def berFields : Nat → ByteList → Option (List (Nat × ByteList))
  | _, [] => some []
  | 0, _ => none
  | fuel + 1, t :: l =>
    match berLength l with
    | none => none
    | some (n, r) =>
      if r.length < n then none
      else (berFields fuel (r.drop n)).map fun fs => (t.toNat, r.take n) :: fs

def berParse (l : ByteList) : Option (List (Nat × ByteList)) := berFields l.length l

/-- The content of the first field with a tag. -/
def berGet (tag : Nat) (fs : List (Nat × ByteList)) : Option ByteList :=
  (fs.find? fun f => f.1 == tag).map (·.2)

/-- A number that must have w bytes. -/
def berFixed (w tag : Nat) (fs : List (Nat × ByteList)) : Option Nat :=
  match berGet tag fs with
  | some b => if b.length = w then some (beNat b) else none
  | none => none

/-- An optional number of w bytes: malformed where it is present with another length. -/
def berOptional (w tag : Nat) (fs : List (Nat × ByteList)) : Option (Option Nat) :=
  match berGet tag fs with
  | some b => if b.length = w then some (some (beNat b)) else none
  | none => some none

/-! ### The header: APPID, Length, two reserved fields (R177, R180) -/

/-- The Length field equals the frame's PDU length, counted from APPID. -/
def pduLengthOk (pdu : ByteList) : Bool := decide (8 ≤ pdu.length) && beAt pdu 2 2 == pdu.length

/-- Bit 15 of the first reserved field. -/
def pduSimulation (pdu : ByteList) : Bool := (beAt pdu 4 2).testBit 15

/-- The one field of the APDU, when it has the tag. -/
def pduBody (tag : Nat) (pdu : ByteList) : Option (List (Nat × ByteList)) :=
  match berParse (pdu.drop 8) with
  | some [(t, b)] => if t = tag then berParse b else none
  | _ => none

/-! ### Sampled values (R177, R178, R182) -/

/-- One ASDU of a sampled-value frame. -/
structure Asdu where
  svId : ByteList
  smpCnt : Nat
  confRev : Nat
  smpSynch : Nat
  gmIdentity : Option Nat
  smpRate : Option Nat
  smpMod : Option Nat
  values : List Int
  quality : List Nat
  deriving DecidableEq, Repr, Inhabited

/-- The channels of seqData: value and quality of 4 bytes each. -/
def seqChannels : Nat → ByteList → List (Int × Nat)
  | 0, _ => []
  | n + 1, l => (ofBits 32 (beAt l 0 4), beAt l 4 4) :: seqChannels n (l.drop 8)

/-- An ASDU; datSet and refrTm are skipped. -/
def asduOf (fs : List (Nat × ByteList)) : Option Asdu :=
  match berGet 0x80 fs, berFixed 2 0x82 fs, berFixed 4 0x83 fs, berFixed 1 0x85 fs, berGet 0x87 fs with
  | some id, some cnt, some rev, some synch, some data =>
    match berOptional 2 0x86 fs, berOptional 2 0x88 fs, berOptional 8 0x89 fs with
    | some rate, some mode, some gm =>
      if data.length % 8 = 0 then
        let ch := seqChannels (data.length / 8) data
        some { svId := id, smpCnt := cnt, confRev := rev, smpSynch := synch, gmIdentity := gm, smpRate := rate,
               smpMod := mode, values := ch.map (·.1), quality := ch.map (·.2) }
      else none
    | _, _, _ => none
  | _, _, _, _, _ => none

/-- Every ASDU of seqASDU. -/
def asdusOf : List (Nat × ByteList) → Option (List Asdu)
  | [] => some []
  | (t, b) :: l =>
    match if t = 0x30 then berParse b else none with
    | none => none
    | some fs =>
      match asduOf fs, asdusOf l with
      | some a, some r => some (a :: r)
      | _, _ => none

/-- The ASDUs of a frame, as many as noASDU says; none where the BER is not well formed. -/
def svAsdus (pdu : ByteList) : Option (List Asdu) :=
  match pduBody 0x60 pdu with
  | none => none
  | some fs =>
    match berGet 0x80 fs, berGet 0xA2 fs with
    | some n, some seq =>
      match (berParse seq).bind asdusOf with
      | some l => if l.length = beNat n then some l else none
      | none => none
    | _, _ => none

/-! ### GOOSE (R238, R241) -/

/-- A data set entry of a received GOOSE frame. -/
inductive GooseData where
  | boolean (v : Bool)
  | dbpos (v : Nat)
  | quality (validity : Nat) (test : Bool)
  | other
  deriving DecidableEq, Repr

/-- The fields of a GOOSE frame that the engine reads. -/
structure GooseMsg where
  gocbRef : ByteList
  goId : ByteList
  datSet : ByteList
  confRev : Nat
  ndsCom : Bool
  numEntries : Nat
  simulation : Bool
  stNum : Nat
  sqNum : Nat
  tal : Nat
  data : List GooseData
  deriving DecidableEq, Repr, Inhabited

/-- A data set entry by its tag: a BOOLEAN, a bit string of 2 bits, a quality of 13 bits (validity first, test bit 11). -/
def gooseEntry (f : Nat × ByteList) : GooseData :=
  match f.1, f.2 with
  | 0x83, [b] => .boolean (b.toNat != 0)
  | 0x84, [u, b] => if u.toNat = 6 then .dbpos (b.toNat / 64) else .other
  | 0x84, [u, b, c] => if u.toNat = 3 then .quality (b.toNat / 64) (c.toNat.testBit 4) else .other
  | _, _ => .other

/-- A number of any length. -/
def berNumber (tag : Nat) (fs : List (Nat × ByteList)) : Option Nat := (berGet tag fs).map beNat

def gooseFields (sim : Bool) (fs : List (Nat × ByteList)) : Option GooseMsg :=
  match berGet 0x80 fs, berNumber 0x81 fs, berGet 0x82 fs, berNumber 0x85 fs, berNumber 0x86 fs with
  | some gocb, some tal, some ds, some st, some sq =>
    match berNumber 0x88 fs, berNumber 0x89 fs, berNumber 0x8A fs, (berGet 0xAB fs).bind berParse with
    | some rev, some nds, some n, some data =>
      some { gocbRef := gocb, goId := (berGet 0x83 fs).getD gocb, datSet := ds, confRev := rev, ndsCom := nds != 0,
             numEntries := n, simulation := sim, stNum := st, sqNum := sq, tal := tal, data := data.map gooseEntry }
    | _, _, _, _ => none
  | _, _, _, _, _ => none

/-- The message of a GOOSE frame; none where its BER is not well formed. It is simulated where bit 15 of Reserved1 or its
simulation field says so. -/
def gooseRead (pdu : ByteList) : Option GooseMsg :=
  match pduBody 0x61 pdu with
  | none => none
  | some fs => gooseFields (pduSimulation pdu || (berNumber 0x87 fs).getD 0 != 0) fs

end Sys2Proof.Machine
end

