-- ==== Sys2Proof/Machine/Digest.lean ====
section
/-! DEFINITION. The digests that the spec names: SHA-256, HMAC-SHA-256 and the CRC-32 of IEEE 802.3. -/

namespace Sys2Proof.Machine

def mask32 (n : Nat) : Nat := n % 4294967296

def rotr32 (n x : Nat) : Nat := x / 2 ^ n + x % 2 ^ n * 2 ^ (32 - n)

/-- Round constants of SHA-256. -/
def shaK : List Nat := [
  0x428a2f98, 0x71374491, 0xb5c0fbcf, 0xe9b5dba5, 0x3956c25b, 0x59f111f1, 0x923f82a4, 0xab1c5ed5,
  0xd807aa98, 0x12835b01, 0x243185be, 0x550c7dc3, 0x72be5d74, 0x80deb1fe, 0x9bdc06a7, 0xc19bf174,
  0xe49b69c1, 0xefbe4786, 0xfc19dc6, 0x240ca1cc, 0x2de92c6f, 0x4a7484aa, 0x5cb0a9dc, 0x76f988da,
  0x983e5152, 0xa831c66d, 0xb00327c8, 0xbf597fc7, 0xc6e00bf3, 0xd5a79147, 0x6ca6351, 0x14292967,
  0x27b70a85, 0x2e1b2138, 0x4d2c6dfc, 0x53380d13, 0x650a7354, 0x766a0abb, 0x81c2c92e, 0x92722c85,
  0xa2bfe8a1, 0xa81a664b, 0xc24b8b70, 0xc76c51a3, 0xd192e819, 0xd6990624, 0xf40e3585, 0x106aa070,
  0x19a4c116, 0x1e376c08, 0x2748774c, 0x34b0bcb5, 0x391c0cb3, 0x4ed8aa4a, 0x5b9cca4f, 0x682e6ff3,
  0x748f82ee, 0x78a5636f, 0x84c87814, 0x8cc70208, 0x90befffa, 0xa4506ceb, 0xbef9a3f7, 0xc67178f2]

/-- The initial hash value. -/
def shaInit : List Nat := [0x6a09e667, 0xbb67ae85, 0x3c6ef372, 0xa54ff53a, 0x510e527f, 0x9b05688c, 0x1f83d9ab, 0x5be0cd19]

/-- The message schedule, kept newest first: word t from words t-2, t-7, t-15 and t-16. -/
def shaExtend : Nat → List Nat → List Nat
  | 0, w => w
  | n + 1, w =>
    let x15 := w.getD 14 0
    let x2 := w.getD 1 0
    let s0 := Nat.xor (Nat.xor (rotr32 7 x15) (rotr32 18 x15)) (x15 / 8)
    let s1 := Nat.xor (Nat.xor (rotr32 17 x2) (rotr32 19 x2)) (x2 / 1024)
    shaExtend n (mask32 (w.getD 15 0 + s0 + w.getD 6 0 + s1) :: w)

/-- The eight working variables. -/
structure ShaState where
  a : Nat
  b : Nat
  c : Nat
  d : Nat
  e : Nat
  f : Nat
  g : Nat
  h : Nat
  deriving DecidableEq, Repr

def shaRound (s : ShaState) (kw : Nat) : ShaState :=
  let s1 := Nat.xor (Nat.xor (rotr32 6 s.e) (rotr32 11 s.e)) (rotr32 25 s.e)
  let ch := Nat.xor (Nat.land s.e s.f) (Nat.land (4294967295 - s.e) s.g)
  let t1 := s.h + s1 + ch + kw
  let s0 := Nat.xor (Nat.xor (rotr32 2 s.a) (rotr32 13 s.a)) (rotr32 22 s.a)
  let mj := Nat.xor (Nat.xor (Nat.land s.a s.b) (Nat.land s.a s.c)) (Nat.land s.b s.c)
  { a := mask32 (t1 + s0 + mj), b := s.a, c := s.b, d := s.c, e := mask32 (s.d + t1), f := s.e, g := s.f, h := s.g }

def shaRounds : ShaState → List Nat → List Nat → ShaState
  | s, k :: ks, w :: ws => shaRounds (shaRound s (k + w)) ks ws
  | s, _, _ => s

/-- The 16 big-endian words of a 64-byte block. -/
def shaWords : Nat → ByteList → List Nat
  | 0, _ => []
  | n + 1, l => beNat (l.take 4) :: shaWords n (l.drop 4)

def shaBlock (s : ShaState) (block : ByteList) : ShaState :=
  let w := (shaExtend 48 (shaWords 16 block).reverse).reverse
  let r := shaRounds s shaK w
  { a := mask32 (s.a + r.a), b := mask32 (s.b + r.b), c := mask32 (s.c + r.c), d := mask32 (s.d + r.d),
    e := mask32 (s.e + r.e), f := mask32 (s.f + r.f), g := mask32 (s.g + r.g), h := mask32 (s.h + r.h) }

def shaBlocks : Nat → ShaState → ByteList → ShaState
  | 0, s, _ => s
  | n + 1, s, l => shaBlocks n (shaBlock s (l.take 64)) (l.drop 64)

/-- SHA-256 of a byte string, 32 bytes. -/
def sha256 (m : ByteList) : ByteList :=
  let n := m.length
  let z := (119 - n % 64) % 64
  let p := m ++ [byteOf 128] ++ List.replicate z (byteOf 0) ++ beBytes 8 (8 * n)
  let i : ShaState :=
    { a := shaInit.getD 0 0, b := shaInit.getD 1 0, c := shaInit.getD 2 0, d := shaInit.getD 3 0,
      e := shaInit.getD 4 0, f := shaInit.getD 5 0, g := shaInit.getD 6 0, h := shaInit.getD 7 0 }
  let s := shaBlocks (p.length / 64) i p
  beBytes 4 s.a ++ beBytes 4 s.b ++ beBytes 4 s.c ++ beBytes 4 s.d ++ beBytes 4 s.e ++ beBytes 4 s.f ++
    beBytes 4 s.g ++ beBytes 4 s.h

/-- HMAC-SHA-256 with a key of at most 64 bytes. -/
def hmacSha256 (key m : ByteList) : ByteList :=
  let k := padTo 64 key
  let x := fun (c : Nat) => k.map fun b => byteOf (Nat.xor b.toNat c)
  sha256 (x 0x5C ++ sha256 (x 0x36 ++ m))

def crcByte : Nat → Nat → Nat
  | 0, c => c
  | n + 1, c => crcByte n (if c % 2 = 1 then Nat.xor (c / 2) 0xEDB88320 else c / 2)

/-- CRC-32, IEEE 802.3 polynomial (Table 15.1). -/
def crc32 (l : ByteList) : Nat :=
  Nat.xor (l.foldl (fun c b => crcByte 8 (Nat.xor c b.toNat)) 4294967295) 4294967295

/-- 32 bytes of zeros. -/
def zero32 : ByteList := List.replicate 32 (byteOf 0)

end Sys2Proof.Machine
end

