-- ==== Sys2Proof/Machine/Notices.lean ====
section
/-! DEFINITION. What the steward and the hardware send to a facet: mailbox messages (R302 to R305), flags of tasks
and the handing over of tasks to waiting cores (R320, R321). -/

namespace Sys2Proof.Machine

/-! ### Facets -/

def Mailbox.empty : Mailbox :=
  { inSlots := [], outSlots := [], inProd := 0, inCons := 0, outProd := 0, outCons := 0, ctrl := 0, status := 0,
    held := [], noticeTag := 0 }

/-- A facet that is not defined: every register at the reset of Tables 12.3 to 12.13. -/
def Facet.none : Facet :=
  { state := 0, failed := false, ready := false, restored := false, mirrorErr := false, overShare := false, refusals := 0,
    units := [], mirrorBase := 0, mirrorSize := 0, mbox := Mailbox.empty, irq := 0, swb := [], gooseBits := 0,
    gooseF := [], gooseResult := 0, dma := [], dmaResult := 0, dmaCompleted := 0, dmaAccepted := 0, nic := [],
    bindings := [], waitLimit := 0, affinityReg := 0, dispatchResult := 0, taskQuery := 0, waiters := [],
    answers := [], running := [], plane := 0, tpoGranted := 0, stepped := false, persist := [], boot := [],
    result := 0, resets := 0, planeFaults := 0, accessFaults := 0, overRefusals := 0, mboxErrors := 0, taken := 0,
    lostPosts := 0, nicDiscards := 0, dispatches := 0, longest := [] }

def State.facet (s : State) (n : Nat) : Facet := mapGet s.facets.facet n Facet.none

def State.setFacet (s : State) (n : Nat) (f : Facet) : State :=
  { s with facets := { s.facets with facet := mapPut n f s.facets.facet } }

/-- Setting n of facet entry 0x5000 + n. -/
def State.facetReg (s : State) (n sub : Nat) : Nat := s.regN (0x5000 + n) sub

def State.coreMask (s : State) (n : Nat) : Nat := s.facetReg n 5

def State.facetKeys (s : State) : List Nat := mapKeys s.facets.facet

/-- Launched: LAUNCHING, READY, FROZEN or SAVING. -/
def Facet.launched (f : Facet) : Bool := f.state == 2 || f.state == 3 || f.state == 4 || f.state == 5

/-- The guest runs: LAUNCHING or READY. -/
def Facet.live (f : Facet) : Bool := f.state == 2 || f.state == 3

def lowestBit (n w : Nat) : Nat := ((bitList n w).head?).getD 0

/-! ### The dispatch unit (R320, R321) -/

def Task.free : Task :=
  { state := 0, flags := 0, mask := 0, all := false, priority := 0, affinity := 0, stamp := 0, since := 0, core := 0,
    cancelPending := false }

def State.task (s : State) (t : Nat) : Task := mapGet s.facets.tasks t Task.free

def State.setTask (s : State) (t : Nat) (k : Task) : State :=
  { s with facets := { s.facets with tasks := mapPut t k s.facets.tasks } }

def Task.satisfied (t : Task) : Bool :=
  decide (t.mask ≠ 0) &&
    (if t.all then decide (Nat.land t.flags t.mask = t.mask) else decide (Nat.land t.flags t.mask ≠ 0))

/-- A task that becomes READY takes the stamp of this moment. -/
def State.makeReady (s : State) (g : Nat) (k : Task) : State :=
  let s1 := s.setTask g { k with state := 2, stamp := s.facets.stamp, since := s.mono }
  { s1 with facets := { s1.facets with stamp := s1.facets.stamp + 1 } }

/-- BLOCKED, or READY where satisfied. -/
def State.settleTask (s : State) (g : Nat) (k : Task) : State :=
  if k.satisfied then s.makeReady g k else s.setTask g { k with state := 1 }

def Task.better (a b : Nat × Task) : Bool :=
  decide (a.2.priority > b.2.priority) ||
    (a.2.priority == b.2.priority &&
      (decide (a.2.stamp < b.2.stamp) || (a.2.stamp == b.2.stamp && decide (a.1 < b.1))))

def bestTask : List (Nat × Task) → Option (Nat × Task)
  | [] => none
  | a :: l =>
    match bestTask l with
    | none => some a
    | some b => if Task.better a b then some a else some b

/-- READY tasks of the facet whose affinity is 0 or contains the core. -/
def State.candidates (s : State) (n core : Nat) : List (Nat × Task) :=
  let base := s.facetReg n 8
  let cnt := s.facetReg n 9
  s.facets.tasks.filter fun p =>
    decide (base ≤ p.1) && decide (p.1 < base + cnt) && p.2.state == 2 &&
      (p.2.affinity == 0 || p.2.affinity.testBit core)

/-- TAKE answer word (Table 12.16). -/
def takeWord (valid priority reason task flags : Nat) : Nat :=
  valid * 2 ^ 63 + priority * 2 ^ 60 + reason * 2 ^ 44 + task * 2 ^ 32 + flags

/-- The best candidate is handed to the core: its masked flags are given and cleared, and it runs (R321, R322). -/
def State.handOver (s : State) (n core : Nat) (c : Nat × Task) : State :=
  let k := c.2
  let g := Nat.land k.flags k.mask
  let s1 := s.setTask c.1 { k with flags := k.flags - g, state := 3, core := core }
  let f := s1.facet n
  let w := s.mono - k.since
  let longest := if mapGet f.longest k.priority 0 < w then mapPut k.priority (wrap 32 w) f.longest else f.longest
  s1.setFacet n { f with
    answers := mapPut core (takeWord 1 k.priority 0 (c.1 - s.facetReg n 8) g) f.answers,
    waiters := f.waiters.filter fun x => x ≠ core,
    dispatches := wrap 64 (f.dispatches + 1), longest := longest }

/-- A waiting core is served where a task is ready for it. -/
def State.serveCore (s : State) (n core : Nat) : State :=
  match bestTask (s.candidates n core) with
  | some c => s.handOver n core c
  | none => s

/-- Cores waiting in TAKE_WAIT are served, longest waiting first, while the facet runs. -/
def State.serveWaiters (s : State) (n : Nat) : State :=
  if (s.facet n).live then applyAll (fun core s => s.serveCore n core) (s.facet n).waiters s else s

/-- Flags posted to local task t (R320): lost at a FREE or undefined task. -/
def State.postFlags (s : State) (n t flags : Nat) : State :=
  let g := s.facetReg n 8 + t
  let k := s.task g
  if s.facetReg n 9 ≤ t ∨ k.state = 0 then
    let f := s.facet n
    s.setFacet n { f with lostPosts := wrap 64 (f.lostPosts + 1) }
  else
    let k1 := { k with flags := Nat.lor k.flags flags }
    let s1 := if k.state = 1 ∧ k1.satisfied then s.makeReady g k1 else s.setTask g k1
    s1.serveWaiters n

/-- An event binding register reads its reset with DIVIDER 1 (Table 12.17). -/
def Facet.binding (f : Facet) (i : Nat) : Nat := mapGet f.bindings i 0x10000

/-- Binding i of the facet posts its flag where it is active and bound to the source. -/
def State.postBinding (n src row : Nat) (i : Nat) (s : State) : State :=
  let w := (s.facet n).binding i
  let d := bitsAt w 16 16
  if w.testBit 63 && bitsAt w 0 8 == src && (src != 0 || row % (if d = 0 then 1 else d) == 0) then
    s.postFlags n (bitsAt w 36 12) (2 ^ bitsAt w 48 5)
  else s

def State.postSource (s : State) (n src row : Nat) : State :=
  if (s.facet n).bindings.isEmpty then s else applyAll (State.postBinding n src row) (List.range 16) s

/-- Every facet's bindings to a source post (R353, R321). -/
def State.postAll (s : State) (src row : Nat) : State :=
  applyAll (fun n s => s.postSource n src row) s.facetKeys s

/-! ### Mailboxes (R302 to R305) -/

def msgHeader (tag code len result : Nat) : Nat :=
  tag % 65536 * 2 ^ 48 + code % 65536 * 2 ^ 32 + len % 16 * 2 ^ 28 + result % 65536

def putSlots (k : Nat) : List Nat → Map Nat → Map Nat
  | [], m => m
  | w :: l, m => putSlots (k + 1) l (mapPut (k % 16) w m)

/-- The inbound doorbell: IN_PENDING, the interrupt on TARGET, and the flags bound to source 1 (R303). -/
def State.doorbell (s : State) (n : Nat) : State :=
  let f := s.facet n
  let m := f.mbox
  let target := bitsAt m.ctrl 0 6
  let core := if (s.coreMask n).testBit target then target else lowestBit (s.coreMask n) 64
  let raise := !m.status.testBit 0 && m.ctrl.testBit 8
  let f1 := { f with mbox := { m with status := withBit m.status 0 true },
                     irq := if raise then withBit f.irq core true else f.irq }
  -- a core that waits in TAKE_WAIT returns with REASON 1 when an interrupt is pending for it
  let f2 := if raise && f1.waiters.contains core then
      { f1 with waiters := f1.waiters.filter (fun x => x ≠ core),
                answers := mapPut core (takeWord 0 0 1 0 0) f1.answers }
    else f1
  (s.setFacet n f2).postSource n 1 0

/-- A message of the steward: into the ring where it fits and nothing is held before it, else held (at most 64). -/
def State.sendToGuest (s : State) (n : Nat) (words : List Nat) : State :=
  let f := s.facet n
  let m := f.mbox
  if m.held.isEmpty && decide ((m.inProd + 2 ^ 32 - m.inCons) % 2 ^ 32 + words.length ≤ 16) then
    let m1 := { m with inSlots := putSlots m.inProd words m.inSlots,
                       inProd := wrap 32 (m.inProd + words.length) }
    (s.setFacet n { f with mbox := m1 }).doorbell n
  else if m.held.length < 64 then
    s.setFacet n { f with mbox := { m with held := m.held ++ [words] } }
  else s

/-- Held messages go in, in order, as slots become free (R304). -/
def releaseHeld (n : Nat) : List (List Nat) → State → State
  | [], s => s
  | w :: l, s =>
    let f := s.facet n
    let m := f.mbox
    if (m.inProd + 2 ^ 32 - m.inCons) % 2 ^ 32 + w.length ≤ 16 then
      let m1 := { m with inSlots := putSlots m.inProd w m.inSlots, inProd := wrap 32 (m.inProd + w.length), held := l }
      releaseHeld n l ((s.setFacet n { f with mbox := m1 }).doorbell n)
    else s

/-- A notice to a launched facet, with the next tag of its count (R305). -/
def State.notice (s : State) (n code : Nat) (payload : List Nat) : State :=
  let f := s.facet n
  if f.launched then
    let tag := f.mbox.noticeTag
    let s1 := s.setFacet n { f with mbox := { f.mbox with noticeTag := wrap 16 (tag + 1) } }
    s1.sendToGuest n (msgHeader tag code payload.length 0 :: payload)
  else s

def State.noticeAll (s : State) (code : Nat) (payload : List Nat) : State :=
  applyAll (fun n s => s.notice n code payload) s.facetKeys s

end Sys2Proof.Machine
end

