-- ==== Sys2Proof/Machine/Log.lean ====
section
/-! DEFINITION. The log engine (chapter 15): entering a record, its number, its place in the ring or the bank, the
suppression of each type, the readers' views, time anchors, and filling a reader's window. -/

namespace Sys2Proof.Machine

/-- Types that R387 never limits. -/
def logUnlimited (t : Nat) : Bool :=
  t == 0x0301 || t == 0x0302 || t == 0x0E02 || t == 0x0E03 || decide (0x0B01 ≤ t ∧ t ≤ 0x0B06)

/-- Types of Table 15.2 seen by all facets. -/
def logSeenByAll (t : Nat) : Bool :=
  t == 0x0301 || t == 0x0302 || t == 0x0A01 || t == 0x0B01 || t == 0x0B04 || t == 0x0B06 || t == 0x0E02

/-- Facet n's view (R396); the steward, sessions and clients (readers above 255) see every record. -/
def inView (reader : Nat) (r : LogRecord) : Bool :=
  decide (256 ≤ reader) || r.facet == reader || logSeenByAll r.typ

def Cursor.fresh : Cursor :=
  { cursor := 0, slots := [], bank := false, overrun := false, newEntered := false, skipped := 0, resume := 0,
    notify := false }

def Log.bankMode (l : Log) : Bool := l.state == 1 || l.state == 3

def ringSize : Nat := 1048576

/-- Entry of the last-gasp bank that record s takes in bank mode (R400). -/
def bankEntry (failedAt s : Nat) : Nat :=
  let n := s - failedAt
  if n < 8 then n else 8 + n % 8

/-- The place of a record: the ring, or the bank, where a record pushed out of entries 8 to 15 is noted for R401. -/
def Log.place (l : Log) (r : LogRecord) : Log :=
  if l.bankMode then
    let e := bankEntry l.failedAt r.seq
    let out := match mapFind l.bank e with
      | some o => if l.failedAt ≤ o.seq ∧ 8 ≤ e then
          match l.pushedOut with
          | none => some (o.seq, o.seq)
          | some (a, _) => some (a, o.seq)
        else l.pushedOut
      | none => l.pushedOut
    { l with bank := mapPut e r l.bank, pushedOut := out }
  else { l with held := (r :: l.held).take ringSize }

/-- The end of the block of 65,536 numbers that holds n (R384). -/
def blockEndOf (n : Nat) : Nat := n / 65536 * 65536 + 65535

/-- A record of the request with number s, ROW and BOOT as the module stands (Table 15.1). -/
def State.recordOf (s : State) (q : LogReq) (num : Nat) : LogRecord :=
  { seq := num, typ := q.typ, severity := q.severity, fromBank := false, facet := q.facet, code := q.code,
    row := s.lens.newest.map (·.1), inst := q.inst, data := padTo 32 q.data, boot := wrap 32 s.boot.resetCount }

/-- A record enters the log: it takes the next number and its place. -/
def State.enter (s : State) (q : LogReq) : State :=
  let l := s.log
  let r := s.recordOf q l.next
  { s with log := { l.place r with next := l.next + 1, blockEnd := blockEndOf (l.next + 1) } }

/-- A reader learns that a record entered its view: NEW in AG_STATUS, and for a facet with EN its notice (R397). -/
def State.tellReader (r : LogRecord) (c : Nat × Cursor) (s : State) : State :=
  if inView c.1 r then
    let k := c.2
    let s1 := { s with log := { s.log with cursors := mapPut c.1 { k with newEntered := true, notify := false } s.log.cursors } }
    if k.notify then s1.notice c.1 0x0B81 [s1.log.next] else s1
  else s

/-- A record reaches the log engine (R386, R387). Before the log of this start is prepared it waits (R393). -/
def State.logReq (s : State) (q : LogReq) : State :=
  let l := s.log
  if !l.ready then { s with log := { l with waiting := l.waiting ++ [q] } }
  else
    let n := mapGet l.second q.typ 0
    if !logUnlimited q.typ && decide (256 ≤ n) then
      { s with log := { l with second := mapPut q.typ (n + 1) l.second, suppressed := wrap 64 (l.suppressed + 1) } }
    else
      let r := s.recordOf q l.next
      let s1 := s.enter q
      let s2 := { s1 with log := { s1.log with second := mapPut q.typ (n + 1) s1.log.second,
                                                lastHealth := if q.typ = 0x0B06 then r.seq else s1.log.lastHealth } }
      applyAll (State.tellReader r) s2.log.cursors s2

def noFacet : Nat := 0xFFFF

/-- The usual form: type, severity, facet (0xFFFF none), code, instance, data bytes. -/
def State.logRec (s : State) (typ sev facet code inst : Nat) (data : ByteList) : State :=
  s.logReq { typ := typ, severity := sev, facet := facet, code := code, inst := inst, data := data }


/-- A request among others in ascending TYPE, then ascending INSTANCE; equal ones stay in their order. -/
def insertReq (q : LogReq) : List LogReq → List LogReq
  | [] => [q]
  | x :: l => if q.typ < x.typ ∨ (q.typ = x.typ ∧ q.inst < x.inst) then q :: x :: l else x :: insertReq q l

/-- Records that reach the engine in the same CLK_STW cycle take their numbers in ascending TYPE, then INSTANCE (R386). DESIGN
CHOICE (log 23): those that report one and the same event come in one cycle; the effects of a command that follow from one
another reach the engine one after the other. -/
def State.logAll (s : State) (l : List LogReq) : State :=
  applyAll (fun q s => s.logReq q) (l.foldl (fun a q => insertReq q a) []) s

/-- 0x0B04 for a run of lost numbers; nothing for an empty run. -/
def State.logLost (s : State) (first last cause : Nat) : State :=
  if first ≤ last then
    let s1 := { s with log := { s.log with lost := wrap 64 (s.log.lost + (last + 1 - first)) } }
    s1.logRec 0x0B04 1 noFacet 0 0 (leBytes 8 first ++ leBytes 8 last ++ [byteOf cause])
  else s

/-- 0x3000:02: servo state, in specification, holdover degraded. -/
def State.servoByte (s : State) : Nat :=
  s.time.servo + 64 * boolNat s.inSpec + 128 * boolNat s.time.degraded

/-- A time anchor with its cause (R389). -/
def State.anchorReq (s : State) (cause : Nat) : LogReq :=
  { typ := 0x0301, severity := 0, facet := noFacet, code := 0, inst := 0,
    data := leBytes 6 s.time.sec ++ leBytes 4 s.time.ns ++ leBytes 8 s.time.mono ++
      [byteOf s.servoByte, byteOf cause] ++ leBytes 8 ((s.lens.newest.map (·.2)).getD 0) ++ leBytes 2 (toBits 16 s.time.utc) }

def State.anchor (s : State) (cause : Nat) : State := s.logReq (s.anchorReq cause)

/-- The 64 bytes of a record (Table 15.1). -/
def LogRecord.bytes (r : LogRecord) : ByteList :=
  let b := leBytes 8 r.seq ++ leBytes 2 r.typ ++
    [byteOf r.severity, byteOf (boolNat r.row.isSome + 2 * boolNat r.fromBank)] ++
    leBytes 2 r.facet ++ leBytes 2 r.code ++ leBytes 6 (r.row.getD 0) ++ leBytes 2 r.inst ++
    padTo 32 r.data ++ leBytes 4 r.boot
  b ++ leBytes 4 (crc32 b)

/-- ms since power good or reset. -/
def State.sinceStart (s : State) : Nat := (s.mono - s.boot.startedAt) / 1000000

/-- A start-up phase exits: the next one begins (R58), with record 0x0E01. -/
def State.endPhase (s : State) (n : Nat) : State :=
  if s.boot.phase = n then
    ({ s with boot := { s.boot with phase := n + 1 } } : State).logRec 0x0E01 0 noFacet 0 n (leBytes 4 s.sinceStart)
  else s

/-! ### Reading (R394, R395) -/

def insertRecord (r : LogRecord) : List LogRecord → List LogRecord
  | [] => [r]
  | x :: l => if r.seq < x.seq then r :: x :: l else x :: insertRecord r l

/-- The records that a fill reads, ascending: the ring, or in bank mode those of the failure onwards. -/
def Log.readable (l : Log) : List LogRecord :=
  if l.bankMode then
    ((l.bank.map (·.2)).filter fun r => decide (l.failedAt ≤ r.seq)).foldr insertRecord []
  else l.held.reverse

/-- AG_OLDEST. -/
def Log.oldest (l : Log) : Nat :=
  if l.bankMode then l.failedAt
  else match l.held.getLast? with
    | some r => r.seq
    | none => l.next

/-- At most `n` records examined; those in view are copied until 16 have been. Answers the copies and the number
after the last record examined, or after the last one copied when 16 were. -/
def fillFrom (reader : Nat) : Nat → List LogRecord → List LogRecord → Nat → List LogRecord × Nat
  | 0, _, acc, resume => (acc.reverse, resume)
  | _, [], acc, resume => (acc.reverse, resume)
  | n + 1, r :: l, acc, _ =>
    if inView reader r then
      if acc.length = 15 then ((r :: acc).reverse, r.seq + 1)
      else fillFrom reader n l (r :: acc) (r.seq + 1)
    else fillFrom reader n l acc (r.seq + 1)

/-- A write of c to AG_CURSOR or 0x9001:01 fills the reader's window (R395). -/
def State.fill (s : State) (reader c : Nat) : State :=
  let l := s.log
  let old := l.oldest
  let start := if c = 0 then old else if c < old then old else if l.next < c then l.next else c
  let overrunNow := decide (c ≠ 0 ∧ c < old)
  let (slots, resume) := fillFrom reader 4096 (l.readable.filter fun r => decide (start ≤ r.seq)) [] start
  let k := mapGet l.cursors reader Cursor.fresh
  let k' : Cursor :=
    { k with cursor := c, slots := slots, bank := l.bankMode, overrun := overrunNow, newEntered := false,
             skipped := if overrunNow then old - c else 0, resume := resume }
  { s with log := { l with cursors := mapPut reader k' l.cursors } }

/-- AG_STATUS (Table 15.3). -/
def Cursor.status (k : Cursor) : Nat :=
  k.slots.length + 256 * boolNat k.overrun + 512 * boolNat k.bank + 1024 * boolNat k.newEntered

/-- The 16 slots, all 0 beyond COUNT. -/
def Cursor.window (k : Cursor) : ByteList :=
  padTo 1024 (k.slots.flatMap LogRecord.bytes)

end Sys2Proof.Machine
end

