-- ==== Sys2Proof/Machine/Roles.lean ====
section
/-! DEFINITION. Health causes (R402), eligibility (R369, Table 14.14) and the change of role (R353). -/

namespace Sys2Proof.Machine

/-- Warning, fault and latched causes of Table 15.4. -/
def warningMask : Nat := 2^0 + 2^1 + 2^3 + 2^4 + 2^5 + 2^6 + 2^7 + 2^8 + 2^12 + 2^16 + 2^18 + 2^19
def faultMask : Nat := 2^2 + 2^9 + 2^10 + 2^11 + 2^13 + 2^14 + 2^15 + 2^17 + 2^20
def latchedMask : Nat := 2^4 + 2^5 + 2^6 + 2^9 + 2^11 + 2^13 + 2^14 + 2^15 + 2^17

def Health.warnings (h : Health) : Nat := Nat.land h.causes warningMask
def Health.faults (h : Health) : Nat := Nat.land h.causes faultMask
def Health.latched (h : Health) : Nat := Nat.land h.causes latchedMask

/-- 0x9010:01: [0] warning, [1] fault. -/
def Health.flags (h : Health) : Nat :=
  boolNat (decide (h.warnings ≠ 0)) + 2 * boolNat (decide (h.faults ≠ 0))

def Health.fault (h : Health) : Bool := decide (h.faults ≠ 0)

/-- A change of role is logged, told to every launched facet and posted to every binding of source 19 (R353). -/
def State.setRole (s : State) (r : Nat) : State :=
  if s.pair.role = r then s
  else
    let old := s.pair.role
    let s1 := { s with pair := { s.pair with role := r } }
    let s2 := s1.logRec 0x0A01 1 noFacet 0 0 [byteOf old, byteOf r, byteOf s.pair.cause, byteOf s.pair.partnerRole]
    (s2.noticeAll 0x0081 [r]).postAll 19 0

/-- Eligibility bits that follow other state: UNPROVISIONED, HEALTH_FAULT, TAKEOVER_FAULT (Table 14.7). -/
def State.eligNow (s : State) : Nat :=
  withBit (withBit (withBit s.pair.elig 0 (!s.sec.provisioned)) 7 s.health.fault) 8 s.pair.takeoverFault

/-- A standby is SHADE only while every reason is clear, and otherwise DIM (R369). -/
def State.settle (s : State) : State :=
  let s1 := { s with pair := { s.pair with elig := s.eligNow } }
  if s1.pair.role = 2 ∧ s1.pair.elig ≠ 0 then s1.setRole 3
  else if s1.pair.role = 3 ∧ s1.pair.elig = 0 then s1.setRole 2
  else s1

/-- An eligibility reason set or cleared. -/
def State.setElig (s : State) (bit : Nat) (b : Bool) : State :=
  ({ s with pair := { s.pair with elig := withBit s.pair.elig bit b } } : State).settle

/-- A health cause set or cleared: every change writes 0x0B06 (R402). -/
def State.setCause (s : State) (bit : Nat) (b : Bool) : State :=
  if s.health.causes.testBit bit = b then s
  else
    let s1 := { s with health := { s.health with causes := withBit s.health.causes bit b } }
    let h := s1.health
    let sev := if h.faults ≠ 0 then 2 else if h.warnings ≠ 0 then 1 else 0
    let s2 := s1.logRec 0x0B06 sev noFacet 0 0
      ([byteOf h.flags] ++ List.replicate 7 (byteOf 0) ++ leBytes 8 h.warnings ++ leBytes 8 h.faults ++ leBytes 8 (2 ^ bit))
    s2.settle

/-- A latched cause whose condition is present now. -/
def State.latchCause (s : State) (bit : Nat) (present : Bool) : State :=
  let s1 := { s with health := { s.health with present := withBit s.health.present bit present } }
  s1.setCause bit true

/-- LIT. -/
def State.lit (s : State) : Bool := s.pair.role == 1

/-- Outputs are driven: LIT, and phase 8 of start-up has ended (R64, R352). -/
def State.driven (s : State) : Bool := s.lit && decide (9 ≤ s.boot.phase)

/-- The module in slot A (0x1000:08 = 0). -/
def State.slotA (s : State) : Bool := !s.power.slotB

/-- The partner reads as owner, or as requesting (R354). -/
def linesOwner (l : Lines) : Bool := l.own0 || l.own1
def linesRequest (l : Lines) : Bool := l.req0 || l.req1

def State.readLines (s : State) (l : Lines) : State := { s with pair := { s.pair with lines := l } }

/-- A request succeeds when the partner reads not-owner and is not requesting or is in slot B (R355). A module that is not
provisioned never drives an output (R61), and gains nothing. -/
def State.mayGain (s : State) : Bool :=
  s.sec.provisioned && !linesOwner s.pair.lines && (!linesRequest s.pair.lines || s.slotA) && !s.pair.takeoverFault

/-- 0x8000:0C, as blink byte 2. -/
def linesByte (l : Lines) : Nat :=
  boolNat l.own0 + 2 * boolNat l.own1 + 4 * boolNat l.req0 + 8 * boolNat l.req1

/-- A counter of 0x8003 (subindex) counts. -/
def State.mirrorCount (s : State) (sub n : Nat) : State :=
  { s with pair := { s.pair with counters := mapAdd 64 sub n s.pair.counters } }

end Sys2Proof.Machine
end

