-- ==== Sys2Proof/Machine/Keys.lean ====
section
/-! DEFINITION. Keys and signatures (chapter 17): signature blocks, zeroisation, the attestation report, the
unlock challenge, and provisioning bundles. -/

namespace Sys2Proof.Machine

/-! ### Signature blocks (R430) -/

/-- A parsed signature block: tree, signer's public key, signature. -/
structure SigBlock where
  tree : Nat
  key : ByteList
  sig : ByteList
  deriving DecidableEq, Repr

/-- Magic 0x50 0x5A 0x53 0x47, tree, 3 zeros, signature length, 60-byte key, signature; the whole of `b`. -/
def parseBlock (b : ByteList) : Option SigBlock :=
  let n := leAt b 8 4
  if b.length = 72 + n ∧ leAt b 0 4 = 0x47535A50 ∧ leAt b 5 3 = 0 then
    some { tree := leAt b 4 1, key := bytesAt b 12 60, sig := b.drop 72 }
  else none

/-- Tree height of an LMS type of R429, LMS_SHA256_M32_H5 to H25. -/
def lmsHeight (t : Nat) : Option Nat := if 5 ≤ t ∧ t ≤ 9 then some (5 * (t - 4)) else none

/-- Hash chains of an LM-OTS type of R429, LMOTS_SHA256_N32_W1 to W8 (PRESUMED: the count p of RFC 8554, log 23). -/
def otsChains (t : Nat) : Option Nat :=
  match t with
  | 1 => some 265
  | 2 => some 133
  | 3 => some 67
  | 4 => some 34
  | _ => none

/-- Length of the LMS signature under an LMS public key (RFC 8554: leaf, LM-OTS type, C, chains, LMS type, path), none for a
parameter set that R429 does not admit. -/
def lmsSigLength (key : ByteList) : Option Nat :=
  match lmsHeight (beAt key 0 4), otsChains (beAt key 4 4) with
  | some h, some p => some (44 + 32 * p + 32 * h)
  | _, _ => none

/-- Every level's key, the top one's first, has a parameter set of R429: n further levels, each key after the signature of
the level above. -/
def levelsOk : Nat → ByteList → ByteList → Bool
  | 0, key, _ => (lmsSigLength key).isSome
  | n + 1, key, sig =>
    match lmsSigLength key with
    | some m => levelsOk n (bytesAt sig m 56) (sig.drop (m + 56))
    | none => false

/-- R429: 1 to 3 levels, each of an LMS type and an LM-OTS type that the module admits. -/
def hssParams (key sig : ByteList) : Bool :=
  decide (1 ≤ beAt key 0 4 ∧ beAt key 0 4 ≤ 3) && levelsOk (beAt key 0 4 - 1) (key.drop 4) (sig.drop 4)

/-- The block verifies over `msg` in a tree whose key passes `accept` (R429, R430). -/
def blockOk (tree : Nat) (accept : ByteList → Bool) (msg b : ByteList) : Bool :=
  match parseBlock b with
  | some x => x.tree == tree && accept x.key && hssParams x.key x.sig && Config.hssVerify x.key msg x.sig
  | none => false

/-- A signed image ends with a signature block over every byte before it (R430). -/
def signedImage (tree : Nat) (accept : ByteList → Bool) (raw : ByteList) : Bool :=
  (List.range (raw.length + 1)).any fun n => blockOk tree accept (raw.take n) (raw.drop n)

/-- The owner key digest in force: the last fuse slot burned. -/
def Security.owner (x : Security) : Option ByteList := x.owners.getLast?

def Security.ownerKeyOk (x : Security) (key : ByteList) : Bool :=
  match x.owner with
  | some d => sha256 key == d
  | none => false

/-- A configuration tree key: one of the configuration roots (R430). -/
def Security.rootOk (x : Security) (key : ByteList) : Bool := x.roots.any fun r => r.2 == key

def Security.publicKey (x : Security) : ByteList :=
  if x.seed.isEmpty then List.replicate 60 (byteOf 0) else padTo 60 (Config.identityPublicKey x.seed)

def Security.digest (x : Security) : ByteList := if x.seed.isEmpty then zero32 else sha256 x.publicKey

/-! ### Zeroisation (R440 to R442) -/

def Security.keyStoreEmpty (x : Security) : Bool := x.state == 0 || x.state == 3

/-- Every item of Table 17.3 is cleared. -/
def Security.clearKeys (x : Security) : Security :=
  { x with seed := [], q := 0, roots := [], psk := [], mirrorKey := [], epoch := 0, pendKey := [], pendEpoch := 0,
           sendPending := false, migration := [], bound := zero32, queue := [], nonce := none }

/-- The event in the tamper record of 0xA030, with the real-time counter's seconds. -/
def Security.recordTamper (x : Security) (sensors time : Nat) : Security :=
  { x with tamperEvents := wrap 32 (x.tamperEvents + 1), tamperSensors := sensors % 32, tamperTime := time }

/-- A sensor event: the key store is zeroised, or already empty; the event is recorded. -/
def Security.tamper (x : Security) (sensors time : Nat) : Security :=
  if x.keyStoreEmpty then x.recordTamper sensors time
  else { (x.clearKeys.recordTamper sensors time) with state := 3, tamperState := 1 }

/-! ### Attestation (R432 to R436) -/

/-- The limit of the identity tree (R431). -/
def leafLimit : Nat := 1073741824

/-- The SHA-256 digest over the running overlay in canonical form (R87); 32 zeros when empty. -/
def valBytes (typ : Nat) (v : Val) : ByteList :=
  match v with
  | .bytes b => b
  | .int i =>
    match typ with
    | 1 => beBytes 1 (toBits 8 i)
    | 2 => beBytes 1 (toBits 8 i)
    | 3 => beBytes 2 (toBits 16 i)
    | 4 => beBytes 4 (toBits 32 i)
    | 5 => beBytes 1 (toBits 8 i)
    | 6 => beBytes 2 (toBits 16 i)
    | 7 => beBytes 4 (toBits 32 i)
    | 8 => beBytes 4 (toBits 32 i)
    | 0x31 => beBytes 5 (toBits 40 i)
    | 0x30 => beBytes 10 (toBits 80 i)
    | _ => beBytes 8 (toBits 64 i)

def entryType (key : Nat) : Nat :=
  match entryOf key with
  | some e => e.typ
  | none => 0

def canonical (m : Map Val) : ByteList :=
  m.flatMap fun p =>
    let t := entryType p.1
    let b := valBytes t p.2
    beBytes 2 (p.1 / 256) ++ beBytes 1 (p.1 % 256) ++ beBytes 1 t ++ beBytes 4 b.length ++ b

def overlayDigest (m : Map Val) : ByteList := if m.isEmpty then zero32 else sha256 (canonical m)

/-- CRC-32 of a copy of the saved overlay, over its sequence number, its fingerprint and its entries in canonical form. -/
def SavedOverlay.check (c : SavedOverlay) : Nat := crc32 (beBytes 4 c.seq ++ c.fingerprint ++ canonical c.items)

def SavedOverlay.good (c : SavedOverlay) : Bool := c.crc == c.check

/-- The saved overlay is the good copy of the higher sequence number (R86, as the boot record of R59). -/
def Access.savedCopy (a : Access) : Option SavedOverlay :=
  match a.copyA.filter (·.good), a.copyB.filter (·.good) with
  | some x, some y => some (if y.seq ≤ x.seq then x else y)
  | some x, none => some x
  | none, y => y

def Access.saved (a : Access) : Option (Map Val × ByteList) := a.savedCopy.map fun c => (c.items, c.fingerprint)

/-- A save goes to the copy not in use, with the next sequence number, so that a reset during it leaves one of the two. -/
def Access.save (a : Access) (items : Map Val) : Access :=
  let c := a.savedCopy
  let n : SavedOverlay := { seq := wrap 32 ((c.map (·.seq)).getD 0 + 1), fingerprint := a.fingerprint, items := items, crc := 0 }
  let n := { n with crc := n.check }
  if c.isSome ∧ c = a.copyA then { a with copyB := some n } else { a with copyA := some n }

def State.bootSlot (s : State) : FwSlot := if s.boot.booted = 0 then s.boot.slotA else s.boot.slotB

def State.fwVersion (s : State) : Nat :=
  match s.bootSlot.hdr with
  | some h => h.version
  | none => 0

/-- The 256-byte body of Table 17.2. -/
def State.reportBody (s : State) (nonce : ByteList) : ByteList :=
  leBytes 4 0x54415A50 ++ leBytes 2 1 ++ [byteOf (boolNat s.power.slotB), byteOf s.pair.role] ++
  padTo 12 Config.serialNumber ++ padTo 32 nonce ++ s.sec.publicKey ++ leBytes 4 s.sec.q ++
  leBytes 4 s.fwVersion ++ padTo 32 ((s.bootSlot.hdr.map (·.digest)).getD []) ++ leBytes 4 s.boot.floor ++
  [byteOf s.boot.bootState, byteOf 1] ++ leBytes 2 (Nat.min s.sec.tamperEvents 65535) ++
  padTo 32 s.access.fingerprint ++ overlayDigest s.access.overlay ++ leBytes 4 (wrap 32 s.boot.resetCount) ++
  leBytes 8 s.log.next ++ leBytes 6 s.time.sec ++ leBytes 4 s.time.ns ++ List.replicate 10 (byteOf 0)

def secEvent (event sensors : Nat) (val : Nat) : ByteList :=
  [byteOf event, byteOf sensors] ++ List.replicate 6 (byteOf 0) ++ leBytes 8 val

/-- A record 0x0D01 (Table 17.6). -/
def State.logSec (s : State) (event sensors val : Nat) : State :=
  s.logRec 0x0D01 2 noFacet 0 0 (secEvent event sensors val)

/-- The requester number of the partner's identity exchange in the attestation queue. -/
def partnerSlot : Nat := 9

/-- The request that is signed next: an identity exchange goes ahead of management requests (R433). -/
def nextRequest (l : List (Nat × ByteList)) : Option (Nat × ByteList) :=
  match l.find? (fun p => p.1 == partnerSlot) with
  | some p => some p
  | none => l.head?

/-- With a token available, a leaf is burned and the next queued report signed (R432, R433). -/
def State.signNext (s : State) : State :=
  match nextRequest s.sec.queue with
  | none => s
  | some (sess, nonce) =>
    let rest := s.sec.queue.erase (sess, nonce)
    if leafLimit ≤ s.sec.q then
      let s1 := { s with sec := { s.sec with queue := rest, attResult := 0x0D03,
                                              repState := mapPut sess 3 s.sec.repState } }
      (s1.logSec 1 0 s.sec.q).answer 0x0D03
    else
      let body := s.reportBody nonce
      let rep := body ++ padTo 5396 (Config.hssSign s.sec.seed s.sec.q body)
      let x := { s.sec with queue := rest, q := s.sec.q + 1, tokens := s.sec.tokens - 1 }
      if sess = partnerSlot then { s with sec := { x with sent := rep } }
      else
        ({ s with sec := { x with reports := mapPut sess rep x.reports, repState := mapPut sess 2 x.repState,
                                  attResult := 0 } } : State).answer 0

/-- A nonce of a session: it replaces the one that session has queued; else it is queued, up to 8 (R433, R435). -/
def State.queueNonce (s : State) (sess : Nat) (nonce : ByteList) : State :=
  let x := s.sec
  if x.seed.isEmpty then s.answer 0x0D01
  else if leafLimit ≤ x.q then
    ({ s with sec := { x with attResult := 0x0D03, repState := mapPut sess 3 x.repState } } : State).answer 0x0D03
  else if x.queue.any (fun p => p.1 == sess) then
    ({ s with sec := { x with queue := x.queue.map fun p => if p.1 = sess then (sess, nonce) else p } } : State).answer 0
  else if 8 ≤ x.queue.length then
    ({ s with sec := { x with attResult := 0x0D04 } } : State).answer 0x0D04
  else
    ({ s with sec := { x with queue := x.queue ++ [(sess, nonce)], repState := mapPut sess 1 x.repState } } : State).answer 0

/-- The identity exchange (R436): a new own nonce goes out, and the partner's nonce, which the model does not
know (log 3), asks for an own report. At a training no digest has been received yet. -/
def State.startExchange (s : State) (training : Bool) : State :=
  let n := Config.freeBytes s.freeCount 32
  let p := Config.freeBytes (s.freeCount + 1) 32
  let x := s.sec
  let q := if x.seed.isEmpty then x.queue else (x.queue.filter fun r => r.1 ≠ partnerSlot) ++ [(partnerSlot, p)]
  let s1 := { s with freeCount := s.freeCount + 2,
                     sec := { x with nonce := some n, queue := q,
                                     sinceTraining := if training then false else x.sinceTraining } }
  s1.setElig 1 true

/-- The binding record of chapter 17, for display: the partner's serial number, as far as a report gave it, and the time of the
binding (log 23). -/
def State.recordBinding (s : State) (serial : ByteList) : State :=
  { s with sec := { s.sec with binding := if s.sec.bound = zero32 then none
                                          else some { serial := serial, sec := s.time.sec, ns := s.time.ns } } }

/-- The partner's report (R434, R436): its signature under the key that it holds, its nonce, its key's digest, its slot. -/
def State.takeReport (s : State) (data : ByteList) : State :=
  let x := s.sec
  let key := bytesAt data 52 60
  let digest := sha256 key
  let sigOk := Config.hssVerify key (data.take 256) (data.drop 256)
  let nonceOk := match x.nonce with
    | some n => n == bytesAt data 20 32
    | none => false
  let boundOk := decide (x.bound ≠ zero32) && x.bound == digest
  let slotOk := decide (leAt data 6 1 = if s.power.slotB then 0 else 1)
  let ok := sigOk && nonceOk && boundOk && slotOk
  let st := if ok then 1 else if sigOk && nonceOk then 3 else 2
  let s1 := { s with sec := { x with received := digest, receivedSerial := bytesAt data 8 12, sinceTraining := true,
                                     partnerState := st } }
  let s2 := if ok then s1 else s1.logSec 6 0 0
  s2.setElig 1 (!ok)

/-! ### Debug port (R443) -/

/-- A new challenge: serial number, 4 zeros, nonce, U128 count. -/
def State.newChallenge (s : State) : State :=
  let c := padTo 12 Config.serialNumber ++ List.replicate 4 (byteOf 0) ++ padTo 32 (Config.freeBytes s.freeCount 32) ++
    leBytes 16 (s.sec.challenges + 1)
  ({ s with freeCount := s.freeCount + 1,
            sec := { s.sec with challenge := some c, challenges := s.sec.challenges + 1 } } : State).answer 0 c

/-- Whether a response unlocks the port: the owner tree's block over the newest challenge, or length 0 while every
owner slot is blank. -/
def Security.responseOk (x : Security) (data : ByteList) : Bool :=
  (x.owners.isEmpty && data.isEmpty) || x.challenge.any fun c => blockOk 2 x.ownerKeyOk c data

def State.unlockWith (s : State) (data : ByteList) : State :=
  if s.sec.responseOk data then
    let s1 := { s with sec := { s.sec with debugOpen := true } }
    (s1.logSec 2 0 0).answer 0
  else
    let s1 := { s with sec := { s.sec with challenge := none } }
    (s1.logSec 3 0 0).answer 0x0D07

/-! ### Provisioning (R444) -/

/-- Items of a bundle: type and value, from the bytes after the header; none when they run past the end. -/
def bundleItems : Nat → ByteList → Option (List (Nat × ByteList) × ByteList)
  | 0, l => some ([], l)
  | n + 1, l =>
    let t := leAt l 0 2
    let len := leAt l 2 2
    if l.length < 4 + len then none
    else
      match bundleItems n (l.drop (4 + len)) with
      | some (items, rest) => some ((t, bytesAt l 4 len) :: items, rest)
      | none => none

/-- A transfer item: the previous owner's key, whose digest is in force, and its block over the new owner's digest
and the serial number. -/
def Security.transferOk (x : Security) (newKey value : ByteList) : Bool :=
  let prev := bytesAt value 0 60
  x.ownerKeyOk prev &&
    blockOk 2 (fun k => k == prev) (sha256 newKey ++ padTo 12 Config.serialNumber) (value.drop 60)

def installItem (x : Security) (item : Nat × ByteList) : Security :=
  let v := item.2
  match item.1 with
  | 1 => { x with roots := mapPut (if (mapFind x.roots 1).isSome then 2 else 1) (padTo 60 v) x.roots }
  | 2 =>
    let r := leAt v 0 1 % 32
    { x with psk := mapPut r (bytesAt v 4 32) x.psk,
             records := mapPut r (bytesAt v 36 (leAt v 3 1), leAt v 1 1, decide (leAt v 2 1 ≠ 0)) x.records }
  | 3 => { x with epoch := leAt v 0 4, mirrorKey := bytesAt v 4 32 }
  | 4 => { x with migration := padTo 32 v }
  | 5 => { x with bound := padTo 32 v }
  | _ => x

/-- Acceptance of a bundle: its result code and the key store after it. -/
def Security.accept (x : Security) (b : ByteList) : Nat × Security :=
  if x.state ≠ 1 then (0x0D01, x)
  else
    match bundleItems (leAt b 6 2) (b.drop 128) with
    | none => (0x0D05, x)
    | some (items, block) =>
      let body := b.take (b.length - block.length)
      let owner := bytesAt b 52 60
      let transfer := items.any fun p => p.1 == 6 && x.transferOk owner p.2
      let keyOk := x.owners.isEmpty || x.ownerKeyOk owner || transfer
      if leAt b 0 4 = 0x42505A50 ∧ leAt b 4 2 = 1 ∧ leAt b 6 2 ≤ 64 ∧ b.length ≤ 65536 ∧
          blockOk 2 (fun k => k == owner) body block = true ∧ keyOk = true ∧
          bytesAt b 8 12 = padTo 12 Config.serialNumber ∧ bytesAt b 20 32 = x.digest then
        if transfer = true ∧ 4 ≤ x.owners.length then (0x0D06, x)
        else
          let x1 := items.foldl installItem { x with records := [] }
          let o := if x.owners.isEmpty || transfer then x.owners ++ [sha256 owner] else x.owners
          (0, { x1 with owners := o, state := 2, tamperEvents := 0, tamperState := 0 })
      else (0x0D05, x)

end Sys2Proof.Machine
end

