-- ==== Sys2Proof/Machine/Float.lean ====
section
/-! DEFINITION. Binary32 arithmetic on bit patterns: exact results rounded to nearest, ties to even (R82, R201). -/

namespace Sys2Proof.Machine

def fNeg? (n : Nat) : Bool := n.testBit 31
def fExp (n : Nat) : Nat := bitsAt n 23 8
def fMant (n : Nat) : Nat := bitsAt n 0 23
def fNaN : Nat := 0x7FC00000
def fInfinity (neg : Bool) : Nat := if neg then 0xFF800000 else 0x7F800000
def fIsNaN (n : Nat) : Bool := fExp n == 255 && fMant n != 0
def fIsInf (n : Nat) : Bool := fExp n == 255 && fMant n == 0
def fFinite (n : Nat) : Bool := fExp n != 255
def fIsZero (n : Nat) : Bool := n % 2 ^ 31 == 0

/-- A dyadic number m × 2^e. -/
structure Dyadic where
  m : Int
  e : Int
  deriving DecidableEq, Repr, Inhabited

/-- The value of a finite pattern. -/
def fVal (n : Nat) : Dyadic :=
  let m : Nat := if fExp n = 0 then fMant n else fMant n + 2 ^ 23
  let e : Int := if fExp n = 0 then -149 else (fExp n : Int) - 150
  { m := if fNeg? n then -(m : Int) else m, e := e }

/-- m shifted right by k, rounded to nearest, ties to even. -/
def roundShift (m k : Nat) : Nat :=
  if k = 0 then m
  else
    let q := m / 2 ^ k
    let r := m % 2 ^ k
    if 2 ^ (k - 1) < r ∨ (r = 2 ^ (k - 1) ∧ q % 2 = 1) then q + 1 else q

def bitLength (m : Nat) : Nat := if m = 0 then 0 else Nat.log2 m + 1

/-- Rounded to `p` bits of mantissa, and no bit below 2^minE. -/
def roundTo (p : Nat) (minE : Int) (m : Nat) (e : Int) : Nat × Int :=
  let k : Int := max ((bitLength m : Int) - p) (minE - e)
  if k ≤ 0 then (m, e) else (roundShift m k.toNat, e + k)

/-- The binary32 pattern of a signed magnitude. -/
def fPack (neg : Bool) (m0 : Nat) (e0 : Int) : Nat :=
  let sign := if neg then 2 ^ 31 else 0
  let (m, e) := roundTo 24 (-149) m0 e0
  if m = 0 then sign
  else
    let sh : Int := min (24 - (bitLength m : Int)) (e + 149)
    let (m1, e1) := if 0 ≤ sh then (m * 2 ^ sh.toNat, e - sh) else (m / 2 ^ (-sh).toNat, e - sh)
    if m1 < 2 ^ 23 then sign + m1
    else if 255 ≤ e1 + 150 then fInfinity neg
    else sign + (e1 + 150).toNat * 2 ^ 23 + (m1 - 2 ^ 23)

def fOfDyadic (d : Dyadic) : Nat := fPack (decide (d.m < 0)) d.m.natAbs d.e

def fOfInt (i : Int) : Nat := fOfDyadic { m := i, e := 0 }
def fOfNat (n : Nat) : Nat := fOfInt n

def Dyadic.add (a b : Dyadic) : Dyadic :=
  let e := min a.e b.e
  { m := a.m * 2 ^ (a.e - e).toNat + b.m * 2 ^ (b.e - e).toNat, e := e }

def Dyadic.mul (a b : Dyadic) : Dyadic := { m := a.m * b.m, e := a.e + b.e }

def fFlip (a : Nat) : Nat := if fNeg? a then a - 2 ^ 31 else a + 2 ^ 31
def fAbs (a : Nat) : Nat := a % 2 ^ 31

def fAdd (a b : Nat) : Nat :=
  if fIsNaN a || fIsNaN b then fNaN
  else if fIsInf a then (if fIsInf b && fNeg? a != fNeg? b then fNaN else a)
  else if fIsInf b then b
  else
    let d := (fVal a).add (fVal b)
    if d.m = 0 then (if fNeg? a && fNeg? b then 2 ^ 31 else 0) else fOfDyadic d

def fSub (a b : Nat) : Nat := if fIsNaN b then fNaN else fAdd a (fFlip b)

def fMul (a b : Nat) : Nat :=
  let neg := fNeg? a != fNeg? b
  if fIsNaN a || fIsNaN b then fNaN
  else if fIsInf a || fIsInf b then (if fIsZero a || fIsZero b then fNaN else fInfinity neg)
  else
    let d := (fVal a).mul (fVal b)
    fPack neg d.m.natAbs d.e

def fDiv (a b : Nat) : Nat :=
  let neg := fNeg? a != fNeg? b
  if fIsNaN a || fIsNaN b then fNaN
  else if fIsInf a then (if fIsInf b then fNaN else fInfinity neg)
  else if fIsInf b then (if neg then 2 ^ 31 else 0)
  else if fIsZero b then (if fIsZero a then fNaN else fInfinity neg)
  else
    let x := fVal a
    let y := fVal b
    let n := x.m.natAbs * 2 ^ 64
    let d := y.m.natAbs
    let q := n / d
    -- the last bit tells that the quotient is not exact
    fPack neg (2 * q + (if n % d = 0 then 0 else 1)) (x.e - y.e - 65)

/-- Integer square root by bits. -/
def isqrtBits (n : Nat) : Nat → Nat → Nat
  | 0, r => r
  | b + 1, r => isqrtBits n b (if (r + 2 ^ b) * (r + 2 ^ b) ≤ n then r + 2 ^ b else r)

def isqrt (n : Nat) : Nat := isqrtBits n (bitLength n / 2 + 1) 0

def fSqrt (a : Nat) : Nat :=
  if fIsNaN a then fNaN
  else if fIsZero a then a
  else if fNeg? a then fNaN
  else if fIsInf a then a
  else
    let x := fVal a
    let k : Nat := if x.e % 2 = 0 then 64 else 65
    let n := x.m.natAbs * 2 ^ k
    let r := isqrt n
    fPack false (2 * r + (if r * r = n then 0 else 1)) ((x.e - k) / 2 - 1)

/-- Order of finite and infinite values; false when either is a NaN. -/
def fLt (a b : Nat) : Bool :=
  if fIsNaN a || fIsNaN b then false
  else if fIsInf a then fNeg? a && !(fIsInf b && fNeg? b)
  else if fIsInf b then !fNeg? b
  else
    let x := fVal a
    let y := fVal b
    let e := min x.e y.e
    decide (x.m * 2 ^ (x.e - e).toNat < y.m * 2 ^ (y.e - e).toNat)

def fEq (a b : Nat) : Bool := !fIsNaN a && !fIsNaN b && (a == b || (fIsZero a && fIsZero b))
def fLe (a b : Nat) : Bool := fLt a b || fEq a b
def fMax (a b : Nat) : Nat := if fLt a b then b else a
def fMin (a b : Nat) : Nat := if fLt b a then b else a

/-- The nearest integer, ties to even; truncation; floor. -/
def fRoundInt (a : Nat) : Int :=
  let x := fVal a
  if 0 ≤ x.e then x.m * 2 ^ x.e.toNat
  else
    let r : Int := roundShift x.m.natAbs (-x.e).toNat
    if x.m < 0 then -r else r

def fTruncInt (a : Nat) : Int :=
  let x := fVal a
  if 0 ≤ x.e then x.m * 2 ^ x.e.toNat
  else
    let r : Int := x.m.natAbs / 2 ^ (-x.e).toNat
    if x.m < 0 then -r else r

def fFloorInt (a : Nat) : Int :=
  let x := fVal a
  if 0 ≤ x.e then x.m * 2 ^ x.e.toNat else x.m / 2 ^ (-x.e).toNat

/-- A sum rounded to 40 bits of mantissa at each term (R201). -/
def acc40 (a : Dyadic) (x : Nat) : Dyadic :=
  let d := a.add (fVal x)
  let (m, e) := roundTo 40 (-1000) d.m.natAbs d.e
  { m := if d.m < 0 then -(m : Int) else m, e := e }

def sum40 (l : List Nat) : Nat := fOfDyadic (l.foldl acc40 { m := 0, e := 0 })

/-- Constants. -/
def fOne : Nat := 0x3F800000
def fTwoPi : Nat := 0x40C90FDB
def fPi : Nat := 0x40490FDB
def fSqrt2 : Nat := 0x3FB504F3

/-- Complex numbers of two patterns. -/
def cAdd (a b : Nat × Nat) : Nat × Nat := (fAdd a.1 b.1, fAdd a.2 b.2)
def cMul (a b : Nat × Nat) : Nat × Nat :=
  (fSub (fMul a.1 b.1) (fMul a.2 b.2), fAdd (fMul a.1 b.2) (fMul a.2 b.1))
def cScale (k : Nat) (a : Nat × Nat) : Nat × Nat := (fMul k a.1, fMul k a.2)
def cAbs (a : Nat × Nat) : Nat := fSqrt (fAdd (fMul a.1 a.1) (fMul a.2 a.2))

end Sys2Proof.Machine
end

