-- ==== Sys2Proof/Machine/Trig.lean ====
section
/-! DEFINITION. Sine, cosine, arctangent and the Kaiser-windowed sinc, computed in fixed point far beyond binary32 and rounded
once (R185, R201, R207; log 5). -/

namespace Sys2Proof.Machine

/-- One, and π to the nearest, in units of 2^-128. -/
def fixOne : Int := 2 ^ 128
def fixPi : Int := 1069028584064966747859680373161870783301

/-- A finite pattern in units of 2^-128. -/
def fixOf (n : Nat) : Int :=
  let x := fVal n
  if 0 ≤ x.e + 128 then x.m * 2 ^ (x.e + 128).toNat else x.m / 2 ^ (-(x.e + 128)).toNat

/-- Rounded to binary32. -/
def fOfFix (v : Int) : Nat := fOfDyadic { m := v, e := -128 }

/-- t - t x²/(k(k+1)) + …, the alternating series of sine (k = 2) and cosine (k = 1). -/
def altSeries (x2 : Int) : Nat → Int → Int → Int
  | 0, _, _ => 0
  | fuel + 1, k, t => t + altSeries x2 fuel (k + 2) (-(t * x2 / fixOne) / (k * (k + 1)))

/-- The angle within (-π, π]. -/
def fixReduce (x : Int) : Int :=
  let y := x % (2 * fixPi)
  if fixPi < y then y - 2 * fixPi else y

def fixSin (x : Int) : Int :=
  let r := fixReduce x
  altSeries (r * r / fixOne) 32 2 r

def fixCos (x : Int) : Int :=
  let r := fixReduce x
  altSeries (r * r / fixOne) 32 1 fixOne

/-- The binary32 sine and cosine of an angle in radians; the sine of a tiny angle is the angle. -/
def sinF32 (a : Nat) : Nat :=
  if !fFinite a then fNaN
  else if fExp a < 80 then a
  else fOfFix (fixSin (fixOf a))

def cosF32 (a : Nat) : Nat := if !fFinite a then fNaN else fOfFix (fixCos (fixOf a))

/-- p/k - p t²/(k+2) + …, the series of the arctangent. -/
def atanSeries (t2 : Int) : Nat → Int → Int → Int
  | 0, _, _ => 0
  | fuel + 1, k, p => p / k + atanSeries t2 fuel (k + 2) (-(p * t2 / fixOne))

/-- tan of half the angle whose tangent is t. -/
def halfTan (t : Int) : Int :=
  t * fixOne / (fixOne + (isqrt (fixOne * fixOne + t * t).toNat : Nat))

/-- The arctangent of t in [0, 1], through a quarter of the angle. -/
def fixAtan (t : Int) : Int :=
  let q := halfTan (halfTan t)
  4 * atanSeries (q * q / fixOne) 40 1 q

/-- The quotient a/b of magnitudes of finite patterns, in units of 2^-128. -/
def fixRatio (a b : Nat) : Int :=
  let x := fVal a
  let y := fVal b
  let e := min x.e y.e
  let n := x.m.natAbs * 2 ^ (x.e - e).toNat
  let d := y.m.natAbs * 2 ^ (y.e - e).toNat
  if d = 0 then 0 else ((n * 2 ^ 128 / d : Nat) : Int)

/-- The magnitude of the angle of the point (x, y), in units of 2^-128. -/
def fixAngle (y x : Nat) : Int :=
  let a := fAbs y
  let b := fAbs x
  let up := if fLe a b then fixAtan (fixRatio a b) else fixPi / 2 - fixAtan (fixRatio b a)
  if fNeg? x then fixPi - up else up

/-- The binary32 angle of the point (x, y), in (-π, π]. -/
def atan2F32 (y x : Nat) : Nat :=
  let signed := fun (v : Int) => fOfFix (if fNeg? y then -v else v)
  if fIsNaN y || fIsNaN x then fNaN
  else if fIsInf y && fIsInf x then signed (if fNeg? x then 3 * fixPi / 4 else fixPi / 4)
  else if fIsInf y then signed (fixPi / 2)
  else if fIsInf x then (if fNeg? x then signed fixPi else if fNeg? y then 2 ^ 31 else 0)
  else if fIsZero y then (if fNeg? x then signed fixPi else y)
  else if fIsZero x then signed (fixPi / 2)
  else if !fNeg? x && decide (fExp (fAbs y) + 40 < fExp x) then fDiv y x
  else signed (fixAngle y x)

/-- exp(j × angle), the angle in radians. -/
def cExp (angle : Nat) : Nat × Nat := (cosF32 angle, sinF32 angle)

/-- The series of the modified Bessel function I0 of order zero at 2√z: 1 + z + z²/4 + z³/36 + …. -/
def besselSeries (z : Int) : Nat → Int → Int → Int
  | 0, _, _ => 0
  | fuel + 1, k, t => t + besselSeries z fuel (k + 1) (t * z / fixOne / (k * k))

/-- Tap i (0 to 15) of the decimating interpolator (R185) at the fraction mu / 256, before normalisation, in units of 2^-128:
sinc at a cut-off of 0.45 times the grid rate, under the Kaiser window with β = 6 over 8 samples on either side. -/
def kaiserTap (rate f i mu : Nat) : Int :=
  let n : Int := 256 * ((i : Int) - 7) - mu
  let z := 9 * (2048 * 2048 - n * n) * fixOne / (2048 * 2048)
  let arg := if rate = 0 then 0 else fixPi * (9 * f) * n / (2560 * rate)
  let sinc := if arg = 0 then fixOne else fixSin arg * fixOne / arg
  besselSeries z 40 1 fixOne * sinc / fixOne

end Sys2Proof.Machine
end

