-- ==== Sys2Proof/Machine/LensUnit.lean ====
section
/-! DEFINITION. The Lens (chapter 7): frame checks, placement, arrival alignment, resampling, sealing,
substitution, discontinuities, and the sample ring. -/

namespace Sys2Proof.Machine

/-! ### Streams and channels -/

def Stream.idle : Stream :=
  { state := 0, expFrom := 0, last := none, lastPlaced := 0, lastSynch := 0, usingSim := false, miss := 0,
    offset := none, good := 0, bad := 0, arrivalMode := false, history := [], srcMiss := 0, cnt := [] }

def State.stream (s : State) (n : Nat) : Stream := mapGet s.lens.streams n Stream.idle

def State.setStream (s : State) (n : Nat) (x : Stream) : State :=
  { s with lens := { s.lens with streams := mapPut n x s.lens.streams } }

def Stream.count (x : Stream) (sub n : Nat) : Stream := { x with cnt := mapAdd 64 sub n x.cnt }

def State.countStream (s : State) (n sub k : Nat) : State := s.setStream n ((s.stream n).count sub k)

/-- A stream's setting in a register map. -/
def strReg (m : Map Int) (n sub : Nat) : Nat := (regIn m (ek (0x4000 + n) sub)).toNat

/-- Streams whose :01 is 1 in a register map. -/
def enabledStreams (m : Map Int) : List Nat :=
  m.filterMap fun p =>
    if p.1 % 256 = 1 ∧ 0x4000 ≤ p.1 / 256 ∧ p.1 / 256 ≤ 0x43FF ∧ p.2 ≠ 0 then some (p.1 / 256 - 0x4000) else none

/-- Selected ASDU channels, ascending. -/
def strChannels (m : Map Int) (n : Nat) : List Nat := bitList (strReg m n 7) 24

/-- First plane channel and number of plane channels (R175). -/
def strRange (m : Map Int) (n : Nat) : Nat × Nat := (strReg m n 8, (strChannels m n).length)

def rangesOverlap (a b : Nat × Nat) : Bool := decide (a.1 < b.1 + b.2 ∧ b.1 < a.1 + a.2)

/-- Length of a length field in BER: 1, 2 or 3 bytes. -/
def berLen (n : Nat) : Nat := if n < 128 then 1 else if n < 256 then 2 else 3

/-- A TLV of a content of n bytes. -/
def berTlv (n : Nat) : Nat := 1 + berLen n + n

/-- Length of a tagged 9-2 frame with mandatory fields (R176, 0x0408). -/
def svFrameLength (asdus channels idLen : Nat) : Nat :=
  let asdu := berTlv (berTlv idLen + 4 + 6 + 3 + berTlv (8 * channels))
  18 + 8 + berTlv (3 + berTlv (asdus * asdu)) + 4

/-! ### Resampling constants (R185, Table 7.3) -/

/-- Native 0, Lagrange 1, decimating 2. -/
def resampleKind (rate f : Nat) : Nat := if rate = f then 0 else if 3 * f < 2 * rate then 2 else 1

/-- Samples of the window before and after source sample j. -/
def resampleWindow (kind : Nat) : Nat × Nat := if kind = 2 then (7, 8) else (1, 2)

/-- The span in ns: the longest time from a tick to the last source sample it needs. -/
def resampleSpan (rate f : Nat) : Nat :=
  match resampleKind rate f with
  | 0 => 0
  | k => if rate = 0 then 0 else 1000000000 * (resampleWindow k).2 / rate

/-- 2 cos(2π × f_nom / f) in units of 2^-30 (R191). -/
def predictor (fnom f : Nat) : Int :=
  match fnom, f with
  | 50, 4000 => 2140863673
  | 50, 4800 => 2142885721
  | 50, 12800 => 2146836866
  | 50, 14400 => 2146972605
  | 50, 15360 => 2147034487
  | 60, 4000 => 2137953040
  | 60, 4800 => 2140863673
  | 60, 12800 => 2146552303
  | 60, 14400 => 2146747759
  | 60, 15360 => 2146836866
  | _, _ => 0

def roundShift30 (v : Int) : Int := (v + 536870912) / 1073741824

def satI32 (v : Int) : Int := if v < -2147483648 then -2147483648 else if 2147483647 < v then 2147483647 else v

/-- The predictor of R191. -/
def predict (fnom f : Nat) (x1 x2 : Int) : Int := satI32 (roundShift30 (predictor fnom f * x1) - x2)

/-! ### The sample ring (R12, R192) -/

def sampleAddr (c R : Nat) : Nat := sampleBase + 2048 * c + 8 * (R % 256)

/-- Quality word of Table 7.4 from its parts; ROW_TAG and ROW_DISC come from the row. -/
def qualityWord (R : Nat) (disc oos sim res unsync subst : Bool) (reason iec : Nat) : Nat :=
  (R / 256) % 256 * 2 ^ 24 + boolNat disc * 2 ^ 23 + boolNat oos * 2 ^ 22 + boolNat sim * 2 ^ 21 +
  boolNat res * 2 ^ 20 + boolNat unsync * 2 ^ 19 + boolNat subst * 2 ^ 18 + reason % 16 * 2 ^ 14 + iec % 2 ^ 14

/-- One aligned 64-bit store of value and quality. -/
def State.putSample (s : State) (c R : Nat) (v : Int) (q : Nat) : State :=
  { s with mem := memWriteList s.mem (sampleAddr c R) (leBytes 4 (toBits 32 v) ++ leBytes 4 q) }

def sampleValue (m : Mem) (c R : Nat) : Int := ofBits 32 (leNat (memReadList m (sampleAddr c R) 4))
def sampleQuality (m : Mem) (c R : Nat) : Nat := leNat (memReadList m (sampleAddr c R + 4) 4)
def qReason (q : Nat) : Nat := bitsAt q 14 4
/-- Valid exactly when REASON is 0. -/
def qValid (q : Nat) : Bool := qReason q == 0

/-- Bits of the received quality (R178; PRESUMED from IEC 61850, log 6): validity in [1:0], test in [11]. -/
def iecInvalid (q : Nat) : Bool := q % 4 == 1
def iecTest (q : Nat) : Bool := q.testBit 11

/-! ### Rows -/

def findRow (tick : Nat) : List Row → Option Row
  | [] => none
  | r :: l => if r.tick = tick then some r else findRow tick l

def replaceRow (r : Row) : List Row → List Row
  | [] => []
  | x :: l => if x.num = r.num then r :: l else x :: replaceRow r l

/-- A stream is expected in a row (R188). -/
def Stream.expected (x : Stream) (R : Nat) : Bool := (x.state == 2 || x.state == 4) && decide (x.expFrom ≤ R)

/-- The REASON of a sample, the first that applies of 6, 3 or 7, 4, 5 (R192). -/
def sampleReason (unsynced acquiring testRefused invalid : Bool) : Nat :=
  if unsynced then 3 else if acquiring then 7 else if testRefused then 4 else if invalid then 5 else 0

/-- Write the selected channels of an ASDU into the row. -/
def placeChannels (R base : Nat) (q : Nat → Nat) (vals : List Int) : List (Nat × Nat) → State → State
  | [], s => s
  | (i, j) :: l, s => placeChannels R base q vals l (s.putSample (base + j) R (vals.getD i 0) (q i))

def enumFrom' {α : Type} (k : Nat) : List α → List (α × Nat)
  | [] => []
  | a :: l => (a, k) :: enumFrom' (k + 1) l

/-- A stalled or waiting stream places a sample: it delivers, or acquires, and is expected from this row on (R188). A
stream that begins to deliver is recorded. -/
def State.streamDelivers (s : State) (n R newState : Nat) : State :=
  let x := s.stream n
  let s1 := s.setStream n { x with state := newState, expFrom := if x.state = 1 ∨ x.state = 3 then R else x.expFrom }
  if newState = 2 ∧ x.state ≠ 2 then s1.logRec 0x0401 1 noFacet 0 n [byteOf 1] else s1

/-- LAST, gaps and order (R183). -/
def Stream.sequence (x : Stream) (n f : Nat) : Stream :=
  match x.last with
  | none => { x with last := some n }
  | some l =>
    let d := (n + f - l % f) % f
    if d = 0 ∨ f ≤ 2 * d then x.count 0x14 1
    else { (if 1 < d then x.count 0x15 (d - 1) else x) with last := some n }

/-- Place one ASDU of a native stream into the row of tick T (R183). -/
def State.placeAsdu (s : State) (n T : Nat) (a : Asdu) (sim unsync refused acquiring : Bool) (tarr newState : Nat) :
    State :=
  let f := s.grid
  match findRow T s.lens.opened with
  | none => s.countStream n 0x12 1
  | some r =>
    if r.delivered.contains n then s.countStream n 0x13 1
    else
      let m := s.tickRegs
      let testOk := decide (regIn m (ek (0x4000 + n) 0x0B) ≠ 0)
      let chans := enumFrom' 0 (strChannels m n)
      let q := fun i =>
        let iq := a.quality.getD i 0
        qualityWord r.num r.disc false sim false unsync false
          (sampleReason refused acquiring (iecTest iq && !testOk) (iecInvalid iq)) iq
      let s1 := placeChannels r.num (strReg m n 8) q a.values chans s
      let s2 := s1.streamDelivers n r.num newState
      let age := wrap 32 (tarr - tickInstant f T)
      let x := (s2.stream n).sequence a.smpCnt f
      let x1 := { x.count 0x11 1 with lastPlaced := a.smpCnt, lastSynch := a.smpSynch }
      let x2 := { x1 with cnt := mapPut 0x22 (Nat.max age (mapGet x1.cnt 0x22 0)) (mapPut 0x21 age x1.cnt) }
      let x3 := if refused then x2.count 0x1F 1 else x2
      let s3 := s2.setStream n x3
      { s3 with lens := { s3.lens with opened := replaceRow { r with delivered := r.delivered ++ [n] } s3.lens.opened } }

/-- smpSynch as read: 2 global, 1 local, 0 unsynchronised (R182). -/
def synchClass (v : Nat) : Nat := if v = 1 then 1 else if v = 2 ∨ (5 ≤ v ∧ v ≤ 254) then 2 else 0

/-- Whether an ASDU's synchronisation is acceptable (R182); under policy 2 the answer tells that it is placed by
its sample count. -/
def synchOk (policy v : Nat) (gm : Option Nat) (own : Nat) : Bool :=
  let foreign := match gm with
    | some g => decide (own ≠ 0 ∧ g ≠ own)
    | none => false
  let c := synchClass v
  !foreign && (if policy = 0 then c == 2 else decide (1 ≤ c))

/-! ### Arrival alignment (R184) -/

def absDiff (a b : Nat) : Nat := if a ≤ b then b - a else a - b

/-- The tick whose instant is nearest t. -/
def nearestTick (f t : Nat) : Nat :=
  let g := tickAt f t
  if absDiff (tickInstant f (g + 1)) t < absDiff (tickInstant f g) t then g + 1 else g

/-- Of the ticks T ≡ r modulo f, the one whose instant is nearest t. -/
def nearestCongruent (f r t : Nat) : Nat :=
  let S := t / 1000000000
  let b := S * f + r % f
  let lo := if S = 0 then b else b - f
  let d := fun T => absDiff (tickInstant f T) t
  let p := if d b < d lo then b else lo
  if d (b + f) < d p then b + f else p

/-- One ASDU aligned by arrival: position `a` of `total`. The 16th consistent ASDU is still placed as acquired, and the
fourth inconsistent one as delivered; the change follows it. A stream that locks is acquiring, whether or not its ASDU finds an
open row. Alignment that an acceptable ASDU has ended locks afresh when it begins again (log 23). -/
def State.placeByArrival (s : State) (n : Nat) (u : Asdu) (sim : Bool) (tarr total a : Nat) : State :=
  let f := s.grid
  let est := tarr - (1000 * strReg s.tickRegs n 0x0A + 1000000000 * (total - 1 - a) / f)
  let x := s.stream n
  let fresh := x.state = 1 ∨ x.state = 3 ∨ x.offset.isNone ∨ !x.arrivalMode
  let lock := fun (x : Stream) => { x with offset := some ((nearestTick f est + f - u.smpCnt % f) % f), good := 0, bad := 0,
                                            arrivalMode := true }
  let x1 := if fresh then lock x else x
  let T := nearestCongruent f (u.smpCnt + x1.offset.getD 0) est
  let ok := decide (absDiff (tickInstant f T) est ≤ 500000000 / f)
  let x2 : Stream := if ok then { x1 with good := x1.good + 1, bad := 0 } else { x1 with good := 0, bad := x1.bad + 1 }
  let acquiring := decide (fresh ∨ x.state ≠ 2)
  let s1 := (s.setStream n x2).placeAsdu n T u sim true false acquiring tarr (if acquiring then 4 else 2)
  let z := s1.stream n
  let y := if fresh ∧ z.state ≠ 4 then
      { z with state := 4, expFrom := if z.state = 2 then z.expFrom else s1.lens.next }
    else z
  if !acquiring && decide (4 ≤ y.bad) then
    -- the next such ASDU locks again, counted at :20
    (s1.setStream n { y.count 0x20 1 with state := 4, offset := none, good := 0, bad := 0 }).logRec 0x0401 1 noFacet 0 n [byteOf 2]
  else if y.state = 4 ∧ 16 ≤ y.good then (s1.setStream n { y with state := 2 }).logRec 0x0401 1 noFacet 0 n [byteOf 1]
  else s1.setStream n y

/-! ### Resampling (R185, R187) -/

def findSrc (i : Nat) : List SrcSample → Option SrcSample
  | [] => none
  | x :: l => if x.idx = i then some x else findSrc i l

/-- The channels of a missing source sample after h1 and h2: predicted where both are valid and the depth allows it, else value
0 and invalid (R187, R191). -/
def fillChannels (fnom rate : Nat) (may : Bool) : List Int → List Bool → List Int → List Bool → List (Int × Bool)
  | v1 :: l1, b1 :: m1, v2 :: l2, b2 :: m2 =>
    (if may && !b1 && !b2 then (predict fnom rate v1 v2, false) else (0, true)) :: fillChannels fnom rate may l1 m1 l2 m2
  | _, _, _, _ => []

/-- Missing source samples are filled by the predictor, up to the depth in source samples. -/
def fillSrc (fnom rate depth : Nat) : Nat → Stream → Stream
  | 0, x => x
  | k + 1, x =>
    match x.history with
    | [] => x
    | h1 :: l =>
      let may := decide (x.srcMiss + 1 ≤ depth)
      let cs := match l with
        | h2 :: _ => fillChannels fnom rate (may && h1.idx == h2.idx + 1) h1.vals h1.bad h2.vals h2.bad
        | [] => h1.vals.map fun _ => (0, true)
      let v : SrcSample := { idx := h1.idx + 1, vals := cs.map (·.1), qual := h1.qual, bad := cs.map (·.2) }
      fillSrc fnom rate depth k { x with history := v :: h1 :: l, srcMiss := x.srcMiss + 1 }

/-- A source sample enters the window history, newest first; gaps up to 16 are filled, longer ones empty it. -/
def Stream.feed (x : Stream) (fnom rate depth : Nat) (v : SrcSample) : Stream :=
  match x.history with
  | [] => { x with history := [v], srcMiss := 0 }
  | h :: _ =>
    if v.idx ≤ h.idx then x
    else if h.idx + 16 < v.idx then { x with history := [v], srcMiss := 0 }
    else
      let y := fillSrc fnom rate depth (v.idx - h.idx - 1) x
      { y with history := (v :: y.history).take 64, srcMiss := 0 }

/-- Weights of the window samples (oldest first) over a common denominator. -/
def resampleWeights (kind rate f mu : Nat) : List Int × Int :=
  if kind = 2 then
    let w := (List.range 16).map fun i => kaiserTap rate f i mu
    (w, w.foldl (· + ·) 0)
  else
    let m : Int := mu
    let o : Int := 256
    ([-(m * (m - o) * (m - 2 * o)), 3 * ((m + o) * (m - o) * (m - 2 * o)),
      -3 * ((m + o) * m * (m - 2 * o)), (m + o) * m * (m - o)], 6 * o * o * o)

def dot : List Int → List Int → Int
  | a :: l, b :: m => a * b + dot l m
  | _, _ => 0

/-- Rounded to the nearest integer. -/
def divRound (n d : Int) : Int := if d = 0 then 0 else (2 * n + d) / (2 * d)

/-- The window of tick instant t: samples j - before to j + after, oldest first, when all are held. -/
def srcWindow (h : List SrcSample) (lo n : Nat) : Option (List SrcSample) :=
  match n with
  | 0 => some []
  | k + 1 =>
    match findSrc lo h, srcWindow h (lo + 1) k with
    | some x, some l => some (x :: l)
    | _, _ => none

/-- The row's sample of a resampled stream, when its last source sample has been placed. -/
def State.resampleRow (n : Nat) (sim : Bool) (tarr : Nat) (r : Row) (s : State) : State :=
  let f := s.grid
  let m := s.tickRegs
  let rate := strReg m n 4
  let x := s.stream n
  let kind := resampleKind rate f
  let (before, after) := resampleWindow kind
  let j := tickAt rate r.inst
  let newest := match x.history with
    | h :: _ => h.idx
    | [] => 0
  if r.delivered.contains n || x.history.isEmpty || decide (newest < j + after) then s
  else
    let chans := enumFrom' 0 (strChannels m n)
    let base := strReg m n 8
    let t0 := tickInstant rate j
    let span := tickInstant rate (j + 1) - t0
    let mu := if span = 0 then 0 else (512 * (r.inst - t0) + span) / (2 * span)
    let (w, d) := resampleWeights kind rate f mu
    let win := if before ≤ j then srcWindow x.history (j - before) (before + after + 1) else none
    let put := fun (p : Nat × Nat) (s : State) =>
      match win with
      | none => s.putSample (base + p.2) r.num 0 (qualityWord r.num r.disc false sim true false false 6 0)
      | some l =>
        let v := divRound (dot w (l.map fun y => y.vals.getD p.2 0)) d
        let q0 := match findSrc j l with
          | some y => y.qual.getD p.2 0
          | none => 0
        let q1 := if l.any (fun y => iecTest (y.qual.getD p.2 0)) then withBit q0 11 true else q0
        let q2 := if satI32 v = v then q1 else withBit q1 2 true
        let testOk := decide (regIn m (ek (0x4000 + n) 0x0B) ≠ 0)
        let reason := if l.any (fun y => y.bad.getD p.2 true) then 6 else sampleReason false false (iecTest q2 && !testOk) (iecInvalid q2)
        s.putSample (base + p.2) r.num (satI32 v) (qualityWord r.num r.disc false sim true false false reason q2)
    let s1 := applyAll put chans s
    let s2 := s1.streamDelivers n r.num 2
    let age := wrap 32 (tarr - r.inst)
    let x2 := (s2.stream n).count 0x11 1
    let x3 := { x2 with cnt := mapPut 0x22 (Nat.max age (mapGet x2.cnt 0x22 0)) (mapPut 0x21 age x2.cnt) }
    let s3 := s2.setStream n x3
    let row := { r with delivered := r.delivered ++ [n] }
    { s3 with lens := { s3.lens with opened := replaceRow row s3.lens.opened } }

/-- An ASDU of a resampled stream feeds its window, and every open row that it completes is delivered. -/
def State.feedAsdu (s : State) (n : Nat) (a : Asdu) (sim refused : Bool) (tarr : Nat) : State :=
  let m := s.tickRegs
  let rate := strReg m n 4
  let S := (tarr - 1000000000 * a.smpCnt / rate) / 1000000000
  let chans := strChannels m n
  let qual := chans.map fun i => a.quality.getD i 0
  let testOk := decide (regIn m (ek (0x4000 + n) 0x0B) ≠ 0)
  let v : SrcSample :=
    { idx := S * rate + a.smpCnt, vals := chans.map fun i => a.values.getD i 0, qual := qual,
      bad := qual.map fun q => refused || iecInvalid q || (iecTest q && !testOk) }
  let x := (s.stream n).feed s.nominal rate (s.tickReg 0x47F0 4).toNat v
  let x1 := { x with lastPlaced := a.smpCnt, lastSynch := a.smpSynch }
  let s1 := s.setStream n (if refused then x1.count 0x1F 1 else x1)
  applyAll (State.resampleRow n sim tarr) s1.lens.opened s1

/-! ### Sealing (R188, R191) -/

/-- The entries of a stream that did not deliver: a substitute, or invalid as missing. Answers whether some channel was
substituted, and whether some was written invalid. A waiting stream's channels are missing (R194). -/
def State.substitute (s : State) (r : Row) (n : Nat) (miss : Nat) : State × Bool × Bool :=
  let m := r.cfg
  let base := strReg m n 8
  let R := r.num
  let depth := (s.tickReg 0x47F0 4).toNat
  let may := decide (miss ≤ depth ∧ 2 ≤ s.lens.rowsOk ∧ 2 ≤ R ∧ (s.stream n).state ≠ 1)
  let put := fun (p : Nat × Nat) (a : State × Bool × Bool) =>
    let c := base + p.2
    let q1 := sampleQuality a.1.mem c (R - 1)
    let q2 := sampleQuality a.1.mem c (R - 2)
    if may && qValid q1 && qValid q2 then
      (a.1.putSample c R (predict s.nominal s.grid (sampleValue a.1.mem c (R - 1)) (sampleValue a.1.mem c (R - 2)))
        (qualityWord R r.disc false false false false true 0 (q1 % 2 ^ 14)), true, a.2.2)
    else (a.1.putSample c R 0 (qualityWord R r.disc false false false false false 1 0), a.2.1, true)
  (enumFrom' 0 (strChannels m n)).foldl (fun a p => put p a) (s, false, false)

/-- A stream of the row at its seal: delivered, or missing, with the row counted at :1C for its substitutes and at :1D for the
channels written invalid. -/
def State.sealStream (r : Row) (n : Nat) (s : State) : State :=
  let x := s.stream n
  if r.delivered.contains n then s.setStream n { x with miss := 0 }
  else if x.state = 0 then s
  else
    let miss := x.miss + 1
    let (s1, sub, inv) := s.substitute r n miss
    let y := { s1.stream n with miss := miss }
    let y1 := if sub then y.count 0x1C 1 else y
    let y2 := if inv then y1.count 0x1D 1 else y1
    if miss = 4 ∧ y2.state ≠ 3 then
      (s1.setStream n { y2.count 0x1E 1 with state := 3 }).logRec 0x0401 1 noFacet 0 n [byteOf 0]
    else s1.setStream n y2

/-- TIME_OOS in every in-use entry of the row, and REASON 2 in entries of channels whose stream is not enabled. -/
def State.markChannel (r : Row) (oos : Bool) (covered : List (Nat × Nat)) (c : Nat) (s : State) : State :=
  if covered.any (fun p => decide (p.1 ≤ c ∧ c < p.1 + p.2)) then
    if oos then
      s.putSample c r.num (sampleValue s.mem c r.num) (withBit (sampleQuality s.mem c r.num) 22 true)
    else s
  else s.putSample c r.num 0 (qualityWord r.num r.disc oos false false false false 2 0)

def channelsOf (l : List (Nat × Nat)) : List Nat := l.flatMap fun p => (List.range p.2).map (p.1 + ·)

/-- Some stream is expected in the row, and every expected one has delivered. -/
def State.rowComplete (s : State) (r : Row) : Bool :=
  let e := s.lens.streams.filter fun p => p.2.expected r.num
  !e.isEmpty && e.all fun p => r.delivered.contains p.1

/-- Streams of the row at its seal: enabled when it opened, and not disabled since (R195). -/
def State.rowStreams (s : State) (r : Row) : List Nat :=
  (enabledStreams r.cfg).filter fun n => decide ((s.stream n).state ≠ 0) && !r.off.contains n

/-- The frequency groups as they stand. -/
def State.freqsNow (s : State) : Map RowFreq :=
  s.phasor.groups.map fun p =>
    (p.1, { freq := p.2.freq.getD (fOfNat s.nominal), held := p.2.state == 3 || p.2.state == 4, limit := p.2.limit })

/-- Seal the oldest open row; one that is not complete is counted at 0x47F0:08. -/
def State.sealOldest (s : State) : State :=
  match s.lens.opened with
  | [] => s
  | r :: rest =>
    let complete := s.rowComplete r
    let on := s.rowStreams r
    let s1 := applyAll (State.sealStream r) on s
    let oos := !s.inSpec
    let covered := (on ++ r.delivered).map (strRange r.cfg)
    let s2 := applyAll (State.markChannel r oos covered) (channelsOf s1.lens.inUse) s1
    let l := s2.lens
    let late := wrap 32 (s.now - r.inst)
    { s2 with lens := { l with
        opened := rest, sealedQueue := l.sealedQueue ++ [{ r with oos := oos, freqs := s.freqsNow }], newest := some (r.num, r.inst),
        rowsOk := l.rowsOk + 1, sealedRows := wrap 64 (l.sealedRows + 1),
        expiryRows := if complete then l.expiryRows else wrap 64 (l.expiryRows + 1),
        heldRows := if l.sealedQueue.isEmpty && s.phasor.row.isNone then l.heldRows else wrap 64 (l.heldRows + 1),
        highestDelay := Nat.max l.highestDelay late } }

/-- Rows complete from the oldest on are sealed, in order. -/
def sealReady : Nat → State → State
  | 0, s => s
  | k + 1, s =>
    match s.lens.opened with
    | [] => s
    | r :: _ =>
      if s.rowComplete r = true ∨ r.deadline ≤ s.now then sealReady k s.sealOldest else s

def State.sealRows (s : State) : State := sealReady s.lens.opened.length s

/-! ### Frames (R177, Table 7.2) -/

/-- smpMod is none, 0 or 1, and smpRate, where present, agrees with the stream's rate. -/
def rateOk (rate nominal : Nat) (a : Asdu) : Bool :=
  decide (a.smpMod.getD 0 ≤ 1) &&
  match a.smpRate with
  | none => true
  | some r => if a.smpMod = some 1 then r == rate else r * nominal == rate

/-- The first of checks 2 to 6 that fails, by its counter; none where all pass. -/
def State.frameCheck (s : State) (n : Nat) (pdu : ByteList) : Option Nat :=
  let m := s.tickRegs
  let ch := strReg m n 6
  let id := blobIn s.blobs (ek (0x4000 + n) 2)
  let simOn := decide (regIn m (ek 0x47F0 5) ≠ 0)
  match if pduLengthOk pdu then svAsdus pdu else none with
  | none => some 0x18
  | some l =>
    if l.length ≠ strReg m n 5 ∨
        (l.all fun a => a.values.length == ch && rateOk (strReg m n 4) s.nominal a) = false then some 0x18
    else if l.any (fun a => a.svId != id) then some 0x16
    else if l.any (fun a => a.confRev != strReg m n 3) then some 0x17
    else if (pduSimulation pdu && !simOn) || (!pduSimulation pdu && simOn && (s.stream n).usingSim) then some 0x1B
    else none

/-- One ASDU (position `a`) of an accepted frame. -/
def State.placeOne (n : Nat) (sim : Bool) (tarr total : Nat) (p : Asdu × Nat) (s : State) : State :=
  let m := s.tickRegs
  let f := s.grid
  let u := p.1
  let rate := strReg m n 4
  let policy := strReg m n 9
  let ok := synchOk policy u.smpSynch u.gmIdentity s.time.gm
  if rate ≤ u.smpCnt then s.countStream n 0x19 1
  else if rate ≠ f then s.feedAsdu n u sim (!ok) tarr
  else if ok || decide (policy < 2) then
    let S := (tarr - 1000000000 * u.smpCnt / f) / 1000000000
    let s1 := s.setStream n { s.stream n with arrivalMode := false }
    s1.placeAsdu n (S * f + u.smpCnt) u sim false (!ok) false tarr 2
  else s.placeByArrival n u sim tarr total p.2

/-- A frame of stream n at its tail (R183): the checks, then placement, then the seal decision. The first simulated frame that
passes check 6 turns the stream to simulated frames (R180). -/
def State.lensFrame (s : State) (n : Nat) (fr : SvFrame) : State :=
  if s.lens.state ≠ 2 ∨ (s.stream n).state = 0 then s
  else
    match s.frameCheck n fr.pdu with
    | some c => s.countStream n c 1
    | none =>
      let sim := pduSimulation fr.pdu
      let s1 := s.setStream n { s.stream n with usingSim := (s.stream n).usingSim || sim }
      if fr.tailGood then
        let l := (svAsdus fr.pdu).getD []
        (applyAll (State.placeOne n sim fr.arrival l.length) (enumFrom' 0 l) (s1.countStream n 0x10 1)).sealRows
      else s1.countStream n 0x1A 1

/-! ### Ticks, start and steps (R173, R190, R193 to R195) -/

/-- What of the range `q` lies outside the range `p`. -/
def rangeMinus (p q : Nat × Nat) : List (Nat × Nat) :=
  if rangesOverlap q p then
    [(q.1, p.1 - q.1), (p.1 + p.2, q.1 + q.2 - (p.1 + p.2))].filter fun x => x.2 != 0
  else [q]

/-- Channels in use: the ranges of enabled streams, and what they do not cover of older ranges (R193). -/
def addRange (l : List (Nat × Nat)) (p : Nat × Nat) : List (Nat × Nat) :=
  if p.2 = 0 ∨ l.any (fun q => decide (q.1 ≤ p.1 ∧ p.1 + p.2 ≤ q.1 + q.2)) then l
  else l.flatMap (rangeMinus p) ++ [p]

/-- Streams take up their enable of the tick (R194, R195) and the simulation mode (R180). -/
def State.tickStream (n : Nat) (s : State) : State :=
  let on := decide (strReg s.tickRegs n 1 ≠ 0)
  let x := s.stream n
  let x1 := if on && x.state == 0 then { Stream.idle with state := 1, usingSim := x.usingSim, cnt := x.cnt }
    else if !on && x.state != 0 then { x with state := 0, last := none, history := [], offset := none, miss := 0 }
    else x
  let x2 := if regIn s.tickRegs (ek 0x47F0 5) = 0 then { x1 with usingSim := false } else x1
  s.setStream n x2

def State.tickStreams (s0 : State) : State :=
  let on := enabledStreams s0.tickRegs
  let off := (s0.lens.streams.filter fun p => p.2.state != 0 && !on.contains p.1).map (·.1)
  -- what a stream that is being disabled has not delivered stays so in every open row
  let s := { s0 with lens := { s0.lens with
    opened := s0.lens.opened.map fun r => { r with off := r.off ++ off.filter fun n => !r.delivered.contains n } } }
  let s1 := applyAll State.tickStream on s
  let s2 := applyAll State.tickStream ((mapKeys s1.lens.streams).filter fun n => !on.contains n) s1
  { s2 with lens := { s2.lens with inUse := (on.map (strRange s2.tickRegs)).foldl addRange s2.lens.inUse } }

/-- The Lens opens a row for tick T (R173). -/
def State.openRow (s : State) (T : Nat) : State :=
  let f := s.grid
  let l := s.lens
  let inst := tickInstant f T
  let r : Row :=
    { num := l.next, inst := inst, tick := T, deadline := inst + 1000 * (regIn s.tickRegs (ek 0x47F0 3)).toNat,
      disc := l.disc, oos := false, cfg := s.tickRegs, delivered := [], off := [],
      freqs := [] }
  let o := l.opened ++ [r]
  { s with lens := { l with opened := o, next := l.next + 1, disc := false, lastTick := some T,
                             highestOpen := Nat.max l.highestOpen o.length } }

/-- The Lens starts (R64, R193): every ring slot reads value 0 and REASON 2. -/
def State.lensStart (s : State) : State :=
  let m := memClear s.mem sampleBase (phasorBase + 0x800000)
  let f := s.grid
  { s with mem := m,
           lens := { s.lens with
             state := 2, next := 0, disc := true, opened := [], sealedQueue := [], newest := none, rowsOk := 0,
             lastTick := some (tickFrom f s.now - 1), sealedRows := 0, expiryRows := 0, inUse := [],
             streams := s.lens.streams.map fun p => (p.1, { p.2 with last := none, history := [], offset := none }) } }

/-- Histories restart at a discontinuity (R190). -/
def Stream.restart (x : Stream) : Stream := { x with last := none, history := [], srcMiss := 0, offset := none, arrivalMode := false }

/-- A step of the time base reaches the Lens (R190). -/
def sealAllExpired : Nat → State → State
  | 0, s => s
  | k + 1, s => sealAllExpired k s.sealOldest

def State.lensStep (s : State) : State :=
  if s.lens.state = 2 then
    let s1 := sealAllExpired s.lens.opened.length s
    { s1 with lens := { s1.lens with disc := true, discs := wrap 32 (s1.lens.discs + 1), rowsOk := 0, lastTick := none,
                                      streams := s1.lens.streams.map fun p => (p.1, p.2.restart) } }
  else if s.lens.state = 1 then { s with lens := { s.lens with startAt := s.time.sec + 1 } }
  else s

/-! ### Enabling a stream (R176) -/

/-- The result of a write of 1 to :01 of stream n; `identified` tells whether a stream identification entry names it. -/
def State.streamEnableCode (s : State) (n : Nat) (identified : Bool) : Nat :=
  let m := s.regs
  let others := (enabledStreams m).filter fun k => k ≠ n
  let limit := if s.grid = 14400 then 512 else 1024
  let r := strRange m n
  let mask := strReg m n 7
  let rate := strReg m n 4
  let id := s.blob (0x4000 + n) 2
  if limit ≤ others.length then 0x0401
  else if 8192 < r.1 + r.2 ∨ others.any (fun k => rangesOverlap (strRange m k) r) = true then 0x0402
  else if mask = 0 ∨ 2 ^ strReg m n 6 ≤ mask then 0x0403
  else if strReg m n 9 = 2 ∧ rate ≠ s.grid then 0x0404
  else if rate ≠ s.grid ∧ 1000 * s.regN 0x47F0 3 ≤ resampleSpan rate s.grid then 0x0405
  else if id.isEmpty then 0x0406
  else if !identified then 0x0407
  else if 1536 < svFrameLength (strReg m n 5) (strReg m n 6) id.length then 0x0408
  else 0

/-- A new alignment wait must be above the span of every enabled resampled stream (R186). -/
def State.waitOk (s : State) (us : Nat) : Bool :=
  (enabledStreams s.regs).all fun k =>
    strReg s.regs k 4 == s.grid || decide (resampleSpan (strReg s.regs k 4) s.grid < 1000 * us)

end Sys2Proof.Machine
end

