-- ==== Sys2Proof/Machine/TimeUnit.lean ====
section
/-! DEFINITION. The time unit (chapter 5): steps, the servo, the best master clock, time pulse outputs and capture
inputs. -/

namespace Sys2Proof.Machine

/-! ### Steps and the servo (R118 to R124) -/

/-- The time status as facets see it (Table 5.4), without STEPPED. -/
def State.statusBits (s : State) : Nat := s.time.servo + 256 * boolNat s.inSpec

/-- Notice 0x0082 and source 18: the time status changed, or the time base stepped. -/
def State.tellTime (s : State) (stepped : Bool) : State :=
  (s.noticeAll 0x0082 [s.statusBits + 512 * boolNat stepped]).postAll 18 0

def State.markStepped (s : State) : State :=
  { s with facets := { s.facets with facet := s.facets.facet.map fun p => (p.1, { p.2 with stepped := true }) } }

/-- The time base set to an NS64 time. -/
def Time.setTo (t : Time) (ns : Nat) : Time :=
  { t with sec := ns / 1000000000, ns := ns % 1000000000, frac := 0, steps := wrap 32 (t.steps + 1), filter := [],
           aside := [], lockRun := 0, withinRun := 0 }

/-- Open rows are sealed as the time stood (R190). -/
def State.lensStepBefore (s : State) : State :=
  if s.lens.state = 2 then sealAllExpired s.lens.opened.length s else s

/-- The edge `k` edges after `next`: periods, or every D-th grid tick (R127). -/
def State.edgeAfter (s : State) (r : TpoRun) (next k : Nat) : Nat :=
  if r.mode = 3 then tickInstant s.grid (tickAt s.grid next + k * r.div) else next + k * r.period

/-- The next edge of an output lies before a time: a step to that time passes it (R126). -/
def State.edgeBefore (s : State) (x : Tpo) (target : Nat) : Bool :=
  match x.run with
  | some r => decide ((if x.pulse then s.edgeAfter r x.next 1 else x.next) < target)
  | none => false

/-- The edges of armed outputs that a forward step passes. -/
def State.passEdges (s : State) (target : Nat) : State :=
  { s with time := { s.time with
      tpo := s.time.tpo.map fun p => (p.1, if s.edgeBefore p.2 target then { p.2 with passed := true } else p.2) } }

/-- A step of the time base to a time: anchors before and after, the record of the step (0x0302 with its kind),
the Lens, and STEPPED of every facet. -/
def State.stepTo (s : State) (target : Nat) (kind : Nat) : State :=
  let d : Int := (target : Int) - (s.now : Int)
  let s1 := ((s.anchor 2).lensStepBefore).passEdges target
  let s2 := { s1 with time := s1.time.setTo target }
  let s3 := (s2.logRec 0x0302 1 noFacet 0 0 (leBytes 8 (toBits 64 d) ++ [byteOf kind])).anchor 3
  (s3.lensStep.markStepped).tellTime true

/-- A step by an offset of the own clock from the reference. -/
def State.stepBy (s : State) (offset : Int) (kind : Nat) : State :=
  s.stepTo ((s.now : Int) - offset).toNat kind

def listSum : List Int → Int
  | [] => 0
  | a :: l => a + listSum l

/-- The filtered offset: mean of the last 4 raw offsets taken in (R448). -/
def Time.filtered (t : Time) : Int :=
  if t.filter.isEmpty then 0 else listSum t.filter / (t.filter.length : Int)

/-- A time event record (0x0303): an offset, a deviation or a grandmaster identity in bytes 8 to 15. -/
def timeReq (event : Nat) (v : Int) : LogReq :=
  { typ := 0x0303, severity := 1, facet := noFacet, code := 0, inst := 0,
    data := [byteOf event] ++ List.replicate 7 (byteOf 0) ++ leBytes 8 (toBits 64 v) }

def State.timeEvent (s : State) (event : Nat) (v : Int) : State := s.logReq (timeReq event v)

/-- A servo state change: record, anchor, the live cause JUMP_PENDING, and the facets where the status changed. -/
def State.setServo (s : State) (n : Nat) : State :=
  if s.time.servo = n then s
  else
    let was := s.inSpec
    let s1 := { s with time := { s.time with servo := n, lockRun := 0, withinRun := 0 } }
    let s2 := s1.logAll [timeReq 4 s1.time.filtered, s1.anchorReq 1]
    let s3 := s2.setCause 3 (n == 5)
    if s3.inSpec = was then s3 else s3.tellTime false

/-- Units of 2^-32 ns per cycle in 1,000 ppm of 4 ns (R110). -/
def maxCorr : Nat := 17179869

/-- A number within ±m. -/
def clampTo (m : Nat) (i : Int) : Int := if (m : Int) < i then m else if i < -(m : Int) then -(m : Int) else i

/-- The correction that the servo takes: a frequency estimate, and an extra rate within the maximum slew rate of 0x3001:02 in
ppm (R119), both free within these bounds (log 3), together within ±1,000 ppm (R110). -/
def State.takeCorrection (s : State) : State :=
  let slew := maxCorr * s.regN 0x3001 2 / 1000
  let freq : Int := (s.free % (2 * maxCorr + 1) : Nat) - (maxCorr : Int)
  let extra : Int := (Config.freeValue (s.freeCount + 1) % (2 * slew + 1) : Nat) - (slew : Int)
  let h := ((s.mono, s.time.corr) :: s.time.corrHist).filter fun p => decide (s.mono < p.1 + 64000000000)
  { s with freeCount := s.freeCount + 2, time := { s.time with freq := freq, corr := clampTo maxCorr (freq + extra), corrHist := h } }

/-- The integral of the correction from monotonic time `w` to `t`: `c` in force now, before it those of the list, newest
first, each with the time at which it was superseded. -/
def corrSum (w : Nat) : Nat → Int → List (Nat × Int) → Int
  | t, c, [] => ((t - w : Nat) : Int) * c
  | t, c, (e, d) :: l =>
    if e ≤ w then ((t - w : Nat) : Int) * c else ((t - e : Nat) : Int) * c + corrSum w e d l

/-- The frequency frozen at its mean over the last 64 s, or over the time since the reset. -/
def Time.meanCorr (t : Time) : Int :=
  let w := t.mono - 64000000000
  if t.mono = w then t.corr else corrSum w t.mono t.corr t.corrHist / ((t.mono - w : Nat) : Int)

/-- The frequency is frozen; it stays frozen in HOLDOVER, HOLDOVER_EXPIRED and JUMP_PENDING. -/
def Time.freeze (t : Time) : Time :=
  if 3 ≤ t.servo ∧ t.frozenAt.isSome then t else { t with frozenAt := some t.mono }

/-- The servo acquires again: the holdover ends, and with it the degraded bit (R121). -/
def Time.thaw (t : Time) : Time := { t with degraded := false, lockedAt := none }

/-- The servo had been LOCKED for 600 s when its frequency was frozen. -/
def Time.lockedLong (t : Time) : Bool :=
  match t.lockedAt, t.frozenAt with
  | some a, some f => decide (a + 600000000000 ≤ f)
  | _, _ => false

/-- 0x3001:06: the offset while a jump is pending, or the one loaded at takeover until the first own Sync. -/
def Time.pendingOffset (t : Time) : Int :=
  if t.servo = 5 then
    match t.loaded with
    | some o => o
    | none => t.filtered
  else 0

def Time.intake (t : Time) (o : Int) : Time := { t with filter := (o :: t.filter).take 4, aside := [], loaded := none }

def iabs (i : Int) : Nat := i.natAbs

/-- The third offset beyond the threshold: the jump is refused (R122, R448). -/
def State.refuseJump (s : State) (o : Int) : State :=
  let t := s.time
  let s1 := { s with time := { (t.freeze) with filter := (o :: t.aside).take 4, aside := [], loaded := none } }
  (s1.timeEvent 0 s1.time.filtered).setServo 5

/-- Within the threshold: the offset enters the filter and the servo slews. -/
def State.slew (s : State) (o : Int) : State :=
  ({ s with time := s.time.intake o } : State).takeCorrection

def State.holdAside (s : State) (o : Int) (discard : Bool) : State :=
  let t := s.time
  { s with time := { t with aside := o :: t.aside, lockRun := 0,
                            outliers := if discard then wrap 32 (t.outliers + 1) else t.outliers } }

/-- LOCKED. Phase 6 of start-up exits at lock (R62). -/
def State.lock (s : State) : State :=
  (({ s with time := { s.time with lockedOnce := true, lockedAt := some s.mono, frozenAt := none, degraded := false } } :
    State).setServo 2).endPhase 6

/-- One raw offset drives Table 5.2. -/
def State.servoOffset (s : State) (o : Int) : State :=
  let t := s.time
  let far := decide (s.regN 0x3001 1 < iabs o)
  let near := decide (iabs o ≤ s.regN 0x3001 4)
  match t.servo with
  | 0 => (s.stepBy o 3).setServo 1
  | 1 =>
    if far && !t.lockedOnce then s.stepBy o 3
    else if far then (if 2 ≤ t.aside.length then s.refuseJump o else s.holdAside o false)
    else
      let s1 := s.slew o
      let n := if near then t.lockRun + 1 else 0
      let s2 := { s1 with time := { s1.time with lockRun := n } }
      if 4 ≤ n then s2.lock else s2
  | 2 => if far then (if 2 ≤ t.aside.length then s.refuseJump o else s.holdAside o true) else s.slew o
  | 5 =>
    let s1 := { s with time := { t with filter := (o :: t.filter).take 4, loaded := none } }
    let n := if far then 0 else t.withinRun + 1
    if 4 ≤ n then
      let s2 := s1.timeEvent 1 s1.time.filtered
      ({ s2 with time := s2.time.thaw } : State).setServo 1
    else { s1 with time := { s1.time with withinRun := n } }
  | _ =>
    if far then (if 2 ≤ t.aside.length then s.refuseJump o else s.holdAside o false)
    else
      let s1 := s.slew o
      ({ s1 with time := s1.time.thaw } : State).setServo 1

/-- HOLDOVER begins: the degraded bit unless the OCXO was warm and the servo had been LOCKED for 600 s as the frequency was
frozen (R121). -/
def State.toHoldover (s : State) : State :=
  let t := s.time.freeze
  ({ s with time := { t with degraded := !(s.power.ocxoWarm && t.lockedLong), aside := [] } } : State).setServo 3

/-- The holdover limit, counted from the freezing of the frequency, has elapsed. -/
def State.holdoverOver (s : State) : Bool :=
  match s.time.frozenAt with
  | some f => decide (f + 1000000000 * s.regN 0x3001 3 ≤ s.mono)
  | none => false

/-- The master is lost (Table 5.2). A limit that elapsed while a jump was pending ends the holdover at once. -/
def State.masterLost (s : State) : State :=
  match s.time.servo with
  | 1 => if s.time.lockedOnce then s.toHoldover
         else ({ s with time := { s.time.freeze with aside := [] } } : State).setServo 0
  | 2 => ({ s with time := { s.time with corr := s.time.meanCorr, freq := s.time.meanCorr } } : State).toHoldover
  | 5 => if s.holdoverOver then s.toHoldover.setServo 4 else s.toHoldover
  | _ => s

/-! ### Best master clock (R116, R117, R123) -/

def PtpPort.fresh : PtpPort :=
  { state := 1, foreign := [], pending := none, delay := 0, discarded := 0, seqSync := 0, seqAnnounce := 0,
    seqPdelay := 0, sent := 0, responses := 0, lastSync := none, lastFollowUp := none, lastAnnounce := none,
    lastResponse := none, carried := none }

def State.port (s : State) (p : Nat) : PtpPort := mapGet s.time.ports p PtpPort.fresh
def State.setPort (s : State) (p : Nat) (x : PtpPort) : State :=
  { s with time := { s.time with ports := mapPut p x s.time.ports } }

/-- PTP runs on the port: enabled module-wide and on the port. -/
def State.ptpOn (s : State) (p : Nat) : Bool := s.flag 0x3010 8 && s.flag (0x3040 + p) 1

/-- A message of an unsupported kind, on a port where PTP is disabled, or of another domain is discarded (R115). -/
def State.ptpTakes (s : State) (p : Nat) (supported : Bool) (domain : Nat) : Bool :=
  s.ptpOn p && supported && domain == s.regN 0x3010 3

def State.ptpDiscard (s : State) (p : Nat) : State :=
  let x := s.port p
  s.setPort p { x with discarded := wrap 32 (x.discarded + 1) }

def lexLess : List Nat → List Nat → Bool
  | a :: l, b :: m => decide (a < b) || (a == b && lexLess l m)
  | _, _ => false

/-- The data set of an Announce as the default BMCA compares it. -/
def announceKey (m : AnnounceMsg) : List Nat :=
  [m.priority1, m.clockClass, m.accuracy, m.variance, m.priority2, m.gmIdentity, m.stepsRemoved, m.sourceClock, m.sourcePort]

/-- The own data set; class 248, accuracy 0xFE and variance 0xFFFF are the defaults of IEEE 1588 (PRESUMED, log 7). -/
def State.ownKey (s : State) : List Nat :=
  [s.regN 0x3010 4, 248, 0xFE, 0xFFFF, s.regN 0x3010 5, Config.clockIdentity, 0, Config.clockIdentity, 0]

/-- The best of a list of candidates, each a port and an Announce; the first where two are alike. -/
def bestOf : List (Nat × AnnounceMsg) → Option (Nat × AnnounceMsg)
  | [] => none
  | c :: l =>
    match bestOf l with
    | none => some c
    | some d => if lexLess (announceKey d.2) (announceKey c.2) then some d else some c

/-- The foreign masters of all ports where PTP runs. -/
def State.foreignMasters (s : State) : List (Nat × AnnounceMsg) :=
  (s.time.ports.filter fun p => s.ptpOn p.1).flatMap fun p => p.2.foreign.map fun m => (p.1, m)

/-- A foreign master qualifies where it is better than the own clock, or the module may never be MASTER. -/
def State.qualifies (s : State) (m : AnnounceMsg) : Bool :=
  s.flag 0x3010 6 || s.regN 0x3010 2 == 2 || lexLess (announceKey m) s.ownKey

/-- The master that the BMCA selects. -/
def State.selected (s : State) : Option (Nat × AnnounceMsg) := (bestOf s.foreignMasters).filter fun c => s.qualifies c.2

/-- The state code of port p: 1 initialising (PTP off), 6 MASTER, 7 PASSIVE, 9 SLAVE. A module that is not LIT, or whose
outputs are still muted as on a SHADE (R64), places no port in MASTER (R117). -/
def State.portState (s : State) (best : Option (Nat × AnnounceMsg)) (p : Nat) (x : PtpPort) : Nat :=
  if !s.ptpOn p then 1
  else
    let mayMaster := s.driven && !s.flag 0x3010 6 && s.regN 0x3010 2 != 2
    match best with
    | none => if mayMaster then 6 else 7
    | some (q, m) =>
      if p = q then 9
      else if s.regN 0x3010 2 = 1 ∧ mayMaster = true ∧ (x.foreign.any fun k => k.gmIdentity == m.gmIdentity) = false then 6
      else 7

/-- Every port that PTP runs on, with the others that have been heard on. -/
def State.ptpPorts (s : State) : Map PtpPort :=
  ((List.range 48).filter s.ptpOn).foldl (fun m p => mapPut p (mapGet m p PtpPort.fresh) m) s.time.ports

/-- The BMCA runs: port states, the parent and its grandmaster (R116, R123). -/
def State.bmca (s : State) : State :=
  let best := s.selected
  let t := s.time
  let ports := s.ptpPorts.map fun p => (p.1, { p.2 with state := s.portState best p.1 p.2 })
  match best with
  | none => { s with time := { t with ports := ports, slavePort := none, parent := none, master := none } }
  | some (q, m) =>
    let newParent := decide (t.parent ≠ some (m.sourceClock, m.sourcePort))
    let change := decide (t.gm ≠ 0 ∧ t.gm ≠ m.gmIdentity)
    let t1 := { t with ports := ports, slavePort := some q, parent := some (m.sourceClock, m.sourcePort), master := some m,
                       gm := m.gmIdentity, gmClass := m.clockClass, gmPriority1 := m.priority1,
                       stepsRemoved := m.stepsRemoved, utc := m.utcOffset, inaccuracy := m.inaccuracy,
                       altOffset := m.altOffset,
                       filter := if newParent || change then [] else t.filter,
                       aside := if newParent || change then [] else t.aside,
                       gmChanges := if change then wrap 32 (t.gmChanges + 1) else t.gmChanges }
    let s1 := { s with time := t1 }
    if change then
      s1.logAll [timeReq 2 m.gmIdentity, s1.anchorReq 5]
    else s1

/-- The local time inaccuracy that the module reports as a boundary clock, in ns (R116). -/
def localInaccuracy : Nat := 100

/-- The Announce that a MASTER port sends: the data set of the selected master one step further, its IEEE_C37_238 TLV updated
and its ALTERNATE_TIME_OFFSET_INDICATOR TLV forwarded (Table 5.1), or the own data set. -/
def State.ownAnnounce (s : State) (p : Nat) : AnnounceMsg :=
  let own : AnnounceMsg :=
    { supported := true, domain := s.regN 0x3010 3, priority1 := s.regN 0x3010 4, clockClass := 248, accuracy := 0xFE,
      variance := 0xFFFF, priority2 := s.regN 0x3010 5, gmIdentity := Config.clockIdentity, stepsRemoved := 0,
      sourceClock := Config.clockIdentity, sourcePort := p, utcOffset := s.time.utc, inaccuracy := localInaccuracy,
      altOffset := s.time.altOffset }
  match s.time.master with
  | some m => { m with domain := own.domain, stepsRemoved := m.stepsRemoved + 1, sourceClock := own.sourceClock, sourcePort := p,
                       inaccuracy := m.inaccuracy + localInaccuracy }
  | none => own

/-- A complete Sync of the selected master on the slave port: its raw offset (R448) in whole ns, from the reception stamp and
the correction in units of 0.25 ns. -/
def State.syncOffset (s : State) (p : Nat) (rx origin corr : Int) : State :=
  s.servoOffset ((rx - corr) / 4 - origin - (s.port p).delay - s.reg (0x3040 + p) 8)

def State.fromParent (s : State) (p source : Nat) : Bool :=
  s.time.slavePort == some p && (match s.time.parent with
    | some (c, _) => c == source
    | none => false)

/-! ### Scheduled times and pulse outputs (R125 to R130) -/

def Tpo.idle : Tpo :=
  { run := none, next := 0, done := 0, pulse := false, muted := false, change := none, owner := 0xFFFF,
    newOwner := none, finished := false, late := 0, gated := 0, result := 0, startReg := 0, passed := false, activeLow := false }

def State.tpo (s : State) (n : Nat) : Tpo := mapGet s.time.tpo n Tpo.idle
def State.setTpo (s : State) (n : Nat) (x : Tpo) : State :=
  { s with time := { s.time with tpo := mapPut n x s.time.tpo } }

def tpoIndex (n : Nat) : Nat := 0x3100 + n

/-- A 40-bit scheduled value as the NS64 time N + d, where d is from 100 ns to 2^39 - 1 (R125). -/
def schedule (now v : Nat) : Option Nat :=
  let d : Int := ((v : Int) - now) % 1099511627776
  if 100 ≤ d ∧ d < 549755813888 then some (now + d.toNat) else none

/-- The settings of output n as they stand, within the limits of R127. -/
def State.tpoRun (s : State) (n start : Nat) : Option TpoRun :=
  let i := tpoIndex n
  let r : TpoRun := { mode := s.regN i 1, start := start, period := s.regN i 3, width := s.regN i 4,
                      count := s.regN i 5, div := s.regN i 6 }
  let f := s.grid
  let tick := if f = 0 then 0 else 1000000000 / f
  let ok := match r.mode with
    | 1 => decide (8 ≤ r.width ∧ r.width ≤ 4000000000)
    | 2 => decide (40 ≤ r.period ∧ r.period ≤ 4000000000 ∧ 8 ≤ r.width ∧ r.width + 8 ≤ r.period)
    | 3 => decide (8 ≤ r.width ∧ r.width + 8 ≤ tick ∧ 1 ≤ r.div ∧ r.div ≤ 14400)
    | _ => true
  if ok then some r else none

/-- Every setting of output n lies within the limits of R127. -/
def State.tpoInLimits (s : State) (n : Nat) : Bool :=
  let i := tpoIndex n
  decide (40 ≤ s.regN i 3 ∧ s.regN i 3 ≤ 4000000000 ∧ 8 ≤ s.regN i 4 ∧ s.regN i 4 ≤ 4000000000 ∧ 1 ≤ s.regN i 6 ∧
    s.regN i 6 ≤ 14400) && (s.tpoRun n 0).isSome

/-- The first pulse of a run: its start, or in grid mode the first tick boundary at or after it. -/
def State.firstPulse (s : State) (r : TpoRun) : Nat :=
  if r.mode = 3 then tickInstant s.grid (tickFrom s.grid r.start) else r.start

def Tpo.begin (x : Tpo) (r : Option TpoRun) (first : Nat) : Tpo :=
  match r with
  | none => { x with run := none, pulse := false, change := none, finished := false, passed := false }
  | some r =>
    if r.mode = 0 then { x with run := none, pulse := false, change := none, finished := false, passed := false }
    else { x with run := some r, next := first, done := 0, pulse := false, change := none, finished := false, passed := false }

/-- A change of a running output waits for the end of the pulse in progress (R128). -/
def State.tpoChange (s : State) (n : Nat) (r : Option TpoRun) : State :=
  let x := s.tpo n
  if x.pulse then s.setTpo n { x with change := some r }
  else s.setTpo n (x.begin r (match r with
    | some k => s.firstPulse k
    | none => 0))

/-- A write of a start time: the result code, and the output armed where it is 0; a value refused is ignored (R135). -/
def State.tpoStart (s : State) (n v : Nat) : State :=
  let x := s.tpo n
  let refuse := fun c => (s.setTpo n { x with result := c }).answer c
  match schedule s.now v with
  | none => refuse 0x0301
  | some t =>
    match s.tpoRun n t with
    | none => refuse 0x0302
    | some r => ((s.setTpo n { x with result := 0, startReg := v % 2 ^ 40 }).tpoChange n (some r)).answer 0

/-- Writing mode 0 is a change to Off (R127, R128). -/
def State.tpoOff (s : State) (n : Nat) : State := s.tpoChange n none

/-- Edges of a run after `next` that lie up to the time now: one by one of the period, or every D-th grid tick. -/
def State.edgesPassed (s : State) (r : TpoRun) (next : Nat) : Nat :=
  if r.mode = 2 ∧ r.period ≠ 0 then (s.now - next) / r.period
  else if r.mode = 3 ∧ r.div ≠ 0 then (tickAt s.grid s.now - tickAt s.grid next) / r.div
  else 0

/-- The scheduled time of an edge is reached (R126, R127, R130). An edge that a forward step passed is late: of the edges
passed the last one is produced, and each of them counts as late. DESIGN CHOICE (log 16): the edges skipped use up the count
of pulses too. A closed time gate suppresses the pulse. The pulse keeps the polarity that it starts with (R128). -/
def State.tpoEdge (s0 : State) (n : Nat) : State :=
  let x := s0.tpo n
  match x.run with
  | none => s0
  | some r =>
    if x.pulse || x.finished then s0
    else
      let s := s0.advanceTo x.next
      let skipped := if x.passed then s.edgesPassed r x.next else 0
      let gate := s.flag (tpoIndex n) 9 && !s.inSpec
      let y := { x with pulse := true, muted := gate, passed := false, activeLow := s.flag (tpoIndex n) 7,
                        next := if skipped = 0 then x.next else s.edgeAfter r x.next skipped, done := x.done + 1 + skipped,
                        late := wrap 32 (x.late + (if x.passed then 1 + skipped else 0)),
                        gated := if gate then wrap 32 (x.gated + 1) else x.gated }
      s.setTpo n y

/-- Whether the run has produced its count of pulses. -/
def TpoRun.expired (r : TpoRun) (done : Nat) : Bool :=
  r.mode == 1 || (r.count != 0 && decide (r.count ≤ done))

/-- The bits of 0x3010 (TPO_GRANTED) of a facet. -/
def State.tpoGranted (s : State) (f : Nat) : Nat :=
  (List.range 16).foldl (fun a n => a + (if (s.tpo n).owner = f then 2 ^ n else 0)) 0

/-- Notice 0x0084 of a grant: PLANE_GRANT0, PLANE_GRANT1, TPO_GRANTED. -/
def State.grantNotice (s : State) (f : Nat) : State :=
  let g := (s.facet f).plane
  s.notice f 0x0084 [g % 2 ^ 64, g / 2 ^ 64, s.tpoGranted f]

/-- The owner in force changes; the output goes to Off, and the new owner starts from Off (R129). -/
def State.tpoOwn (s : State) (n owner : Nat) : State :=
  let x := s.tpo n
  let s1 := (s.setReg (tpoIndex n) 1 0).setTpo n { (x.begin none 0) with owner := owner, newOwner := none }
  let s2 := if x.owner < 256 then s1.grantNotice x.owner else s1
  if owner < 256 then s2.grantNotice owner else s2

/-- The end of a pulse (R128, R129): a new owner, a change, the next pulse, or DONE. -/
def State.tpoPulseEnd (s0 : State) (n : Nat) : State :=
  let x := s0.tpo n
  match x.run with
  | none => s0
  | some r =>
    if !x.pulse then s0
    else
      let s := s0.advanceTo (x.next + r.width)
      let y := { x with pulse := false, muted := false }
      let s1 := match x.newOwner with
        | some o => (s.setTpo n y).tpoOwn n o
        | none =>
          match x.change with
          | some c => s.setTpo n (y.begin c (match c with
              | some k => s.firstPulse k
              | none => 0))
          | none =>
            if r.expired x.done then s.setTpo n { y with run := none, finished := true }
            else s.setTpo n { y with next := s.edgeAfter r x.next 1 }
      if x.owner < 256 then s1.postSource x.owner (2 + n) 0 else s1

/-- A write to :0A: at the end of the pulse in progress (R129). -/
def State.tpoGrant (s : State) (n owner : Nat) : State :=
  let x := s.tpo n
  if x.pulse then s.setTpo n { x with newOwner := some owner } else s.tpoOwn n owner

/-- The state of TPO_STATUS: 0 idle, 1 armed, 2 running, 3 done, 4 gated, 5 held while not LIT. -/
def State.tpoState (s : State) (n : Nat) : Nat :=
  let x := s.tpo n
  match x.run with
  | none => if x.finished then 3 else 0
  | some _ =>
    if s.flag (tpoIndex n) 8 && !s.driven then 5
    else if s.flag (tpoIndex n) 9 && !s.inSpec then 4
    else if x.done = 0 ∧ x.pulse = false then 1 else 2

/-- The level of pin TPOn (R127, R130): low between power-up and the configuration load of phase 5, then at its inactive level
but for the pulses. -/
def State.tpoPin (s : State) (n : Nat) : Bool :=
  let x := s.tpo n
  let active := x.pulse && !x.muted && !(s.flag (tpoIndex n) 8 && !s.driven)
  let low := if x.pulse then x.activeLow else s.flag (tpoIndex n) 7
  s.domOn 8 && decide (6 ≤ s.boot.phase) && (active != low)

/-! ### Capture inputs (R131) -/

def Tci.empty : Tci := { queue := [], last := none, overflow := 0, deviation := 0 }
def State.tci (s : State) (n : Nat) : Tci := mapGet s.time.tci n Tci.empty
def State.setTci (s : State) (n : Nat) (x : Tci) : State :=
  { s with time := { s.time with tci := mapPut n x s.time.tci } }

/-- Distance of a time to the nearest whole second, in ns. -/
def toSecond (now : Nat) : Int :=
  let r := now % 1000000000
  if r < 500000000 then (r : Int) else (r : Int) - 1000000000

/-- A rising edge (R131): less than 32 ns after the previous one, which the monotonic count tells, it is ignored. -/
def State.captureEdge (s : State) (n : Nat) : State :=
  let x := s.tci n
  let st := s.quarterStamp
  let close := match x.last with
    | some l => decide (s.monoStamp < l + 128)
    | none => false
  if close || decide (16 ≤ x.queue.length) then
    s.setTci n { x with overflow := wrap 32 (x.overflow + 1), last := if close then x.last else some s.monoStamp }
  else
    let lim := s.regN (0x3120 + n) 5
    let dev := toSecond s.now
    let s1 := s.setTci n { x with queue := x.queue ++ [st], last := some s.monoStamp,
                                  deviation := if lim = 0 then x.deviation else dev }
    if lim ≠ 0 ∧ lim < iabs dev then
      (s1.logRec 0x0303 1 noFacet 0 n ([byteOf 3] ++ List.replicate 7 (byteOf 0) ++ leBytes 8 (toBits 64 dev))).latchCause 4 false
    else s1

/-- A read of :02 removes and returns the oldest stamp. -/
def State.takeStamp (s : State) (n : Nat) : State × Nat :=
  let x := s.tci n
  match x.queue with
  | [] => (s, 0)
  | a :: l => (s.setTci n { x with queue := l }, a)

end Sys2Proof.Machine
end

