-- ==== Sys2Proof/Machine/FabricUnit.lean ====
section
/-! DEFINITION. The switch fabric (chapter 6): classes and VLANs, tables, admission, the matcher, egress, ageing,
link loss, duplicate discard and the audit. -/

namespace Sys2Proof.Machine

/-! ### Ports and counters -/

/-- P0 to P47 are external. -/
def externalPort (p : Nat) : Bool := decide (p < 48)

/-- Line rate of an external port in quarter bytes per cell time of 50 ns: 10 Gbit/s on P40 to P47, else 1. -/
def portRate (p : Nat) : Nat := if 40 ≤ p then 250 else 25

/-- A counter of port p (0x2000 + p). -/
def State.portCount (s : State) (p sub n : Nat) : State :=
  s.setReg (0x2000 + p) sub ((s.regN (0x2000 + p) sub + n) % 2 ^ 64 : Nat)

/-- A U64 counter of any index. -/
def State.countReg (s : State) (index sub n : Nat) : State :=
  s.setReg index sub ((s.regN index sub + n) % 2 ^ 64 : Nat)

def State.portReg (s : State) (p sub : Nat) : Nat := s.regN (0x2000 + p) sub

/-- Link state of port p (:02). -/
def State.linkState (s : State) (p : Nat) : Nat := mapGet s.fabric.link p 0

def State.setLink (s : State) (p v : Nat) : State :=
  { s with fabric := { s.fabric with link := mapPut p v s.fabric.link } }

/-- The fabric works: PD8 is up and phase 5 has been passed. -/
def State.fabricUp (s : State) : Bool := s.domOn 8 && decide (6 ≤ s.boot.phase)

/-! ### Pairs (R166, R167) -/

def State.pairMode (s : State) (k : Nat) : Nat := s.regN (0x2460 + k) 1
def State.pairA (s : State) (k : Nat) : Nat := s.regN (0x2460 + k) 2
def State.pairB (s : State) (k : Nat) : Nat := s.regN (0x2460 + k) 3

/-- The pair that holds a port. -/
def State.pairOf (s : State) (p : Nat) : Option Nat :=
  (List.range 8).find? fun k => decide (s.pairMode k ≠ 0) && (s.pairA k == p || s.pairB k == p)

def State.pairMate (s : State) (k p : Nat) : Nat := if s.pairA k = p then s.pairB k else s.pairA k

def prpMode (m : Nat) : Bool := m == 1 || m == 2
def hsrMode (m : Nat) : Bool := m == 3 || m == 4
def redBox (m : Nat) : Bool := m == 2 || m == 4

/-- The setting of pair k is valid (R166): different external ports of one rate, in no other pair, without
through-connection. -/
def State.pairValid (s : State) (k : Nat) : Bool :=
  let a := s.pairA k
  let b := s.pairB k
  decide (a < 48 ∧ b < 48 ∧ a ≠ b) && portRate a == portRate b && s.portReg a 9 == 0 && s.portReg b 9 == 0 &&
    (List.range 8).all fun j => j == k || s.pairMode j == 0 ||
      (s.pairA j != a && s.pairA j != b && s.pairB j != a && s.pairB j != b)

/-! ### Forwarding database (R161 to R163) -/

def fdbBucket (vid mac : Nat) : Nat := crc32 (beBytes 2 (vid % 4096) ++ beBytes 6 mac) % 4096

def fdbVid (e : Nat) : Nat := bitsAt e 104 12
def fdbMac (e : Nat) : Nat := bitsAt e 56 48
def fdbStatic (e : Nat) : Bool := e.testBit 126
def fdbRepl (e : Nat) : Nat := bitsAt e 124 2
def fdbAge (e : Nat) : Nat := bitsAt e 116 4
def fdbPorts (e : Nat) : Nat := bitsAt e 0 52

/-- A learned entry. -/
def fdbLearned (vid mac ports : Nat) : Nat := 2 ^ 127 + vid * 2 ^ 104 + mac * 2 ^ 56 + ports

/-- The entry with its AGE field. -/
def fdbWithAge (e age : Nat) : Nat := e - fdbAge e * 2 ^ 116 + age * 2 ^ 116

/-- Position of the key among the eight ways of its bucket. -/
def bucketFind (tab : Map Nat) (same : Nat → Bool) (bucket : Nat) : Option Nat :=
  ((List.range 8).map (bucket * 8 + ·)).find? fun p =>
    match mapFind tab p with
    | some e => same e
    | none => false

def bucketFree (tab : Map Nat) (bucket : Nat) : Option Nat :=
  ((List.range 8).map (bucket * 8 + ·)).find? fun p => (mapFind tab p).isNone

def State.fdbFind (s : State) (vid mac : Nat) : Option Nat :=
  bucketFind s.fabric.fdb (fun e => fdbVid e == vid && fdbMac e == mac) (fdbBucket vid mac)

def State.setFdb (s : State) (t : Map Nat) : State := { s with fabric := { s.fabric with fdb := t } }

/-- The learned way of a full bucket with the highest AGE. -/
def oldestLearned (tab : Map Nat) (bucket : Nat) : Option Nat :=
  ((List.range 8).map (bucket * 8 + ·)).foldl (fun best p =>
    match mapFind tab p with
    | some e =>
      if fdbStatic e then best
      else match best with
        | some q => if fdbAge (mapGet tab q 0) < fdbAge e then some p else some q
        | none => some p
    | none => best) none

/-- A forwarding entry is well-formed (Table 6.4, 0x0203). -/
def fdbWordOk (e : Nat) : Bool :=
  e.testBit 127 && decide (1 ≤ fdbVid e ∧ fdbVid e ≤ 4094) && decide (bitsAt e 120 3 ≠ 7)

/-- A write of an entry (R162, R8 for the reserved REPL): the result code, the database, and the position. AGE and bits [55:52]
are read-only. In a full bucket a static entry takes the place of a learned one; one written as learned (STATIC 0) does not
(log 23). -/
def fdbWrite (tab : Map Nat) (e : Nat) : Nat × Map Nat × Nat :=
  let v := fdbWithAge e 0 - bitsAt e 52 4 * 2 ^ 52
  let b := fdbBucket (fdbVid e) (fdbMac e)
  if !fdbWordOk e then (0x0203, tab, 0)
  else if fdbRepl e = 3 then (0x010A, tab, 0)
  else
    match bucketFind tab (fun x => fdbVid x == fdbVid e && fdbMac x == fdbMac e) b with
    | some p => (0, mapPut p v tab, p)
    | none =>
      match bucketFree tab b with
      | some p => (0, mapPut p v tab, p)
      | none =>
        match oldestLearned tab b with
        | some p => if fdbStatic e then (0, mapPut p v tab, p) else (0x0201, tab, 0)
        | none => (0x0201, tab, 0)

/-! ### VLANs (R148, 0x2440) -/

def vlanDefault (vid : Nat) : Nat := if vid = 1 then 2 ^ 127 + 2 ^ 126 + (2 ^ 52 - 1) * 2 ^ 52 + (2 ^ 52 - 1) else 0

def State.vlan (s : State) (vid : Nat) : Nat := mapGet s.fabric.vlans vid (vlanDefault vid)
def vlanValid (e : Nat) : Bool := e.testBit 127
def vlanMember (e p : Nat) : Bool := e.testBit (52 + p)

/-! ### Stream identification (R164, R165) -/

def stKind (e : Nat) : Nat := bitsAt e 125 2
def stForward (e : Nat) : Bool := e.testBit 122
def stClass (e : Nat) : Nat := bitsAt e 119 3
def stVid (e : Nat) : Nat := bitsAt e 100 12
def stAppid (e : Nat) : Nat := bitsAt e 84 16
def stMac (e : Nat) : Nat := bitsAt e 36 48
def stHandle (e : Nat) : Nat := bitsAt e 24 12

def stBucket (vid appid mac : Nat) : Nat := crc32 (beBytes 2 (vid % 4096) ++ beBytes 2 appid ++ beBytes 6 mac) % 2048

def stSame (vid appid mac e : Nat) : Bool := stVid e == vid && stAppid e == appid && stMac e == mac

def State.streamFind (s : State) (vid appid mac : Nat) : Option Nat :=
  bucketFind s.fabric.streamTab (stSame vid appid mac) (stBucket vid appid mac)

def stWordOk (e : Nat) : Bool :=
  e.testBit 127 && decide (stKind e ≤ 1) && decide (stVid e ≤ 4094) &&
    (stKind e == 1 || decide (stHandle e < 1024))

def stWrite (tab : Map Nat) (e : Nat) : Nat × Map Nat × Nat :=
  let v := e - bitsAt e 123 2 * 2 ^ 123 - bitsAt e 112 7 * 2 ^ 112 - bitsAt e 0 24
  let b := stBucket (stVid e) (stAppid e) (stMac e)
  if !stWordOk e then (0x0203, tab, 0)
  else
    match bucketFind tab (stSame (stVid e) (stAppid e) (stMac e)) b with
    | some _ => (0x0203, tab, 0)
    | none =>
      match bucketFree tab b with
      | some p => (0, mapPut p v tab, p)
      | none => (0x0201, tab, 0)

/-- A stream identification entry of KIND names the handle (R176, 0x0407; R232). -/
def State.identified (s : State) (kind handle : Nat) : Bool :=
  s.fabric.streamTab.any fun p => stKind p.2 == kind && stHandle p.2 == handle

/-! ### Buffer accounting (R143 to R145) -/

/-- A class setting (0x2400 + c) in force in this cell time (R145). -/
def State.classReg (s : State) (c sub : Nat) : Nat := (regIn s.fabric.classSet (ek (0x2400 + c) sub)).toNat

/-- The class settings written so far come into force: from the next cell time on. -/
def State.latchClasses (s : State) : State :=
  { s with fabric := { s.fabric with
    classSet := s.regs.filter fun p => decide (0x2400 ≤ p.1 / 256 ∧ p.1 / 256 ≤ 0x2407 ∧ p.1 % 256 ≤ 5) } }

def State.fabricFrame (s : State) (k : Nat) : Frame := mapGet s.fabric.frames k default

def State.setFrame (s : State) (k : Nat) (f : Frame) : State :=
  { s with fabric := { s.fabric with frames := mapPut k f s.fabric.frames } }

/-- Cells that a frame of so many bytes occupies. -/
def cellCount (length : Nat) : Nat := (length + 127) / 128

/-- Cells of the frame that it holds now, by source. -/
def Frame.holding (f : Frame) (src : Nat) : Nat := ((f.cells.drop f.freed).filter (· == src)).length

def sumMap (g : Frame → Nat) : Map Frame → Nat
  | [] => 0
  | (_, f) :: l => g f + sumMap g l

/-- Cells in use of class c from one source (0 reserve, 1 pool). -/
def State.classCells (s : State) (c src : Nat) : Nat :=
  sumMap (fun f => if f.cls = c then f.holding src else 0) s.fabric.frames

/-- Reserve and shared cells of class c in use (0x2400 + c:06). -/
def State.cellsInUse (s : State) (c : Nat) : Nat := s.classCells c 0 + s.classCells c 1

def State.poolInUse (s : State) : Nat := sumMap (fun f => f.holding 1) s.fabric.frames
def State.completionInUse (s : State) : Nat := sumMap (fun f => f.holding 2) s.fabric.frames

def State.allocated (s : State) : Nat :=
  sumMap (fun f => f.cells.length - f.freed) s.fabric.frames + s.fabric.suspects.length

def State.freeCells (s : State) : Nat := 65536 - s.allocated

/-- Cells outside the pool by class: its reserve, or the reserve cells still queued where the reserve was lowered below them
(R145). -/
def State.reserveHeld (s : State) (c : Nat) : Nat := Nat.max (s.classReg c 1) (s.classCells c 0)

/-- Cells of the shared pool: every cell outside the reserves and the completion reserve (R143). -/
def State.poolSize (s : State) : Nat := 65536 - 1024 - (List.range 8).foldl (fun n c => n + s.reserveHeld c) 0

/-- Cells of class c queued for output o. -/
def State.portCells (s : State) (o c : Nat) : Nat :=
  s.fabric.copies.foldl (fun n k =>
    let f := s.fabricFrame k.fr
    if k.out = o ∧ f.cls = c then n + (f.cells.length - k.sent) else n) 0

/-- The source that R144 gives the next cell of class c: 0 reserve, 1 pool, none when neither has one free. -/
def State.cellSource (s : State) (c : Nat) : Option Nat :=
  if s.classCells c 0 < s.classReg c 1 then some 0
  else if s.classCells c 1 < s.classReg c 2 ∧ s.poolInUse < s.poolSize then some 1
  else none

/-- R144: whether a head of class c for these outputs is admitted. A reserve lowered below its cells in use refuses heads until
they fit it again (R145; log 23). -/
def State.admits (s : State) (c : Nat) (outs : List Nat) : Bool :=
  (outs.all fun o => decide (s.portCells o c < s.classReg c 3)) && decide (s.classCells c 0 ≤ s.classReg c 1) &&
    (s.cellSource c).isSome

def ClassBlock.zero : ClassBlock := { sent := 0, discarded := 0, highest := 0, minNs := 0, maxNs := 0, counts := [] }

def State.block (s : State) (o c : Nat) : ClassBlock := mapGet s.fabric.block (o * 8 + c) ClassBlock.zero
def State.setBlock (s : State) (o c : Nat) (b : ClassBlock) : State :=
  { s with fabric := { s.fabric with block := mapPut (o * 8 + c) b s.fabric.block } }

/-- A frame discarded for an egress by admission, ageing or link-down (Table 6.6). -/
def State.blockDiscard (c o : Nat) (s : State) : State :=
  let b := s.block o c
  s.setBlock o c { b with discarded := wrap 64 (b.discarded + 1) }

/-- A frame of class c discarded for egress o and counted at a counter of the port. -/
def State.discardAt (sub c o : Nat) (s : State) : State := (State.blockDiscard c o s).portCount o sub 1

/-- The frame takes its cells up to n of them; later cells of an admitted frame come at last from the completion
reserve. -/
def takeCells (k : Nat) : Nat → State → State
  | 0, s => s
  | n + 1, s =>
    let f := s.fabricFrame k
    let src := (s.cellSource f.cls).getD 2
    takeCells k n (s.setFrame k { f with cells := f.cells ++ [src] })

/-- High-water marks of the class and of each output. -/
def State.noteHigh (s : State) (c : Nat) (outs : List Nat) : State :=
  let u := s.cellsInUse c
  let s1 := { s with fabric := { s.fabric with
    highCells := mapPut c (Nat.max u (mapGet s.fabric.highCells c 0)) s.fabric.highCells } }
  applyAll (fun o s =>
    let b := s.block o c
    s.setBlock o c { b with highest := Nat.max b.highest (s.portCells o c) }) outs s1

/-- Cells of the frame that have arrived whole: all once the tail is in. -/
def Frame.arrived (f : Frame) : Nat :=
  if f.tail then cellCount f.head.length
  else Nat.min (f.received / 512) (cellCount f.head.length - 1)

/-- Cells of the frame that have begun to arrive: each is admitted, and takes its buffer cell, at its first bytes (R144). -/
def Frame.begun (f : Frame) : Nat :=
  if f.tail then cellCount f.head.length
  else Nat.max 1 (Nat.min ((f.received + 511) / 512) (cellCount f.head.length))

def copiesOf (k : Nat) (l : List Copy) : List Copy := l.filter fun x => x.fr == k

/-- The buffer cells of a queued frame follow what arrives; a frame that is in no queue takes none. -/
def State.growFrame (k : Nat) (s : State) : State :=
  if (copiesOf k s.fabric.copies).isEmpty then s
  else
    let f := s.fabricFrame k
    let s1 := takeCells k (f.begun - f.cells.length) s
    s1.noteHigh f.cls f.outs

/-- Cells that every remaining copy has crossed are free; a frame without copies and with its tail in is gone. -/
def State.settleFrame (k : Nat) (s : State) : State :=
  match mapFind s.fabric.frames k with
  | none => s
  | some f =>
    let cs := copiesOf k s.fabric.copies
    let wire := s.fabric.egress.any fun p => p.2.fifo.any (fun x => x.1 == k) || p.2.current == some k
    let joined := s.fabric.joins.any (·.1 == k) || s.fabric.setups.any (·.1 == k)
    let fr := match cs with
      | [] => f.cells.length
      | c :: l => l.foldl (fun m x => Nat.min m x.crossed) c.crossed
    if cs.isEmpty && f.tail && !wire && !joined then
      { s with fabric := { s.fabric with frames := mapDel k s.fabric.frames } }
    else s.setFrame k { f with freed := Nat.max f.freed fr }

/-! ### Duplicate discard (R168) -/

def nodeKey (pair mac : Nat) : Nat := pair * 2 ^ 48 + mac

/-- The least recently seen entry older than the entry forget time of its pair. -/
def State.staleNode (s : State) : Option Nat :=
  (s.fabric.nodes.foldl (fun (best : Option (Nat × Nat)) p =>
    let limit := 1000000 * s.regN (0x2460 + p.1 / 2 ^ 48) 5
    if p.2.seen + limit < s.mono then
      match best with
      | some (k, t) => if p.2.seen < t then some (p.1, p.2.seen) else some (k, t)
      | none => some (p.1, p.2.seen)
    else best) none).map (·.1)

/-- The duplicate decision: whether the frame is a duplicate, and the table after it. -/
def State.duplicate (s : State) (pair mac seq : Nat) : Bool × State :=
  let k := nodeKey pair mac
  match mapFind s.fabric.nodes k with
  | some n =>
    if n.window.contains seq then
      (true, { s with fabric := { s.fabric with nodes := mapPut k { n with seen := s.mono } s.fabric.nodes } })
    else
      (false, { s with fabric := { s.fabric with
        nodes := mapPut k { window := (seq :: n.window).take 64, refreshed := s.mono, seen := s.mono } s.fabric.nodes } })
  | none =>
    let fresh : Node := { window := [seq], refreshed := s.mono, seen := s.mono }
    if s.fabric.nodes.length < 4096 then
      (false, { s with fabric := { s.fabric with nodes := mapPut k fresh s.fabric.nodes } })
    else
      match s.staleNode with
      | some old =>
        (false, { s with fabric := { s.fabric with nodes := mapPut k fresh (mapDel old s.fabric.nodes) } })
      | none => (false, s.countReg (0x2460 + pair) 0x12 1)

/-- Duplicates are counted at the pair. -/
def State.countDuplicate (s : State) (pair : Nat) : State := s.countReg (0x2460 + pair) 0x10 1

/-! ### Ingress (R140, R147 to R149, R162, R163) -/

def broadcastMac : Nat := 0xFFFFFFFFFFFF
def multicastMac (mac : Nat) : Bool := (mac / 2 ^ 40).testBit 0

def headTagged (h : FrameHead) : Bool :=
  match h.tag with
  | some (_, v) => v != 0
  | none => false

/-- The priority of a frame: its tag's, or the port's default where it is untagged or priority-tagged (R147, R148). -/
def State.framePrio (s : State) (h : FrameHead) : Nat :=
  if headTagged h then (h.tag.map (·.1)).getD 0 else s.portReg h.port 7

/-- The class of R147, before the replacement by CLASS_OVR. -/
def State.frameClass (s : State) (h : FrameHead) (entry : Option Nat) : Nat :=
  match entry with
  | some p => stClass (mapGet s.fabric.streamTab p 0)
  | none =>
    if h.port = 51 then h.cls
    else
      let c := s.regN 0x2450 (s.framePrio h % 8 + 1)
      if c = 7 ∧ s.portReg h.port 0x0B = 0 then 6 else c

/-- The VID of a frame (R148 rule 1). -/
def State.frameVid (s : State) (h : FrameHead) : Nat :=
  match h.tag with
  | some (_, v) => if v = 0 then s.portReg h.port 5 else v
  | none => s.portReg h.port 5

/-- R148 rule 2. -/
def State.vlanAccepts (s : State) (h : FrameHead) : Bool :=
  let v := s.vlan (s.frameVid h)
  let types := match s.portReg h.port 6 with
    | 1 => headTagged h
    | 2 => !headTagged h
    | _ => true
  types && vlanValid v && (s.portReg h.port 8 == 0 || vlanMember v h.port)

/-- Learning (R162). -/
def State.learn (s : State) (h : FrameHead) : State :=
  let vid := s.frameVid h
  let v := s.vlan vid
  if externalPort h.port && s.portReg h.port 0x0D != 0 && v.testBit 126 && !multicastMac h.src then
    let ports := match s.pairOf h.port with
      | some k => 2 ^ s.pairA k + 2 ^ s.pairB k
      | none => 2 ^ h.port
    match s.fdbFind vid h.src with
    | some p =>
      let e := mapGet s.fabric.fdb p 0
      if fdbStatic e then s else s.setFdb (mapPut p (fdbLearned vid h.src ports) s.fabric.fdb)
    | none =>
      match bucketFree s.fabric.fdb (fdbBucket vid h.src) with
      | some p => s.setFdb (mapPut p (fdbLearned vid h.src ports) s.fabric.fdb)
      | none => s.countReg 0x2420 4 1
  else s

/-- The port works: enabled, or with its disabling still waiting for a frame's end (R159). -/
def State.portWorks (s : State) (p : Nat) : Bool := s.portReg p 1 != 0 || s.fabric.closing.contains p

/-- The port takes part in fan-outs: internal, or with its link up or in hold (R154, R157). -/
def State.inFanout (s : State) (p : Nat) : Bool :=
  decide (48 ≤ p) || s.linkState p == 2 || s.linkState p == 3

/-- Destinations of R163 within the VLAN, without the ingress port; P48 and P51 take stream matches only. -/
def State.forwardSet (s : State) (h : FrameHead) (hit : Option Nat) : List Nat :=
  let v := s.vlan (s.frameVid h)
  let all := 2 ^ 52 - 1
  let set := match hit with
    | some e => fdbPorts e
    | none =>
      if h.dst = broadcastMac then all
      else if multicastMac h.dst then (if v.testBit 125 then 0 else all)
      else all
  (bitList set 52).filter fun p => p != h.port && p != 48 && p != 51 && vlanMember v p

/-- The frame is sent into pair k (R167): from P49 to P51, or from a proxied node through a RedBox; PTP messages bypass it. -/
def State.entersPair (s : State) (h : FrameHead) (k : Nat) : Bool :=
  h.ptp.isNone && s.pairMode k != 0 && (decide (48 ≤ h.port) ||
    (redBox (s.pairMode k) && (s.pairOf h.port).isNone && s.fabric.proxies.contains (k, h.src)))

/-- Pairs (R167): a frame sent into a pair leaves on both its ports; within a PRP pair nothing passes between the two
networks. -/
def State.pairSet (s : State) (h : FrameHead) (outs : List Nat) : List Nat :=
  (List.range 52).filter fun p =>
    match s.pairOf p with
    | none => outs.contains p
    | some k =>
      if s.pairOf h.port = some k then outs.contains p && hsrMode (s.pairMode k)
      else if s.entersPair h k then outs.contains p || outs.contains (s.pairMate k p)
      else outs.contains p

/-- A singly attached node behind a RedBox is a proxied node (R167). -/
def State.proxied (s : State) (h : FrameHead) (fwd : List Nat) : State :=
  let ks := (List.range 8).filter fun k =>
    redBox (s.pairMode k) && externalPort h.port && (s.pairOf h.port).isNone && !s.fabric.proxies.contains (k, h.src) &&
      (fwd.contains (s.pairA k) || fwd.contains (s.pairB k))
  applyAll (fun k s =>
    if 512 ≤ s.fabric.proxies.length then s
    else { s with fabric := { s.fabric with proxies := s.fabric.proxies ++ [(k, h.src)] } }) ks s

/-- The sequence number of a frame from a source into a pair counts per source MAC address and pair (R167). -/
def State.takeSeq (s : State) (k mac : Nat) : Nat × State :=
  (mapGet s.fabric.txSeq (nodeKey k mac) 0,
   { s with fabric := { s.fabric with txSeq := mapAdd 16 (nodeKey k mac) 1 s.fabric.txSeq } })

/-- Sequence numbers of a frame for the pairs of `ks` that it is sent into. -/
def State.takeSeqs (mac : Nat) : List Nat → State → Map Nat × State
  | [], s => ([], s)
  | k :: ks, s =>
    let (q, s1) := s.takeSeq k mac
    let (m, s2) := State.takeSeqs mac ks s1
    (mapPut k q m, s2)

/-- What the lookup finds: class, destinations after R148 and R167 in ascending port order with the stream match among them,
and whether the fabric replicates (R154, R163, R165). -/
structure Route where
  cls : Nat
  dests : List Nat
  multi : Bool
  deriving DecidableEq, Repr, Inhabited

/-- The position of the frame's stream identification entry (R164). -/
def State.streamEntry (s : State) (h : FrameHead) : Option Nat :=
  if h.etherType = 0x88BA ∨ h.etherType = 0x88B8 then s.streamFind ((h.tag.map (·.2)).getD 0) h.appid h.dst else none

/-- The forwarding database's entry for the frame. -/
def State.fdbHit (s : State) (h : FrameHead) : Option Nat :=
  (s.fdbFind (s.frameVid h) h.dst).map fun p => mapGet s.fabric.fdb p 0

/-- Destinations under R163 and R165, without the stream match itself. -/
def State.forwarded (s : State) (h : FrameHead) : List Nat :=
  match s.streamEntry h with
  | some p => if stForward (mapGet s.fabric.streamTab p 0) then s.forwardSet h (s.fdbHit h) else []
  | none => s.forwardSet h (s.fdbHit h)

def State.route (s : State) (h : FrameHead) : Route :=
  let entry := s.streamEntry h
  let hit := s.fdbHit h
  let c0 := s.frameClass h entry
  let c := match entry, hit with
    | none, some e => if e.testBit 123 && h.port != 51 then bitsAt e 120 3 else c0
    | _, _ => c0
  let paired := s.pairSet h (s.forwarded h)
  let matched := entry.map fun p => if stKind (mapGet s.fabric.streamTab p 0) = 0 then 48 else 51
  let dests := (List.range 52).filter fun p => paired.contains p || matched == some p
  let fan := (dests.filter fun o => s.portWorks o && s.inFanout o).length
  let repl := (hit.map fdbRepl).getD 0
  { cls := c, dests := dests, multi := repl == 2 || (repl != 1 && decide (17 ≤ fan)) }

/-- The destinations that take the frame: protection egress (R149), link loss (R157) and disabling (R159) each
take ports out, and what they discard is counted. -/
def State.egressFilter (s : State) (c : Nat) (outs : List Nat) : List Nat × State :=
  let live := outs.filter fun o => s.portWorks o && s.inFanout o
  let prot := live.filter fun o => decide (c < 6) && s.portReg o 0x0A != 0
  let s1 := applyAll (State.discardAt 0x1F c) prot s
  let s2 := match live, outs with
    | [], [o] => if s.portWorks o then State.discardAt 0x19 c o s1 else s1
    | _, _ => s1
  (live.filter fun o => !prot.contains o, s2)

/-- The port's reception context holds frame k. -/
def State.receiving (s : State) (p : Nat) (k : Nat) : State :=
  { s with fabric := { s.fabric with rx := mapPut p k s.fabric.rx } }

def State.newFrame (s : State) (f : Frame) : Nat × State :=
  let k := s.fabric.nextFrame
  (k, { s with fabric := { s.fabric with nextFrame := k + 1, frames := mapPut k f s.fabric.frames } })

/-- An admitted frame takes its head cell and its copies, in ascending port number (R154). -/
def State.enqueue (k : Nat) (s : State) : State :=
  let f := s.fabricFrame k
  let cs := f.outs.map fun o => ({ fr := k, out := o, sent := 0, crossed := 0 } : Copy)
  ({ s with fabric := { s.fabric with copies := s.fabric.copies ++ cs } } : State).growFrame k

/-- A head that R144 refuses is discarded with its frame and counted (R146). -/
def State.refuseHead (k : Nat) (s : State) : State :=
  let f := s.fabricFrame k
  let s1 := (s.portCount f.head.port 0x17 1).countReg (0x2400 + f.cls) 8 1
  let s2 := applyAll (State.blockDiscard f.cls) f.outs s1
  s2.setFrame k { f with outs := [] }

/-- Admission of a frame at its head cell (R144). A frame whose tail has already proved it bad is discarded. -/
def State.takeHead (k : Nat) (s : State) : State :=
  let f := s.fabricFrame k
  if f.outs.isEmpty || f.bad then s
  else if s.admits f.cls f.outs then s.enqueue k
  else s.refuseHead k

def Egress.idle : Egress := { fifo := [], current := none, gap := 0 }

def State.egressOf (s : State) (o : Nat) : Egress := mapGet s.fabric.egress o Egress.idle

/-- No cell of any class waits for output o, in a queue or in its FIFO. -/
def State.outputEmpty (s : State) (o : Nat) : Bool :=
  !(s.fabric.copies.any fun k => k.out == o) && (s.egressOf o).fifo.isEmpty && (s.egressOf o).current.isNone

/-- R151: whether the frame is streamed. -/
def State.streams (s : State) (h : FrameHead) (outs : List Nat) : Option Nat :=
  match outs with
  | [o] =>
    if externalPort h.port && externalPort o && s.portReg h.port 9 != 0 && portRate h.port == portRate o &&
        s.outputEmpty o && (s.pairOf h.port).isNone && (s.pairOf o).isNone then some o
    else none
  | _ => none

/-- What discards a frame at its head: the counter of its length, a pause frame, a VLAN discard (R140, R148). -/
def State.headDiscard (s : State) (h : FrameHead) : Option Nat :=
  if externalPort h.port && (decide (h.length < 64) || decide (1536 < h.length)) then some 0x15
  else if h.pause then some 0x1D
  else if !s.vlanAccepts h then some 0x16
  else none

/-- HSR decides at the head cell (R168): whether the frame ends there, as a duplicate or as the module's own. -/
def State.hsrHead (s : State) (h : FrameHead) : Bool × State :=
  match s.pairOf h.port, h.seq with
  | some k, some (q, _) =>
    if hsrMode (s.pairMode k) && h.ptp.isNone then
      let (d, s1) := s.duplicate k h.src q
      (d || h.src == Config.ownMac, if d then s1.countDuplicate k else s1)
    else (false, s)
  | _, _ => (false, s)

/-- The frame of a head as it stands at its ingress. -/
def State.ingressFrame (s : State) (h : FrameHead) : Frame :=
  { head := h, cls := 0, stamp := s.monoStamp, entry := s.streamEntry h, vid := s.frameVid h, prio := s.framePrio h,
    rct := none, pairSeq := [], received := 4 * Nat.min 128 h.length, tail := false, bad := false, cells := [], freed := 0,
    outs := [], multi := false }

/-- A discarded frame: the reception context keeps only what its tail needs. -/
def State.dropHead (h : FrameHead) (s : State) : State :=
  let (k, s1) := s.newFrame (s.ingressFrame h)
  s1.receiving h.port k

/-- A head that reaches the fabric at port h.port: discarded, or looked up, and streamed or admitted (R140, R144, R151). A PTP
message on a port without PTP is discarded and counted there (R115). -/
def State.frameArrives (s0 : State) (h : FrameHead) : State :=
  match s0.headDiscard h with
  | some sub => (s0.portCount h.port sub 1).dropHead h
  | none =>
    if h.ptp.isSome && externalPort h.port && !s0.ptpOn h.port then (s0.ptpDiscard h.port).dropHead h
    else
      let (ends, s1) := s0.hsrHead h
      if ends then s1.dropHead h
      else
        let s2 := s1.learn h
        let s3 := s2.proxied h (s2.forwarded h)
        let r := s3.route h
        let (outs, s4) := s3.egressFilter r.cls r.dests
        let into := (List.range 8).filter fun k =>
          s4.entersPair h k && (outs.contains (s4.pairA k) || outs.contains (s4.pairB k))
        let (seqs, s5) := State.takeSeqs h.src into s4
        let (k, s6) := s5.newFrame { s5.ingressFrame h with cls := r.cls, pairSeq := seqs, outs := outs, multi := r.multi }
        let s7 := s6.receiving h.port k
        match s7.streams h outs with
        | some o => { s7 with fabric := { s7.fabric with setups := s7.fabric.setups ++ [(k, h.port, o)] } }
        | none => s7.takeHead k

/-- The class and the destinations that a head of an internal source would have. -/
def State.heldFor (s : State) (h : FrameHead) : Nat × List Nat :=
  let r := s.route h
  (r.cls, (s.egressFilter r.cls r.dests).1)

/-- An internal source submits no head while R144 would refuse it (R146). -/
def State.mustWait (s : State) (h : FrameHead) : Bool :=
  !externalPort h.port && (s.headDiscard h).isNone &&
    (let (c, outs) := s.heldFor h
     !outs.isEmpty && !s.admits c outs)

/-! ### What leaves an egress (R116, R148 rule 4, R153, R167, R169) -/

/-- The path bits of an HSR tag and the LAN of a PRP trailer: port A and port B of the pair (the HSR values: log 23). -/
def State.pairPath (s : State) (k o : Nat) : Nat := if s.pairA k = o then 0 else 1
def State.pairLan (s : State) (k o : Nat) : Nat := if s.pairA k = o then 0xA else 0xB

/-- The HSR tag with which frame f leaves at o. -/
def State.hsrOut (s : State) (o : Nat) (f : Frame) : Option (Nat × Nat) :=
  match s.pairOf o with
  | some k =>
    if s.pairOf f.head.port = some k then f.head.seq
    else if hsrMode (s.pairMode k) then (mapFind f.pairSeq k).map fun q => (q, s.pairPath k o)
    else none
  | none => if externalPort o && (s.pairOf f.head.port).isNone then f.head.seq else none

/-- The PRP trailer with which frame f leaves at o. -/
def State.rctOut (s : State) (o : Nat) (f : Frame) : Option (Nat × Nat) :=
  match s.pairOf o with
  | some k => if prpMode (s.pairMode k) then (mapFind f.pairSeq k).map fun q => (q, s.pairLan k o) else none
  | none => if externalPort o && (s.pairOf f.head.port).isNone then f.rct else none

/-- The VLAN tag with which frame f leaves at o: none in the VLAN's untagged set, else the frame's VID and priority (R148). -/
def State.tagOut (s : State) (o : Nat) (f : Frame) : Option (Nat × Nat) :=
  if (s.vlan f.vid).testBit o then none else some (f.prio, f.vid)

/-- Bytes of a VLAN tag, an HSR tag and a PRP trailer. -/
def tagBytes (tag seq rct : Option (Nat × Nat)) : Nat :=
  (if tag.isSome then 4 else 0) + (if seq.isSome then 6 else 0) + if rct.isSome then 6 else 0

/-- Length with which frame f leaves at o; on a wire it is padded to 64 bytes (log 23). -/
def State.lengthOut (s : State) (o : Nat) (f : Frame) : Nat :=
  let n := f.head.length - tagBytes f.head.tag f.head.seq f.rct + tagBytes (s.tagOut o f) (s.hsrOut o f) (s.rctOut o f)
  if externalPort o then Nat.max 64 n else n

/-- A one-step egress adds the residence time to the correction of a Sync, a two-step one to that of its Follow_Up (R116);
a port without PTP corrects nothing (R115). In units of 0.25 ns. -/
def State.ptpOut (s : State) (o : Nat) (f : Frame) : Option PtpHead :=
  f.head.ptp.map fun p =>
    if !externalPort o || !s.ptpOn o then p
    else if p.msg = 0 ∧ s.regN (0x3040 + o) 3 = 1 then { p with correction := p.correction + ((s.monoStamp - f.stamp : Nat) : Int) }
    else if p.msg = 8 then
      match (s.port o).carried with
      | some (q, r) => if q = p.seq then { p with correction := p.correction + (r : Int) } else p
      | none => p
    else p

/-- Frame f as it leaves at o. -/
def State.asSent (s : State) (o : Nat) (f : Frame) : SentFrame :=
  { head := { f.head with length := s.lengthOut o f, tag := s.tagOut o f, seq := s.hsrOut o f, ptp := s.ptpOut o f },
    rct := s.rctOut o f, good := true }

/-- Bucket of a residence time (Table 6.6). -/
def residenceBucket (ns : Nat) : Nat :=
  if ns < 250 then 0 else if ns < 1000 then 1 else if ns < 4000 then 2 else if ns < 16000 then 3
  else if ns < 64000 then 4 else if ns < 256000 then 5 else if ns < 1000000 then 6 else 7

/-- A residence time is recorded. -/
def State.residence (s : State) (o c ns : Nat) : State :=
  let b := s.block o c
  let n := mapGet b.counts (residenceBucket ns) 0
  let empty := b.counts.isEmpty
  s.setBlock o c { b with minNs := if empty then wrap 32 ns else Nat.min b.minNs ns, maxNs := Nat.max b.maxNs ns,
                          counts := mapPut (residenceBucket ns) (Nat.min (n + 1) (2 ^ 32 - 1)) b.counts }

/-- A two-step port keeps the residence time of a Sync for its Follow_Up. -/
def State.carry (o : Nat) (f : Frame) (s : State) : State :=
  match f.head.ptp with
  | some p =>
    if externalPort o && s.ptpOn o && p.msg == 0 && s.regN (0x3040 + o) 3 != 1 then
      s.setPort o { s.port o with carried := some (p.seq, s.monoStamp - f.stamp) }
    else s
  | none => s

/-- The first byte of frame k is handed to egress o: its residence time is recorded (R169), and it leaves as R148, R167 and R116
have it. -/
def State.beginSend (o k : Nat) (s : State) : State :=
  let f := s.fabricFrame k
  let s1 := s.residence o f.cls ((s.monoStamp - f.stamp) / 4)
  let s2 := { s1 with fabric := { s1.fabric with sent := mapPut o (s.asSent o f) s1.fabric.sent } }
  State.carry o f s2

/-- A frame has left egress o: transmitted, or stomped, or at an internal port discarded for its bad tail (at P51 the
command that brings the frame to the GOOSE engine counts it, Table 9.8). -/
def State.frameLeft (s : State) (o : Nat) (f : Frame) : State :=
  let x := { s.asSent o f with good := !f.bad }
  let y := match mapFind s.fabric.sent o with
    | some y => if externalPort o then { y with good := !f.bad } else x
    | none => x
  let s1 := { s with fabric := { s.fabric with sent := mapPut o y s.fabric.sent } }
  if f.bad then (if o = 51 then s1 else s1.portCount o (if 48 ≤ o then 0x1C else 0x1B) 1)
  else
    let b := s1.block o f.cls
    ((s1.setBlock o f.cls { b with sent := wrap 64 (b.sent + 1) }).portCount o 0x12 1).portCount o 0x13 y.head.length

/-! ### The tail (R153) -/

/-- The stream of frame k ends with its tail (R151, R153). -/
def State.endJoin (k : Nat) (s : State) : State :=
  match s.fabric.joins.find? (·.1 == k) with
  | some (_, _, o) =>
    let t := { s with fabric := { s.fabric with joins := s.fabric.joins.filter fun j => j.1 != k } }
    (t.frameLeft o (s.fabricFrame k)).settleFrame k
  | none => s

/-- What a bad frame k has not begun to send is discarded: at an external egress that has not started it, and wherever its head
has not left the input; an internal destination takes the tail with its mark (R153). A PRP duplicate ends so too (R168). -/
def State.cutBad (k : Nat) (dup : Bool) (s : State) : State :=
  let started := fun (o : Nat) => s.fabric.egress.any fun e => e.1 == o && e.2.current == some k
  let keep := s.fabric.copies.filter fun c =>
    c.fr != k || started c.out || (decide (48 ≤ c.out) && (dup || decide (0 < c.sent)))
  let eg := s.fabric.egress.map fun e =>
    (e.1, if e.2.current == some k then e.2 else { e.2 with fifo := e.2.fifo.filter fun x => x.1 != k })
  { s with fabric := { s.fabric with copies := keep, egress := eg } }

/-- PRP decides at the tail (R168). -/
def State.prpTail (s : State) (p : Nat) (f : Frame) (good : Bool) (rct : Option (Nat × Nat)) : Bool × State :=
  match s.pairOf p, rct with
  | some j, some (q, lan) =>
    if prpMode (s.pairMode j) && good && f.head.ptp.isNone then
      let sw := if lan ≠ s.pairLan j p then s.countReg (0x2460 + j) 0x11 1 else s
      let (d, s1) := sw.duplicate j f.head.src q
      (d, if d then s1.countDuplicate j else s1)
    else (false, s)
  | _, _ => (false, s)

/-- The tail of the frame in reception at port p. -/
def State.frameEnds (s0 : State) (p : Nat) (good : Bool) (rct : Option (Nat × Nat)) : State :=
  match mapFind s0.fabric.rx p with
  | none => s0
  | some k =>
    let f := s0.fabricFrame k
    let s1 := { s0 with fabric := { s0.fabric with rx := mapDel p s0.fabric.rx } }
    let lengthOk := !externalPort p || decide (64 ≤ f.head.length ∧ f.head.length ≤ 1536)
    let s2 := if !good then s1.portCount p 0x14 1
      else if lengthOk && !f.head.pause then (s1.portCount p 0x10 1).portCount p 0x11 f.head.length
      else s1
    let (dup, s3) := s2.prpTail p f good rct
    let s4 := s3.setFrame k { s3.fabricFrame k with tail := true, bad := !good || dup, rct := rct }
    let s5 := State.endJoin k s4
    let s6 := if !good || dup then s5.cutBad k dup else s5
    (s6.growFrame k).settleFrame k

/-- A link that truncates the frame in reception ends it with what has arrived. -/
def State.truncate (s : State) (p : Nat) : State :=
  match mapFind s.fabric.rx p with
  | none => s
  | some k =>
    let f := s.fabricFrame k
    let t := s.setFrame k { f with head := { f.head with length := Nat.min f.head.length (f.received / 4 + 1) } }
    t.frameEnds p false none

/-! ### The matcher (R141) -/

/-- A request: input, output, class (8 for STREAM), the frame, whether for the head of the multicast queue, ingress stamp, and
whether the output needs this cell to go on with the frame it is sending (R150). -/
structure Request where
  i : Nat
  o : Nat
  c : Nat
  fr : Nat
  mq : Bool
  stamp : Nat
  fed : Bool
  deriving DecidableEq, Repr, Inhabited

/-- First of l at or after pointer g, numbers wrapping at 52. -/
def atOrAfter (g : Nat) (l : List Nat) : Option Nat :=
  l.foldl (fun best x =>
    match best with
    | none => some x
    | some b => if (x + 52 - g % 52) % 52 < (b + 52 - g % 52) % 52 then some x else some b) none

/-- Copies of class c at input i, in order. -/
def State.queueAt (s : State) (i c : Nat) : List Copy :=
  s.fabric.copies.filter fun k =>
    let f := s.fabricFrame k.fr
    f.head.port == i && f.cls == c && decide (k.sent < cellCount f.head.length)

/-- The copy is whole at its next cell: it may request. -/
def State.eligible (s : State) (k : Copy) : Bool := decide (k.sent < (s.fabricFrame k.fr).arrived)

/-- The head of VOQ(i, o, c). An internal source sends its copies one after another (R154). -/
def State.voqHead (s : State) (i o c : Nat) : Option Copy :=
  let q := (s.queueAt i c).filter fun k => !(s.fabricFrame k.fr).multi
  let moving := q.find? fun k => decide (0 < k.sent)
  match q.find? fun k => k.out == o with
  | none => none
  | some k =>
    let first := (q.find? fun x => x.fr == k.fr)
    if 48 ≤ i then
      match moving with
      | some m => if m.fr = k.fr ∧ m.out = k.out ∧ s.eligible k then some k else none
      | none => if first = some k ∧ s.eligible k then some k else none
    else if s.eligible k then some k else none

/-- The head of MQ(i, c) with o still pending. -/
def State.mqHead (s : State) (i o c : Nat) : Option Copy :=
  let q := (s.queueAt i c).filter fun k => (s.fabricFrame k.fr).multi
  match q with
  | [] => none
  | h :: _ =>
    let mine := q.filter fun k => k.fr == h.fr
    let pos := mine.foldl (fun m k => Nat.min m k.sent) h.sent
    match mine.find? fun k => k.out == o with
    | some k => if k.sent = pos ∧ s.eligible k then some k else none
    | none => none

/-- The request of input i for output o: the highest class with an eligible cell, the older of the two kinds. -/
def State.requestFor (s : State) (i o : Nat) : Nat → Option Request
  | 0 => none
  | n + 1 =>
    let mk := fun (k : Copy) (m : Bool) =>
      ({ i := i, o := o, c := n, fr := k.fr, mq := m, stamp := (s.fabricFrame k.fr).stamp, fed := false } : Request)
    match s.voqHead i o n, s.mqHead i o n with
    | some v, some m =>
      some (if (s.fabricFrame m.fr).stamp < (s.fabricFrame v.fr).stamp then mk m true else mk v false)
    | some v, none => some (mk v false)
    | none, some m => some (mk m true)
    | none, none => s.requestFor i o n

/-- The egress FIFO of output o has room for one cell: 12 cells of a frame and those the implementation adds. -/
def State.egressRoom (s : State) (o : Nat) : Bool :=
  decide (48 ≤ o) || decide ((s.egressOf o).fifo.length < 12 + Config.egressFifoExtra)

/-- The copy of the frame that egress o is sending, while cells of it have still to cross. -/
def State.feeding (s : State) (o : Nat) : Option Copy :=
  match (s.egressOf o).current with
  | some k => s.fabric.copies.find? fun c => c.fr == k && c.out == o && decide (c.sent < cellCount (s.fabricFrame k).head.length)
  | none => none

/-- Quarter bytes of a frame that wait in a FIFO. -/
def fifoQuarters (k : Nat) : List (Nat × Nat × Bool) → Nat
  | [] => 0
  | (j, n, _) :: l => (if j = k then n else 0) + fifoQuarters k l

/-- Egress o would run out of data in the middle of its frame before another cell could cross. -/
def State.runsDry (s : State) (o : Nat) : Bool :=
  match (s.egressOf o).current with
  | some k => decide (fifoQuarters k (s.egressOf o).fifo < 2 * portRate o)
  | none => false

/-- The output takes any cell: internal, or its link up, its port not closing, and room in its FIFO. -/
def State.outOpen (s : State) (o : Nat) : Bool :=
  decide (48 ≤ o) || (s.linkState o == 2 && !s.fabric.closing.contains o && s.egressRoom o)

/-- R150 has an external egress never run out of data in the middle of a frame, and R159 lets a closing port complete it: then
the output takes the next cell of that frame alone, before any other, and its FIFO has room for it (log 23). -/
def State.fedCopy (s : State) (o : Nat) : Option Copy :=
  if s.linkState o = 2 ∧ (s.outOpen o = false ∨ s.runsDry o = true) then s.feeding o else none

/-- The output takes part in the matching. -/
def State.outFree (s : State) (o : Nat) : Bool := s.outOpen o || (s.fedCopy o).isSome

/-- Every request of input i for output o outside the set-up of streams. -/
def State.cellRequest (s : State) (i o : Nat) : Option Request :=
  match s.fedCopy o with
  | some k =>
    let f := s.fabricFrame k.fr
    if f.head.port = i ∧ s.eligible k = true then
      some { i := i, o := o, c := f.cls, fr := k.fr, mq := f.multi, stamp := f.stamp, fed := true }
    else none
  | none => s.requestFor i o 8

def State.grantPtrOf (s : State) (o c : Nat) : Nat := mapGet s.fabric.grantPtr (o * 16 + c) 0
def State.acceptPtrOf (s : State) (i c : Nat) : Nat := mapGet s.fabric.acceptPtr (i * 16 + c) 0

/-- Credit of class c at output o in the weighted round robin. -/
def State.creditOf (s : State) (o c : Nat) : Nat := mapGet s.fabric.credit (o * 8 + c) (s.classReg c 5)

/-- The next class of 0 to 5 in weighted round robin at o among those requested: the highest with credit left;
when none has credit, every class takes its weight again. -/
def State.wrrClass (s : State) (o : Nat) (cs : List Nat) : Option (Nat × Bool) :=
  let order := [5, 4, 3, 2, 1, 0].filter fun c => cs.contains c
  match order.find? fun c => decide (0 < s.creditOf o c) with
  | some c => some (c, false)
  | none => order.head?.map fun c => (c, true)

/-- The oldest of a list of requests, the first where stamps are equal. -/
def oldestRequest : List Request → Option Request
  | [] => none
  | r :: l =>
    match oldestRequest l with
    | none => some r
    | some x => if x.stamp < r.stamp then some x else some r

/-- The grant of output o among its requests; the flag tells that the credits of o start anew. -/
def State.grant (s : State) (o : Nat) (rs : List Request) : Option (Request × Bool) :=
  let mine := rs.filter fun r => r.o == o
  let pick : Nat → List Request → Option Request := fun c l =>
    match atOrAfter (s.grantPtrOf o c) (l.map fun r => r.i) with
    | some i => l.find? fun (r : Request) => r.i == i
    | none => none
  let strm := mine.filter fun r => r.c == 8
  if !strm.isEmpty then (pick 8 strm).map (·, false)
  else
    let top := mine.foldl (fun m r => Nat.max m r.c) 0
    let best := mine.filter fun r => r.c == top
    if mine.isEmpty then none
    else if o = 48 ∧ top = 7 then (oldestRequest best).map (·, false)
    else if 6 ≤ top then (pick top best).map (·, false)
    else
      match s.wrrClass o (mine.map (·.c)) with
      | some (c, anew) => (pick c (mine.filter fun r => r.c == c)).map (·, anew)
      | none => none

/-- What input i accepts of its grants: a stream, the cell an egress cannot go on without, or the highest class. -/
def State.accept (s : State) (i : Nat) (gs : List (Request × Bool)) : List (Request × Bool) :=
  let mine := gs.filter fun g => g.1.i == i
  match mine.find? fun g => g.1.c == 8, mine.find? fun g => g.1.fed with
  | some g, _ => [g]
  | none, some g => [g]
  | none, none =>
    let c := mine.foldl (fun m g => Nat.max m g.1.c) 0
    let l := mine.filter fun g => g.1.c == c
    match atOrAfter (s.acceptPtrOf i c) (l.map (·.1.o)) with
    | some o =>
      match l.find? fun g => g.1.o == o with
      | some g => if g.1.mq then l.filter fun x => x.1.mq else [g]
      | none => []
    | none => []

/-- Weight credits of output o: reload where they start anew, and one spent. -/
def State.spend (s : State) (o c : Nat) (anew : Bool) : State :=
  if 6 ≤ c then s
  else
    let base := if anew then (List.range 6).foldl (fun m k => mapDel (o * 8 + k) m) s.fabric.credit else s.fabric.credit
    let s1 := { s with fabric := { s.fabric with credit := base } }
    { s1 with fabric := { s1.fabric with credit := mapPut (o * 8 + c) (s1.creditOf o c - 1) s1.fabric.credit } }

def updateCopy (fr out : Nat) (g : Copy → Copy) : List Copy → List Copy
  | [] => []
  | k :: l => if k.fr = fr ∧ k.out = out then g k :: l else k :: updateCopy fr out g l

/-- An accepted grant: the cell is on the crossbar for the next cell time, or the stream is joined. -/
def State.connect (round : Nat) (g : Request × Bool) (s : State) : State :=
  let r := g.1
  let s0 := if round = 1 then
      { s with fabric := { s.fabric with
        grantPtr := mapPut (r.o * 16 + r.c) ((r.i + 1) % 52) s.fabric.grantPtr,
        acceptPtr := mapPut (r.i * 16 + r.c) ((r.o + 1) % 52) s.fabric.acceptPtr } }
    else s
  if r.c = 8 then
    match s0.fabric.setups.find? fun x => x.2.1 == r.i && x.2.2 == r.o with
    | some x =>
      let s1 := { s0 with fabric := { s0.fabric with
        setups := s0.fabric.setups.filter fun y => y != x, joins := s0.fabric.joins ++ [x] } }
      (s1.portCount r.i 0x20 1).beginSend r.o x.1
    | none => s0
  else
    let s1 := s0.spend r.o r.c g.2
    { s1 with fabric := { s1.fabric with
      copies := updateCopy r.fr r.o (fun x => { x with sent := x.sent + 1 }) s1.fabric.copies,
      flight := s1.fabric.flight ++ [(r.fr, r.i, r.o)] } }

/-- One round: request, grant, accept; answers the inputs and outputs left. -/
def matchRound (busy : List (Nat × Nat)) (round : Nat) (p : List Nat × List Nat × State) :
    List Nat × List Nat × State :=
  let (fi, fo, s) := p
  let rs : List Request := fi.flatMap fun i => fo.filterMap fun o =>
    if round = 1 ∧ s.fabric.setups.any (fun x => x.2.1 == i && x.2.2 == o) = true ∧
        busy.any (fun b => b.1 == i || b.2 == o) = false then
      some ({ i := i, o := o, c := 8, fr := 0, mq := false, stamp := 0, fed := false } : Request)
    else s.cellRequest i o
  let gs := fo.filterMap fun o => s.grant o rs
  let acc := fi.flatMap fun i => s.accept i gs
  let s1 := applyAll (State.connect round) acc s
  (fi.filter fun i => !acc.any (fun g => g.1.i == i), fo.filter fun o => !acc.any (fun g => g.1.o == o), s1)

/-! ### Ageing (R156) -/

/-- Copies whose head cell stands at the head of its queue and is too old are discarded. -/
def State.ageHead (k : Copy) (s : State) : State :=
  let f := s.fabricFrame k.fr
  let limit := s.classReg f.cls 4
  let head := if f.multi then s.mqHead f.head.port k.out f.cls else s.voqHead f.head.port k.out f.cls
  if k.sent = 0 ∧ head = some k ∧ limit ≠ 0 ∧ 4000 * limit < s.monoStamp - f.stamp then
    let s1 := { s with fabric := { s.fabric with copies := s.fabric.copies.filter fun x => x ≠ k } }
    (State.discardAt 0x18 f.cls k.out s1).settleFrame k.fr
  else s

/-! ### Transfer and egress (R150, R153) -/

/-- Quarter bytes of cell j of frame f on the wire of o; what the egress adds or removes stands in the head cell. -/
def State.cellQuarters (s : State) (o : Nat) (f : Frame) (j : Nat) : Nat :=
  let n := Nat.min 128 (f.head.length - 128 * j)
  4 * if j = 0 then n + s.lengthOut o f - f.head.length else n

/-- A cell of the crossbar reaches its output. -/
def State.landCell (x : Nat × Nat × Nat) (s : State) : State :=
  let (k, _, o) := x
  match s.fabric.copies.find? fun c => c.fr == k && c.out == o with
  | none => s
  | some c =>
    let f := s.fabricFrame k
    let last := decide (c.crossed + 1 = cellCount f.head.length)
    let copies := if last then s.fabric.copies.filter fun y => y ≠ c
      else updateCopy k o (fun y => { y with crossed := y.crossed + 1 }) s.fabric.copies
    let s1 := { s with fabric := { s.fabric with copies := copies } }
    let s2 := if 48 ≤ o then
        let t := if c.crossed = 0 then s1.residence o f.cls ((s.monoStamp - f.stamp) / 4) else s1
        if last then t.frameLeft o f else t
      else
        let e := s1.egressOf o
        { s1 with fabric := { s1.fabric with
          egress := mapPut o { e with fifo := e.fifo ++ [(k, s.cellQuarters o f c.crossed, last)] } s1.fabric.egress } }
    s2.settleFrame k

/-- An external egress starts at the head cell of a frame from P49 to P51 or from a faster port, and otherwise when
the tail cell has arrived (R150); a frame of a PRP pair always waits for its tail (R168). -/
def State.egressMayStart (s : State) (o : Nat) (fifo : List (Nat × Nat × Bool)) (k : Nat) : Bool :=
  let f := s.fabricFrame k
  let early := decide (48 ≤ f.head.port) || decide (portRate o < portRate f.head.port)
  let prp := match s.pairOf f.head.port with
    | some j => prpMode (s.pairMode j)
    | none => false
  (early && (!prp || f.tail)) || fifo.any fun x => x.1 == k && x.2.2

/-- The first cell of frame k in a FIFO, taken out of it. -/
def fifoTake (k : Nat) : List (Nat × Nat × Bool) → Option (Nat × Bool × List (Nat × Nat × Bool))
  | [] => none
  | (j, n, t) :: l =>
    if j = k then some (n, t, l)
    else (fifoTake k l).map fun x => (x.1, x.2.1, (j, n, t) :: x.2.2)

/-- The wire of egress o takes up to `n` quarter bytes: of the frame it is sending, or of the first that may start. -/
def drainEgress (o : Nat) : Nat → Nat → State → State
  | 0, _, s => s
  | fuel + 1, n, s =>
    let e := s.egressOf o
    let put := fun (x : Egress) (s : State) => { s with fabric := { s.fabric with egress := mapPut o x s.fabric.egress } }
    if n = 0 then s
    else if 0 < e.gap then
      let d := Nat.min e.gap n
      drainEgress o fuel (n - d) (put { e with gap := e.gap - d } s)
    else
      match e.current with
      | none =>
        match (e.fifo.map (·.1)).find? (s.egressMayStart o e.fifo) with
        | some k => drainEgress o fuel n ((put { e with current := some k } s).beginSend o k)
        | none => s
      | some k =>
        match fifoTake k e.fifo with
        | none => s
        | some (left, tail, rest) =>
          if n < left then put { e with fifo := (k, left - n, tail) :: rest } s
          else if tail then
            let s1 := put { fifo := rest, current := none, gap := 80 } s
            drainEgress o fuel (n - left) ((s1.frameLeft o (s.fabricFrame k)).settleFrame k)
          else drainEgress o fuel (n - left) (put { e with fifo := rest } s)

/-- Frames in reception grow at the line rate; an internal source submits at fabric rate. -/
def State.receiveBytes (p : Nat × Nat) (s : State) : State :=
  let f := s.fabricFrame p.2
  let r := if 48 ≤ p.1 then 512 else portRate p.1
  let s1 := s.setFrame p.2 { f with received := Nat.min (4 * f.head.length) (f.received + r) }
  s1.growFrame p.2

/-! ### Link loss and disabling (R157 to R159) -/

/-- Frames that wait for port p: queued, in its FIFO, or with a set-up for it, but the one being sent. -/
def State.waitingFor (s : State) (p : Nat) : List Nat :=
  let e := s.egressOf p
  ((((s.fabric.copies.filter fun k => k.out == p).map (·.fr)) ++ e.fifo.map (·.1) ++
    (s.fabric.setups.filter fun j => j.2.2 == p).map (·.1)).eraseDups).filter fun k => e.current != some k

/-- Every frame that waits for port p is discarded and counted once at sub. -/
def State.discardQueued (s : State) (p sub : Nat) (block : Bool) : State :=
  let gone := s.waitingFor p
  let e := s.egressOf p
  let s1 := { s with fabric := { s.fabric with
    copies := s.fabric.copies.filter fun k => !(k.out == p && gone.contains k.fr),
    egress := mapPut p { e with fifo := e.fifo.filter fun x => !gone.contains x.1 } s.fabric.egress,
    setups := s.fabric.setups.filter fun j => j.2.2 != p } }
  let s2 := applyAll (fun k s =>
    let c := (s.fabricFrame k).cls
    if block then State.discardAt sub c p s else s.portCount p sub 1) gone s1
  applyAll (fun k s => s.settleFrame k) gone s2

/-- The frame in transmission at port p is lost. -/
def State.loseTransmission (s : State) (p : Nat) : State :=
  let e := s.egressOf p
  let lost := e.current.toList
  let joined := (s.fabric.joins.filter fun j => j.2.2 == p).map (·.1)
  let s1 := { s with fabric := { s.fabric with
    egress := mapPut p { fifo := e.fifo.filter fun x => !lost.contains x.1, current := none, gap := 0 } s.fabric.egress,
    copies := s.fabric.copies.filter fun k => !(k.out == p && lost.contains k.fr),
    flight := s.fabric.flight.filter fun x => !(x.2.2 == p && lost.contains x.1),
    joins := s.fabric.joins.filter fun j => j.2.2 != p } }
  let s2 := applyAll (fun k s => State.discardAt 0x19 (s.fabricFrame k).cls p s) (lost ++ joined) s1
  applyAll (fun k s => s.settleFrame k) (lost ++ joined) s2

/-- Link-down discards of everything queued, at the end of the hold. -/
def State.holdEnds (s : State) (p : Nat) : State := (s.discardQueued p 0x19 true).setLink p 0

/-- A port that is being disabled goes when no frame is being sent or received on it (R159). -/
def State.settleClosing (p : Nat) (s : State) : State :=
  if (s.egressOf p).current.isSome || s.fabric.joins.any (fun j => j.2.2 == p) || (mapFind s.fabric.rx p).isSome then s
  else
    let s1 := s.discardQueued p 0x1A false
    let s2 := { s1 with fabric := { s1.fabric with closing := s1.fabric.closing.filter (· != p) } }
    s2.setLink p 0

/-! ### The cell time -/

/-- Class-7 cells that wait for P48 (R142). -/
def State.p48Waiting (s : State) : Nat := s.portCells 48 7

/-- The cell times with more than two class-7 cells waiting for P48, and the largest number of them (R142). -/
def State.noteP48 (s : State) : State :=
  let w := s.p48Waiting
  let s1 := if 2 < w then s.countReg 0x2470 1 1 else s
  if s.regN 0x2470 2 < w then s1.setReg 0x2470 2 (w : Nat) else s1

/-- A head held back at P49 to P51 tries again, behind those of its port and class (R146). -/
def State.retryHeld (h : FrameHead × Option FrameTail) (s : State) : State :=
  let wait := { s with fabric := { s.fabric with held := s.fabric.held ++ [h] } }
  let behind := s.fabric.held.any fun x => x.1.port == h.1.port && (s.heldFor x.1).1 == (s.heldFor h.1).1
  if behind || (mapFind s.fabric.rx h.1.port).isSome || s.mustWait h.1 then wait
  else
    let s1 := s.frameArrives h.1
    match h.2 with
    | some t => s1.frameEnds h.1.port t.fcsGood t.rct
    | none => s1

/-- The matching of a cell time: three rounds over the inputs and outputs that no stream joins. -/
def State.matching (busy : List (Nat × Nat)) (s : State) : State :=
  let fi := (List.range 52).filter fun i => !s.fabric.joins.any fun j => j.2.1 == i
  let fo := (List.range 52).filter fun o => !(s.fabric.joins.any fun j => j.2.2 == o) && s.outFree o
  (matchRound busy 3 (matchRound busy 2 (matchRound busy 1 (fi, fo, s)))).2.2

/-- One cell time: streams whose tail has passed end, cells of the crossbar land, bytes arrive, queues age, three rounds set the
next crossbar, and the wires take their bytes. -/
def State.cellTime (s0 : State) : State :=
  let busy := s0.fabric.flight.map fun x => (x.2.1, x.2.2)
  let cells := s0.fabric.flight
  let ended := (s0.fabric.joins.map (·.1)).filter fun k => (s0.fabricFrame k).tail
  let s1 := applyAll State.endJoin ended s0.latchClasses
  let s2 := applyAll State.landCell cells { s1 with fabric := { s1.fabric with flight := [] } }
  let s3 := applyAll State.receiveBytes s2.fabric.rx s2
  let s4 := applyAll State.retryHeld s3.fabric.held { s3 with fabric := { s3.fabric with held := [] } }
  let s5 := (applyAll State.ageHead s4.fabric.copies s4).noteP48
  -- class-7 cells behind a stream
  let s6 := applyAll (fun i s => if (s.queueAt i 7).isEmpty then s else s.portCount i 0x1E 1) (s5.fabric.joins.map (·.2.1)) s5
  let s7 := s6.matching busy
  -- set-ups not accepted go by cell cut-through
  let late := s6.fabric.setups.filter fun x => s7.fabric.setups.contains x
  let s8 := applyAll (fun x s => (State.takeHead x.1 s).settleFrame x.1) late
    { s7 with fabric := { s7.fabric with setups := s7.fabric.setups.filter fun x => !late.contains x } }
  let s9 := applyAll (fun p s => if s.linkState p = 2 then drainEgress p 64 (portRate p) s else s) (mapKeys s8.fabric.egress) s8
  applyAll State.settleClosing s9.fabric.closing s9

/-- A supervision frame of pair k for a source MAC address goes to 01-15-4E-00-01-XX on both ports, with the pair's trailer or
tag; it takes the class of an untagged frame of the port (R147, R166). -/
def State.superviseFor (k mac : Nat) (s : State) : State :=
  let (q, s1) := s.takeSeq k mac
  let h : FrameHead := { port := s.pairA k, length := 64, pause := false, dst := 0x01154E000100 + s.regN (0x2460 + k) 4,
                         src := mac, tag := none, etherType := 0x88FB, appid := 0, seq := none, ptp := none, cls := 0 }
  let f : Frame := { s1.ingressFrame h with
    head := { h with port := 50 }, cls := s1.frameClass h none, pairSeq := [(k, q)], received := 256, tail := true }
  let (j, s2) := s1.newFrame f
  let ports := [s.pairA k, s.pairB k].filter fun o => s.linkState o == 2
  (applyAll (fun o s =>
    let e := s.egressOf o
    { s with fabric := { s.fabric with
      egress := mapPut o { e with fifo := e.fifo ++ [(j, 4 * s.lengthOut o f, true)] } s.fabric.egress } }) ports s2).settleFrame j

end Sys2Proof.Machine
end

