-- ==== Sys2Proof/Machine/Fabric.lean ====
section
/-! DEFINITION. The meanings of the commands of chapter 6: frames, cell times, links, tables. -/

namespace Sys2Proof.Machine

/-- A port takes frames: an external one with its link up and enabled, an internal one but P48, which only receives. -/
def State.portTakes (s : State) (p : Nat) : Bool :=
  if externalPort p then s.linkState p == 2 && !s.fabric.closing.contains p else decide (p ≠ 48)

/-- A head of the same port and class is held back before this one. -/
def State.heldBefore (s : State) (h : FrameHead) : Bool :=
  s.fabric.held.any fun x => x.1.port == h.port && (s.heldFor x.1).1 == (s.heldFor h).1

/-- The head of a frame (R144, R146): classified, looked up and admitted, discarded, or held back. -/
def opFrameHead (h : FrameHead) (s : State) : State :=
  s.when (s.fabricUp && s.portTakes h.port && (mapFind s.fabric.rx h.port).isNone) fun s =>
    let wait := s.mustWait h
    if wait || (!externalPort h.port && s.heldBefore h) then
      let s1 := if wait then s.countReg (0x2400 + (s.heldFor h).1) 9 1 else s
      { s1 with fabric := { s1.fabric with held := s1.fabric.held ++ [(h, none)] } }
    else s.frameArrives h

def execFrameHead (h : FrameHead) (s : State) : Host.Outcome State Fault Refusal :=
  checked (.frameHead h) (opFrameHead h s)

/-- The oldest held head of a port without its tail has it now. -/
def giveTail (port : Nat) (t : FrameTail) : List (FrameHead × Option FrameTail) → List (FrameHead × Option FrameTail)
  | [] => []
  | (h, some u) :: l => (h, some u) :: giveTail port t l
  | (h, none) :: l => if h.port = port then (h, some t) :: l else (h, none) :: giveTail port t l

/-- The tail of the frame in reception at a port (R153, R168), or of a frame that waits in the queue of an internal source. -/
def opFrameTail (port : Nat) (t : FrameTail) (s : State) : State :=
  s.when s.fabricUp fun s =>
    if (mapFind s.fabric.rx port).isSome then s.frameEnds port t.fcsGood t.rct
    else { s with fabric := { s.fabric with held := giveTail port t s.fabric.held } }

def execFrameTail (port : Nat) (t : FrameTail) (s : State) : Host.Outcome State Fault Refusal :=
  checked (.frameTail port t) (opFrameTail port t s)

/-- One cell time of the fabric (R141). -/
def opCellTime (s : State) : State := s.when s.fabricUp State.cellTime

def execCellTime (s : State) : Host.Outcome State Fault Refusal := checked .cellTime (opCellTime s)

/-- 0x0201: a link came up, or went down. -/
def State.logLink (s : State) (p kind : Nat) : State := s.logRec 0x0201 1 noFacet 0 p [byteOf kind]

/-- A link goes down (R157): the frame in transmission is lost, one in reception is truncated, and the hold begins. -/
def opLinkDown (port : Nat) (s : State) : State :=
  s.when (s.fabricUp && externalPort port && s.linkState port == 2) fun s =>
    let s1 := s.truncate port
    let s2 := s1.loseTransmission port
    let hold := s2.portReg port 0x0C
    let s3 := if hold = 0 then s2.holdEnds port else s2.setLink port 3
    s3.logLink port 2

def execLinkDown (port : Nat) (s : State) : Host.Outcome State Fault Refusal :=
  checked (.linkDown port) (opLinkDown port s)

/-- The hold ends: everything queued for the port is discarded, and it leaves every fan-out (R157); where the link came up at the
same moment the queues are discarded all the same (R158). -/
def opLinkDownHoldExpiry (port : Nat) (s : State) : State :=
  s.when s.fabricUp fun s =>
    if s.linkState port = 3 then s.holdEnds port
    else if s.linkState port = 2 ∧ mapFind s.fabric.upAt port = some s.mono then
      let s1 := s.discardQueued port 0x19 true
      { s1 with fabric := { s1.fabric with upAt := mapDel port s1.fabric.upAt } }
    else s

def execLinkDownHoldExpiry (port : Nat) (s : State) : Host.Outcome State Fault Refusal :=
  checked (.linkDownHoldExpiry port) (opLinkDownHoldExpiry port s)

/-- A link has been up for 1 ms (R158). -/
def opLinkUp (port : Nat) (s : State) : State :=
  s.when (s.fabricUp && externalPort port && s.linkState port != 2 && s.portReg port 1 != 0) fun s =>
    let up := if s.linkState port = 3 then mapPut port s.mono s.fabric.upAt else mapDel port s.fabric.upAt
    (({ s with fabric := { s.fabric with upAt := up } } : State).setLink port 2).logLink port 1

def execLinkUp (port : Nat) (s : State) : Host.Outcome State Fault Refusal :=
  checked (.linkUp port) (opLinkUp port s)

/-- A write of 1 to a port's enable: the port starts under R158, and its link qualifies for 1 ms (state 1; log 23). A disabling
that has not taken effect is withdrawn. -/
def State.portOn (s : State) (p : Nat) : State :=
  if s.portReg p 1 = 0 then
    let s1 := s.setReg (0x2000 + p) 1 1
    if s.fabric.closing.contains p then
      { s1 with fabric := { s1.fabric with closing := s1.fabric.closing.filter (· != p) } }
    else s1.setLink p 1
  else s

/-- A write of 0 to a port's enable (R159). -/
def State.portOff (s : State) (p : Nat) : State :=
  if s.portReg p 1 = 0 then s
  else
    let s1 := s.setReg (0x2000 + p) 1 0
    State.settleClosing p { s1 with fabric := { s1.fabric with closing := s1.fabric.closing ++ [p] } }

/-- A write of :01 of an internal port is refused with 0x0206 (R170). -/
def opPortEnable (port : Nat) (s : State) : State :=
  s.when s.fabricUp fun s => if externalPort port then (s.portOn port).answer 0 else s.answer 0x0206

def execPortEnable (port : Nat) (s : State) : Host.Outcome State Fault Refusal :=
  checked (.portEnable port) (opPortEnable port s)

def opPortDisable (port : Nat) (s : State) : State :=
  s.when s.fabricUp fun s => if externalPort port then (s.portOff port).answer 0 else s.answer 0x0206

def execPortDisable (port : Nat) (s : State) : Host.Outcome State Fault Refusal :=
  checked (.portDisable port) (opPortDisable port s)

/-- A pass of the buffer audit (R160): `unreferenced` are the cells found allocated and referred to by nothing, with
their allocation generations; those found so on the last pass too are leaked and freed. -/
def opAuditPass (unreferenced : PairList) (s : State) : State :=
  s.when s.fabricUp fun s =>
    let leaked := unreferenced.filter fun p => s.fabric.suspects.contains p
    let rest := unreferenced.filter fun p => !s.fabric.suspects.contains p
    let s1 := { s with fabric := { s.fabric with suspects := rest } }
    let s2 := s1.setReg 0x2700 2 ((s1.regN 0x2700 2 + 1) % 2 ^ 32 : Nat)
    let s3 := (s2.setReg 0x2700 4 (s2.allocated : Nat)).setReg 0x2700 5 (s2.freeCells : Nat)
    if leaked.isEmpty then s3
    else
      let s4 := s3.setReg 0x2700 3 ((s3.regN 0x2700 3 + leaked.length) % 2 ^ 32 : Nat)
      (s4.logRec 0x0201 1 noFacet 0 0 (padTo 4 [byteOf 0] ++ leBytes 4 leaked.length)).latchCause 5 false

def execAuditPass (unreferenced : PairList) (s : State) : Host.Outcome State Fault Refusal :=
  checked (.auditPass unreferenced) (opAuditPass unreferenced s)

/-- Learned entries step AGE; those that reach 15 go (R162). -/
def opLearningAgeingStep (s : State) : State :=
  s.when s.fabricUp fun s =>
    s.setFdb (s.fabric.fdb.filterMap fun p =>
      if fdbStatic p.2 then some p
      else if 14 ≤ fdbAge p.2 then none
      else some (p.1, fdbWithAge p.2 (fdbAge p.2 + 1)))

def execLearningAgeingStep (s : State) : Host.Outcome State Fault Refusal :=
  checked .learningAgeingStep (opLearningAgeingStep s)

/-! ### Table operations (R170, Table 6.8) -/

/-- Result of an operation at index: subindex 04 holds it, and the command answers it. -/
def State.tableResult (s : State) (index code : Nat) : State := (s.setReg index 4 code).answer code

def opDatabaseWrite (s : State) : State :=
  s.when s.stewardUp fun s =>
    let (code, tab, _) := fdbWrite s.fabric.fdb (beNat (s.blob 0x2421 2))
    (s.setFdb tab).tableResult 0x2421 code

def execDatabaseWrite (s : State) : Host.Outcome State Fault Refusal := checked .databaseWrite (opDatabaseWrite s)

/-- The key of the held entry. -/
def State.heldFdb (s : State) : Option Nat :=
  let e := beNat (s.blob 0x2421 2)
  s.fdbFind (fdbVid e) (fdbMac e)

def opDatabaseDeleteByKey (s : State) : State :=
  s.when s.stewardUp fun s =>
    match s.heldFdb with
    | some p => (s.setFdb (mapDel p s.fabric.fdb)).tableResult 0x2421 0
    | none => s.tableResult 0x2421 0x0202

def execDatabaseDeleteByKey (s : State) : Host.Outcome State Fault Refusal :=
  checked .databaseDeleteByKey (opDatabaseDeleteByKey s)

/-- The entry at a position goes into the held entry. -/
def State.readFdb (s : State) (p : Option Nat) : State :=
  match p with
  | some p =>
    match mapFind s.fabric.fdb p with
    | some e => ((s.setBlob 0x2421 2 (beBytes 16 e)).setReg 0x2421 3 (p : Nat)).tableResult 0x2421 0
    | none => s.tableResult 0x2421 0x0202
  | none => s.tableResult 0x2421 0x0202

def opDatabaseReadByKey (s : State) : State := s.when s.stewardUp fun s => s.readFdb s.heldFdb

def execDatabaseReadByKey (s : State) : Host.Outcome State Fault Refusal :=
  checked .databaseReadByKey (opDatabaseReadByKey s)

def opDatabaseReadByPosition (s : State) : State :=
  s.when s.stewardUp fun s => s.readFdb (some (s.regN 0x2421 3))

def execDatabaseReadByPosition (s : State) : Host.Outcome State Fault Refusal :=
  checked .databaseReadByPosition (opDatabaseReadByPosition s)

def State.setStreamTab (s : State) (t : Map Nat) : State := { s with fabric := { s.fabric with streamTab := t } }

def opStreamTableWrite (s : State) : State :=
  s.when s.stewardUp fun s =>
    let (code, tab, _) := stWrite s.fabric.streamTab (beNat (s.blob 0x2430 2))
    (s.setStreamTab tab).tableResult 0x2430 code

def execStreamTableWrite (s : State) : Host.Outcome State Fault Refusal :=
  checked .streamTableWrite (opStreamTableWrite s)

def State.heldStream (s : State) : Option Nat :=
  let e := beNat (s.blob 0x2430 2)
  s.streamFind (stVid e) (stAppid e) (stMac e)

def opStreamTableDeleteByKey (s : State) : State :=
  s.when s.stewardUp fun s =>
    match s.heldStream with
    | some p => (s.setStreamTab (mapDel p s.fabric.streamTab)).tableResult 0x2430 0
    | none => s.tableResult 0x2430 0x0202

def execStreamTableDeleteByKey (s : State) : Host.Outcome State Fault Refusal :=
  checked .streamTableDeleteByKey (opStreamTableDeleteByKey s)

def State.readStream (s : State) (p : Option Nat) : State :=
  match p with
  | some p =>
    match mapFind s.fabric.streamTab p with
    | some e => ((s.setBlob 0x2430 2 (beBytes 16 e)).setReg 0x2430 3 (p : Nat)).tableResult 0x2430 0
    | none => s.tableResult 0x2430 0x0202
  | none => s.tableResult 0x2430 0x0202

def opStreamTableReadByKey (s : State) : State := s.when s.stewardUp fun s => s.readStream s.heldStream

def execStreamTableReadByKey (s : State) : Host.Outcome State Fault Refusal :=
  checked .streamTableReadByKey (opStreamTableReadByKey s)

def opStreamTableReadByPosition (s : State) : State :=
  s.when s.stewardUp fun s => s.readStream (some (s.regN 0x2430 3))

def execStreamTableReadByPosition (s : State) : Host.Outcome State Fault Refusal :=
  checked .streamTableReadByPosition (opStreamTableReadByPosition s)

def State.setVlan (s : State) (vid e : Nat) : State :=
  { s with fabric := { s.fabric with vlans := mapPut vid e s.fabric.vlans } }

def opVlanWrite (s : State) : State :=
  s.when s.stewardUp fun s =>
    let e := beNat (s.blob 0x2440 3)
    if vlanValid e then
      (s.setVlan (s.regN 0x2440 2) (e - bitsAt e 104 21 * 2 ^ 104)).tableResult 0x2440 0
    else s.tableResult 0x2440 0x0203

def execVlanWrite (s : State) : Host.Outcome State Fault Refusal := checked .vlanWrite (opVlanWrite s)

def opVlanRead (s : State) : State :=
  s.when s.stewardUp fun s =>
    let e := s.vlan (s.regN 0x2440 2)
    if vlanValid e then (s.setBlob 0x2440 3 (beBytes 16 e)).tableResult 0x2440 0 else s.tableResult 0x2440 0x0208

def execVlanRead (s : State) : Host.Outcome State Fault Refusal := checked .vlanRead (opVlanRead s)

def opVlanInvalidate (s : State) : State :=
  s.when s.stewardUp fun s =>
    let vid := s.regN 0x2440 2
    if vlanValid (s.vlan vid) then (s.setVlan vid 0).tableResult 0x2440 0 else s.tableResult 0x2440 0x0208

def execVlanInvalidate (s : State) : Host.Outcome State Fault Refusal :=
  checked .vlanInvalidate (opVlanInvalidate s)

/-- Every learned entry goes (0x2420:05). -/
def opFlushLearned (s : State) : State :=
  s.when s.stewardUp fun s => (s.setFdb (s.fabric.fdb.filter fun p => fdbStatic p.2)).answer 0

def execFlushLearned (s : State) : Host.Outcome State Fault Refusal := checked .flushLearned (opFlushLearned s)

/-- The port's counters, class block and latency records are cleared together (R169). -/
def opPortClearCounters (port : Nat) (s : State) : State :=
  s.when s.stewardUp fun s =>
    let s1 := applyAll (fun i s => s.setReg (0x2000 + port) (0x10 + i) 0) (List.range 17) s
    let s2 := { s1 with fabric := { s1.fabric with block := s1.fabric.block.filter fun p => p.1 / 8 != port } }
    s2.answer 0

def execPortClearCounters (port : Nat) (s : State) : Host.Outcome State Fault Refusal :=
  checked (.portClearCounters port) (opPortClearCounters port s)

/-- Nodes that pair k announces: the module, and each proxied node of a RedBox. -/
def State.supervised (s : State) (k : Nat) : List Nat :=
  Config.ownMac :: if redBox (s.pairMode k) then (s.fabric.proxies.filter fun p => p.1 == k).map (·.2) else []

/-- Supervision frames on both ports, for the module and for each proxied node of the pair (R166). -/
def opSupervisionFrame (pair : Nat) (s : State) : State :=
  s.when (s.fabricUp && s.pairMode pair != 0) fun s => applyAll (State.superviseFor pair) (s.supervised pair) s

def execSupervisionFrame (pair : Nat) (s : State) : Host.Outcome State Fault Refusal :=
  checked (.supervisionFrame pair) (opSupervisionFrame pair s)

/-- A node table entry not refreshed in time has its window reset, or is removed (R168). -/
def opNodeForget (pair mac : Nat) (remove : Bool) (s : State) : State :=
  s.when s.fabricUp fun s =>
    let k := nodeKey pair mac
    match mapFind s.fabric.nodes k with
    | some n =>
      let t := if remove then mapDel k s.fabric.nodes else mapPut k { n with window := [] } s.fabric.nodes
      { s with fabric := { s.fabric with nodes := t } }
    | none => s

def execNodeForget (pair mac : Nat) (remove : Bool) (s : State) : Host.Outcome State Fault Refusal :=
  checked (.nodeForget pair mac remove) (opNodeForget pair mac remove s)

end Sys2Proof.Machine
end

