-- ==== Sys2Proof/Machine/PhasorUnit.lean ====
section
/-! DEFINITION. The phasor unit, the frequency groups, the triples and the summation unit (chapter 8). -/

namespace Sys2Proof.Machine

/-! ### Settings of a row -/

def cfgN (m : Map Int) (index sub : Nat) : Nat := (regIn m (ek index sub)).toNat

/-- The frequency group of channel c (R206). -/
def channelGroup (m : Map Int) (c : Nat) : Nat := cfgN m (0x4680 + c / 64) (c % 64 + 1)

/-- The descriptor of triple t (Table 8.4). -/
def tripleDesc (m : Map Int) (t : Nat) : Nat := cfgN m (0x4600 + t / 16) (t % 16 + 1)
def tripleValid (d : Nat) : Bool := d.testBit 63
def tripleA (d : Nat) : Nat := bitsAt d 0 13
/-- Channels of phases b and c, exchanged with phase order ACB (R209). -/
def tripleB (d : Nat) : Nat := if d.testBit 62 then bitsAt d 26 13 else bitsAt d 13 13
def tripleC (d : Nat) : Nat := if d.testBit 62 then bitsAt d 13 13 else bitsAt d 26 13

/-- Decimation factor D (R201). -/
def decimation (f : Nat) : Nat := if f = 14400 then 6 else 1

def FreqGroup.fresh : FreqGroup :=
  { freq := none, ref := none, held := 0, state := 0, limit := false, hist := [], resumed := none, changes := 0,
    holds := 0, prev := none }

def State.freqGroup (s : State) (g : Nat) : FreqGroup := mapGet s.phasor.groups g FreqGroup.fresh
def State.setFreqGroup (s : State) (g : Nat) (x : FreqGroup) : State :=
  { s with phasor := { s.phasor with groups := mapPut g x s.phasor.groups } }

/-- F(g) in force. -/
def State.freqOf (s : State) (g : Nat) : Nat := ((s.freqGroup g).freq).getD (fOfNat s.nominal)

/-- F(g), with the group's hold and limit, as they stood when row r was sealed (R200). -/
def State.rowFreq (s : State) (r : Row) (g : Nat) : RowFreq :=
  mapGet r.freqs g { freq := fOfNat s.nominal, held := false, limit := false }

/-! ### The phasor ring (R12, R204) -/

def phasorAddr (c R : Nat) : Nat := phasorBase + 1024 * c + 16 * (R % 64)

/-- Bytes 8 to 15 are written first, then bytes 0 to 7. -/
def State.putPhasor (s : State) (c R : Nat) (re im freq q : Nat) : State :=
  let m := memWriteList s.mem (phasorAddr c R + 8) (leBytes 4 freq ++ leBytes 4 q)
  { s with mem := memWriteList m (phasorAddr c R) (leBytes 4 re ++ leBytes 4 im) }

def phasorQuality (m : Mem) (c R : Nat) : Nat := leNat (memReadList m (phasorAddr c R + 12) 4)

/-- The phasor of channel c for row R where the slot still holds that row, and its quality word. -/
def phasorAt (m : Mem) (c R : Nat) : Option ((Nat × Nat) × Nat) :=
  let q := phasorQuality m c R
  if bitsAt q 24 8 = (R / 64) % 256 then
    some ((leNat (memReadList m (phasorAddr c R) 4), leNat (memReadList m (phasorAddr c R + 4) 4)), q)
  else none

/-- A valid phasor of row R. -/
def validPhasor (m : Mem) (c R : Nat) : Option (Nat × Nat) :=
  match phasorAt m c R with
  | some (x, q) => if qReason q = 0 then some x else none
  | none => none

/-- Flags of a phasor that a sample's quality word sets (Table 8.1): TIME_OOS to SUBST at the same places, TEST and
QUESTIONABLE from the received quality (log 6). -/
def flagsOfSample (q : Nat) : Nat :=
  bitsAt q 18 5 * 2 ^ 18 + boolNat (iecTest q) * 2 ^ 12 + boolNat (q % 4 == 3) * 2 ^ 11

/-! ### Phasors (R201 to R203) -/

/-- Index of the oldest window term with a weight above zero: M, or M − 1 where the fraction is zero. -/
def windowLast (w : Nat) : Nat × Nat :=
  let M := (fFloorInt w).toNat
  let a := fSub w (fOfNat M)
  (if fIsZero a then M - 1 else M, a)

/-- The weight of term k: 1, and the fraction for k = M. -/
def windowWeight (w k : Nat) : Nat :=
  let M := (fFloorInt w).toNat
  if k < M then fOne else fSub w (fOfNat M)

/-- Σ w(k) × x(k) × exp(+j × θ × k), sums kept to 40 bits. -/
def windowSum (w theta : Nat) (xs : List (Nat × Nat)) : Nat × Nat :=
  let term := fun (p : Nat × Nat) =>
    let e := cExp (fMul theta (fOfNat p.1))
    cScale (fMul (windowWeight w p.1) p.2) e
  (sum40 (xs.map fun p => (term p).1), sum40 (xs.map fun p => (term p).2))

/-- Result of a phasor: parts (none where the window is incomplete), reason, flags. -/
structure PhasorRes where
  val : Option (Nat × Nat)
  reason : Nat
  flags : Nat
  deriving DecidableEq, Repr, Inhabited

def orFlags (l : List Nat) : Nat := l.foldl Nat.lor 0

/-- A phasor at a grid of 4,000 or 4,800. -/
def State.phasorDirect (s : State) (n c freq : Nat) : PhasorRes :=
  let ff := fOfNat s.grid
  let theta := fDiv (fMul fTwoPi freq) ff
  let w := fDiv ff freq
  let last := (windowLast w).1
  let ks := List.range (Nat.min last (n - s.phasor.start) + 1)
  let qs := ks.map fun k => sampleQuality s.mem c (n - k)
  if n < s.phasor.start + last then { val := none, reason := 3, flags := orFlags (qs.map flagsOfSample) }
  else
    let xs := ks.map fun k => (k, fOfInt (sampleValue s.mem c (n - k)))
    { val := some (cScale (fDiv fSqrt2 w) (windowSum w theta xs)),
      reason := if qs.all qValid then 0 else 1, flags := orFlags (qs.map flagsOfSample) }

/-- The block mean u[n] of a channel. -/
def State.blockMean (s : State) (n c : Nat) : UBlock :=
  let ks := List.range 6
  let qs := ks.map fun k => sampleQuality s.mem c (n - k)
  let sum := sum40 (ks.map fun k => fOfInt (sampleValue s.mem c (n - 5 + k)))
  { row := n, value := fDiv sum (fOfNat 6), valid := qs.all qValid, flags := orFlags (qs.map flagsOfSample) }

/-- The blocks of a window from row n back; one that was never computed, of a channel that was not in use, is invalid. -/
def blocksFrom (n : Nat) (l : List UBlock) (cnt : Nat) : List UBlock :=
  (List.range cnt).map fun k =>
    (l.find? fun u => u.row + 6 * k == n).getD { row := n - 6 * k, value := 0, valid := false, flags := 0 }

/-- A block-row phasor of the 14,400 grid from the history `us`, newest first. -/
def State.phasorBlock (s : State) (n freq : Nat) (us : List UBlock) : PhasorRes :=
  let ff := fOfNat s.grid
  let theta := fDiv (fMul fTwoPi freq) ff
  let wd := fDiv (fDiv ff freq) (fOfNat 6)
  let last := (windowLast wd).1
  let held := (n - s.phasor.start + 1) / 6
  let win := blocksFrom n us (Nat.min held (last + 1))
  if held < last + 1 then { val := none, reason := 3, flags := orFlags (win.map (·.flags)) }
  else
    let xs := (enumFrom' 0 win).map fun p => (p.2, p.1.value)
    let sum := windowSum wd (fMul (fOfNat 6) theta) xs
    let gain := fDiv (sinF32 (fMul (fOfNat 3) theta))
      (fMul (fOfNat 6) (sinF32 (fDiv theta (fOfNat 2))))
    let x := cScale (fDiv fSqrt2 (fMul wd gain)) sum
    { val := some (cMul x (cExp (fMul 0x40200000 theta))),
      reason := if win.all (·.valid) then 0 else 1, flags := orFlags (win.map (·.flags)) }

/-- The phasor written for a channel: its value, a free one where the window is incomplete (log 3), and the word of
Table 8.1. -/
def State.writePhasor (s : State) (n c freq : Nat) (res : PhasorRes) (held limit : Bool) : State :=
  let q := (n / 64) % 256 * 2 ^ 24 + boolNat held * 2 ^ 23 + res.flags + res.reason * 2 ^ 14 + boolNat limit * 2 ^ 13
  match res.val with
  | some (re, im) => s.putPhasor c n re im freq q
  | none => ((s.putPhasor c n (s.free % 2 ^ 32) (s.nextFree.free % 2 ^ 32) freq q).nextFree).nextFree

/-- The phasor of channel c for row r (R201 to R203). -/
def State.channelPhasor (r : Row) (c : Nat) (s : State) : State :=
  let x := s.rowFreq r (channelGroup r.cfg c)
  let n := r.num
  if s.grid ≠ 14400 then s.writePhasor n c x.freq (s.phasorDirect n c x.freq) x.held x.limit
  else if n % 6 = 5 then
    let us := if s.phasor.start + 5 ≤ n then (s.blockMean n c :: mapGet s.phasor.u c []).take 64 else []
    let s1 := { s with phasor := { s.phasor with u := mapPut c us s.phasor.u } }
    let res := s1.phasorBlock n x.freq us
    let b := mapPut c { row := n, val := res.val, reason := res.reason, flags := res.flags } s1.phasor.block
    ({ s1 with phasor := { s1.phasor with block := b } } : State).writePhasor n c x.freq res x.held x.limit
  else
    let theta := fDiv (fMul fTwoPi x.freq) (fOfNat s.grid)
    let res : PhasorRes := match mapFind s.phasor.block c with
      | some b =>
        { val := b.val.map fun v => cMul v (cExp (fMul theta (fOfNat (n - b.row)))), reason := b.reason, flags := b.flags }
      | none => { val := none, reason := 3, flags := 0 }
    s.writePhasor n c x.freq res x.held x.limit

/-! ### Triples (R209) -/

/-- Sequence components and quality word of a triple for row R. -/
structure TripleRes where
  x0 : Nat × Nat
  x1 : Nat × Nat
  x2 : Nat × Nat
  q : Nat
  deriving DecidableEq, Repr, Inhabited

def TripleRes.none : TripleRes := { x0 := (0, 0), x1 := (0, 0), x2 := (0, 0), q := 0x8000 }

def alpha : Nat × Nat := (0xBF000000, 0x3F5DB3D7)
def alpha2 : Nat × Nat := (0xBF000000, 0xBF5DB3D7)

def tripleAt (mem : Mem) (m : Map Int) (t R : Nat) : TripleRes :=
  let d := tripleDesc m t
  if !tripleValid d then TripleRes.none
  else
    let get := fun c => (phasorAt mem c R).getD ((0, 0), 0x8000)
    let (a, qa) := get (tripleA d)
    let (b, qb) := get (tripleB d)
    let (c, qc) := get (tripleC d)
    let third := fun (x : Nat × Nat) => (fDiv x.1 (fOfNat 3), fDiv x.2 (fOfNat 3))
    let rs := [qReason qa, qReason qb, qReason qc]
    let reason := if rs.all (· == 0) then 0 else if rs.contains 2 then 2 else if rs.contains 1 then 1 else 3
    let flags := Nat.lor (Nat.lor qa qb) qc
    { x0 := third (cAdd (cAdd a b) c),
      x1 := third (cAdd (cAdd a (cMul alpha b)) (cMul alpha2 c)),
      x2 := third (cAdd (cAdd a (cMul alpha2 b)) (cMul alpha c)),
      q := (R / 64) % 256 * 2 ^ 24 + bitsAt flags 18 6 * 2 ^ 18 + reason * 2 ^ 14 + bitsAt flags 11 3 * 2 ^ 11 }

/-! ### Frequency (R207, R208) -/

/-- The phasor of a source for row R, where it is defined and valid. -/
def sourceAt (mem : Mem) (m : Map Int) (src R : Nat) : Option (Nat × Nat) :=
  if src < 0x800 then
    let t := tripleAt mem m src R
    if tripleValid (tripleDesc m src) && qReason t.q == 0 then some t.x1 else none
  else if 0x8000 ≤ src ∧ src < 0xA000 then validPhasor mem (src - 0x8000) R
  else none

/-- V[n − D] of a source: as the group's last update found it, under the descriptors of that row. -/
def State.lastV (s : State) (r : Row) (g src d : Nat) : Option (Nat × Nat) :=
  match (s.freqGroup g).prev with
  | some (n, l) =>
    if n + d = r.num then
      match l.find? fun p => p.1 == src with
      | some p => p.2
      | none => sourceAt s.mem r.cfg src n
    else none
  | none => none

/-- Usable: valid for rows n and n − D, and large enough. -/
def State.usable (s : State) (r : Row) (g src : Nat) : Option ((Nat × Nat) × (Nat × Nat)) :=
  match sourceAt s.mem r.cfg src r.num, s.lastV r g src (decimation s.grid) with
  | some v, some w => if fLe (s.regN (0x4700 + g) 4) (cAbs v) then some (v, w) else none
  | _, _ => none

def wrapAngle (a : Nat) : Nat :=
  if fLt fPi a then fSub a fTwoPi else if fLe a (fFlip fPi) then fAdd a fTwoPi else a

/-- A frequency kept for ROCOF (R208). -/
def FreqGroup.keep (x : FreqGroup) (inst freq : Nat) : FreqGroup := { x with hist := ((inst, freq) :: x.hist).take 14402 }

/-- The source of an update (R207): the primary, else the alternate, with its status code and V[n], V[n − D]. -/
def State.pickSource (s : State) (r : Row) (g : Nat) : Option (Nat × Nat × (Nat × Nat) × (Nat × Nat)) :=
  let p := s.regN (0x4700 + g) 2
  let a := s.regN (0x4700 + g) 3
  match s.usable r g p with
  | some v => some (p, 1, v)
  | none => (s.usable r g a).map fun v => (a, 2, v)

/-- The group after an update without a source: held, or reverted to nominal at the hold limit. -/
def State.holdGroup (s : State) (g : Nat) (x : FreqGroup) : FreqGroup :=
  let held := x.held + decimation s.grid
  let was := x.state == 3 || x.state == 4
  let rev := decide (s.regN (0x4700 + g) 6 * s.grid ≤ 1000 * held)
  { x with held := held, state := if rev then 4 else 3, ref := none, freq := if rev then none else x.freq,
           limit := x.limit && !rev, holds := if was then x.holds else wrap 32 (x.holds + 1), resumed := none }

/-- F(g) after a tracking update from V[n] = v and V[n − D] = w, and whether it was clamped. -/
def State.trackFreq (s : State) (g : Nat) (v w : Nat × Nat) : Nat × Bool :=
  let nom := fOfNat s.nominal
  let cur := s.freqOf g
  let ff := fOfNat s.grid
  let dd := fOfNat (decimation s.grid)
  let z := cMul v (w.1, fFlip w.2)
  let delta := wrapAngle (fSub (atan2F32 z.2 z.1) (fDiv (fMul (fMul dd fTwoPi) cur) ff))
  let meas := fAdd cur (fDiv (fMul delta ff) (fMul fTwoPi dd))
  let nf := fAdd cur (fDiv (fSub meas cur) (fOfNat (2 ^ s.regN (0x4700 + g) 5)))
  let lo := fDiv (fMul (fOfNat 4) nom) (fOfNat 5)
  let hi := fDiv (fMul (fOfNat 6) nom) (fOfNat 5)
  (fMin (fMax nf lo) hi, fLt nf lo || fLt hi nf)

/-- An update of the group for row r: none in a discontinuity row; fixed at nominal; held; a new reference; or tracking (R207). -/
def State.groupStep (s : State) (r : Row) (g : Nat) (x : FreqGroup) : FreqGroup :=
  if r.disc then { x with ref := none }
  else if s.regN (0x4700 + g) 1 = 0 then { x with freq := none, state := 0, held := 0, ref := none, limit := false }
  else
    match s.pickSource r g with
    | none => s.holdGroup g x
    | some (src, st, v, w) =>
      let res := if x.state = 3 ∨ x.state = 4 then some (r.inst, x.state) else x.resumed
      if x.ref ≠ some src then
        { x with ref := some src, held := 0, state := st, resumed := res, changes := wrap 32 (x.changes + 1) }
      else
        let (nf, lim) := s.trackFreq g v w
        { x with freq := some nf, held := 0, state := st, limit := lim, resumed := res }

/-- A group after the triples of row r: updated, at 14,400 on block rows only, with what its next update needs; the F of every
row is kept. -/
def State.updateGroup (r : Row) (g : Nat) (s : State) : State :=
  let x := s.freqGroup g
  let y :=
    if s.grid = 14400 ∧ r.num % 6 ≠ 5 then x
    else
      let srcs := [s.regN (0x4700 + g) 2, s.regN (0x4700 + g) 3]
      { s.groupStep r g x with prev := some (r.num, srcs.map fun k => (k, sourceAt s.mem r.cfg k r.num)) }
  s.setFreqGroup g (y.keep r.inst (y.freq.getD (fOfNat s.nominal)))

/-- The kept frequency of the row nearest to an instant, the older of two equally near; none before the history
reaches back to it. -/
def nearestFreq (t : Nat) : List (Nat × Nat) → Option Nat
  | [] => none
  | [(i, f)] => if i ≤ t then some f else none
  | (i, f) :: (j, h) :: l =>
    if i ≤ t then some f
    else if j ≤ t then (if i - t < t - j then some f else some h)
    else nearestFreq t ((j, h) :: l)

/-- The group shows a hold: now, or for one ROCOF interval after it resumed. -/
def State.groupHold (s : State) (g : Nat) : Option Nat :=
  let x := s.freqGroup g
  let span := 1000000 * s.regN (0x4700 + g) 7
  if x.state = 3 ∨ x.state = 4 then some x.state
  else match x.resumed, x.hist with
    | some (t, st), (i, _) :: _ => if i < t + span then some st else none
    | _, _ => none

/-- ROCOF (R208). -/
def State.rocof (s : State) (g : Nat) : Nat :=
  let x := s.freqGroup g
  let ms := s.regN (0x4700 + g) 7
  match x.hist with
  | [] => 0
  | (i, f) :: _ =>
    if (s.groupHold g).isSome || x.state == 0 then 0
    else match nearestFreq (i - 1000000 * ms) x.hist with
      | some h => fDiv (fSub f h) (fDiv (fOfNat ms) (fOfNat 1000))
      | none => 0

/-- ROCOF is valid once the history reaches back one interval and no hold is shown. -/
def State.rocofValid (s : State) (g : Nat) : Bool :=
  match (s.freqGroup g).hist with
  | [] => false
  | (i, _) :: _ =>
    (s.groupHold g).isNone && (nearestFreq (i - 1000000 * s.regN (0x4700 + g) 7) (s.freqGroup g).hist).isSome

/-- 0x4700 + g:0A. -/
def State.freqStatus (s : State) (g : Nat) : Nat :=
  (match s.groupHold g with
    | some h => h
    | none => (s.freqGroup g).state) + 8 * boolNat (s.freqGroup g).limit

/-! ### Summation groups (R210 to R214) -/

def SumGroup.fresh : SumGroup := { rows := [], outs := [], sel := [], selRow := none, unsub := false, on := false }

def State.sumGroup (s : State) (g : Nat) : SumGroup := mapGet s.phasor.sums g SumGroup.fresh
def State.setSumGroup (s : State) (g : Nat) (x : SumGroup) : State :=
  { s with phasor := { s.phasor with sums := mapPut g x s.phasor.sums } }

def sumIndex (g : Nat) : Nat := 0x4400 + g

/-- Member descriptor m of group g (Table 8.9). -/
def memberDesc (m : Map Int) (g k : Nat) : Nat := cfgN m (sumIndex g) (0x10 + k)
def mdKind (d : Nat) : Nat := bitsAt d 30 2
def mdPhase (d : Nat) : Nat := bitsAt d 28 2
def mdShift (d : Nat) : Nat := bitsAt d 24 4
def mdSelEn (d : Nat) : Bool := d.testBit 23
def mdSelBit (d : Nat) : Nat := bitsAt d 13 10
def mdSource (d : Nat) : Nat := bitsAt d 0 13
def mdRatio (d : Nat) : Nat := bitsAt d 32 32

/-- cos(30° × k) as binary32. -/
def cos30 (k : Nat) : Nat :=
  match k % 12 with
  | 0 => 0x3F800000 | 1 => 0x3F5DB3D7 | 2 => 0x3F000000 | 3 => 0 | 4 => 0xBF000000 | 5 => 0xBF5DB3D7
  | 6 => 0xBF800000 | 7 => 0xBF5DB3D7 | 8 => 0xBF000000 | 9 => 0 | 10 => 0x3F000000 | _ => 0x3F5DB3D7

/-- The channels that a member reads. -/
def memberChannels (m : Map Int) (d : Nat) : List Nat :=
  if mdKind d = 0 then [mdSource d]
  else
    let t := tripleDesc m (mdSource d)
    [tripleA t, tripleB t, tripleC t]

/-- y_m[n] from the member's samples (R210). -/
def memberTerm (d : Nat) (xs : List Nat) : Nat :=
  if mdKind d = 0 then xs.getD 0 0
  else
    let terms := (List.range 3).map fun q => fMul (xs.getD q 0) (cos30 (mdShift d + 4 * (q + 3 - mdPhase d)))
    let y := fMul 0x3F2AAAAB (sum40 terms)
    if mdKind d = 2 then fAdd y (fDiv (sum40 xs) (fOfNat 3)) else y

/-- A member of row R: taking part, its weighted term, invalid, and its flags. -/
structure MemberRes where
  part : Bool
  term : Nat
  bad : Bool
  flags : Nat
  deriving DecidableEq, Repr, Inhabited

def evalMember (mem : Mem) (m : Map Int) (policy R d : Nat) : MemberRes :=
  let sel := !mdSelEn d || areaBit mem 10 (mdSelBit d)
  if !sel then { part := false, term := 0, bad := false, flags := 0 }
  else
    let cs := memberChannels m d
    let qs := cs.map fun c => sampleQuality mem c R
    let flags := orFlags (qs.map flagsOfSample)
    let undef := mdKind d != 0 && !tripleValid (tripleDesc m (mdSource d))
    let bad := undef || !qs.all qValid || (policy.testBit 0 && flags.testBit 19) ||
      (policy.testBit 1 && flags.testBit 12) || (policy.testBit 2 && flags.testBit 18)
    { part := true, term := fMul (mdRatio d) (memberTerm d (cs.map fun c => fOfInt (sampleValue mem c R))),
      bad := bad, flags := flags }

/-- Window length L = round(f / F). -/
def State.sumWindow (s : State) (r : Row) (g : Nat) : Nat :=
  (fRoundInt (fDiv (fOfNat s.grid) (s.rowFreq r (cfgN r.cfg (sumIndex g) 3)).freq)).toNat

/-- One row of an enabled group. -/
def State.evalSum (r : Row) (g : Nat) (s : State) : State :=
  let m := r.cfg
  let x0 := s.sumGroup g
  let x := if r.disc || !x0.on then { x0 with rows := [], on := true } else x0
  let n := cfgN m (sumIndex g) 2
  let ds := (List.range n).map fun k => memberDesc m g k
  let policy := cfgN m (sumIndex g) 5
  let rs := (ds.map fun d => evalMember s.mem m policy r.num d).filter (·.part)
  let base := cfgN m (sumIndex g) 4
  let diff := fDiv (sum40 (rs.map (·.term))) base
  let a := fDiv (sum40 (rs.map fun t => fAbs t.term)) base
  let bad := rs.any (·.bad)
  let flags := orFlags (rs.map (·.flags))
  let rows := ({ row := r.num, diff := diff, a := a, bad := bad } :: x.rows).take 361
  let len := s.sumWindow r g
  let win := rows.take len
  let lf := fOfNat len
  let rms := fSqrt (fDiv (sum40 (win.map fun t => fMul t.diff t.diff)) lf)
  let rest := fMul 0x3F8E2C19 (fDiv (sum40 (win.map (·.a))) lf)
  let winBad := decide (win.length < len) || win.any (·.bad)
  -- selection bits against those of the last row
  let sel := (enumFrom' 0 ds).filterMap fun p => if mdSelEn p.1 then some (p.2, areaBit s.mem 10 (mdSelBit p.1)) else none
  let changed := sel.filter fun p => match mapFind x.sel p.1 with
    | some b => b != p.2
    | none => false
  let selRow := if changed.isEmpty then x.selRow else some r.num
  let selNow := match selRow with
    | some k => decide (r.num < k + len)
    | none => false
  let status := boolNat bad + 2 * boolNat winBad + 4 * boolNat (flags.testBit 18) + 8 * boolNat (flags.testBit 21) +
    16 * boolNat (flags.testBit 12) + 64 * boolNat selNow
  let out : SumOut := { row := r.num, diff := diff, rms := rms, rest := rest, status := status }
  let s1 := s.setSumGroup g { x with rows := rows, outs := (out :: x.outs).take 16, sel := sel, selRow := selRow }
  let s2 := if bad then s1.countReg (sumIndex g) 0x0A 1 else s1
  if changed.isEmpty then s2 else s2.countReg (sumIndex g) 0x0B changed.length

/-- Groups whose :01 is 1 in a register map. -/
def enabledGroups (m : Map Int) : List Nat :=
  m.filterMap fun p =>
    if p.1 % 256 = 1 ∧ 0x4400 ≤ p.1 / 256 ∧ p.1 / 256 ≤ 0x45FF ∧ p.2 ≠ 0 then some (p.1 / 256 - 0x4400) else none

/-- A group that is not in force writes nothing; its windows are cleared. -/
def SumGroup.stop (x : SumGroup) : SumGroup := { x with rows := [], outs := [], sel := [], selRow := none, on := false }

/-- The newest outputs of a group for row R. -/
def State.sumOut (s : State) (g R : Nat) : Option SumOut := (s.sumGroup g).outs.find? fun o => o.row == R

/-- 0x4400 + g:06. -/
def State.sumStatus (s : State) (g : Nat) : Nat :=
  let x := s.sumGroup g
  (match x.outs with
    | o :: _ => o.status
    | [] => if x.on then 3 else 0x23) + 128 * boolNat x.unsub

/-- Groups that have a member on channels that no enabled stream covers any more (R215). -/
def State.markUnsubscribed (s : State) (gone : List (Nat × Nat)) : State :=
  let hit := fun c => gone.any fun p => decide (p.1 ≤ c ∧ c < p.1 + p.2)
  let m := s.tickRegs
  applyAll (fun g s =>
    let ds := (List.range (cfgN m (sumIndex g) 2)).map fun k => memberDesc m g k
    if ds.any fun d => (memberChannels m d).any hit then s.setSumGroup g { s.sumGroup g with unsub := true } else s)
    (enabledGroups m) s

/-! ### Row evaluation (R16, R199, R212) -/

/-- At a discontinuity every history restarts (R203, R208, R214). -/
def Phasor.restart (p : Phasor) (n : Nat) : Phasor :=
  { p with start := n, u := [], block := [],
           groups := p.groups.map fun g => (g.1, { g.2 with hist := [], ref := none, prev := none }) }

/-- Step e of a row: phasors, frequency groups, summation groups. -/
def State.evaluate (s0 : State) (r : Row) : State :=
  let s := if r.disc then { s0 with phasor := s0.phasor.restart r.num } else s0
  -- the summation unit works beside the phasor unit, with the frequencies as they stood
  let on := enabledGroups r.cfg
  let s1 := applyAll (State.evalSum r) on s
  let s2 := { s1 with phasor := { s1.phasor with
    sums := s1.phasor.sums.map fun p => if on.contains p.1 then p else (p.1, p.2.stop) } }
  let chans := channelsOf s2.lens.inUse
  let s3 := applyAll (State.channelPhasor r) chans s2
  let s4 := applyAll (State.updateGroup r) (List.range 32) s3
  { s4 with phasor := { s4.phasor with newest := some r, channels := chans.length } }

/-- The front of the sealed rows enters stage 8 when it is free. -/
def State.enterStage8 (s : State) : State :=
  match s.phasor.row, s.lens.sealedQueue with
  | none, r :: l =>
    let s1 := { s with lens := { s.lens with sealedQueue := l } }
    let s2 := s1.evaluate r
    { s2 with phasor := { s2.phasor with row := some r, posted := false, batches := [] } }
  | _, _ => s

/-! ### Checks of writes (R206, R209, R215, R217, R218) -/

/-- The three channels of a triple lie in one frequency group. -/
def tripleOneGroup (m : Map Int) (d : Nat) : Bool :=
  let g := channelGroup m (bitsAt d 0 13)
  channelGroup m (bitsAt d 13 13) == g && channelGroup m (bitsAt d 26 13) == g

/-- Valid triples of a register map, as descriptors. -/
def validTriples (m : Map Int) : List Nat :=
  m.filterMap fun p =>
    if 0x4600 ≤ p.1 / 256 ∧ p.1 / 256 ≤ 0x467F ∧ 1 ≤ p.1 % 256 ∧ p.1 % 256 ≤ 16 ∧ tripleValid p.2.toNat = true then
      some p.2.toNat else none

/-- R218: a source names a defined triple, a channel, or none. -/
def freqSourceOk (m : Map Int) (v : Nat) : Bool :=
  v == 0xFFFF || decide (0x8000 ≤ v ∧ v ≤ 0x9FFF) || (decide (v < 0x800) && tripleValid (tripleDesc m v))

/-- Reserved values of a member descriptor (R217). -/
def memberReserved (d : Nat) : Bool :=
  mdKind d == 3 || (mdKind d != 0 && (mdPhase d == 3 || decide (12 ≤ mdShift d) || decide (2048 ≤ mdSource d)))

def memberCode (m : Map Int) (d : Nat) : Nat :=
  if mdKind d ≠ 0 ∧ tripleValid (tripleDesc m (mdSource d)) = false then 0x0501
  else if mdKind d = 2 ∧ mdShift d % 2 = 1 then 0x0503
  else if fIsZero (mdRatio d) then 0x0505
  else 0

def firstCode : List Nat → Nat
  | [] => 0
  | c :: l => if c = 0 then firstCode l else c

/-- Result of a write of 1 to :01 of group g (R215). -/
def State.groupEnableCode (s : State) (g : Nat) : Nat :=
  let m := s.regs
  let base := cfgN m (sumIndex g) 4
  if !fLt 0 base then 0x0506
  else firstCode ((List.range (cfgN m (sumIndex g) 2)).map fun k => memberCode m (memberDesc m g k))

end Sys2Proof.Machine
end

