-- ==== Sys2Proof/Machine/Lens.lean ====
section
/-! DEFINITION. The meanings of the commands of chapters 7 and 8 that are events of the sample path: frames at P48,
the end of an alignment wait, and the evaluation of a sealed row. -/

namespace Sys2Proof.Machine

/-- A sampled-value frame whose tail has reached P48 (R183): its stream identification entry, by position, names
the stream. The Lens ignores a frame whose entry is no sampled-value entry (R165, R177). -/
def opSampledValueFrame (fr : SvFrame) (s : State) : State :=
  s.when (s.domOn 7) fun s =>
    match mapFind s.fabric.streamTab fr.entry with
    | some e => if stKind e = 0 ∧ stHandle e < 1024 then (s.advanceTo fr.arrival).lensFrame (stHandle e) fr else s
    | none => s

def execSampledValueFrame (fr : SvFrame) (s : State) : Host.Outcome State Fault Refusal :=
  checked (.sampledValueFrame fr) (opSampledValueFrame fr s)

/-- The alignment wait of the oldest open row ends (R188): the row is sealed, with substitutes, and so are rows that
are complete behind it. -/
def opAlignmentWaitExpiry (s : State) : State :=
  s.when (s.domOn 7 && s.lens.state == 2) fun s =>
    match s.lens.opened with
    | [] => s
    | r :: _ => (s.advanceTo r.deadline).sealRows

def execAlignmentWaitExpiry (s : State) : Host.Outcome State Fault Refusal :=
  checked .alignmentWaitExpiry (opAlignmentWaitExpiry s)

/-- The oldest sealed row enters stage 8 once the previous row has left it (R16): phasors, triples, frequencies and
summation groups are computed (R199, R207, R212). -/
def opRowEvaluation (s : State) : State := s.when (s.domOn 7) State.enterStage8

def execRowEvaluation (s : State) : Host.Outcome State Fault Refusal := checked .rowEvaluation (opRowEvaluation s)

end Sys2Proof.Machine
end

