-- ==== Sys2Proof/Machine/LaneUnit.lean ====
section
/-! DEFINITION. The trip lanes (R220 to R227). -/

namespace Sys2Proof.Machine

def Lane.idle : Lane :=
  { p := false, latch := false, h := [], inv := 0, rate := [], out := false, valid := false, status := 0, value := 0,
    pickRow := 0, reset := false, fresh := none }

def State.lane (s : State) (l : Nat) : Lane := mapGet s.goose.lanes l Lane.idle
def State.setLane (s : State) (l : Nat) (x : Lane) : State :=
  { s with goose := { s.goose with lanes := mapPut l x s.goose.lanes } }

def laneIndex (l : Nat) : Nat := 0x4800 + l

/-- Lanes whose :01 is 1 in a register map. -/
def enabledLanes (m : Map Int) : List Nat :=
  m.filterMap fun p =>
    if p.1 % 256 = 1 ∧ 0x4800 ≤ p.1 / 256 ∧ p.1 / 256 ≤ 0x4BFF ∧ p.2 ≠ 0 then some (p.1 / 256 - 0x4800) else none

/-- A quantity of a row (Table 9.1): value, REST where the quantity has one, validity. -/
structure Quantity where
  q : Nat
  rest : Nat
  valid : Bool
  deriving DecidableEq, Repr, Inhabited

def State.laneQuantity (s : State) (r : Row) (code src : Nat) : Quantity :=
  let sample := fOfInt (sampleValue s.mem src r.num)
  let sOk := qValid (sampleQuality s.mem src r.num)
  let sum := s.sumOut src r.num
  let stat := (sum.map (·.status)).getD 0x23
  let tri := tripleAt s.mem r.cfg src r.num
  let tOk := tripleValid (tripleDesc r.cfg src) && qReason tri.q == 0
  let mk := fun q ok => ({ q := q, rest := 0, valid := ok } : Quantity)
  match code with
  | 0 => mk sample sOk
  | 1 => mk (fAbs sample) sOk
  | 2 =>
    match phasorAt s.mem src r.num with
    | some (x, q) => mk (cAbs x) (qReason q == 0)
    | none => mk 0 false
  | 3 => mk (cAbs tri.x0) tOk
  | 4 => mk (cAbs tri.x1) tOk
  | 5 => mk (cAbs tri.x2) tOk
  | 6 => mk (fAbs ((sum.map (·.diff)).getD 0)) (!stat.testBit 0)
  | 7 => mk ((sum.map (·.rms)).getD 0) (!stat.testBit 1)
  | 8 => mk ((sum.map (·.rest)).getD 0) (!stat.testBit 1)
  | 9 => { q := (sum.map (·.rms)).getD 0, rest := (sum.map (·.rest)).getD 0, valid := !stat.testBit 1 }
  | 10 => mk (s.freqOf src) ((s.freqGroup src).state != 4)
  | _ => mk (s.rocof src) (s.rocofValid src)

/-- The boundary B of the dual slope (R222). -/
def slopeBound (t s1 s2 bp rest : Nat) : Nat :=
  if fLe rest bp then fMax t (fMul s1 rest)
  else fMax t (fAdd (fMul s1 bp) (fMul s2 (fSub rest bp)))

/-- Pickup and hold tests of Table 9.2; `hist` are the valid quantities before this row, newest first. -/
def laneTests (m : Map Int) (i f : Nat) (x : Quantity) (hist : List Nat) : Bool × Bool :=
  let t := cfgN m i 5
  let rho := cfgN m i 6
  match cfgN m i 4 with
  | 0 => (fLe t x.q, fLe (fMul rho t) x.q)
  | 1 => (fLe x.q t, fLe x.q (fDiv t rho))
  | 2 =>
    let k := cfgN m i 0x0A
    match hist[k - 1]? with
    | none => (false, false)
    | some old =>
      let r := fDiv (fMul (fSub x.q old) (fOfNat f)) (fOfNat k)
      if fLt 0 t then (fLe t r, fLe (fMul rho t) r)
      else if fLt t 0 then (fLe r t, fLe r (fMul rho t))
      else (false, false)
  | _ =>
    let b := slopeBound t (cfgN m i 7) (cfgN m i 8) (cfgN m i 9) x.rest
    (fLe b x.q, fLe (fMul rho b) x.q)

def countTrue (l : List Bool) : Nat := (l.filter id).length

/-- A bit of the lane control image as the programs of the last row left it. -/
def controlBit (mem : Mem) (v : Nat) : Bool := decide (v < 2048) && areaBit mem 9 v

/-- A lane that is not enabled. -/
def Lane.disable (x : Lane) : Lane :=
  { x with p := false, latch := false, h := [], inv := 0, rate := [], out := false, valid := false, status := 0,
           reset := false }

/-- A lane as row R finds it: cleared in the first row after an enable (R226). -/
def Lane.begin (x : Lane) (R : Nat) : Lane :=
  match x.fresh with
  | some k => if k ≤ R then { x.disable with fresh := none } else x
  | none => x

/-- One lane in one row (R222, R223, R225). The last 16 quantities are kept in a blocked row too, which still fetches (log 17). -/
def State.evalLane (r : Row) (l : Nat) (s : State) : State :=
  let m := r.cfg
  let i := laneIndex l
  let x0 := (s.lane l).begin r.num
  let x := if r.disc then { x0 with h := [], rate := [] } else x0
  let q := s.laneQuantity r (cfgN m i 2) (cfgN m i 3)
  let rate := if q.valid then (q.q :: x.rate).take 16 else []
  let s1 := if q.valid then s else s.countReg i 0x16 1
  let qi := 32 * boolNat (!q.valid)
  if controlBit s.mem (cfgN m i 0x0F) then
    s1.setLane l { x with p := false, latch := false, h := [], inv := 0, rate := rate, out := false, valid := q.valid,
                          status := qi + 16, value := q.q, reset := false }
  else
    let policy := cfgN m i 0x0E
    let n := cfgN m i 0x0B
    let y : Lane :=
      if !q.valid then
        let inv := x.inv + 1
        if policy = 1 then { x with inv := inv, h := [], rate := rate, p := false, latch := false }
        else if 2 ≤ inv then { x with inv := inv, h := [], rate := rate, p := false }
        else { x with inv := inv, h := [], rate := rate }
      else
        let (pick, hold) := laneTests m i s.grid q x.rate
        let h := ((pick || (x.p && hold)) :: x.h).take n
        { x with inv := 0, h := h, rate := rate, p := decide (cfgN m i 0x0C ≤ countTrue h) }
    let reset := x.reset || controlBit s.mem (cfgN m i 0x10)
    let latch := if y.p && decide (cfgN m i 0x0D ≠ 0) then true else if reset then false else y.latch
    let out := y.p || latch
    let held := !q.valid && policy == 0 && y.inv == 1
    let status := qi + 16 * boolNat (!q.valid && policy == 1) + 8 * boolNat latch + 4 * boolNat y.p + 2 * boolNat out +
      boolNat held
    let rise := y.p && !x.p
    let s2 := s1.setLane l { y with latch := latch, out := out, valid := q.valid, status := status, value := q.q,
                                    reset := false, pickRow := if rise then r.num else x.pickRow }
    if rise then s2.countReg i 0x14 1 else s2

/-- The bytes of the trip lane image (R220): outputs, then validity bits. -/
def laneImage (lanes : Map Lane) : ByteList :=
  let bits := fun (g : Lane → Bool) =>
    (List.range 128).map fun k => byteOf ((List.range 8).foldl (fun n j =>
      match mapFind lanes (8 * k + j) with
      | some x => if g x then n + 2 ^ j else n
      | none => n) 0)
  bits (·.out) ++ bits (·.valid)

/-- Step f of a row: every lane, then the image. -/
def State.evalLanes (s : State) (r : Row) : State :=
  let on := enabledLanes r.cfg
  let s1 := { s with goose := { s.goose with
    lanes := s.goose.lanes.map fun p => if on.contains p.1 then p else (p.1, p.2.disable) } }
  let s2 := applyAll (State.evalLane r) on s1
  { s2 with mem := memWriteList s2.mem (logicBase + areaOffset 0) (laneImage s2.goose.lanes) }

/-! ### Checks of writes (R226) -/

/-- Quantity and characteristic go together (Table 9.2). -/
def lanePair (q c : Nat) : Bool := if q = 9 then c == 3 else decide (c ≤ 2)

/-- The source lies in the range of the quantity (Table 9.1). -/
def laneSource (q src : Nat) : Bool :=
  if q ≤ 2 then decide (src < 8192) else if q ≤ 5 then decide (src < 2048)
  else if q ≤ 9 then decide (src < 512) else decide (src < 32)

/-- The conditions for 0x0603 and 0x0604 over a register map. -/
def laneSettingsCode (m : Map Int) (l : Nat) : Nat :=
  let i := laneIndex l
  if cfgN m i 0x0B < cfgN m i 0x0C ∨ fLt (cfgN m i 8) (cfgN m i 7) = true ∨ fLt 0 (cfgN m i 9) = false then 0x0603
  else if cfgN m i 4 = 2 ∧ fIsZero (cfgN m i 5) = true then 0x0604
  else 0

def State.laneEnableCode (s : State) (l : Nat) : Nat :=
  let m := s.regs
  let i := laneIndex l
  if !lanePair (cfgN m i 2) (cfgN m i 4) then 0x0601
  else if !laneSource (cfgN m i 2) (cfgN m i 3) then 0x0602
  else laneSettingsCode m l

/-- A write of 1 to :01 clears the lane from the rows of the next tick boundary on (R226). -/
def State.laneFresh (s : State) (l : Nat) : State := s.setLane l { s.lane l with fresh := some s.lens.next }

/-- A write of 1 to :11 acts as a reset bit at the next row (R224). -/
def State.laneReset (s : State) (l : Nat) : State := s.setLane l { s.lane l with reset := true }

end Sys2Proof.Machine
end

