-- ==== Sys2Proof/Machine/GooseUnit.lean ====
section
/-! DEFINITION. The GOOSE engine (R228 to R243): frames, states, the retransmission curve, submissions and
subscriptions. -/

namespace Sys2Proof.Machine

def Publisher.idle : Publisher :=
  { on := false, started := false, stNum := 0, sqNum := 0, t := 0, values := [], changed := [], k := 0, next := 0,
    tal := 0, submitted := false, queue := [], mirrored := none, modeChange := false, row := none,
    frame := [] }

def State.pub (s : State) (p : Nat) : Publisher := mapGet s.goose.pubs p Publisher.idle
def State.setPub (s : State) (p : Nat) (x : Publisher) : State :=
  { s with goose := { s.goose with pubs := mapPut p x s.goose.pubs } }

def pubIndex (p : Nat) : Nat := 0x5800 + p

def State.pubReg (s : State) (p sub : Nat) : Nat := s.regN (pubIndex p) sub

/-- Owner: 0xFFFF scheme logic, otherwise a facet. -/
def State.pubOwner (s : State) (p : Nat) : Nat := s.pubReg p 2

def State.pubMember (s : State) (p m : Nat) : Nat := s.pubReg p (0x20 + m)
def pmKind (d : Nat) : Nat := bitsAt d 29 3
def pmSource (d : Nat) : Nat := bitsAt d 0 13
def pmReserved (d : Nat) : Nat := bitsAt d 13 16

def State.pubCount (s : State) (p : Nat) : Nat := s.pubReg p 0x12

/-- Members of KIND 0, 1 and 4 carry values; the others follow them. -/
def carries (k : Nat) : Bool := k == 0 || k == 1 || k == 4

/-- The value of member m from the publish image or the lanes (Table 9.6). -/
def State.imageValue (s : State) (d : Nat) : Nat :=
  match pmKind d with
  | 0 => boolNat (areaBit s.mem 8 (pmSource d))
  | 1 => boolNat (areaBit s.mem 8 (pmSource d)) + 2 * boolNat (areaBit s.mem 8 (pmSource d + 1))
  | 4 => (s.lane (pmSource d)).value
  | _ => 0

def State.pubDescs (s : State) (p : Nat) : List Nat := (List.range (s.pubCount p)).map (s.pubMember p)

/-- Member values of a publisher owned by scheme logic as the image stands. -/
def State.imageValues (s : State) (p : Nat) : List Nat := (s.pubDescs p).map s.imageValue

/-! ### Encoding (R228, R229, Tables 9.5 and 9.6) -/

/-- Definite-length BER. -/
def ber (tag : Nat) (content : ByteList) : ByteList :=
  let n := content.length
  let len := if n < 128 then [byteOf n] else if n < 256 then [byteOf 0x81, byteOf n]
    else [byteOf 0x82, byteOf (n / 256), byteOf (n % 256)]
  byteOf tag :: len ++ content

/-- A non-negative integer in the fewest octets. -/
def berNat (n : Nat) : ByteList :=
  let w := Nat.max 1 (bitLength n / 8 + 1)
  beBytes w n

/-- UtcTime of an NS64 time base time: seconds and 2^-24 s less the UTC offset, and the quality octet. -/
def State.utcTime (s : State) (t : Nat) : ByteList :=
  let sec := ((t / 1000000000 : Nat) : Int) - s.time.utc
  let q := 128 * boolNat (s.time.gm != 0) + (if s.inSpec then 20 else 32 + 31)
  beBytes 4 (toBits 32 sec) ++ beBytes 3 (t % 1000000000 * 16777216 / 1000000000) ++ [byteOf q]

/-- Member m in allData. -/
def State.encodeMember (s : State) (p : Nat) (x : Publisher) (m : Nat) : ByteList :=
  let d := s.pubMember p m
  let v := x.values.getD m 0
  match pmKind d with
  | 0 => [byteOf 0x83, byteOf 1, byteOf (boolNat (v != 0))]
  | 1 => [byteOf 0x84, byteOf 2, byteOf 6, byteOf (v % 4 * 64)]
  | 2 =>
    let q := s.pubMember p (pmSource d)
    let bad := (pmKind q == 4 && s.pubOwner p == 0xFFFF && !(s.lane (pmSource q)).valid) ||
      (s.pubOwner p != 0xFFFF && !x.submitted)
    [byteOf 0x84, byteOf 3, byteOf 3, byteOf (64 * boolNat bad), byteOf (16 * boolNat (s.pubReg p 0x10 != 0))]
  | 3 => [byteOf 0x91, byteOf 8] ++ s.utcTime (x.changed.getD (pmSource d) 0)
  | 4 => [byteOf 0x87, byteOf 5, byteOf 8] ++ beBytes 4 v
  | _ => []

/-- The goosePdu. -/
def State.goosePdu (s : State) (p : Nat) (x : Publisher) : ByteList :=
  let i := pubIndex p
  let goId := if (s.blob i 0x0B).isEmpty then s.blob i 9 else s.blob i 0x0B
  ber 0x61
    (ber 0x80 (s.blob i 9) ++ ber 0x81 (berNat x.tal) ++ ber 0x82 (s.blob i 0x0A) ++ ber 0x83 goId ++
     ber 0x84 (s.utcTime x.t) ++ ber 0x85 (berNat x.stNum) ++ ber 0x86 (berNat x.sqNum) ++
     ber 0x87 [byteOf (boolNat (s.pubReg p 0x11 != 0))] ++ ber 0x88 (berNat (s.pubReg p 0x0C)) ++ ber 0x89 [byteOf 0] ++
     ber 0x8A (berNat (s.pubCount p)) ++ ber 0xAB ((List.range (s.pubCount p)).flatMap (s.encodeMember p x)))

/-- The frame of a publisher without its FCS (R228); Length counts from APPID (PRESUMED, log 8). -/
def State.gooseFrame (s : State) (p : Nat) (x : Publisher) : ByteList :=
  let i := pubIndex p
  let pdu := s.goosePdu p x
  let vlan := s.pubReg p 5
  s.blob i 4 ++ beBytes 6 Config.ownMac ++
    (if vlan = 0 then [] else [byteOf 0x81, byteOf 0] ++ beBytes 2 (s.pubReg p 6 * 8192 + vlan)) ++
    [byteOf 0x88, byteOf 0xB8] ++ beBytes 2 (s.pubReg p 8) ++ beBytes 2 (8 + pdu.length) ++
    beBytes 2 (32768 * boolNat (s.pubReg p 0x11 != 0)) ++ beBytes 2 0 ++ pdu

/-- Bytes of the longest frame of a publisher, with its FCS: every number at its widest. -/
def State.longestFrame (s : State) (p : Nat) : Nat :=
  let x : Publisher := { s.pub p with stNum := 2 ^ 32 - 1, sqNum := 2 ^ 32 - 1, tal := 240000 }
  (s.gooseFrame p x).length + 4

/-! ### States and frames (R230 to R234) -/

/-- 1 follows 4,294,967,295. -/
def nextNum (n : Nat) : Nat := if n = 2 ^ 32 - 1 then 1 else n + 1

/-- The interval to the next frame in ms. -/
def State.curve (s : State) (p k : Nat) : Nat := Nat.min (s.pubReg p 0x0D * 2 ^ Nat.min k 20) (s.pubReg p 0x0E)

/-- A frame is built (R232): sent through P51 while the module is LIT, and otherwise discarded and counted (R234). -/
def State.sendFrame (s : State) (p : Nat) (x : Publisher) : State :=
  let i := s.curve p x.k
  let y := { x with tal := s.pubReg p 0x0F * i, next := s.mono + 1000000 * i }
  if s.driven then (s.setPub p { y with frame := s.gooseFrame p y }).countReg (pubIndex p) 0x16 1
  else (s.setPub p y).countReg (pubIndex p) 0x18 1

/-- A new state with its time: stNum advances, sqNum is 0, and the curve starts again. -/
def State.newState (s : State) (p : Nat) (x : Publisher) (values : List Nat) (t : Nat) : State :=
  let changed := (List.range values.length).map fun m =>
    if values.getD m 0 = x.values.getD m 0 then x.changed.getD m 0 else t
  let y := { x with stNum := nextNum x.stNum, sqNum := 0, t := t, values := values, changed := changed, k := 0,
                    modeChange := false }
  (s.sendFrame p y).countReg (pubIndex p) 0x17 1

/-- A publisher of scheme logic whose members changed makes a new state, at most one in a row (R230). A row with no
number is the cycle of a program of another class. -/
def State.scanPub (row : Option Nat) (t : Nat) (p : Nat) (s : State) : State :=
  let x := s.pub p
  let v := s.imageValues p
  if x.on && s.pubOwner p == 0xFFFF && decide (v ≠ x.values) && (row.isNone || x.row != row) then
    s.newState p { x with row := row } v t
  else s

/-- Publishers in the order of building: trip publishers, then the others, each ascending. -/
def State.pubOrder (s : State) : List Nat :=
  let ks := mapKeys s.goose.pubs
  (ks.filter fun p => s.pubReg p 3 != 0) ++ ks.filter fun p => s.pubReg p 3 == 0

/-- The engine examines the publish image after a cycle's write, or the lanes after step f (R230). While safe hold
freezes the delivery of the images, no frame changes (R374). -/
def State.scanPubs (s : State) (row : Option Nat) (t : Nat) : State :=
  if s.pair.safeHold.isSome then s else applyAll (State.scanPub row t) s.pubOrder s

/-- A trip program runs in the row: the frames of the row are then built after its publish image write (R230). -/
def State.tripDue (s : State) : Bool :=
  s.logic.progs.any fun q => match q.2.image with
    | some i => i.cls == 0 && i.flags % 2 == 1 && (q.2.state == 2 || q.2.startDue)
    | none => false

/-- A retransmission falls due (R231, R232). A change of :10 or :11 is a new state at this frame; the spec gives it no
time t, which is free (log 3). -/
def State.retransmit (s0 : State) (p : Nat) : State :=
  let x := s0.pub p
  if !x.on then s0
  else
    let late := decide (x.next + 10000 < s0.mono)
    let s1 := s0.advanceMono (x.next - s0.mono)
    let s := if late then s1.countReg (pubIndex p) 0x1A 1 else s1
    if x.modeChange then s.nextFree.newState p x x.values s.free
    else s.sendFrame p { x with sqNum := nextNum x.sqNum, k := x.k + 1 }

/-- Queued submissions are taken while the publisher can build frames (R235); t of a state is the time at which its
submission was accepted (R231). -/
def takeSubmissions (p : Nat) : List (Nat × List Nat) → State → State
  | [], s => s
  | (t, v) :: l, s =>
    let x := { s.pub p with queue := l, submitted := true }
    let s1 := s.setPub p x
    takeSubmissions p l (if v = x.values then s1 else s1.newState p x v t)

/-- Values of a facet-owned publisher before the first submission: FALSE, intermediate, 0.0. -/
def State.startValues (s : State) (p : Nat) : List Nat :=
  if s.pubOwner p = 0xFFFF then s.imageValues p else (s.pubDescs p).map fun _ => 0

/-- A publisher is enabled (R231, R236). -/
def State.pubOn (s : State) (p : Nat) : State :=
  let x := s.pub p
  let v := s.startValues p
  let y := { x with on := true, started := true, stNum := if x.started then nextNum x.stNum else 1, sqNum := 0,
                    t := s.now, values := v, changed := v.map fun _ => s.now, k := 0, submitted := false,
                    modeChange := false }
  let s1 := s.sendFrame p y
  takeSubmissions p (s1.pub p).queue s1

/-- A publisher is disabled: queued submissions are discarded and counted. -/
def State.pubOff (s : State) (p : Nat) : State :=
  let x := s.pub p
  let s1 := s.setPub p { x with on := false, queue := [] }
  if x.queue.isEmpty then s1 else s1.countReg (pubIndex p) 0x19 x.queue.length

def destinationOk (mac : ByteList) : Bool := mac.length == 6 && (beNat mac / 2 ^ 40).testBit 0

/-- A member descriptor is in range (R236). -/
def State.memberOk (s : State) (p m : Nat) : Bool :=
  let d := s.pubMember p m
  let refers := fun (q : Nat) => decide (q < s.pubCount p) && carries (pmKind (s.pubMember p q))
  match pmKind d with
  | 0 => decide (pmSource d < 8192)
  | 1 => decide (pmSource d < 8191) && pmSource d % 2 == 0
  | 2 => decide (pmSource d < 32) && refers (pmSource d)
  | 3 => decide (pmSource d < 32) && refers (pmSource d)
  | 4 => decide (pmSource d < 1024)
  | _ => false

def State.pubEnableCode (s : State) (p : Nat) : Nat :=
  let i := pubIndex p
  if (s.blob i 9).isEmpty ∨ (s.blob i 0x0A).isEmpty then 0x060C
  else if (List.range (s.pubCount p)).all (s.memberOk p) = false ∨ destinationOk (s.blob i 4) = false then 0x0606
  else if s.pubReg p 0x0E < s.pubReg p 0x0D then 0x060B
  else if 1536 < s.longestFrame p then 0x0605
  else 0

/-- The frame that each enabled publisher sends as the module becomes LIT (R234). -/
def State.takeoverFrame (p : Nat) (s : State) : State :=
  let x := s.pub p
  if !x.on then s
  else
    match x.mirrored with
    | some m =>
      let y := { x with stNum := m.stNum, sqNum := m.sqNum, k := m.k }
      if x.values = m.values then s.sendFrame p { y with sqNum := nextNum m.sqNum, t := m.t }
      else s.newState p { y with values := m.values } x.values x.t
    | none => s.newState p x x.values x.t

def State.takeoverFrames (s : State) : State := applyAll State.takeoverFrame s.pubOrder s

/-- What a SHADE takes of a mirrored publisher (R234). -/
def State.mirrorPub (m : PubMirror) (s : State) : State :=
  let x := s.pub m.pub
  s.setPub m.pub { x with mirrored := some m, stNum := m.stNum, sqNum := m.sqNum, k := m.k,
                          started := true }

/-! ### Submissions (R235, Table 12.7) -/

/-- The staged value of member m of KIND k. -/
def Facet.staged (f : Facet) (k m : Nat) : Nat :=
  match k with
  | 0 => bitsAt f.gooseBits (2 * m) 1
  | 1 => bitsAt f.gooseBits (2 * m) 2
  | 4 => bitsAt (mapGet f.gooseF (m / 2) 0) (32 * (m % 2)) 32
  | _ => 0

/-- A facet submits its staging registers to a publisher. -/
def State.submit (s : State) (n p : Nat) : State :=
  let f := s.facet n
  let result := fun (c : Nat) (t : State) =>
    t.setFacet n { t.facet n with gooseResult := p * 2 ^ 32 + c }
  let x := s.pub p
  if s.pubOwner p ≠ n then result 0x0607 s
  else if 4 ≤ x.queue.length then result 0x0608 (s.countReg (pubIndex p) 0x19 1)
  else
    let v := (enumFrom' 0 (s.pubDescs p)).map fun d => f.staged (pmKind d.1) d.2
    let s1 := s.setPub p { x with queue := x.queue ++ [(s.now, v)] }
    result 0 (if x.on then takeSubmissions p (s1.pub p).queue s1 else s1)

/-- A facet's queued submissions are dropped (R235). -/
def State.dropSubmissions (s : State) (n : Nat) : State :=
  applyAll (fun p s => if s.pubOwner p = n then s.setPub p { s.pub p with queue := [] } else s) (mapKeys s.goose.pubs) s

/-! ### Subscriptions (R238 to R242) -/

def Sub.idle : Sub := { state := 0, lastSt := 0, lastSq := 0, deadline := 0, usingSim := false }

def State.sub (s : State) (n : Nat) : Sub := mapGet s.goose.subs n Sub.idle
def State.setSub (s : State) (n : Nat) (x : Sub) : State :=
  { s with goose := { s.goose with subs := mapPut n x s.goose.subs } }

def subIndex (n : Nat) : Nat := 0x6000 + n

def State.subReg (s : State) (n k : Nat) : Nat := s.regN (subIndex n) k
def State.subDesc (s : State) (n m : Nat) : Nat := s.subReg n (0x10 + m)
def smUsed (d : Nat) : Bool := d.testBit 31
def smType (d : Nat) : Nat := bitsAt d 29 2
def smEntry (d : Nat) : Nat := bitsAt d 22 7
def smHasQ (d : Nat) : Bool := d.testBit 21
def smQEntry (d : Nat) : Nat := bitsAt d 14 7
def smSubst (d : Nat) : Nat := if smType d = 0 then bitsAt d 0 1 else bitsAt d 0 2

/-- The 64 bits of a subscription in the GOOSE input image. -/
def ginAddr (n : Nat) : Nat := logicBase + areaOffset 1 + 8 * n
def State.ginWord (s : State) (n : Nat) : Nat := leNat (memReadList s.mem (ginAddr n) 8)
def State.setGin (s : State) (n w : Nat) : State := { s with mem := memWriteList s.mem (ginAddr n) (leBytes 8 w) }

/-- Nibble of a member: value, VALID, TEST (R241); the flag tells a type mismatch. DESIGN CHOICE (log 23): a member of the wrong
type keeps its value bits. -/
def memberNibble (d old : Nat) (accept : Bool) (data : List GooseData) : Nat × Bool :=
  let value := match data[smEntry d]? with
    | some (.boolean v) => if smType d = 0 then some (boolNat v) else none
    | some (.dbpos v) => if smType d = 1 then some (v % 4) else none
    | _ => none
  let (good, test, qOk) :=
    if smHasQ d then
      match data[smQEntry d]? with
      | some (.quality v t) => (v == 0, t, true)
      | _ => (false, false, false)
    else (true, false, true)
  let ok := value.isSome && qOk
  let valid := ok && good && (!test || accept)
  (value.getD (old % 4) + 4 * boolNat valid + 8 * boolNat test, !ok)

/-- The members are applied with one store. -/
def State.applySub (s : State) (n : Nat) (data : List GooseData) : State :=
  let old := s.ginWord n
  let accept := s.subReg n 8 != 0
  let cells := (List.range (s.subReg n 7)).map fun m =>
    let d := s.subDesc n m
    if smUsed d then memberNibble d (bitsAt old (4 * m) 4) accept data else (0, false)
  let w := (enumFrom' 0 cells).foldl (fun a p => a + p.1.1 * 2 ^ (4 * p.2)) 0
  let bad := (cells.filter (·.2)).length
  let s1 := s.setGin n w
  if bad = 0 then s1 else s1.countReg (subIndex n) 0x27 bad

/-- VALID cleared in every member, and the values substituted or kept (R240). -/
def State.releaseSub (s : State) (n : Nat) : State :=
  let old := s.ginWord n
  let hold := s.subReg n 0x0A != 0
  let w := (List.range 16).foldl (fun a m =>
    let d := s.subDesc n m
    let nib := bitsAt old (4 * m) 4
    let v := if smUsed d && !hold && decide (m < s.subReg n 7) then smSubst d else nib % 4
    a + (v + 8 * (nib / 8)) * 2 ^ (4 * m)) 0
  s.setGin n w

/-- The first of checks 3 to 5 that the message fails, by its counter (Table 9.8). -/
def State.gooseCheck (s : State) (n : Nat) (g : GooseMsg) : Option Nat :=
  let i := subIndex n
  let sim := s.regN 0x47F0 5 != 0
  let blobOk := fun (k : Nat) (v : ByteList) => (s.blob i k).isEmpty || s.blob i k == v
  if g.gocbRef ≠ s.blob i 2 ∨ blobOk 3 g.goId = false ∨ blobOk 4 g.datSet = false then some 0x27
  else if g.confRev ≠ s.subReg n 5 ∨ g.ndsCom = true ∨ g.numEntries ≠ s.subReg n 6 then some 0x27
  else if (g.simulation && !sim) || (!g.simulation && sim && (s.sub n).usingSim) then some 0x28
  else none

/-- A message that passes checks 1 to 6 (R239): a new state, a refresh, or one out of order. -/
def State.gooseState (s : State) (n : Nat) (g : GooseMsg) : State :=
  let i := subIndex n
  let y := s.sub n
  let deadline := s.mono + 1000000 * (g.tal + s.subReg n 9)
  if y.state = 1 ∨ y.state = 3 ∨ g.stNum ≠ y.lastSt then
    let back := y.state == 2 && decide (2 ^ 31 ≤ (g.stNum + 2 ^ 32 - y.lastSt) % 2 ^ 32)
    let s1 := if back then s.countReg i 0x2A 1 else s
    let s2 := (s1.applySub n g.data).setSub n { y with lastSt := g.stNum, lastSq := g.sqNum, state := 2, deadline := deadline }
    (s2.countReg i 0x24 1).countReg i 0x23 1
  else
    let d := (g.sqNum + 2 ^ 32 - y.lastSq) % 2 ^ 32
    if 1 ≤ d ∧ d < 2 ^ 31 then (s.setSub n { y with lastSq := g.sqNum, deadline := deadline }).countReg i 0x23 1
    else (s.setSub n y).countReg i 0x29 1

/-- A frame at P51 for subscription n (Table 9.8). The first frame with the simulation bit that passes check 5 turns the
subscription to simulated frames (R180). -/
def State.subFrame (s : State) (n : Nat) (fr : GooseFrame) : State :=
  let i := subIndex n
  if (s.sub n).state = 0 then s
  else
    match if pduLengthOk fr.pdu then gooseRead fr.pdu else none with
    | none => s.countReg i 0x26 1
    | some g =>
      match s.gooseCheck n g with
      | some c => s.countReg i c 1
      | none =>
        let x := s.sub n
        let s1 := s.setSub n { x with usingSim := s.regN 0x47F0 5 != 0 && (x.usingSim || g.simulation) }
        if fr.tailGood then s1.gooseState n g else s1.portCount 51 0x1C 1

/-- The deadline passes (R240). -/
def State.subTimeout (s0 : State) (n : Nat) : State :=
  let x := s0.sub n
  if x.state ≠ 2 then s0
  else
    let s := s0.advanceMono (x.deadline - s0.mono)
    let s1 := (s.releaseSub n).setSub n { x with state := 3 }
    (s1.countReg (subIndex n) 0x2B 1).logRec 0x0601 1 noFacet 0 n (leBytes 4 x.lastSt)

def State.subEnableCode (s : State) (n : Nat) : Nat :=
  let bad := (List.range (s.subReg n 7)).any fun m =>
    let d := s.subDesc n m
    smUsed d && (decide (s.subReg n 6 ≤ smEntry d) || (smHasQ d && decide (s.subReg n 6 ≤ smQEntry d)))
  if !s.identified 1 n then 0x060A
  else if bad then 0x0609
  else if (s.blob (subIndex n) 2).isEmpty then 0x060C
  else 0

/-- Waiting, with every VALID at 0. -/
def State.subOn (s : State) (n : Nat) : State :=
  let w := s.ginWord n
  let v := (List.range 16).foldl (fun a m => a + withBit (bitsAt w (4 * m) 4) 2 false * 2 ^ (4 * m)) 0
  (s.setGin n v).setSub n { s.sub n with state := 1, usingSim := false }

def State.subOff (s : State) (n : Nat) : State :=
  let x := s.sub n
  if x.state = 0 then s else (s.releaseSub n).setSub n { x with state := 0 }

end Sys2Proof.Machine
end

