-- ==== Sys2Proof/Machine/Goose.lean ====
section
/-! DEFINITION. The meanings of the commands of chapter 9 that are events: the row sealed event with the trip lanes,
retransmissions, submissions, subscribed frames and their time-out. -/

namespace Sys2Proof.Machine

/-- The row sealed event (R17): posted to the dispatch unit, then the trip lanes run (R220, R223) and publishers with
lane values are examined (R230), here or, in a row with a trip program, after its publish image write (log 8). -/
def opRowSealed (s : State) : State :=
  s.when (s.domOn 7 && !s.phasor.posted) fun s =>
    match s.phasor.row with
    | none => s
    | some r =>
      let s1 := { s with phasor := { s.phasor with posted := true } }
      let s2 := (s1.postAll 0 r.num).evalLanes r
      if s2.tripDue then s2 else s2.scanPubs (some r.num) r.inst

def execRowSealed (s : State) : Host.Outcome State Fault Refusal := checked .rowSealed (opRowSealed s)

/-- A publisher's interval ends (R232). -/
def opRetransmission (p : Nat) (s : State) : State := s.when (s.domOn 7) fun s => s.retransmit p

def execRetransmission (p : Nat) (s : State) : Host.Outcome State Fault Refusal :=
  checked (.retransmission p) (opRetransmission p s)

/-- A facet writes GOOSE_SUBMIT (Table 12.7, R235): the publisher stands in bits [8:0]. -/
def opGooseSubmit (f v : Nat) (s : State) : State :=
  s.when (s.domOn 7 && (s.facet f).live) fun s => s.submit f (v % 512)

def execGooseSubmit (f v : Nat) (s : State) : Host.Outcome State Fault Refusal :=
  checked (.gooseSubmit f v) (opGooseSubmit f v s)

/-- A GOOSE frame at P51 (R238): its stream identification entry names the subscription. -/
def opGooseFrame (fr : GooseFrame) (s : State) : State :=
  s.when (s.domOn 7) fun s =>
    match mapFind s.fabric.streamTab fr.entry with
    | some e => if stKind e = 1 then s.subFrame (stHandle e) fr else s
    | none => s

def execGooseFrame (fr : GooseFrame) (s : State) : Host.Outcome State Fault Refusal :=
  checked (.gooseFrame fr) (opGooseFrame fr s)

/-- A subscription's deadline passes (R240). -/
def opSubscriptionTimeout (n : Nat) (s : State) : State := s.when (s.domOn 7) fun s => s.subTimeout n

def execSubscriptionTimeout (n : Nat) (s : State) : Host.Outcome State Fault Refusal :=
  checked (.subscriptionTimeout n) (opSubscriptionTimeout n s)

end Sys2Proof.Machine
end

