-- ==== Sys2Proof/Machine/LogicImage.lean ====
section
/-! DEFINITION. Program images (chapter 10): the library blocks' pins and costs, parsing (R267), verification (R268)
and worst-case cost (R265). Layouts that R267 leaves open are the model's (log 9). -/

namespace Sys2Proof.Machine

/-! ### Library blocks: pins and costs (Table 10.6)

Pin types: 0 BOOL, 1 I32, 2 F32, 3 TIME. -/

def pinsB (n : Nat) : List Nat := List.replicate n 0

/-- Input pins, output pins and cost of a library block. -/
def blockSig (n : Nat) : Option (List Nat × List Nat × Nat) :=
  match n with
  | 1 | 2 | 3 => some ([0, 3], [0, 3], 3)
  | 4 | 5 => some ([0], [0], 2)
  | 6 | 7 => some ([0, 0, 1], [0, 1], 3)
  | 8 => some ([0, 0, 0, 0, 1], [0, 0, 1], 4)
  | 9 | 10 => some ([0, 0], [0], 2)
  | 11 => some ([0, 0, 3], [0, 3], 3)
  | 12 | 13 | 16 => some ([0, 3], [0], 3)
  | 14 => some ([0, 0], [0], 2)
  | 15 => some ([0, 3, 3], [0], 3)
  | 17 | 18 | 19 => some (pinsB 8, [0], 3)
  | 20 => some (pinsB 16 ++ [1], [0, 1], 4)
  | 21 => some (pinsB 3, [0, 0], 2)
  | 22 => some (1 :: pinsB 8, [0], 3)
  | 23 => some ([1, 0], pinsB 8, 3)
  | 24 => some (pinsB 8, [1, 0], 3)
  | 25 => some (pinsB 32, [1], 6)
  | 26 => some ([1], pinsB 32, 6)
  | 27 => some ([1, 1], [0], 2)
  | 28 => some ([1], [1], 2)
  | 29 | 30 | 31 | 36 | 37 => some ([1, 1], [1], 3)
  | 32 | 33 => some ([1, 1], [1], 12)
  | 34 | 35 => some ([1], [1], 2)
  | 38 => some ([1, 1, 1], [1], 3)
  | 39 | 40 | 41 | 42 | 43 => some ([1, 1], [1], 2)
  | 44 => some ([1, 1], pinsB 6, 3)
  | 45 | 46 | 47 => some ([2, 2], [2], 4)
  | 48 => some ([2, 2], [2], 14)
  | 49 | 50 => some ([2], [2], 2)
  | 51 | 52 => some ([2, 2], [2], 4)
  | 53 => some ([2, 2, 2], [2], 4)
  | 54 => some ([2, 2, 2], pinsB 3, 4)
  | 55 => some ([2], [2], 16)
  | 56 => some ([1], [2], 3)
  | 57 => some ([2], [1], 3)
  | 58 => some ([2, 2, 2], [0], 4)
  | 59 => some ([2, 2, 2], [2], 4)
  | 60 => some ([2, 0], [2], 6)
  | 61 => some (pinsB 2, pinsB 4, 2)
  | 62 => some (pinsB 2, pinsB 2, 2)
  | 63 => some ([0, 0, 3], pinsB 3, 4)
  | 64 => some ([1, 1], pinsB 4, 3)
  | 65 => some ([1], pinsB 3, 3)
  | 66 | 67 => some (pinsB 3, [0], 2)
  | 68 => some ([0, 0, 3], pinsB 2, 3)
  | 69 | 70 => some ([0, 0, 0, 3], pinsB 2, 6)
  | 71 => some ([0, 0, 0, 3], pinsB 2, 5)
  | 72 => some ([0, 0, 0, 3, 3], pinsB 2, 6)
  | 73 => some ([0, 0, 0, 0, 3, 3, 3, 3, 3, 1], [0, 0, 1, 0], 12)
  | 74 | 78 => some (pinsB 16 ++ [1], [0], 4)
  | 75 => some (pinsB 2, [0], 2)
  | 76 => some ([0, 0, 3], [0], 4)
  | 77 => some ([0, 0, 0, 3], pinsB 3, 5)
  | 79 => some ([0, 3], [0], 3)
  | 80 => some ([0, 0, 3], pinsB 4, 4)
  | 81 => some (pinsB 4, pinsB 3, 4)
  | 82 => some (pinsB 3, [0], 2)
  | 83 => some ([1, 0], pinsB 2, 3)
  | 84 => some ([0, 0, 3], pinsB 2, 4)
  | 85 | 88 | 89 => some ([1], [2, 0], 4)
  | 86 | 87 => some ([1], [2, 0], 3)
  | 90 => some ([], [1], 2)
  | 91 => some ([], [1, 1], 2)
  | 92 => some ([0, 1], [0], 3)
  | 93 => some (pinsB 2, [1], 3)
  | 94 => some (pinsB 2, [3], 3)
  | 95 => some ([], [3, 0], 2)
  | 96 => some ([1], [0], 2)
  | _ => none

/-- Bytes of the state of a library instance (R364): those of FAVG16 and ARC are longer. -/
def stateBytes (n : Nat) : Nat := if n = 60 then 68 else if n = 73 then 16 else 8

def roundUp8 (n : Nat) : Nat := (n + 7) / 8 * 8

/-! ### Parsing (R267, Table 10.8) -/

def wordsOf : Nat → ByteList → List Nat
  | 0, _ => []
  | n + 1, b => leNat (b.take 4) :: wordsOf n (b.drop 4)

/-- A 64-byte entry of an instance table; its wiring and start values are filled in afterwards. -/
def parseInst (b : ByteList) : InstDesc × (Nat × Nat) × Bool :=
  ({ name := bytesAt b 0 32, typ := leAt b 32 2, flags := leAt b 34 2, offset := leAt b 36 4, size := leAt b 40 4,
     wiring := [], pt := 0, et := 0, q := 0, prev := 0, prevD := 0 },
   (leAt b 44 4, leAt b 48 2), (bytesAt b 50 14).all (· == byteOf 0))

/-- A 16-byte start value record: PT or PV, ET or CV, Q, PREV, PREV_D, 5 bytes 0. -/
def withStart (x : InstDesc) (b : ByteList) : InstDesc :=
  { x with pt := ofBits 32 (leAt b 0 4), et := ofBits 32 (leAt b 4 4), q := leAt b 8 1, prev := leAt b 9 1,
           prevD := leAt b 10 1 }

/-- Entries of a table of n instances. -/
def parseInsts : Nat → ByteList → List (InstDesc × (Nat × Nat) × Bool)
  | 0, _ => []
  | n + 1, b => parseInst (b.take 64) :: parseInsts n (b.drop 64)

def withStarts : List (InstDesc × (Nat × Nat) × Bool) → ByteList → List (InstDesc × (Nat × Nat) × Bool)
  | [], _ => []
  | (x, w) :: l, b => (withStart x (b.take 16), w) :: withStarts l (b.drop 16)

/-- Pins of a user type: type code and a name of 31 bytes each. -/
def parsePins : Nat → ByteList → List (Nat × ByteList)
  | 0, _ => []
  | n + 1, b => (leAt b 0 1, bytesAt b 1 31) :: parsePins n (b.drop 32)

/-- A user type table entry before its wiring is resolved: number U16, inputs U8, outputs U8, body words U16,
sub-instances U16, digest 8 bytes; then the pins, the body, the sub-instance table, and a start record for each. -/
structure RawType where
  number : Nat
  digest : ByteList
  inputs : List (Nat × ByteList)
  outputs : List (Nat × ByteList)
  body : List Nat
  subs : List (InstDesc × (Nat × Nat) × Bool)

def parseTypes : Nat → ByteList → List RawType × ByteList
  | 0, b => ([], b)
  | n + 1, b =>
    let ni := leAt b 2 1
    let no := leAt b 3 1
    let nb := leAt b 4 2
    let ns := leAt b 6 2
    let pins := b.drop 16
    let body := pins.drop (32 * (ni + no))
    let tab := body.drop (4 * nb)
    let starts := tab.drop (64 * ns)
    let t : RawType :=
      { number := leAt b 0 2, digest := bytesAt b 8 8, inputs := parsePins ni pins,
        outputs := parsePins no (pins.drop (32 * ni)), body := wordsOf nb body,
        subs := withStarts (parseInsts ns tab) starts }
    let (l, rest) := parseTypes n (starts.drop (16 * ns))
    (t :: l, rest)

/-- Bytes that the type table takes. -/
def typeBytes (b rest : ByteList) : Nat := b.length - rest.length

def wiringSlice (tab : ByteList) (w : Nat × Nat) : List Nat := wordsOf w.2 (tab.drop w.1)

def wire (tab : ByteList) (x : InstDesc × (Nat × Nat) × Bool) : InstDesc := { x.1 with wiring := wiringSlice tab x.2.1 }

def parseClaims : Nat → ByteList → List (Nat × Nat × Nat)
  | 0, _ => []
  | n + 1, b => (leAt b 0 1, leAt b 1 3, leAt b 4 4) :: parseClaims n (b.drop 8)

/-- Start values of claimed RET bits (packed) and RWD words, in claim order. -/
def claimStarts (space : Nat) (claims : List (Nat × Nat × Nat)) : List Nat :=
  claims.flatMap fun c => if c.1 = space then (List.range c.2.2).map (c.2.1 + ·) else []

def bitOfBytes (b : ByteList) (i : Nat) : Nat := boolNat ((leAt b (i / 8) 1).testBit (i % 8))

/-- The parsed image, and the bytes of its sections and signature block; none where header, lengths or section digest
are wrong (step 1 of R268). Claims are read first, because the start values follow them in length. -/
def parseImage (raw : ByteList) : Option (ProgImage × ByteList × ByteList) :=
  let h := raw.take 128
  let body := raw.drop 128
  let nCode := leAt h 18 2
  let nInst := leAt h 20 2
  let nType := leAt h 22 2
  let poolBytes := leAt h 32 4
  let nClaim := leAt h 36 4
  let code := wordsOf nCode body
  let b1 := body.drop (4 * nCode)
  let (types, b2) := parseTypes nType b1
  let rawInsts := parseInsts nInst b2
  let b3 := b2.drop (64 * nInst)
  let starts := b3.take (16 * nInst)
  let b4 := b3.drop (16 * nInst)
  let wires := (rawInsts.map (·.2.1) ++ types.flatMap fun t => t.subs.map (·.2.1)).foldl
    (fun m w => Nat.max m (w.1 + 4 * w.2)) 0
  let claimed := fun (k : Nat) =>
    -- bytes of RET and RWD start values when the claims lie k bytes on
    let cl := parseClaims nClaim (b4.drop k)
    (((claimStarts 7 cl).length + 7) / 8 + 4 * (claimStarts 17 cl).length)
  -- the claims stand at the end of the sections: before the signature block, whose magic follows them
  let total := (List.range (b4.length + 1)).find? fun e =>
    decide (leAt b4 e 4 = 0x47535A50 ∧ wires + poolBytes + 8 * nClaim ≤ e) &&
      claimed (e - 8 * nClaim) + wires + poolBytes + 8 * nClaim == e
  match total with
  | none => none
  | some e =>
    let claims := parseClaims nClaim (b4.drop (e - 8 * nClaim))
    let rets := claimStarts 7 claims
    let rwds := claimStarts 17 claims
    let retB := b4.take ((rets.length + 7) / 8)
    let b5 := b4.drop ((rets.length + 7) / 8)
    let b6 := b5.drop (4 * rwds.length)
    let wiring := b6.take wires
    let pool := b6.drop wires
    let sections := body.take (body.length - b4.length + e)
    let sig := b4.drop e
    let insts := (withStarts rawInsts starts).map (wire wiring)
    let img : ProgImage :=
      { raw := raw, number := leAt h 6 2, form := leAt h 8 1, cls := leAt h 9 1, period := leAt h 10 2,
        lp := leAt h 12 1, flags := leAt h 13 1, cost := leAt h 14 2, count := leAt h 16 2, instData := leAt h 24 4,
        retData := leAt h 28 4, name := bytesAt h 40 32, code := code,
        types := types.map fun t =>
          { number := t.number, digest := t.digest, inputs := t.inputs, outputs := t.outputs, body := t.body,
            subs := t.subs.map (wire wiring) },
        insts := insts, pool := wordsOf (poolBytes / 4) pool, claims := claims,
        retStart := (enumFrom' 0 rets).map fun p => (p.1, bitOfBytes retB p.2),
        rwdStart := (enumFrom' 0 rwds).map fun p => (p.1, leAt b5 (4 * p.2) 4),
        reserved := rawInsts.all (·.2.2) && types.all fun t => t.subs.all (·.2.2) }
    let periodOk := match img.cls with
      | 0 => img.period == 1
      | 1 => decide (1 ≤ img.period ∧ img.period ≤ 16)
      | 2 => decide (1 ≤ img.period ∧ img.period ≤ 1000)
      | 3 => decide (1 ≤ img.period ∧ img.period ≤ 60)
      | _ => false
    let headOk := decide (leAt h 0 4 = 0x4C535A50 ∧ leAt h 4 2 = 1 ∧ img.number < 1024 ∧ img.form ≤ 1 ∧ img.lp < 16 ∧
        img.flags ≤ 1 ∧ (img.flags = 0 ∨ img.cls = 0) ∧ 2 ≤ nCode ∧ nCode ≤ 16384 ∧ nInst ≤ 4096 ∧ nType ≤ 256 ∧
        poolBytes % 4 = 0 ∧ raw.length ≤ 1048576) &&
      periodOk && (bytesAt h 108 20).all (· == byteOf 0) && bytesAt h 76 32 == sha256 sections
    if headOk then some (img, raw.take (128 + sections.length), sig) else none

/-! ### Types, sizes and costs (R263 to R267) -/

def findType (types : List UserType) (n : Nat) : Option UserType := types.find? fun t => t.number == n

/-- Input and output pin types of an instance. -/
def sigOf (types : List UserType) (n : Nat) : Option (List Nat × List Nat) :=
  match blockSig n with
  | some (i, o, _) => some (i, o)
  | none => (findType types n).map fun t => (t.inputs.map (·.1), t.outputs.map (·.1))

/-- The data size of a library instance. -/
def libSize (n : Nat) : Option Nat :=
  match blockSig n with
  | some (i, o, _) => some (roundUp8 (stateBytes n + 4 * (i.length + o.length) + 4))
  | none => none

/-- The data size of an instance of a type, its sub-instances up to `depth` levels down. -/
def dataSize (types : List UserType) : Nat → Nat → Nat
  | 0, n => (libSize n).getD 0
  | d + 1, n =>
    match libSize n with
    | some k => k
    | none =>
      match findType types n with
      | none => 0
      | some t =>
        8 + 512 + 4 * ((t.inputs ++ t.outputs).filter fun p => p.1 != 0).length + 4 +
          t.subs.foldl (fun a x => a + dataSize types d x.typ) 0

/-- The number of levels that calls of a type nest. -/
def nestDepth (types : List UserType) : Nat → Nat → Nat
  | 0, _ => 0
  | d + 1, n =>
    match findType types n with
    | none => 0
    | some t => 1 + t.subs.foldl (fun a x => Nat.max a (nestDepth types d x.typ)) 0

def opOf (w : Nat) : Nat := bitsAt w 24 8
def areaOf (w : Nat) : Nat := bitsAt w 20 4
def indexOf (w : Nat) : Nat := bitsAt w 0 20
def instOf (w : Nat) : Nat := bitsAt w 0 16

def bitForm (op : Nat) : Bool := decide (0x10 ≤ op ∧ op ≤ 0x17) || decide (0x20 ≤ op ∧ op ≤ 0x23)
def storeForm (op : Nat) : Bool := decide (0x20 ≤ op ∧ op ≤ 0x23)
def instForm (op : Nat) : Bool :=
  op == 0x40 || op == 0x41 || decide (0x48 ≤ op ∧ op ≤ 0x4A) || decide (0x50 ≤ op ∧ op ≤ 0x53) || op == 0x70
def jumpForm (op : Nat) : Bool := decide (0x60 ≤ op ∧ op ≤ 0x62)
def plainForm (op : Nat) : Bool :=
  op == 0 || op == 1 || op == 0x18 || decide (0x30 ≤ op ∧ op ≤ 0x33) || op == 0x71

def knownOp (op : Nat) : Bool := bitForm op || instForm op || jumpForm op || plainForm op || op == 0x19

def areaCost (area : Nat) : Nat := if area = 1 ∨ area = 2 ∨ area = 4 ∨ area = 12 then 2 else 1

/-- Cost of one word, CAL apart (Table 10.4). -/
def wordCost (w : Nat) : Nat :=
  let op := opOf w
  if bitForm op then areaCost (areaOf w)
  else if op = 0x40 ∨ op = 0x41 ∨ op = 0x52 ∨ op = 0x53 ∨ jumpForm op = true then 2
  else if instForm op then 3
  else 1

/-- Costs from each word to the end, the longest path; `call` gives the cost of a CAL. Words before come in front. -/
def suffixCosts (call : Nat → Nat) : List Nat → Nat → List Nat
  | [], _ => []
  | w :: l, i =>
    let rest := suffixCosts call l (i + 1)
    let next := rest.headD 0
    let op := opOf w
    let target := rest.getD (instOf w - i - 1) 0
    let c :=
      if op = 0x60 then 2 + target
      else if op = 0x61 ∨ op = 0x62 then 2 + Nat.max target next
      else if op = 0x70 then call (instOf w) + next
      else wordCost w + next
    c :: rest

/-- Cost of a CAL of an instance of a type: Table 10.6, or 4 plus the worst case of the body. -/
def callCost (types : List UserType) : Nat → Nat → Nat
  | 0, n => match blockSig n with
    | some (_, _, c) => c
    | none => 4
  | d + 1, n =>
    match blockSig n with
    | some (_, _, c) => c
    | none =>
      match findType types n with
      | none => 4
      | some t =>
        4 + (suffixCosts (fun i => match t.subs[i]? with
          | some x => callCost types d x.typ
          | none => 0) t.body 0).headD 0

def ProgImage.callOf (p : ProgImage) (i : Nat) : Nat :=
  match p.insts[i]? with
  | some x => callCost p.types 5 x.typ
  | none => 0

/-- Worst-case cost (R265). -/
def ProgImage.worst (p : ProgImage) : Nat := 2 + (suffixCosts p.callOf p.code 0).headD 0

/-- Words of a body counted for each call (R266). -/
def bodyCount (types : List UserType) : Nat → Nat → Nat
  | 0, _ => 0
  | d + 1, n =>
    match findType types n with
    | none => 0
    | some t => t.body.foldl (fun a w =>
        a + 1 + (if opOf w = 0x70 then match t.subs[instOf w]? with
          | some x => bodyCount types d x.typ
          | none => 0
        else 0)) 0

/-- Instructions as R266 counts them. -/
def ProgImage.instructions (p : ProgImage) : Nat :=
  p.code.foldl (fun a w =>
    a + 1 + (if opOf w = 0x70 then match p.insts[instOf w]? with
      | some x => bodyCount p.types 5 x.typ
      | none => 0
    else 0)) 0

/-! ### Verification, step 4 (R252 to R264) -/

/-- The lowest of some result codes; 0 where there is none. -/
def lowestCode (l : List Nat) : Nat :=
  l.foldl (fun m c => if c = 0 then m else if m = 0 ∨ c < m then c else m) 0

/-- What the words before the one checked leave: branches open (by the word that opened each), jumps to later words
with the branches open at them, and instances named so far by kind of instruction. -/
structure Scan where
  open' : List Nat
  jumps : List (Nat × List Nat)
  named : List (Nat × Nat)

/-- Where a word list stands: a bit-form program 0, a block-form program 1, a user body 2. -/
def wordRules (types : List UserType) (insts : List InstDesc) (kind len i w : Nat) (s : Scan) : List Nat :=
  let op := opOf w
  let last := i + 1 == len
  let reserved :=
    if bitForm op then false
    else if instForm op || jumpForm op then bitsAt w 16 8 != 0
    else if op == 0x19 then bitsAt w 1 23 != 0
    else bitsAt w 0 24 != 0
  let endOp := if kind = 2 then 0x71 else 0x01
  let misplaced :=
    (op == 0x01 && (kind == 2 || !last)) || (op == 0x71 && (kind != 2 || !last)) ||
    (op == 0x70 && kind == 0) || (kind == 1 && op != 0x70 && !last) || (last && op != endOp)
  let area := areaOf w
  let idx := indexOf w
  let inBody := kind == 2
  let areaBad := bitForm op &&
    (area == 15 || (inBody && decide (area < 13)) || (!inBody && decide (13 ≤ area)) ||
      (storeForm op && decide (area < 6)))
  let indexBad := bitForm op && area != 15 && decide (areaSize area ≤ idx)
  let pinIn := inBody && storeForm op && area == 13 && decide (idx < 32)
  let t := instOf w
  let jumpBad := jumpForm op && (decide (t ≤ i) || decide (len ≤ t))
  let lateJump := s.jumps.any fun j => j.1 == i && j.2 != s.open'
  let branchBad := (decide (0x30 ≤ op ∧ op ≤ 0x32) && decide (16 ≤ s.open'.length)) ||
    (op == 0x33 && s.open'.isEmpty) || ((op == 0x01 || op == 0x71) && !s.open'.isEmpty)
  let want : Option Nat :=
    match op with
    | 0x40 => some 4 | 0x41 => some 5 | 0x48 => some 1 | 0x49 => some 2 | 0x4A => some 3
    | 0x50 | 0x51 | 0x52 | 0x53 => some 8
    | _ => none
  let inst := insts[t]?
  let instBad := instForm op &&
    (match inst with
      | none => true
      | some x =>
        match want with
        | some k => x.typ != k
        | none => (sigOf types x.typ).isNone)
  let key := if 0x50 ≤ op ∧ op ≤ 0x53 then op else if op = 0x70 then 0x70 else 0
  let twice := instForm op && s.named.contains (key, t)
  [if !knownOp op || reserved || misplaced then 0x0703 else 0, if areaBad then 0x0704 else 0,
   if indexBad then 0x0705 else 0, if jumpBad || lateJump then 0x0706 else 0, if branchBad then 0x0707 else 0,
   if instBad || twice then 0x0708 else 0, if pinIn then 0x070D else 0]

def scanStep (i w : Nat) (s : Scan) : Scan :=
  let op := opOf w
  let o := if 0x30 ≤ op ∧ op ≤ 0x32 then i :: s.open' else if op = 0x33 then s.open'.tail else s.open'
  let key := if 0x50 ≤ op ∧ op ≤ 0x53 then op else if op = 0x70 then 0x70 else 0
  { open' := o, jumps := if jumpForm op then (instOf w, s.open') :: s.jumps else s.jumps,
    named := if instForm op then (key, instOf w) :: s.named else s.named }

/-- The code of the first word that breaks a rule. -/
def codeRules (types : List UserType) (insts : List InstDesc) (kind len : Nat) : Nat → Scan → List Nat → Nat
  | _, _, [] => 0
  | i, s, w :: l =>
    let c := lowestCode (wordRules types insts kind len i w s)
    if c ≠ 0 then c else codeRules types insts kind len (i + 1) (scanStep i w s) l

def scanStart : Scan := { open' := [], jumps := [], named := [] }

/-- Interface rules of a user type, those before it being `earlier` (R263, R264). -/
def typeRules (earlier all : List UserType) (t : UserType) : List Nat :=
  let pins := t.inputs ++ t.outputs
  let listed := byteOf pins.length :: pins.flatMap fun p => byteOf p.1 :: p.2
  let bad := decide (t.number < 0x100 ∨ 0x7FFF < t.number ∨ 32 < t.inputs.length ∨ 32 < t.outputs.length) ||
    pins.any (fun p => decide (3 < p.1)) || decide (4 < nestDepth all 6 t.number) ||
    decide (16384 < dataSize all 5 t.number) || t.digest != (sha256 listed).take 8 ||
    earlier.any (fun u => u.number == t.number && u.digest != t.digest) ||
    t.subs.any fun x => (blockSig x.typ).isNone && (findType earlier x.typ).isNone
  [if bad then 0x070D else 0, codeRules earlier t.subs 2 t.body.length 0 scanStart t.body]

def typesRules (all : List UserType) : List UserType → List UserType → Nat
  | _, [] => 0
  | earlier, t :: l =>
    let c := lowestCode (typeRules earlier all t)
    if c ≠ 0 then c else typesRules all (earlier ++ [t]) l

/-- An entry of an instance table. -/
def instRules (types : List UserType) (before : List InstDesc) (x : InstDesc) : List Nat :=
  let known := (sigOf types x.typ).isSome
  let startBad := decide (x.pt < 0 ∨ x.et < 0) || decide (1 < x.q ∨ 1 < x.prev ∨ 1 < x.prevD)
  [if 1 < x.flags then 0x0703 else 0,
   if !known then (if x.typ < 0x100 then 0x0710 else 0x0708) else 0,
   if x.size ≠ dataSize types 5 x.typ then 0x0708 else 0,
   if before.any (fun y => y.name == x.name) then 0x0708 else 0, if startBad then 0x0719 else 0]

def instsRules (types : List UserType) : List InstDesc → List InstDesc → Nat
  | _, [] => 0
  | before, x :: l =>
    let c := lowestCode (instRules types before x)
    if c ≠ 0 then c else instsRules types (x :: before) l

/-! #### Wiring (R258)

In a user body, SRC 2 with instance 0xFFFF names the pins of the block itself: inputs 0 to 31, outputs 32 to 63. -/

def srcOf (d : Nat) : Nat := bitsAt d 30 2
def unbound : Nat := 0xFFFFFFFF

/-- Pin type read by SRC 1 and word pins match any of I, F and T. -/
def wordPin (t : Nat) : Bool := t != 0

def pinTypeAt (types : List UserType) (insts : List InstDesc) (self : Option UserType) (inst pin : Nat) :
    Option Nat × Bool :=
  if inst = 0xFFFF ∧ self.isSome then
    match self with
    | some u => (((if pin < 32 then u.inputs[pin]? else u.outputs[pin - 32]?).map (·.1)), true)
    | none => (none, false)
  else
    match insts[inst]? with
    | none => (none, false)
    | some x =>
      match sigOf types x.typ with
      | some (_, o) => (o[pin]?, true)
      | none => (none, false)

/-- A source descriptor for a pin of type `t`. -/
def sourceRules (types : List UserType) (insts : List InstDesc) (pool : List Nat) (self : Option UserType)
    (t d : Nat) : List Nat :=
  let inBody := self.isSome
  match srcOf d with
  | 0 =>
    let area := bitsAt d 20 4
    let idx := bitsAt d 0 20
    [if bitsAt d 24 6 ≠ 0 then 0x0703 else 0,
     if area = 15 ∨ (inBody = true ∧ area < 13) ∨ (inBody = false ∧ 13 ≤ area) then 0x0704 else 0,
     if area ≠ 15 ∧ areaSize area ≤ idx then 0x0705 else 0, if wordPin t then 0x070F else 0]
  | 1 =>
    [if bitsAt d 17 13 ≠ 0 then 0x0703 else 0, if inBody then 0x0704 else 0,
     if bitsAt d 16 1 = 1 ∧ 16384 ≤ bitsAt d 0 16 then 0x0705 else 0, if wordPin t then 0 else 0x070F]
  | 2 =>
    let (pt, known) := pinTypeAt types insts self (bitsAt d 6 16) (bitsAt d 0 6)
    [if bitsAt d 22 8 ≠ 0 then 0x0703 else 0, if !known then 0x0708 else 0,
     if known && pt.isNone then 0x0710 else 0,
     match pt with
     | some k => if k = t then 0 else 0x070F
     | none => 0]
  | _ =>
    let c := pool[bitsAt d 0 16]?
    [if bitsAt d 16 14 ≠ 0 then 0x0703 else 0, if c.isNone then 0x0705 else 0,
     if t = 0 ∧ 1 < c.getD 0 then 0x070F else 0]

/-- A binding of an output pin of type `t`. -/
def bindRules (self : Option UserType) (t d : Nat) : List Nat :=
  if d = unbound then []
  else
    let inBody := self.isSome
    match srcOf d with
    | 0 =>
      let area := bitsAt d 20 4
      let idx := bitsAt d 0 20
      [if bitsAt d 24 6 ≠ 0 then 0x0703 else 0,
       if area = 15 ∨ area < 6 ∨ (inBody = true ∧ area < 13) ∨ (inBody = false ∧ 13 ≤ area) then 0x0704 else 0,
       if area ≠ 15 ∧ areaSize area ≤ idx then 0x0705 else 0, if wordPin t then 0x070F else 0,
       if area = 13 ∧ idx < 32 then 0x070D else 0]
    | 1 =>
      [if bitsAt d 17 13 ≠ 0 then 0x0703 else 0, if inBody then 0x0704 else 0,
       if bitsAt d 16 1 = 1 ∧ 16384 ≤ bitsAt d 0 16 then 0x0705 else 0, if wordPin t then 0 else 0x070F]
    | 2 =>
      -- the model's way to a word output of the block itself
      match self with
      | none => [0x070F]
      | some u =>
        let pt := if bitsAt d 6 16 = 0xFFFF ∧ 32 ≤ bitsAt d 0 6 then (u.outputs[bitsAt d 0 6 - 32]?).map (·.1) else none
        [if pt = some t then 0 else 0x070F]
    | _ => [0x070F]

/-- The wiring of one instance: inputs, EN, outputs. An instance that no CAL names may have none. -/
def wireRules (types : List UserType) (insts : List InstDesc) (pool : List Nat) (self : Option UserType)
    (x : InstDesc) : Nat :=
  match sigOf types x.typ with
  | none => 0
  | some (i, o) =>
    if x.wiring.isEmpty then 0
    else if x.wiring.length ≠ i.length + 1 + o.length then 0x0710
    else
      let ins := (i ++ [0]).zip x.wiring
      let outs := o.zip (x.wiring.drop (i.length + 1))
      firstCode ((ins.map fun p => if p.2 = unbound then 0 else lowestCode (sourceRules types insts pool self p.1 p.2)) ++
        outs.map fun p => lowestCode (bindRules self p.1 p.2))

def ProgImage.wiringCode (p : ProgImage) : Nat :=
  firstCode (p.insts.map (wireRules p.types p.insts p.pool none) ++
    p.types.flatMap fun t => t.subs.map (wireRules p.types t.subs p.pool (some t)))

/-- Claims are well-formed (R267). -/
def claimCode (c : Nat × Nat × Nat) : Nat :=
  let size := if c.1 = 16 then 65536 else if c.1 = 17 then 16384 else areaSize c.1
  if ¬(6 ≤ c.1 ∧ c.1 ≤ 12 ∨ c.1 = 16 ∨ c.1 = 17) then 0x0704
  else if c.2.2 = 0 ∨ size < c.2.1 + c.2.2 then 0x0705
  else 0

def ProgImage.step4 (p : ProgImage) : Nat :=
  firstCode [codeRules p.types p.insts p.form p.code.length 0 scanStart p.code, typesRules p.types [] p.types,
    if p.reserved then instsRules p.types [] p.insts else 0x0703,
    firstCode (p.types.map fun t => instsRules p.types [] t.subs), p.wiringCode, firstCode (p.claims.map claimCode)]

/-! ### Claims (R248) -/

/-- Bits and words that the image writes: area 6 to 12, or 16 and 17, with the index. -/
def ProgImage.written (p : ProgImage) : List (Nat × Nat) :=
  (p.code.filterMap fun w => if storeForm (opOf w) then some (areaOf w, indexOf w) else none) ++
  p.insts.flatMap fun x =>
    match sigOf p.types x.typ with
    | none => []
    | some (i, _) => (x.wiring.drop (i.length + 1)).filterMap fun d =>
        if d = unbound then none
        else if srcOf d = 0 then some (bitsAt d 20 4, bitsAt d 0 20)
        else if srcOf d = 1 then some (16 + bitsAt d 16 1, bitsAt d 0 16)
        else none

def claimHolds (claims : List (Nat × Nat × Nat)) (w : Nat × Nat) : Bool :=
  claims.any fun c => c.1 == w.1 && decide (c.2.1 ≤ w.2 ∧ w.2 < c.2.1 + c.2.2)

def claimsOverlap (a b : List (Nat × Nat × Nat)) : Bool :=
  a.any fun c => b.any fun d => c.1 == d.1 && decide (c.2.1 < d.2.1 + d.2.2 ∧ d.2.1 < c.2.1 + c.2.2)

/-- Step 5: 0x070A, then 0x0709 against the claims of the other loaded programs. -/
def ProgImage.step5 (p : ProgImage) (others : List ProgImage) : Nat :=
  let w := p.written
  if p.cls ≠ 0 ∧ (w.any (fun x => x.1 == 9 || x.1 == 10) = true ∨ p.claims.any (fun c => c.1 == 9 || c.1 == 10) = true) then
    0x070A
  else if w.all (claimHolds p.claims) = false ∨ others.any (fun o => claimsOverlap p.claims o.claims) = true then 0x0709
  else 0

def ProgImage.dataBytes (p : ProgImage) : Nat := p.insts.foldl (fun a x => a + x.size) 0
def ProgImage.retainBytes (p : ProgImage) : Nat := p.insts.foldl (fun a x => a + if x.flags = 1 then x.size else 0) 0

/-- Step 6. -/
def ProgImage.step6 (p : ProgImage) : Nat :=
  if p.cls = 0 ∧ 256 < p.instructions then 0x070B
  else if p.worst ≠ p.cost ∨ p.instructions ≠ p.count ∨ p.dataBytes ≠ p.instData ∨ p.retainBytes ≠ p.retData then 0x070C
  else 0

/-- Words of code with the bodies of the user types. -/
def ProgImage.codeWords (p : ProgImage) : Nat := p.code.length + p.types.foldl (fun a t => a + t.body.length) 0

/-- Step 7: room for code and instance data beside the others. -/
def ProgImage.step7 (p : ProgImage) (others : List ProgImage) : Nat :=
  if 262144 < others.foldl (fun a o => a + o.codeWords) p.codeWords ∨
      2097152 < others.foldl (fun a o => a + o.dataBytes) p.dataBytes then 0x070E else 0

end Sys2Proof.Machine
end

