-- ==== Sys2Proof/Machine/LogicBlocks.lean ====
section
/-! DEFINITION. The 96 library blocks (R260 to R262, Table 10.6). Behaviour that the table leaves open is the model's
(log 10). -/

namespace Sys2Proof.Machine

/-- What a block sees beside its pins: the module, the row it reads (R261), the timer increment d, SYS bit 2, and the
number of the free value due. -/
structure BlockEnv where
  s : State
  row : Option Row
  d : Int
  first : Bool
  free : Nat

/-- What a block answers: its outputs, its state, a substituted result, a code to log, a free value used. -/
structure BlockRes where
  outs : List Nat
  et : Int
  flags : Nat
  hist : List Nat
  arith : Bool
  log : Option Int
  used : Bool

def InstData.zero : InstData := { et := 0, pt := 0, flags := 0, hist := [], outs := [], pins := 0, loc := 0 }

def maxI32 : Int := 2147483647
def minI32 : Int := -2147483648

/-- A saturated I32 with whether it was saturated. -/
def sat32 (v : Int) : Nat × Bool := (toBits 32 (satI32 v), decide (satI32 v ≠ v))

/-- An F32 result under R260. -/
def fixF32 (v : Nat) : Nat × Bool :=
  if fIsNaN v then (0, true)
  else if fIsInf v then (if fNeg? v then 0xFF7FFFFF else 0x7F7FFFFF, true)
  else (v, false)

def flag (n i : Nat) : Bool := n.testBit i

/-- Outputs only. -/
def keep (x : InstData) (outs : List Nat) (arith : Bool := false) : BlockRes :=
  { outs := outs, et := x.et, flags := x.flags, hist := x.hist, arith := arith, log := none, used := false }

/-- Outputs and a new state. -/
def next' (x : InstData) (outs : List Nat) (et : Int) (flags : Nat) : BlockRes :=
  { outs := outs, et := et, flags := flags, hist := x.hist, arith := false, log := none, used := false }

def bits (l : List Bool) : List Nat := l.map boolNat

/-! Timers of R253: each answers ET and Q. -/

def tonStep (et : Int) (on : Bool) (d pt : Int) : Int × Bool :=
  let e := if on then min (et + d) pt else 0
  (e, on && decide (pt ≤ e))

/-- TOF: ET and Q from Q before. -/
def tofStep (et : Int) (q on : Bool) (d pt : Int) : Int × Bool :=
  if on then (0, true)
  else if q then
    let e := min (et + d) pt
    (e, decide (e < pt))
  else (et, false)

/-- TP: ET and Q from Q and PREV before. -/
def tpStep (et : Int) (q prev on : Bool) (d pt : Int) : Int × Bool :=
  let (e, q1) := if q then (let e := min (et + d) pt; (e, decide (e < pt))) else (et, false)
  if !q1 && on && !prev then (0, true) else (e, q1)

/-- Double point decode: on, off, intermediate, bad. -/
def dpOn (lo hi : Bool) : Bool := hi && !lo
def dpOff (lo hi : Bool) : Bool := lo && !hi
def dpInter (lo hi : Bool) : Bool := !lo && !hi
def dpBad (lo hi : Bool) : Bool := lo && hi

/-- State of ARC in `hist`: phase (0 idle, 1 tripped, 2 dead time, 3 closing, 4 reclaim, 5 lockout), shot. -/
def arcStep (x : InstData) (trip closed ready blk : Bool) (dts : List Int) (rcl : Int) (shots : Nat) (d : Int) :
    BlockRes :=
  let ph := x.hist.getD 0 0
  let shot := x.hist.getD 1 0
  let out := fun (ph shot : Nat) (et : Int) =>
    ({ outs := [boolNat (ph == 3), boolNat (ph == 5), shot, boolNat (decide (1 ≤ ph ∧ ph ≤ 4))], et := et,
       flags := boolNat trip * 2, hist := [ph, shot], arith := false, log := none, used := false } : BlockRes)
  let start := fun (_ : Unit) => if blk || decide (shots ≤ shot) then out 5 shot 0 else out 1 shot 0
  let rise := trip && !flag x.flags 1
  if ph = 0 then (if rise then start () else out 0 0 0)
  else if ph = 5 then
    let (e, q) := tonStep x.et (closed && !trip && !blk) d rcl
    if q then out 0 0 0 else out 5 shot e
  else if blk then out 5 shot 0
  else if ph = 1 then (if trip then out 1 shot 0 else out 2 (shot + 1) 0)
  else if ph = 2 then
    if trip then out 1 (shot - 1) 0
    else
      let dt := dts.getD (shot - 1) 0
      let e := min (x.et + d) dt
      if dt ≤ e ∧ ready = true then out 3 shot 0 else out 2 shot e
  else if ph = 3 then (if closed then out 4 shot 0 else if rise then start () else out 3 shot 0)
  else
    if rise then start ()
    else
      let e := min (x.et + d) rcl
      if rcl ≤ e then out 0 0 0 else out 4 shot e

/-- The bits 1 of the first n inputs. -/
def countOn (x : List Nat) (n : Nat) : Nat := ((x.take n).filter (· != 0)).length

/-- A block's outputs and next state. `x` are its input pins as 32-bit words. -/
def evalBlock (env : BlockEnv) (n : Nat) (x : List Nat) (st : InstData) : BlockRes :=
  let b := fun i => x.getD i 0 != 0
  let i := fun k => ofBits 32 (x.getD k 0)
  let t := fun k => ((x.getD k 0 : Nat) : Int)
  let w := fun k => x.getD k 0
  let d := env.d
  let q := flag st.flags 0
  let p := flag st.flags 1
  let fl := fun (q p : Bool) => boolNat q + 2 * boolNat p
  let s := env.s
  let arith2 := fun (v : Int) => let (r, a) := sat32 v; keep st [r] a
  let f1 := fun (v : Nat) => let (r, a) := fixF32 v; keep st [r] a
  match n with
  | 1 => let (e, r) := tonStep st.et (b 0) d (t 1); next' st [boolNat r, toBits 32 e] e (fl r false)
  | 2 => let (e, r) := tofStep st.et q (b 0) d (t 1); next' st [boolNat r, toBits 32 e] e (fl r false)
  | 3 => let (e, r) := tpStep st.et q p (b 0) d (t 1); next' st [boolNat r, toBits 32 e] e (fl r (b 0))
  | 4 => let r := b 0 && !p; next' st [boolNat r] st.et (fl r (b 0))
  | 5 => let r := p && !b 0; next' st [boolNat r] st.et (fl r (b 0))
  | 6 =>
    let c := if b 0 && !p then min (st.et + 1) maxI32 else if b 1 then 0 else st.et
    next' st [boolNat (decide (i 2 ≤ c)), toBits 32 c] c (fl q (b 0))
  | 7 =>
    let c := if b 0 && !p then max (st.et - 1) 0 else if b 1 then i 2 else st.et
    next' st [boolNat (decide (c ≤ 0)), toBits 32 c] c (fl q (b 0))
  | 8 =>
    let pd := flag st.flags 2
    let c := if b 0 && !p then min (st.et + 1) maxI32
      else if b 1 && !pd then max (st.et - 1) 0
      else if b 2 then 0 else if b 3 then i 4 else st.et
    next' st [boolNat (decide (i 4 ≤ c)), boolNat (decide (c ≤ 0)), toBits 32 c] c (fl q (b 0) + 4 * boolNat (b 1))
  | 9 => let r := b 0 || (q && !b 1); next' st [boolNat r] st.et (fl r false)
  | 10 => let r := !b 1 && (b 0 || q); next' st [boolNat r] st.et (fl r false)
  | 11 =>
    let e := if b 0 then min (st.et + d) (t 2) else if b 1 then 0 else st.et
    let r := b 0 && decide (t 2 ≤ e)
    next' st [boolNat r, toBits 32 e] e (fl r false)
  | 12 =>
    let (e, q1) := if q then (min (st.et + d) (t 1), true) else if b 0 && !p then (0, true) else (st.et, false)
    let r := q1 && (b 0 || decide (e < t 1))
    next' st [boolNat r] e (fl r (b 0))
  | 13 =>
    let e := if b 0 == p then min (st.et + d) (t 1) else 0
    let r := if t 1 ≤ e then b 0 else q
    next' st [boolNat r] e (fl r (b 0))
  | 14 => let r := if b 0 && !p then !q else if b 1 then false else q; next' st [boolNat r] st.et (fl r (b 0))
  | 15 =>
    if !b 0 then next' st [0] 0 0
    else if !p then next' st [1] 0 (fl true true)
    else
      let e := st.et + d
      let r := if q then !decide (t 1 ≤ e) else decide (t 2 ≤ e)
      next' st [boolNat r] (if r == q then e else 0) (fl r true)
  | 16 =>
    let e := if b 0 && !p then 0 else min (st.et + d) (t 1)
    let r := decide (t 1 ≤ e)
    next' st [boolNat r] e (fl r (b 0))
  | 17 => keep st [boolNat (countOn x 8 == 8)]
  | 18 => keep st [boolNat (countOn x 8 != 0)]
  | 19 => keep st [countOn x 8 % 2]
  | 20 => let c := countOn x 16; keep st [boolNat (decide (i 16 ≤ (c : Int))), c]
  | 21 => keep st [boolNat (decide (2 ≤ countOn x 3)), boolNat (countOn x 3 != 0 && countOn x 3 != 3)]
  | 22 => if 0 ≤ i 0 ∧ i 0 ≤ 7 then keep st [boolNat (b (1 + w 0))] else keep st [0] true
  | 23 =>
    if 0 ≤ i 0 ∧ i 0 ≤ 7 then keep st ((List.range 8).map fun k => boolNat (k == w 0 && b 1))
    else keep st (List.replicate 8 0) true
  | 24 =>
    match (List.range 8).find? b with
    | some k => keep st [k, 1]
    | none => keep st [toBits 32 (-1), 0]
  | 25 => keep st [(List.range 32).foldl (fun a k => a + boolNat (b k) * 2 ^ k) 0]
  | 26 => keep st ((List.range 32).map fun k => boolNat ((w 0).testBit k))
  | 27 => if 0 ≤ i 1 ∧ i 1 ≤ 31 then keep st [boolNat ((w 0).testBit (w 1))] else keep st [0] true
  | 28 => keep st [popCount (w 0) 32]
  | 29 => arith2 (i 0 + i 1)
  | 30 => arith2 (i 0 - i 1)
  | 31 => arith2 (i 0 * i 1)
  | 32 => if i 1 = 0 then keep st [0] true else arith2 ((i 0).tdiv (i 1))
  | 33 => if i 1 = 0 then keep st [0] true else arith2 ((i 0).tmod (i 1))
  | 34 => arith2 ((i 0).natAbs : Int)
  | 35 => arith2 (-(i 0))
  | 36 => keep st [toBits 32 (min (i 0) (i 1))]
  | 37 => keep st [toBits 32 (max (i 0) (i 1))]
  | 38 => keep st [toBits 32 (max (i 0) (min (i 1) (i 2)))]
  | 39 =>
    if 0 ≤ i 1 ∧ i 1 ≤ 31 then keep st [w 0 * 2 ^ w 1 % 2 ^ 32]
    else { keep st [Config.freeValue env.free % 2 ^ 32] with used := true }
  | 40 =>
    if 0 ≤ i 1 ∧ i 1 ≤ 31 then keep st [toBits 32 (i 0 / 2 ^ w 1)]
    else { keep st [Config.freeValue env.free % 2 ^ 32] with used := true }
  | 41 => keep st [Nat.land (w 0) (w 1)]
  | 42 => keep st [Nat.lor (w 0) (w 1)]
  | 43 => keep st [Nat.xor (w 0) (w 1)]
  | 44 =>
    let a := i 0
    let c := i 1
    keep st (bits [a == c, a != c, decide (a < c), decide (a ≤ c), decide (c < a), decide (c ≤ a)])
  | 45 => f1 (fAdd (w 0) (w 1))
  | 46 => f1 (fSub (w 0) (w 1))
  | 47 => f1 (fMul (w 0) (w 1))
  | 48 => f1 (fDiv (w 0) (w 1))
  | 49 => f1 (fAbs (w 0))
  | 50 => f1 (fFlip (w 0))
  | 51 => f1 (if fIsNaN (w 0) || fIsNaN (w 1) then fNaN else fMin (w 0) (w 1))
  | 52 => f1 (if fIsNaN (w 0) || fIsNaN (w 1) then fNaN else fMax (w 0) (w 1))
  | 53 => f1 (if fIsNaN (w 0) || fIsNaN (w 1) || fIsNaN (w 2) then fNaN else fMax (w 0) (fMin (w 1) (w 2)))
  | 54 =>
    let eq := fLe (fAbs (fSub (w 0) (w 1))) (w 2)
    keep st (bits [eq, !eq && fLt (w 0) (w 1), !eq && fLt (w 1) (w 0)])
  | 55 => if fLt (w 0) 0 then keep st [0] true else f1 (fSqrt (w 0))
  | 56 => keep st [fOfInt (i 0)]
  | 57 =>
    if fIsNaN (w 0) then keep st [0] true
    else if fIsInf (w 0) then keep st [toBits 32 (if fNeg? (w 0) then minI32 else maxI32)] true
    else arith2 (fRoundInt (w 0))
  | 58 =>
    let r := if fLe (w 1) (w 0) then true else if fLe (w 0) (w 2) then false else q
    next' st [boolNat r] st.et (fl r false)
  | 59 => f1 (fAdd (fMul (w 1) (w 0)) (w 2))
  | 60 =>
    if b 1 then { keep st [0] with hist := [] }
    else
      let h := (w 0 :: st.hist).take 16
      let (r, a) := fixF32 (fDiv (sum40 (h.filter fFinite)) (fOfNat h.length))
      { keep st [r] a with hist := h }
  | 61 => keep st (bits [dpOn (b 0) (b 1), dpOff (b 0) (b 1), dpInter (b 0) (b 1), dpBad (b 0) (b 1)])
  | 62 => keep st (bits [b 1, b 0])
  | 63 =>
    let (e, r) := tonStep st.et (dpInter (b 0) (b 1)) d (t 2)
    next' st (bits [dpOn (b 0) (b 1), dpOff (b 0) (b 1), r || dpBad (b 0) (b 1)]) e (fl r false)
  | 64 =>
    if 0 ≤ i 0 ∧ i 0 ≤ 4095 ∧ 0 ≤ i 1 ∧ i 1 ≤ 15 then
      let nib := bitsAt (s.ginWord (w 0)) (4 * w 1) 4
      keep st (bits [nib.testBit 0, nib.testBit 1, nib.testBit 2, nib.testBit 3])
    else keep st [0, 0, 0, 0] true
  | 65 =>
    if 0 ≤ i 0 ∧ i 0 ≤ 4095 then
      let k := (s.sub (w 0)).state
      keep st (bits [k == 1, k == 2, k == 3])
    else keep st [0, 0, 0] true
  | 66 => keep st [boolNat (if b 1 then b 0 else b 2)]
  | 67 => keep st [boolNat (b 0 && !(b 1 && !b 2))]
  | 68 =>
    if b 1 then next' st (bits [b 0, false]) 0 (fl (b 0) true)
    else
      let e := if p then min (st.et + d) (t 2) else st.et
      let h := p && decide (e < t 2)
      next' st (bits [h && q, h]) e (fl q h)
  | 69 =>
    let (e, blk) := tofStep st.et q (b 1) d (t 3)
    next' st (bits [b 0 && b 2 && !blk && !b 1, b 0 && !b 1]) e (fl blk false)
  | 70 =>
    let (e, r) := tonStep st.et (b 0 && !b 2) d (t 3)
    next' st (bits [r, b 1]) e (fl r false)
  | 71 =>
    let (e, r) := tpStep st.et q p (b 0 && b 1 && !b 2 && !flag st.flags 2) d (t 3)
    next' st (bits [r, r]) e (fl r (b 0 && b 1 && !b 2 && !flag st.flags 2) + 4 * boolNat (b 0))
  | 72 =>
    let c := b 0 && (b 1 || b 2)
    let e := if c then min (st.et + d) (max (t 3) (t 4)) else 0
    next' st (bits [c && decide (t 3 ≤ e), c && decide (t 4 ≤ e)]) e st.flags
  | 73 =>
    let k := i 9
    arcStep st (b 0) (b 1) (b 2) (b 3) [t 4, t 5, t 6, t 7] (t 8) (if k < 1 then 1 else if 4 < k then 4 else k.toNat) d
  | 74 => keep st [boolNat ((List.range 16).any fun k => b k && (w 16).testBit k)]
  | 75 => let r := b 0 || (q && !b 1); next' st [boolNat r] st.et (fl r false)
  | 76 =>
    let (e, r) := tpStep st.et q p (b 0) d (t 2)
    next' st [boolNat (r && b 1)] e (fl r (b 0))
  | 77 =>
    let po := flag st.flags 2
    let tmo := flag st.flags 3
    let rise := b 0 && !p
    let (e, sel, lapsed) :=
      if rise then ((0 : Int), true, false)
      else if q then
        let e := min (st.et + d) (t 3)
        (e, decide (e < t 3), decide (t 3 ≤ e))
      else (st.et, false, false)
    let cmd := sel && b 1 && !po
    let sel2 := sel && !cmd && (rise || !b 2)
    let tmo2 := if rise then false else tmo || lapsed
    next' st (bits [sel2, cmd, tmo2]) e (fl sel2 (b 0) + 4 * boolNat (b 1) + 8 * boolNat tmo2)
  | 78 => keep st [boolNat ((List.range 16).all fun k => b k || !(w 16).testBit k)]
  | 79 => let (e, r) := tpStep st.et q p (b 0) d (t 1); next' st [boolNat r] e (fl r (b 0))
  | 80 =>
    let (e, r) := tonStep st.et (dpInter (b 0) (b 1)) d (t 2)
    next' st (bits [dpOff (b 0) (b 1), dpOn (b 0) (b 1), dpInter (b 0) (b 1), r || dpBad (b 0) (b 1)]) e (fl r false)
  | 81 =>
    let z1 := !dpOff (b 0) (b 1)
    let z2 := !dpOff (b 2) (b 3)
    keep st (bits [z1, z2, z1 && z2])
  | 82 => keep st [boolNat (if b 0 then b 2 else b 1)]
  | 83 =>
    if 0 ≤ i 0 ∧ i 0 ≤ 4 then keep st (bits [b 1 && (w 0 == 0 || w 0 == 2), w 0 == 2 || w 0 == 3])
    else keep st [0, 0] true
  | 84 =>
    let fail := flag st.flags 2
    if b 0 && !p then next' st (bits [true, false]) 0 (fl true true)
    else if q then
      let e := min (st.et + d) (t 2)
      let late := decide (t 2 ≤ e) && !b 1
      let ex := !b 1 && !late
      next' st (bits [ex, late]) e (fl ex (b 0) + 4 * boolNat late)
    else next' st (bits [false, fail]) st.et (fl false (b 0) + 4 * boolNat fail)
  | 85 =>
    if 0 ≤ i 0 ∧ i 0 ≤ 1023 then
      let l := s.lane (w 0)
      keep st [l.value, boolNat l.valid]
    else keep st [0, 0] true
  | 86 =>
    if 0 ≤ i 0 ∧ i 0 ≤ 31 then keep st [s.freqOf (w 0), boolNat ((s.freqGroup (w 0)).state != 4)]
    else keep st [0, 0] true
  | 87 =>
    if 0 ≤ i 0 ∧ i 0 ≤ 31 then keep st [s.rocof (w 0), boolNat (s.rocofValid (w 0))] else keep st [0, 0] true
  | 88 =>
    if 0 ≤ i 0 ∧ i 0 ≤ 511 then
      match (s.sumGroup (w 0)).outs.head? with
      | some o => keep st [o.rms, boolNat (!o.status.testBit 1)]
      | none => keep st [0, 0]
    else keep st [0, 0] true
  | 89 =>
    if 0 ≤ i 0 ∧ i 0 ≤ 511 then
      match (s.sumGroup (w 0)).outs.head? with
      | some o => keep st [o.rest, boolNat (!o.status.testBit 1)]
      | none => keep st [0, 0]
    else keep st [0, 0] true
  | 90 => keep st [((env.row.map (·.num)).getD 0) % 2 ^ 32]
  | 91 => keep st [s.time.sec % 2 ^ 32, s.time.ns]
  | 92 =>
    let r := b 0 && !p
    { next' st [boolNat r] st.et (fl r (b 0)) with log := if r then some (i 1) else none }
  | 93 =>
    let c := if b 0 && !p then min (st.et + 1) maxI32 else if b 1 then 0 else st.et
    next' st [toBits 32 c] c (fl q (b 0))
  | 94 =>
    let c := if b 0 then min (st.et + d) maxI32 else if b 1 then 0 else st.et
    next' st [toBits 32 c] c st.flags
  | 95 => keep st [toBits 32 d, boolNat env.first]
  | 96 =>
    if i 0 = 0 then keep st [boolNat (s.health.warnings != 0)]
    else if i 0 = 1 then keep st [boolNat s.health.fault]
    else keep st [0] true
  | _ => keep st []

end Sys2Proof.Machine
end

