-- ==== Sys2Proof/Machine/LogicVm.lean ====
section
/-! DEFINITION. Execution of a program on a snapshot (R247 to R261): operands, bit-form instructions, CAL of library
and user blocks. -/

namespace Sys2Proof.Machine

/-! ### System and software bits (R249, R250) -/

/-- A facet's software bits count while it is READY. -/
def State.swbBit (s : State) (i : Nat) : Bool :=
  let n := i / 256
  let f := s.facet n
  if f.state = 0 then false
  else if f.state = 3 then (mapGet f.swb (i % 256 / 64) 0).testBit (i % 64)
  else s.boot.active.swbStart.contains i

/-- SYS bit i for a program whose first-cycle, substitution and discontinuity marks are given. -/
def State.sysBit (s : State) (first arith disc : Bool) (i : Nat) : Bool :=
  if i = 1 then true
  else if i = 2 then first
  else if i = 3 then arith
  else if i = 16 then s.lit
  else if i = 17 then s.inSpec
  else if i = 18 then disc
  else if i = 19 then s.flag 0x47F0 5
  else if i = 20 then s.pair.partnerRole == 2
  else if 256 ≤ i ∧ i < 512 then (s.facet (i - 256)).state == 3
  else false

/-! ### The machine of a cycle -/

/-- What a cycle reads and never changes: the module at the snapshot, the image's types and constants, the row of
R261, d, SYS bits 2 and 18. -/
structure VmEnv where
  s : State
  types : List UserType
  pool : List Nat
  row : Option Row
  d : Int
  first : Bool
  disc : Bool

/-- What a cycle changes: ACC, the branch stack (value, operation 0 and, 1 or, 2 xor), the image of owned bits and words
with its own writes, those writes newest first (space, index, value), instance data, substitutions, cost, codes to
log, the next free value. -/
structure Vm where
  acc : Bool
  stack : List (Bool × Nat)
  own : Mem
  writes : List (Nat × Nat × Nat)
  data : Map InstData
  arith : Nat
  cost : Nat
  logs : List Int
  free : Nat

def childPath (base i : Nat) : Nat := base * 4097 + i + 1

def Vm.inst (v : Vm) (path : Nat) : InstData := mapGet v.data path InstData.zero
def Vm.setInst (v : Vm) (path : Nat) (x : InstData) : Vm := { v with data := mapPut path x v.data }

def readBit (env : VmEnv) (v : Vm) (base area i : Nat) : Bool :=
  if area ≤ 1 ∨ area = 3 ∨ area = 4 then areaBit env.s.mem area i
  else if area = 2 then env.s.swbBit i
  else if area = 5 then env.s.sysBit env.first (decide (0 < v.arith)) env.disc i
  else if area ≤ 12 then areaBit v.own area i
  else if area = 13 then (v.inst base).pins.testBit i
  else if area = 14 then (v.inst base).loc.testBit i
  else false

def writeBit (v : Vm) (base area i : Nat) (b : Bool) : Vm :=
  if area = 13 then v.setInst base { v.inst base with pins := withBit (v.inst base).pins i b }
  else if area = 14 then v.setInst base { v.inst base with loc := withBit (v.inst base).loc i b }
  else { v with own := setAreaBit area i b v.own, writes := (area, i, boolNat b) :: v.writes }

def writeWord (v : Vm) (kind i w : Nat) : Vm :=
  { v with own := setMemWord kind i w v.own, writes := (16 + kind, i, w) :: v.writes }

/-- A source descriptor (Table 10.5). -/
def readSource (env : VmEnv) (v : Vm) (base d : Nat) : Nat :=
  match srcOf d with
  | 0 => boolNat (readBit env v base (bitsAt d 20 4) (bitsAt d 0 20))
  | 1 => memWord v.own (bitsAt d 16 1) (bitsAt d 0 16)
  | 2 =>
    if bitsAt d 6 16 = 0xFFFF then
      let pin := bitsAt d 0 6
      (v.inst base).hist.getD pin (boolNat ((v.inst base).pins.testBit pin))
    else (v.inst (childPath base (bitsAt d 6 16))).outs.getD (bitsAt d 0 6) 0
  | _ => env.pool.getD (bitsAt d 0 16) 0

def setAt (l : List Nat) (i x : Nat) : List Nat := l.set i x

/-- An output binding. -/
def storePin (v : Vm) (base d x : Nat) : Vm :=
  if d = unbound then v
  else match srcOf d with
    | 0 => writeBit v base (bitsAt d 20 4) (bitsAt d 0 20) (x != 0)
    | 1 => writeWord v (bitsAt d 16 1) (bitsAt d 0 16) x
    | 2 => v.setInst base { v.inst base with hist := setAt (v.inst base).hist (bitsAt d 0 6) x }
    | _ => v

def storePins (base : Nat) : List (Nat × Nat) → Vm → Vm
  | [], v => v
  | (d, x) :: l, v => storePins base l (storePin v base d x)

/-- Inputs of an instance: unwired ones read 0, or the neutral value of AND8. -/
def fetchPins (env : VmEnv) (v : Vm) (base typ : Nat) (wiring : List Nat) (n : Nat) : List Nat :=
  (List.range n).map fun k =>
    match wiring[k]? with
    | none => if typ = 17 then 1 else 0
    | some d => if d = unbound then (if typ = 17 then 1 else 0) else readSource env v base d

/-- EN: unwired reads 1. -/
def fetchEn (env : VmEnv) (v : Vm) (base : Nat) (wiring : List Nat) (n : Nat) : Bool :=
  match wiring[n]? with
  | none => true
  | some d => if d = unbound then true else readSource env v base d != 0

/-- A CAL of a library block with EN at 1. -/
def callLibrary (env : VmEnv) (v : Vm) (base path : Nat) (x : InstDesc) (sig : List Nat × List Nat × Nat) : Vm :=
  let ins := fetchPins env v base x.typ x.wiring sig.1.length
  let st := v.inst path
  let r := evalBlock { s := env.s, row := env.row, d := env.d, first := env.first, free := v.free } x.typ ins st
  let v1 := v.setInst path { st with et := r.et, flags := r.flags, hist := r.hist, outs := r.outs }
  let v2 := { v1 with arith := v1.arith + boolNat r.arith, cost := v1.cost + sig.2.2, free := v1.free + boolNat r.used,
                      logs := match r.log with
                        | some c => v1.logs ++ [c]
                        | none => v1.logs }
  storePins base ((x.wiring.drop (sig.1.length + 1)).zip r.outs) v2

/-- The operand forms of a bit. -/
def bitOp (op : Nat) (acc b : Bool) : Bool :=
  match op with
  | 0x10 => b
  | 0x11 => !b
  | 0x12 => acc && b
  | 0x13 => acc && !b
  | 0x14 => acc || b
  | 0x15 => acc || !b
  | 0x16 => acc != b
  | _ => acc != !b

/-- Instance forms of the bit list (R253) on the instance's data: ACC and the data after it. -/
def instOp (op : Nat) (acc : Bool) (x : InstData) (d : Int) : Bool × InstData :=
  let q := flag x.flags 0
  let p := flag x.flags 1
  let fl := fun (q p pd : Bool) => boolNat q + 2 * boolNat p + 4 * boolNat pd
  let pd := flag x.flags 2
  match op with
  | 0x40 => (acc && !p, { x with flags := fl q acc pd })
  | 0x41 => (p && !acc, { x with flags := fl q acc pd })
  | 0x48 => let (e, r) := tonStep x.et acc d x.pt; (r, { x with et := e, flags := fl r p pd })
  | 0x49 => let (e, r) := tofStep x.et q acc d x.pt; (r, { x with et := e, flags := fl r p pd })
  | 0x4A => let (e, r) := tpStep x.et q p acc d x.pt; (r, { x with et := e, flags := fl r acc pd })
  | 0x50 =>
    let c := if acc && !p then min (x.et + 1) maxI32 else x.et
    (decide (x.pt ≤ c), { x with et := c, flags := fl q acc pd })
  | 0x51 =>
    let c := if acc && !pd then max (x.et - 1) 0 else x.et
    (decide (c ≤ 0), { x with et := c, flags := fl q p acc })
  | 0x52 => (acc, if acc then { x with et := 0 } else x)
  | _ => (acc, if acc then { x with et := x.pt } else x)

/-- One instruction that is neither CAL, jump nor end. -/
def plainStep (env : VmEnv) (base w : Nat) (v0 : Vm) : Vm :=
  let op := opOf w
  let v := { v0 with cost := v0.cost + wordCost w }
  if 0x10 ≤ op ∧ op ≤ 0x17 then { v with acc := bitOp op v.acc (readBit env v base (areaOf w) (indexOf w)) }
  else if op = 0x20 then writeBit v base (areaOf w) (indexOf w) v.acc
  else if op = 0x21 then writeBit v base (areaOf w) (indexOf w) (!v.acc)
  else if op = 0x22 then (if v.acc then writeBit v base (areaOf w) (indexOf w) true else v)
  else if op = 0x23 then (if v.acc then writeBit v base (areaOf w) (indexOf w) false else v)
  else if op = 0x18 then { v with acc := !v.acc }
  else if op = 0x19 then { v with acc := w % 2 == 1 }
  else if op = 0x30 then { v with stack := (v.acc, 0) :: v.stack, acc := true }
  else if op = 0x31 then { v with stack := (v.acc, 1) :: v.stack, acc := false }
  else if op = 0x32 then { v with stack := (v.acc, 2) :: v.stack, acc := false }
  else if op = 0x33 then
    match v.stack with
    | (a, k) :: rest =>
      { v with stack := rest, acc := if k = 0 then a && v.acc else if k = 1 then a || v.acc else a != v.acc }
    | [] => v
  else if instForm op then
    let path := childPath base (instOf w)
    let (acc, x) := instOp op v.acc (v.inst path) env.d
    { v.setInst path x with acc := acc }
  else v

/-- The input pins of a user block: BOOL inputs in PIN bits 0 to 31, word inputs in `hist`. -/
def loadPins (st : InstData) (types : List Nat) (ins : List Nat) : InstData :=
  let ps := (enumFrom' 0 (types.zip ins))
  let pins := ps.foldl (fun n p => if p.1.1 = 0 then withBit n p.2 (p.1.2 != 0) else n) st.pins
  let hist := ps.foldl (fun l p => if p.1.1 = 0 then l else setAt l p.2 p.1.2) (padList 64 st.hist)
  { st with pins := pins, hist := hist }
where
  padList (n : Nat) (l : List Nat) : List Nat := l ++ List.replicate (n - l.length) 0

/-- Outputs of a user block as its body leaves them. -/
def bodyOuts (st : InstData) (types : List Nat) : List Nat :=
  (enumFrom' 0 types).map fun p =>
    if p.1 = 0 then boolNat (st.pins.testBit (32 + p.2)) else st.hist.getD (32 + p.2) 0

/-- Runs a word list from pc; `insts` are the instances it names, under the path `base`. -/
def runCode (env : VmEnv) : Nat → List InstDesc → Nat → List Nat → Nat → Vm → Vm
  | 0, _, _, _, _, v => v
  | n + 1, insts, base, code, pc, v =>
    match code[pc]? with
    | none => v
    | some w =>
      let op := opOf w
      if op = 0x01 ∨ op = 0x71 then { v with cost := v.cost + 1 }
      else if op = 0x60 then runCode env n insts base code (instOf w) { v with cost := v.cost + 2 }
      else if op = 0x61 then
        runCode env n insts base code (if v.acc then instOf w else pc + 1) { v with cost := v.cost + 2 }
      else if op = 0x62 then
        runCode env n insts base code (if v.acc then pc + 1 else instOf w) { v with cost := v.cost + 2 }
      else if op = 0x70 then
        match insts[instOf w]? with
        | none => v
        | some x =>
          let path := childPath base (instOf w)
          match blockSig x.typ with
          | some sig =>
            let v1 := if fetchEn env v base x.wiring sig.1.length then callLibrary env v base path x sig
              else { v with cost := v.cost + 2 }
            runCode env n insts base code (pc + 1) v1
          | none =>
            match findType env.types x.typ with
            | none => v
            | some u =>
              let it := u.inputs.map (·.1)
              let ot := u.outputs.map (·.1)
              if fetchEn env v base x.wiring it.length then
                let ins := fetchPins env v base x.typ x.wiring it.length
                let v1 := v.setInst path (loadPins (v.inst path) it ins)
                let v2 := runCode env n u.subs path u.body 0 { v1 with acc := false, stack := [], cost := v1.cost + 4 }
                let st := v2.inst path
                let outs := bodyOuts st ot
                let v3 := { v2.setInst path { st with outs := outs } with acc := v.acc, stack := v.stack }
                runCode env n insts base code (pc + 1) (storePins base ((x.wiring.drop (it.length + 1)).zip outs) v3)
              else runCode env n insts base code (pc + 1) { v with cost := v.cost + 2 }
      else runCode env n insts base code (pc + 1) (plainStep env base w v)

/-- Steps that a run of the image can take at most. -/
def ProgImage.fuel (p : ProgImage) : Nat := p.code.length + (p.types.foldl (fun a t => a + t.body.length) 0) * 5 + 16

/-! ### Instance data (R251) -/

def startData (x : InstDesc) : InstData :=
  { InstData.zero with et := x.et, pt := x.pt, flags := x.q + 2 * x.prev + 4 * x.prevD }

/-- Start values of a table of instances under a path, sub-instances included. -/
def initData (types : List UserType) : Nat → Nat → List InstDesc → Map InstData
  | 0, _, _ => []
  | d + 1, base, insts =>
    (enumFrom' 0 insts).flatMap fun p =>
      let path := childPath base p.2
      (path, startData p.1) ::
        match findType types p.1.typ with
        | some t => initData types d path t.subs
        | none => []

def ProgImage.start (p : ProgImage) : Map InstData := mapPutAll (initData p.types 5 0 p.insts) []

/-- Instances of a table with their paths, types and names, sub-instances after their block. -/
def flatInsts (types : List UserType) : Nat → Nat → List InstDesc → List (Nat × InstDesc)
  | 0, _, _ => []
  | d + 1, base, insts =>
    (enumFrom' 0 insts).flatMap fun p =>
      let path := childPath base p.2
      (path, p.1) ::
        match findType types p.1.typ with
        | some t => flatInsts types d path t.subs
        | none => []

/-- Types match: a library number, or a user number with its digest (R264). -/
def typesMatch (a b : List UserType) (x y : Nat) : Bool :=
  x == y &&
    match findType a x, findType b y with
    | some t, some u => t.digest == u.digest
    | none, none => true
    | _, _ => false

/-- Pairs of matched instances of an old and a new table, by name and type, one level at a time (R290): old path, new
path, and the new entry. -/
def matchInsts (ot nt : List UserType) : Nat → Nat → Nat → List InstDesc → List InstDesc → List (Nat × Nat × InstDesc)
  | 0, _, _, _, _ => []
  | d + 1, ob, nb, old, new =>
    (enumFrom' 0 new).flatMap fun p =>
      match (enumFrom' 0 old).find? fun o => o.1.name == p.1.name && typesMatch ot nt o.1.typ p.1.typ with
      | none => []
      | some o =>
        let po := childPath ob o.2
        let pn := childPath nb p.2
        (po, pn, p.1) ::
          match findType ot o.1.typ, findType nt p.1.typ with
          | some t, some u => matchInsts ot nt d po pn t.subs u.subs
          | _, _ => []

/-- The new code's instance data: matched instances keep their data with new presets, others take start values. -/
def exchangeData (old new : ProgImage) (data : Map InstData) : Map InstData :=
  (matchInsts old.types new.types 5 0 0 old.insts new.insts).foldl (fun m p =>
    match mapFind data p.1 with
    | some x => mapPut p.2.1 { x with pt := p.2.2.pt } m
    | none => m) new.start

/-- Retentive instances of a new image take the data of those they match, with new presets, as an exchange does; the
others take start values (R251, Table 11.6). -/
def retainData (old new : ProgImage) (data : Map InstData) : Map InstData :=
  let keptOld := old.insts.filter fun x => x.flags == 1
  let ms := (enumFrom' 0 new.insts).flatMap fun p =>
    if p.1.flags = 1 then
      match (enumFrom' 0 old.insts).find? fun o =>
          o.1.name == p.1.name && typesMatch old.types new.types o.1.typ p.1.typ && keptOld.contains o.1 with
      | none => []
      | some o =>
        let po := childPath 0 o.2
        let pn := childPath 0 p.2
        (po, pn, p.1) ::
          match findType old.types o.1.typ, findType new.types p.1.typ with
          | some t, some u => matchInsts old.types new.types 5 po pn t.subs u.subs
          | _, _ => []
    else []
  ms.foldl (fun m p =>
    match mapFind data p.1 with
    | some x => mapPut p.2.1 { x with pt := p.2.2.pt } m
    | none => m) new.start

/-- At a start, instances without RETAIN take their start values. -/
def startKeeping (img : ProgImage) (data : Map InstData) : Map InstData :=
  let kept := (enumFrom' 0 img.insts).flatMap fun p =>
    if p.1.flags = 1 then
      let path := childPath 0 p.2
      path :: match findType img.types p.1.typ with
        | some t => (flatInsts img.types 5 path t.subs).map (·.1)
        | none => []
    else []
  kept.foldl (fun m k =>
    match mapFind data k with
    | some x => mapPut k x m
    | none => m) img.start

end Sys2Proof.Machine
end

