-- ==== Sys2Proof/Machine/CanUnit.lean ====
section
/-! DEFINITION. The cabinet bus controllers (chapter 16): transmit objects, receive FIFOs, fault confinement, cancels,
and the checks of their settings. -/

namespace Sys2Proof.Machine

def CanCtl.stopped : CanCtl :=
  { state := 0, tec := 0, recv := 0, lastErr := 0, alone := (0, 0), aloneLogged := false, offered := none, limit := 0, nextResp := 0,
    objects := [], stopping := false, fifo0 := [], fifo1 := [], shadow0 := none, shadow1 := none }

def State.ctl (s : State) (c : Nat) : CanCtl := mapGet s.can.ctl c CanCtl.stopped
def State.setCtl (s : State) (c : Nat) (x : CanCtl) : State :=
  { s with can := { s.can with ctl := mapPut c x s.can.ctl } }

def canIndex (c : Nat) : Nat := 0xB000 + c

/-- A setting of a controller: in standby management the copy kept with the role table, otherwise the entry (R427). -/
def State.canReg (s : State) (c sub : Nat) : Nat :=
  if s.domOn 2 && decide (6 ≤ s.boot.phase) then s.regN (canIndex c) sub else (regIn s.can.kept (ek (canIndex c) sub)).toNat

/-- The nodes of the module and of its partner on a controller (R411). -/
def State.ownNode (s : State) (c : Nat) : Nat := s.canReg c (if s.slotA then 2 else 3)
def State.partnerNode (s : State) (c : Nat) : Nat := s.canReg c (if s.slotA then 3 else 2)

/-! ### Identifiers and lengths (R102, R412) -/

def canIdent (kind dst src low : Nat) : Nat := kind * 16777216 + dst * 65536 + src * 256 + low
def idKind (i : Nat) : Nat := bitsAt i 24 5
def idDst (i : Nat) : Nat := bitsAt i 16 8
def idSrc (i : Nat) : Nat := bitsAt i 8 8
def idCount (i : Nat) : Nat := bitsAt i 4 4
def idSegment (i : Nat) : Nat := bitsAt i 0 4

/-- The next CAN FD length. -/
def canLength (n : Nat) : Nat :=
  if n ≤ 8 then n else if n ≤ 12 then 12 else if n ≤ 16 then 16 else if n ≤ 20 then 20 else if n ≤ 24 then 24
  else if n ≤ 32 then 32 else if n ≤ 48 then 48 else 64

/-- A frame of the module (R408): FD, 29-bit identifier, bit rate switch under :07, padded. -/
def State.canFrame (s : State) (c ident : Nat) (data : ByteList) : CanFrame :=
  { ident := ident, ext := true, fd := true, brs := s.canReg c 7 != 0, esi := (s.ctl c).state == 2,
    data := padTo (canLength data.length) data }

/-! ### Fault confinement (R418) -/

/-- Record 0x0C01. -/
def State.canEvent (s : State) (c event : Nat) : State := s.logRec 0x0C01 1 noFacet 0 c [byteOf event]

/-- All pending objects end (bus-off). -/
def CanCtl.dropAll (x : CanCtl) : CanCtl := { x with objects := [], offered := none }

/-- The state that the counters give to a controller that is error active or passive. -/
def State.confine (s : State) (c : Nat) : State :=
  let x := s.ctl c
  if x.state = 1 ∨ x.state = 2 then
    if 255 < x.tec then
      let s1 := s.setCtl c { x.dropAll with state := 3, tec := 256 }
      (s1.countReg (canIndex c) 0x1E 1).canEvent c 1
    else if 127 < x.tec ∨ 127 < x.recv then
      if x.state = 1 then (s.setCtl c { x with state := 2 }).canEvent c 0 else s
    else s.setCtl c { x with state := 1 }
  else s

/-- The settings of a stopped controller survive; both FIFOs are emptied and what is pending is discarded (R421). -/
def State.canStop (s : State) (c : Nat) : State :=
  let x := s.ctl c
  let n := x.objects.length + x.fifo0.length + x.fifo1.length
  let ended := x.state == 4
  let s1 := s.setCtl c { x with state := 0, objects := [], offered := none, stopping := false, fifo0 := [], fifo1 := [],
                                tec := if ended then 0 else x.tec, recv := if ended then 0 else x.recv }
  if n = 0 then s1 else s1.countReg (canIndex c) 0x1B n

/-- What waits for the end of a frame: a stop (R421) and restricted operation (Table 16.5). -/
def State.frameEnd (s : State) (c : Nat) : State :=
  let x := s.ctl c
  if x.stopping then s.canStop c
  else if (x.state = 1 ∨ x.state = 2) ∧ s.canReg c 0x0E ≠ 0 then s.setCtl c { x with state := 5 }
  else s

/-- A write of 1 to :01. -/
def State.canEnable (s : State) (c : Nat) : State :=
  let x := s.ctl c
  if x.state = 0 then ((s.setCtl c { x with state := 1, stopping := false }).confine c).frameEnd c
  else s.setCtl c { x with stopping := false }

/-- A write of 0 to :01: at the end of the frame in progress. -/
def State.canDisable (s : State) (c : Nat) : State :=
  let x := s.ctl c
  if x.state = 0 then s
  else if x.offered.isSome then s.setCtl c { x with stopping := true }
  else s.canStop c

/-- A write of :0E. -/
def State.canRestrict (s : State) (c : Nat) (on : Bool) : State :=
  let x := s.ctl c
  if on then (if (x.state = 1 ∨ x.state = 2) ∧ x.offered = none then s.setCtl c { x with state := 5 } else s)
  else if x.state = 5 then (s.setCtl c { x with state := 1 }).confine c
  else s

/-- Recovery from bus-off asked (R419). -/
def State.canRecoverCode (s : State) (c : Nat) : Nat := if (s.ctl c).state = 3 then 0 else 0x0C02
def State.canRecover (s : State) (c : Nat) : State := s.setCtl c { s.ctl c with state := 4 }

/-- PD1 has come up: both controllers start as their :01 says. -/
def State.canPowerUp (s : State) : State :=
  applyAll (fun c s =>
    let s1 := s.setCtl c CanCtl.stopped
    if s1.canReg c 1 = 0 then s1 else s1.canEnable c) [0, 1] s

/-! ### Transmit objects (R413 to R415, R422) -/

def State.loadObject (s : State) (c o : Nat) (station : Option Nat) (f : CanFrame) : State :=
  let x := s.ctl c
  s.setCtl c { x with objects := mapPut o { frame := f, station := station, cancelled := false } x.objects }

/-- A cancel of an object: before its start of frame it is not sent; afterwards the frame's fate decides. -/
def cancelObject (o : Nat) (x : CanCtl) : CanCtl :=
  if x.offered = some o then
    match mapFind x.objects o with
    | some t => { x with objects := mapPut o { t with cancelled := true } x.objects }
    | none => x
  else { x with objects := mapDel o x.objects }

def State.cancelObjects (s : State) (c : Nat) (os : List Nat) : State :=
  s.setCtl c (os.foldl (fun x o => cancelObject o x) (s.ctl c))

/-- The release of R357 cancels every station object. -/
def State.cancelStations (s : State) : State :=
  applyAll (fun c s =>
    s.cancelObjects c ((s.ctl c).objects.filterMap fun p => if p.2.station.isSome then some p.1 else none)) [0, 1] s

/-- The pending object with the lowest identifier, and the lowest number among equals. -/
def bestObject : List (Nat × TxObject) → Option (Nat × TxObject)
  | [] => none
  | a :: l =>
    match bestObject l with
    | some b => if b.2.frame.ident < a.2.frame.ident then some b else some a
    | none => some a

/-- Bus idle (R414); a frame takes the settings that stand as it begins (R89). -/
def State.offer (s : State) (c : Nat) : State :=
  let x := s.ctl c
  if (x.state = 1 ∨ x.state = 2) ∧ x.offered = none then
    match bestObject x.objects with
    | some (o, _) => s.setCtl c { x with offered := some o, limit := s.canReg c 0x0F }
    | none => s
  else s

/-- A frame sent or received without error ends a run of attempts that nobody acknowledged. -/
def CanCtl.heard (x : CanCtl) : CanCtl := { x with alone := (0, 0), aloneLogged := false }

/-- The offered frame ends without error. -/
def State.sent (s : State) (c : Nat) : State :=
  let x := s.ctl c
  match x.offered with
  | none => s
  | some o =>
    let late := match mapFind x.objects o with
      | some t => t.cancelled
      | none => false
    let x1 := { x.heard with objects := mapDel o x.objects, offered := none, tec := x.tec - 1 }
    let s1 := (s.setCtl c x1).countReg (canIndex c) 0x15 1
    let s2 := if late then s1.countReg (canIndex c) 0x1A 1 else s1
    (s2.confine c).frameEnd c

/-- The offered frame does not complete: a cancelled one ends, another stays pending. -/
def CanCtl.back (x : CanCtl) : CanCtl :=
  match x.offered with
  | none => x
  | some o =>
    match mapFind x.objects o with
    | some t => if t.cancelled then { x with objects := mapDel o x.objects, offered := none } else { x with offered := none }
    | none => { x with offered := none }

/-- An acknowledge error of the offered frame (R422). -/
def State.notAcknowledged (s : State) (c o : Nat) : State :=
  let x := s.ctl c
  let n := (if x.alone.1 = o then x.alone.2 else 0) + 1
  if x.limit ≤ n then
    let first := !x.aloneLogged
    let x1 := { x with objects := mapDel o x.objects, offered := none, alone := (0, 0), aloneLogged := true }
    let s1 := (s.setCtl c x1).countReg (canIndex c) 0x1C 1
    if first then s1.canEvent c 3 else s1
  else s.setCtl c { x with alone := (o, n) }

/-- A bus error (R418, R422). A passive transmitter's acknowledge error without a dominant bit leaves its counter. -/
def State.busError (s : State) (c : Nat) (e : CanError) : State :=
  let x := s.ctl c
  if x.state = 1 ∨ x.state = 2 then
    let last := if e.dataPhase then e.kind * 16 + x.lastErr % 16 else x.lastErr / 16 * 16 + e.kind
    let ack := e.transmitting && e.kind == 3
    let quiet := ack && x.state == 2 && e.noDominant
    let x1 :=
      if e.transmitting then { x with lastErr := last, tec := if quiet then x.tec else x.tec + 8 }
      else { x with lastErr := last, recv := Nat.min 128 (x.recv + if e.primary then 8 else 1) }
    let s1 := (s.setCtl c x1).countReg (canIndex c) 0x17 1
    let s2 := match ack, x.offered with
      | true, some o => s1.confine c |>.notAcknowledged c o
      | _, _ => (s1.setCtl c { s1.ctl c with alone := (0, 0) }).confine c
    (s2.setCtl c (s2.ctl c).back).frameEnd c
  else s

/-! ### Receive FIFOs (R416, R417) -/

/-- The FIFO that takes a frame. -/
def State.fifoOf (s : State) (c : Nat) (f : CanFrame) : Option Nat :=
  let k := idKind f.ident
  let d := idDst f.ident
  if !f.ext then none
  else if k = 0x12 then (if d = s.ownNode c ∨ d = s.partnerNode c then some 0 else none)
  else if k = 0x13 then (if idSrc f.ident = s.partnerNode c then some 0 else none)
  else if k = 0x19 then (if d = s.ownNode c then some 1 else none)
  else none

/-- The receive counter after a good frame of ISO 11898-1: one less, or from above 127 a value from 119 to 127 that the
standard leaves to the controller (log 3). -/
def State.goodReceive (s : State) (c : Nat) : State :=
  let x := (s.ctl c).heard
  if x.state = 5 then s.setCtl c x
  else if 127 < x.recv then s.nextFree.setCtl c { x with recv := 119 + s.free % 9 }
  else s.setCtl c { x with recv := x.recv - 1 }

/-- A frame received without error. -/
def State.canReceive (s : State) (c : Nat) (f : CanFrame) : State :=
  let x := s.ctl c
  if x.state = 1 ∨ x.state = 2 ∨ x.state = 5 then
    let s1 := (s.setCtl c x.back).goodReceive c
    let y := s1.ctl c
    let e : RxEntry := { frame := f, stamp := (s.mono * 2 + 12) / 25 * 25 / 2 }
    let s2 := match s.fifoOf c f with
      | some 0 =>
        if 64 ≤ y.fifo0.length then s1.countReg (canIndex c) 0x18 1
        else (s1.setCtl c { y with fifo0 := y.fifo0 ++ [e] }).countReg (canIndex c) 0x16 1
      | some _ =>
        if 16 ≤ y.fifo1.length then s1.countReg (canIndex c) 0x19 1
        else (s1.setCtl c { y with fifo1 := y.fifo1 ++ [e] }).countReg (canIndex c) 0x16 1
      | none => s1
    (s2.confine c).frameEnd c
  else s

/-- A read of a FIFO's head register. -/
def State.headRead (s : State) (c fifo : Nat) : State :=
  let x := s.ctl c
  if fifo = 0 then s.setCtl c { x with shadow0 := some x.fifo0.head?, fifo0 := x.fifo0.tail }
  else s.setCtl c { x with shadow1 := some x.fifo1.head?, fifo1 := x.fifo1.tail }

/-! ### Checks of the settings (R409, R411) -/

/-- Bit timing with a value in place of one entry. -/
def State.timingCode (s : State) (c sub v : Nat) : Nat :=
  let r := fun (k : Nat) => if k = sub then v else s.regN (canIndex c) k
  let nom := r 4 * (1 + r 5 + r 6)
  let dat := r 8 * (1 + r 9 + r 0x0A)
  -- bit rate = 80 MHz / quanta per bit
  if nom < 80 ∨ dat < 10 ∨ nom < dat ∨ r 6 < r 0x0B ∨ r 0x0A < r 0x0C then 0x0C03 else 0

def stationIndex (n : Nat) : Nat := 0xB040 + n
def State.stationReg (s : State) (n sub : Nat) : Nat := s.regN (stationIndex n) sub

/-- Enabled stations of a controller. -/
def State.enabledStations (s : State) (c : Nat) : List Nat :=
  (List.range 64).filter fun n => s.stationReg n 1 != 0 && s.stationReg n 2 == c

/-- A node number of a controller. -/
def State.nodeCode (s : State) (c sub v : Nat) : Nat :=
  let other := s.regN (canIndex c) (if sub = 2 then 3 else 2)
  if v = other ∨ (s.enabledStations c).any (fun n => s.stationReg n 3 == v) = true then 0x0C01 else 0

/-- The copy in the always-on domain is taken as the overlay is saved: bit timing, restricted mode and nodes (R427), and
the cabinet roles (R106). -/
def State.keepCan (s : State) : State :=
  { s with can := { s.can with
      kept := s.regs.filter fun p => ((p.1 / 256 == 0xB000 || p.1 / 256 == 0xB001) &&
        decide (2 ≤ p.1 % 256 ∧ p.1 % 256 ≤ 0x0E)) || p.1 / 256 == 0x1140 } }

end Sys2Proof.Machine
end

