-- ==== Sys2Proof/Machine/LogicUnit.lean ====
section
/-! DEFINITION. Programs in the module (chapters 10 and 11): loading and starting, the cycle, commits and their
delivery, overrun, error tasks and on-line exchange. -/

namespace Sys2Proof.Machine

def Prog.empty : Prog :=
  { image := none, state := 0, startDue := false, first := false, arith := false, data := [], lastRow := 0, lastMark := 0,
    stretch := 0, endsAt := 0, errDue := false, errRan := false, overrun := false, skippedLast := false, exState := 0,
    exImage := none, exResult := 0, report := [] }

def State.prog (s : State) (p : Nat) : Prog := mapGet s.logic.progs p Prog.empty
def State.setProg (s : State) (p : Nat) (x : Prog) : State :=
  { s with logic := { s.logic with progs := mapPut p x s.logic.progs } }

def progIndex (p : Nat) : Nat := 0x5400 + p
def State.progReg (s : State) (p sub : Nat) : Nat := s.regN (progIndex p) sub

/-- Record 0x0701. -/
def State.progEvent (s : State) (p kind station : Nat) : State :=
  s.logRec 0x0701 1 noFacet 0 p ([byteOf kind, byteOf 0] ++ leBytes 2 station)

/-- The loaded images of the programs other than p, with their numbers. -/
def State.otherImages (s : State) (p : Nat) : List (Nat × ProgImage) :=
  s.logic.progs.filterMap fun q => if q.1 = p then none else q.2.image.map fun i => (q.1, i)

/-! ### Costs on a logic processor (R19, R274) -/

/-- The sum of R274 over some images. -/
def instantSum (lp : Nat) (l : List (Nat × ProgImage)) : Nat :=
  32 + (l.filter fun q => q.2.cls == 0 && q.2.lp == lp).foldl (fun a q => a + q.2.cost) 0

def ProgImage.trip (i : ProgImage) : Bool := i.flags % 2 == 1

/-- The sum of R19: trip programs, and error tasks bound to them. -/
def State.tripSum (s : State) (lp : Nat) (l : List (Nat × ProgImage)) : Nat :=
  let trips := l.filter fun q => q.2.trip && q.2.lp == lp
  let tasks := l.filter fun q => !q.2.trip && trips.any fun t => s.progReg t.1 0x21 == q.1
  (trips ++ tasks).foldl (fun a q => a + q.2.cost) 0

/-- 0x5400:B0 + lp. -/
def State.instantCost (s : State) (lp : Nat) : Nat := instantSum lp (s.otherImages 1024)

def State.step8 (s : State) (p : Nat) (i : ProgImage) : Nat :=
  let l := (p, i) :: s.otherImages p
  if i.cls = 0 ∧ 13000 < instantSum i.lp l then 0x0711
  else if i.trip = true ∧ 320 < s.tripSum i.lp l then 0x0740
  else 0

/-! ### Verification (R268, R287) -/

/-- The image of a download, or the code that refuses it. `was` is the loaded image that an exchange replaces. -/
def State.verifyImage (s : State) (p : Nat) (raw : ByteList) (was : Option ProgImage) : Nat × Option ProgImage :=
  match parseImage raw with
  | none => (0x0701, none)
  | some (i, msg, sig) =>
    let others := (s.otherImages p).map (·.2)
    let room := match was with
      | some w => w :: others
      | none => others
    let c := firstCode
      [if blockOk 1 s.sec.rootOk msg sig then 0 else 0x0702,
       if i.number = p then 0 else 0x0712,
       match was with
        | some w => if w.cls = i.cls ∧ w.lp = i.lp then 0 else 0x0714
        | none => 0,
       i.step4, i.step5 others, i.step6, i.step7 room, s.step8 p i]
    (c, if c = 0 then some i else none)

/-! ### Owned bits and words (R251, R291) -/

/-- Bits and words claimed, by space and index. -/
def claimed (c : List (Nat × Nat × Nat)) : List (Nat × Nat) :=
  c.flatMap fun x => (List.range x.2.2).map fun i => (x.1, x.2.1 + i)

def putOwned (space i v : Nat) (m : Mem) : Mem :=
  if space = 16 then setMemWord 0 i v m else if space = 17 then setMemWord 1 i v m else setAreaBit space i (v != 0) m

def putAll (l : List (Nat × Nat × Nat)) (m : Mem) : Mem := l.foldl (fun m w => putOwned w.1 w.2.1 w.2.2 m) m

/-- The start value of an owned bit or word. -/
def ProgImage.startOf (i : ProgImage) (w : Nat × Nat) : Nat :=
  if w.1 = 7 then mapGet i.retStart w.2 0 else if w.1 = 17 then mapGet i.rwdStart w.2 0 else 0

/-- Owned values of a new image: what both claim keeps its value; `fresh` says which newly claimed spaces start. -/
def takeClaims (old : Option ProgImage) (new : ProgImage) (fresh : Nat → Bool) (m : Mem) : Mem :=
  putAll ((claimed new.claims).filterMap fun w =>
    let kept := match old with
      | some o => claimHolds o.claims w
      | none => false
    if kept || !fresh w.1 then none else some (w.1, w.2, new.startOf w)) m

/-- Values that a program's owned bits and words of some spaces are set to. -/
def clearClaims (i : ProgImage) (sel : Nat → Bool) (m : Mem) : Mem :=
  putAll ((claimed i.claims).filterMap fun w => if sel w.1 then some (w.1, w.2, 0) else none) m

/-- Non-instant commits and loads are seen by batches that have not started as well. -/
def State.editMem (s : State) (f : Mem → Mem) : State :=
  { s with mem := f s.mem, logic := { s.logic with batch := s.logic.batch.map f } }

/-! ### Loading, start and stop (R269, R270) -/

/-- Stations that an image uses (R281). -/
def ProgImage.stations (i : ProgImage) : List Nat :=
  let reads := (i.code.filterMap fun w => if bitForm (opOf w) && areaOf w == 4 then some (indexOf w / 1024) else none) ++
    i.insts.flatMap fun x => x.wiring.filterMap fun d =>
      if d ≠ unbound ∧ srcOf d = 0 ∧ bitsAt d 20 4 = 4 then some (bitsAt d 0 20 / 1024) else none
  (List.range 64).filter fun n => reads.contains n ||
    i.claims.any fun c => c.1 == 12 && decide (c.2.1 < 1024 * (n + 1) ∧ 1024 * n < c.2.1 + c.2.2)

/-- What refuses a write to :02 before the image is looked at. -/
def State.loadCode (s : State) (p : Nat) : Nat :=
  let x := s.prog p
  if x.state = 2 ∨ x.state = 3 then 0x0104 else if x.exState = 1 ∨ x.exState = 2 then 0x0717 else 0

/-- An accepted image replaces the previous one: retentive data is matched, newly claimed retentive values start. -/
def State.loadImage (s : State) (p : Nat) (i : ProgImage) : State :=
  let x := s.prog p
  let data := match x.image with
    | some o => retainData o i x.data
    | none => i.start
  let s1 := s.editMem (takeClaims x.image i fun a => a == 7 || a == 17)
  s1.setProg p { Prog.empty with image := some i, state := 1, data := data, overrun := x.overrun, exResult := x.exResult,
                                  report := x.report }

/-- The program p that has p as its error task. -/
def State.boundAsTask (s : State) (p : Nat) : Bool :=
  s.logic.progs.any fun q => q.1 != p && s.progReg q.1 0x21 == p

def State.startCode (s : State) (p : Nat) : Nat :=
  if (s.prog p).state = 0 then 0x0713 else if s.boundAsTask p then 0x0715 else 0

/-- A write of 1 to :01. -/
def State.progStart (s : State) (p : Nat) : State :=
  let x := s.prog p
  if x.state = 1 then s.setProg p { x with startDue := true } else s

/-- A write of 0 to :01: every cycle in progress has committed. An exchange that waits for the same boundary is applied
first (R289), by `beforeStop`. -/
def State.progStop (s : State) (p : Nat) : State :=
  let x := s.prog p
  let s1 := s.setProg p { x with state := if x.state = 2 then 1 else x.state, startDue := false }
  if x.state = 2 then
    let s2 := match x.image with
      | some i => if s.progReg p 0x0D = 1 then s1.editMem (clearClaims i fun _ => true) else s1
      | none => s1
    s2.progEvent p 5 0
  else s1

/-- A binding of an error task (R285). -/
def State.taskCode (s : State) (p v : Nat) : Nat :=
  if v = 0xFFFF then 0
  else
    let t := s.prog v
    match (s.prog p).image, t.image with
    | some i, some j =>
      let other := s.logic.progs.any fun q => q.1 != p && s.progReg q.1 0x21 == v
      if i.cls = j.cls ∧ i.lp = j.lp ∧ v ≠ p ∧ other = false ∧ t.state = 1 then 0 else 0x0715
    | _, _ => 0x0715

/-! ### The cycle (R276 to R278) -/

/-- First row of the present stretch, and number of the newest evaluated row. -/
def State.newestRow (s : State) : Nat := (s.phasor.newest.map (·.num)).getD 0

/-- The timer increment and the marks it leaves (R255). -/
def State.increment (s : State) (x : Prog) (i : ProgImage) (first : Bool) : Int × Prog :=
  let row := s.newestRow
  let marks := { x with lastRow := row, stretch := s.phasor.start }
  if i.cls ≤ 1 then
    let d := if first then 0 else if i.cls = 0 then 1 else row - x.lastRow
    ((d : Int), { marks with lastMark := s.mono })
  else
    let d := if first then 0 else (s.mono - x.lastMark) / 1000000
    ((d : Int), { marks with lastMark := if first then s.mono else x.lastMark + d * 1000000 })

/-- What a run of one program leaves. -/
structure CycleRes where
  s : State
  writes : List (Nat × Nat × Nat)
  cost : Nat

/-- A run of program p on the module at the snapshot, with the owned bits and words `own`; its writes oldest first.
`first` is SYS bit 2, `disc` SYS bit 18. -/
def State.runProgram (s : State) (p : Nat) (i : ProgImage) (row : Option Row) (own : Mem) (first disc : Bool) :
    CycleRes :=
  let x0 := s.prog p
  let (d, x) := s.increment x0 i first
  let env : VmEnv := { s := s, types := i.types, pool := i.pool, row := row, d := d, first := first, disc := disc }
  let start : Vm := { acc := false, stack := [], own := own, writes := [], data := x.data, arith := 0, cost := 2, logs := [],
                      free := s.freeCount }
  let v := runCode env i.fuel i.insts 0 i.code 0 start
  let s1 := s.setProg p { x with data := v.data, first := first, arith := decide (0 < v.arith), startDue := false }
  let s2 := { s1 with freeCount := v.free }
  let s3 := if v.arith = 0 then s2 else s2.countReg (progIndex p) 0x0C v.arith
  let s4 := applyAll (fun c s => s.logRec 0x0702 0 noFacet 0 p (leBytes 4 (toBits 32 c))) v.logs s3
  { s := s4, writes := v.writes.reverse, cost := v.cost }

/-- The FDO image reaches the outputs while the module drives them, and safe hold does not freeze it (R278, R374). -/
def State.deliverFdo (s : State) : State :=
  if s.driven && s.pair.safeHold.isNone then
    { s with power := { s.power with fdo := leNat (memReadList s.mem (logicBase + areaOffset 11) 4) } }
  else s

/-- A start takes effect: state 2, instance data, MRK and GWD at their start values (R251, R270). -/
def State.begin (s : State) (p : Nat) : State :=
  let x := s.prog p
  match x.image with
  | some i =>
    if x.startDue ∧ x.state = 1 then
      ((s.editMem (clearClaims i fun a => a == 6 || a == 16)).setProg p
        { x with state := 2, first := true, data := startKeeping i x.data, skippedLast := false }).progEvent p 4 0
    else s
  | none => s

/-- The cost of a cycle is added to what the processor still has to run in lower classes, and to its load. -/
def State.occupy (s : State) (p lp cls start len : Nat) : State :=
  let push := s.logic.progs.map fun q =>
    if q.1 = p then (q.1, { q.2 with endsAt := start + len })
    else match q.2.image with
      | some i => if i.lp = lp ∧ cls < i.cls ∧ start < q.2.endsAt then (q.1, { q.2 with endsAt := q.2.endsAt + len }) else q
      | none => q
  let now := s.mono * 4
  { s with logic := { s.logic with
      progs := push,
      busy := (lp, start, len) :: s.logic.busy.filter fun b => decide (now < b.2.1 + 4000000000) } }

/-- When processor `lp` is free for a cycle of class `cls`, in quarters of a ns. -/
def State.freeFrom (s : State) (lp cls : Nat) : Nat :=
  s.logic.progs.foldl (fun m q => match q.2.image with
    | some i => if i.lp = lp ∧ i.cls ≤ cls then Nat.max m q.2.endsAt else m
    | none => m) (s.mono * 4)

/-- Counts of a cycle (:28, :2A to :2C). -/
def State.countCycle (s : State) (p cost delay : Nat) : State :=
  let i := progIndex p
  let s1 := (s.countReg i 0x28 1).setReg i 0x2A cost
  let s2 := if s1.regN i 0x2B < cost then s1.setReg i 0x2B cost else s1
  if s2.regN i 0x2C < delay then s2.setReg i 0x2C delay else s2

/-- The error task that is due, loaded and stopped (R285). -/
def State.taskOf (s : State) (p : Nat) : Option (Nat × ProgImage) :=
  let t := s.progReg p 0x21
  if (s.prog p).errDue ∧ t ≠ 0xFFFF ∧ (s.prog t).state = 1 then (s.prog t).image.map fun i => (t, i) else none

/-- A program's cycle, its error task first, on the owned bits and words `own`; answers the state and the writes. -/
def State.cycleOn (s : State) (p : Nat) (i : ProgImage) (row : Option Row) (own : Mem) : CycleRes :=
  let x := s.prog p
  let moved := x.stretch != s.phasor.start || decide (s.newestRow < x.lastRow)
  let disc := if i.cls = 0 then (row.map (·.disc)).getD false else !x.first && moved
  let start := s.freeFrom i.lp i.cls
  let (pre, own1) := match s.taskOf p with
    | some (t, j) =>
      let r := s.runProgram t j row own (!(s.prog t).errRan) disc
      let s1 := r.s.setProg t { r.s.prog t with errRan := true }
      ({ r with s := s1.countReg (progIndex p) 0x2D 1 }, putAll r.writes own)
    | none => (({ s := s, writes := [], cost := 0 } : CycleRes), own)
  let s2 := pre.s.setProg p { pre.s.prog p with errDue := false }
  let r := s2.runProgram p i row own1 x.first disc
  let cost := pre.cost + r.cost
  let s3 := (r.s.countCycle p cost ((start - s.mono * 4) / 4)).occupy p i.lp i.cls start (cost * 5)
  { s := s3.setProg p { s3.prog p with first := false }, writes := pre.writes ++ r.writes, cost := cost }

/-- A program other than an instant one runs its cycle: snapshot, execution, commit and delivery. -/
def State.runCycle (s0 : State) (p : Nat) : State :=
  let s := s0.begin p
  let x := s.prog p
  match x.image with
  | some i =>
    if x.state = 2 then
      let r := s.cycleOn p i s.phasor.newest s.mem
      let s1 := (r.s.editMem (putAll r.writes)).deliverFdo
      let t := if i.cls = 1 then (s.phasor.newest.map (·.inst)).getD s.now else s.now
      if r.writes.any (fun w => w.1 == 8) then s1.scanPubs none t else s1
    else s
  | none => s

/-- OVERRUN of a program (R280, cause 7 of Table 15.4). -/
def State.showOverrun (s : State) : State := s.setCause 7 (s.logic.progs.any fun q => q.2.overrun)

/-- A trigger of a fast, normal or slow program (R272, R280). -/
def State.trigger (s : State) (p cls : Nat) : State :=
  let x := s.prog p
  match x.image with
  | none => s
  | some i =>
    if i.cls ≠ cls ∨ (x.state ≠ 2 ∧ x.startDue = false) then s
    else if x.state = 2 ∧ s.mono * 4 < x.endsAt then
      let s1 := (s.countReg (progIndex p) 0x29 1).setProg p { x with overrun := true, skippedLast := true }
      (if x.skippedLast then s1 else s1.progEvent p 0 0).showOverrun
    else (s.setProg p { x with skippedLast := false }).runCycle p

/-! ### The instant batch (R273, R275) -/

/-- Instant programs of a processor in the order of R273. -/
def State.instantOrder (s : State) (lp : Nat) : List Nat :=
  let l := s.logic.progs.filterMap fun q => match q.2.image with
    | some i => if i.cls = 0 ∧ i.lp = lp ∧ (q.2.state = 2 ∨ q.2.startDue) then some (q.1, i.trip) else none
    | none => none
  ((l.filter (·.2)) ++ l.filter fun q => !q.2).map (·.1)

/-- The programs of a batch in order on the batch's own image; the image, and whether trip programs ran whose publish image
write is due: one write after the last of them, and the frames of the row after it (R230, Table of R278). -/
def runBatch (row : Row) : List Nat → Mem → Bool → State → State
  | [], _, due, s => if due then s.scanPubs (some row.num) row.inst else s
  | p :: l, own, due, s0 =>
    let s := s0.begin p
    match (s.prog p).image with
    | none => runBatch row l own due s
    | some i =>
      let s1 := if due && !i.trip then s.scanPubs (some row.num) row.inst else s
      let own1 := if (s0.prog p).startDue then clearClaims i (fun a => a == 6 || a == 16) own else own
      let r := s1.cycleOn p i (some row) own1
      let s2 := ({ r.s with mem := putAll r.writes r.s.mem } : State).deliverFdo
      let pub := r.writes.any fun w => w.1 == 8
      let s3 := if pub && !i.trip then s2.scanPubs (some row.num) row.inst else s2
      runBatch row l (putAll r.writes own1) i.trip s3

/-- Processors that have instant programs to run. -/
def State.batchLps (s : State) : List Nat := (List.range 16).filter fun lp => !(s.instantOrder lp).isEmpty

/-- The row leaves stage 8 once every processor has ended its batch (R16, R275). -/
def State.leaveStage8 (s : State) : State :=
  if s.batchLps.all s.phasor.batches.contains then
    { s with phasor := { s.phasor with row := none, posted := false, batches := [] },
             logic := { s.logic with batch := none },
             capture := { s.capture with ready := true } }
  else s

/-- Processor lp runs the instant batch of the row in stage 8. -/
def State.batch (s : State) (lp : Nat) : State :=
  match s.phasor.row with
  | none => s
  | some row =>
    if s.phasor.posted && !s.phasor.batches.contains lp then
      let own := s.logic.batch.getD s.mem
      let s1 := { s with logic := { s.logic with batch := some own } }
      let s2 := runBatch row (s1.instantOrder lp) own false s1
      ({ s2 with phasor := { s2.phasor with batches := lp :: s2.phasor.batches } } : State).leaveStage8
    else s

/-! ### On-line exchange (R287 to R293) -/

def isTimer (t : Nat) : Bool :=
  t == 1 || t == 2 || t == 3 || t == 11 || t == 12 || t == 13 || t == 15 || t == 16 || decide (63 ≤ t ∧ t ≤ 84)

/-- The exchange report (Table 11.7). -/
def exchangeReport (p : Nat) (old new : ProgImage) (data : Map InstData) : ByteList :=
  let name := fun (x : InstDesc) => padTo 32 x.name
  let rows := (enumFrom' 0 new.insts).map fun q =>
    let n := q.1
    match (enumFrom' 0 old.insts).find? (fun o => o.1.name == n.name) with
    | none => name n ++ leBytes 2 0 ++ leBytes 2 n.typ ++ [byteOf 3, byteOf 0, byteOf 0, byteOf 0] ++ leBytes 4 0 ++
        leBytes 4 (toBits 32 n.pt)
    | some (o, k) =>
      if typesMatch old.types new.types o.typ n.typ then
        let et := ((mapFind data (childPath 0 k)).map (·.et)).getD o.et
        let out := if isTimer n.typ && decide (n.pt < et) then 1 else 0
        name n ++ leBytes 2 o.typ ++ leBytes 2 n.typ ++ [byteOf out, byteOf 0, byteOf 0, byteOf 0] ++
          leBytes 4 (toBits 32 et) ++ leBytes 4 (toBits 32 n.pt)
      else name n ++ leBytes 2 o.typ ++ leBytes 2 n.typ ++ [byteOf 2, byteOf 0, byteOf 0, byteOf 0] ++ leBytes 4 0 ++
        leBytes 4 (toBits 32 n.pt)
  let gone := (old.insts.filter fun o => !(new.insts.any fun n => n.name == o.name)).map fun o =>
    name o ++ leBytes 2 o.typ ++ leBytes 2 0 ++ [byteOf 4, byteOf 0, byteOf 0, byteOf 0] ++ leBytes 8 0
  leBytes 2 p ++ leBytes 2 (rows.length + gone.length) ++ (sha256 new.raw).take 8 ++ leBytes 4 0 ++
    rows.flatten ++ gone.flatten

/-- A download to :22 starts: a ready exchange is discarded; refused while one is being verified, or pending. -/
def State.exchangeInit (s : State) (p : Nat) : Nat × State :=
  let x := s.prog p
  if x.exState = 0 ∨ x.exState = 3 ∨ x.exState = 5 then
    (0, s.setProg p { x with exState := 1, exImage := none, report := [] })
  else (0x0717, s)

/-- The transfer ended without its data being handed over: 0x010C at :25 (R101). DESIGN CHOICE (log 23): the exchange returns to
state 0, for which Table 11.5 has no row. -/
def State.exchangeAbort (s : State) (p : Nat) : State :=
  let x := s.prog p
  if x.exState = 1 then s.setProg p { x with exState := 0, exResult := 0x010C } else s

/-- A complete image at :22. -/
def State.exchangeImage (s : State) (p : Nat) (raw : ByteList) : Nat × State :=
  let x := s.prog p
  match x.image with
  | none => (0x0713, s.setProg p { x with exState := 5, exResult := 0x0713 })
  | some old =>
    match s.verifyImage p raw (some old) with
    | (_, some i) =>
      (0, s.setProg p { x with exState := 3, exImage := some i, exResult := 0, report := exchangeReport p old i x.data })
    | (c, none) => (c, s.setProg p { x with exState := 5, exImage := none, exResult := c })

/-- The switch (R289 to R291): matched instances keep their data, the claims of both keep their values. -/
def State.exchangeNow (s : State) (p : Nat) : State :=
  let x := s.prog p
  match x.image, x.exImage with
  | some old, some new =>
    let s1 := s.editMem (takeClaims (some old) new fun _ => true)
    let s2 := s1.setProg p { x with image := some new, data := exchangeData old new x.data, exState := 0, exImage := none }
    let s3 := { s2 with access := { s2.access with
      overlay := mapPut (ek (progIndex p) 2) (.bytes new.raw) s2.access.overlay } }
    (s3.countReg (progIndex p) 0x27 1).progEvent p 3 0
  | _, _ => s

/-- A write to :23: 1 switch, 2 discard. -/
def State.exchangeCommand (s : State) (p v : Nat) : Nat × State :=
  let x := s.prog p
  if x.exState ≠ 3 ∧ x.exState ≠ 4 then (0x0716, s)
  else if v = 2 then (0, s.setProg p { x with exState := 0, exImage := none })
  else if x.state = 2 then (0, s.setProg p { x with exState := 4 })
  else (0, s.exchangeNow p)

/-- The cycle boundary at which a pending switch is made. -/
def State.exchangeBoundary (s : State) (p : Nat) : State := if (s.prog p).exState = 4 then s.exchangeNow p else s

/-- A stop: a switch for the same boundary is applied first (R289). -/
def State.stopProgram (s : State) (p : Nat) : State := (s.exchangeBoundary p).progStop p

/-- A write of 1 to :2F. -/
def State.progClear (s : State) (p : Nat) : State :=
  let i := progIndex p
  let s1 := applyAll (fun k s => s.setReg i k 0) [0x28, 0x29, 0x2A, 0x2B, 0x2C, 0x2D] s
  (s1.setProg p { s1.prog p with overrun := false }).showOverrun

/-- Load of a processor over the last second, in 0.1 % (Table 11.9). -/
def State.load (s : State) (lp : Nat) : Nat :=
  let now := s.mono * 4
  let lo := now - 4000000000
  (s.logic.busy.foldl (fun a b =>
    if b.1 = lp then a + (Nat.min now (b.2.1 + b.2.2) - Nat.max lo b.2.1) else a) 0) / 4000000

/-! ### Fast direct inputs (R279) -/

/-- The FDI image takes a level. -/
def State.setFdi (s : State) (pin : Nat) (level : Bool) : State :=
  { s with mem := setAreaBit 3 pin level s.mem, logic := { s.logic with fdiWait := mapDel pin s.logic.fdiWait } }

/-- A pin changes: the level counts, or the image follows. -/
def State.fdiEdge (s : State) (pin : Nat) (level : Bool) : State :=
  let s1 := { s with power := { s.power with fdi := withBit s.power.fdi pin level } }
  if s1.regN 0x5400 (0x80 + pin) = 0 then s1.setFdi pin level
  else if areaBit s1.mem 3 pin = level then { s1 with logic := { s1.logic with fdiWait := mapDel pin s1.logic.fdiWait } }
  else { s1 with logic := { s1.logic with fdiWait := mapPut pin (level, s1.mono) s1.logic.fdiWait } }

/-- The filter time passes with the level unchanged; it is counted in fabric cycles of 1.25 ns, rounded up. -/
def State.fdiHeld (s : State) (pin : Nat) : State :=
  match mapFind s.logic.fdiWait pin with
  | some (level, since) => (s.advanceMono (since + 1000 * s.regN 0x5400 (0x80 + pin) - s.mono)).setFdi pin level
  | none => s

/-- A change of the filter time restarts a count in progress. -/
def State.fdiFilter (s : State) (pin : Nat) : State :=
  match mapFind s.logic.fdiWait pin with
  | some (level, _) =>
    if s.regN 0x5400 (0x80 + pin) = 0 then s.setFdi pin level
    else { s with logic := { s.logic with fdiWait := mapPut pin (level, s.mono) s.logic.fdiWait } }
  | none => s

end Sys2Proof.Machine
end

