-- ==== Sys2Proof/Machine/StationUnit.lean ====
section
/-! DEFINITION. Remote stations (R281 to R286, R296, R413, R423 to R426). -/

namespace Sys2Proof.Machine

def Station.off : Station :=
  { state := 0, misses := 0, goods := 0, inputs := 0, delivered := List.replicate 128 (byteOf 0), sending := [],
    count := 0, awaiting := false, segs := [] }

def State.station (s : State) (n : Nat) : Station := mapGet s.logic.stations n Station.off
def State.setStation (s : State) (n : Nat) (x : Station) : State :=
  { s with logic := { s.logic with stations := mapPut n x s.logic.stations } }

def State.stationCtl (s : State) (n : Nat) : Nat := s.stationReg n 2
def State.stationNode (s : State) (n : Nat) : Nat := s.stationReg n 3
def State.inputCount (s : State) (n : Nat) : Nat := s.stationReg n 4
def State.outputCount (s : State) (n : Nat) : Nat := s.stationReg n 5

/-- Segments for a number of bits: max(1, ceil(n / 512)). -/
def segments (bits : Nat) : Nat := Nat.max 1 ((bits + 511) / 512)

/-- Bytes that segment j of some bits carries, and its CAN FD length (R424). -/
def segmentBytes (bits j : Nat) : Nat := Nat.min 64 ((bits + 7) / 8 - 64 * j)
def segmentLength (bits j : Nat) : Nat := canLength (segmentBytes bits j)

/-! ### Inputs (R281, R283) -/

/-- Health bit and inputs of a station are written in one step; bits beyond the count read 0. -/
def State.writeSti (s : State) (n inputs : Nat) (health : Bool) : State :=
  let w := boolNat health + 2 * (inputs % 2 ^ s.inputCount n)
  { s with mem := memWriteList s.mem (logicBase + areaOffset 4 + 128 * n) (leBytes 128 w) }

/-- The substitute values of :0A. -/
def State.stationFill (s : State) (n : Nat) : Nat :=
  match s.stationReg n 0x0A with
  | 0 => 0
  | 1 => (s.station n).inputs
  | _ => leNat (s.blob (stationIndex n) 0x0B)

def State.stationSubst (s : State) (n : Nat) : State := s.writeSti n (s.stationFill n) false

/-- Programs that use a station. -/
def State.users (s : State) (n : Nat) : List Nat :=
  s.logic.progs.filterMap fun q => match q.2.image with
    | some i => if i.stations.contains n then some q.1 else none
    | none => none

def State.stationEvent (s : State) (n kind : Nat) : State :=
  applyAll (fun p s => s.progEvent p kind n) (s.users n) s

/-! ### Enable and disable (R296, R411, R413) -/

/-- The transmit objects that a station of controller c may take. -/
def State.freeObjects (s : State) (c : Nat) : List Nat :=
  let used := s.can.pool.flatMap fun p => if s.stationCtl p.1 = c then p.2 else []
  (List.range 64).filter fun o => decide (2 ≤ o) && !used.contains o

def State.stationEnableCode (s : State) (n : Nat) : Nat :=
  let c := s.stationCtl n
  let k := s.stationNode n
  if ((s.enabledStations c).any fun m => m != n && s.stationNode m == k) = true then 0x0718
  else if k = s.regN (canIndex c) 2 ∨ k = s.regN (canIndex c) 3 then 0x0C01
  else if (s.freeObjects c).length < segments (s.outputCount n) then 0x0C04
  else 0

def State.stationOn (s : State) (n : Nat) : State :=
  if (s.station n).state ≠ 0 then s
  else
    let os := (s.freeObjects (s.stationCtl n)).take (segments (s.outputCount n))
    let s1 := (s.stationSubst n).setStation n
      { s.station n with state := 1, misses := 0, goods := 0, awaiting := false, segs := [] }
    { s1 with can := { s1.can with pool := mapPut n os s1.can.pool } }

/-- Objects of a station. -/
def State.objectsOf (s : State) (n : Nat) : List Nat := mapGet s.can.pool n []

def State.stationOff (s : State) (n : Nat) : State :=
  if (s.station n).state = 0 then s
  else
    let s1 := (s.stationSubst n).cancelObjects (s.stationCtl n) (s.objectsOf n)
    let s2 := s1.setStation n { s1.station n with state := 0, awaiting := false, segs := [] }
    { s2 with can := { s2.can with pool := mapDel n s2.can.pool } }

/-! ### Exchanges (R282, R284, R423 to R426) -/

/-- The station drops (R284). -/
def State.stationDrop (s : State) (n : Nat) : State :=
  let s1 := (s.stationSubst n).setStation n { s.station n with state := 3, goods := 0 }
  let s2 := applyAll (fun p s => s.setProg p { s.prog p with errDue := true }) (s1.users n) s1
  (s2.countReg (stationIndex n) 0x10 1).stationEvent n 1

/-- A frame without a valid response within the timeout. -/
def State.stationMiss (s : State) (n : Nat) : State :=
  let x := s.station n
  let y := { x with misses := x.misses + 1, goods := 0, awaiting := false, segs := [] }
  let s1 := (s.setStation n y).countReg (stationIndex n) 0x0F 1
  if y.state = 2 ∧ s1.stationReg n 8 ≤ y.misses then s1.stationDrop n else s1

/-- Outputs of a station as bytes: the committed STO bits, those that safe hold freezes, or while it is DROPPED the
frozen delivered image (log 11). -/
def State.stationOutputs (s : State) (n : Nat) : ByteList :=
  let x := s.station n
  let all := match s.pair.safeHold with
    | some h => bytesAt h.sto (128 * n) 128
    | none => memReadList s.mem (logicBase + areaOffset 12 + 128 * n) 128
  let v := if x.state = 3 then leNat x.delivered else leNat all % 2 ^ s.outputCount n
  leBytes 128 v

/-- Output segment j (R424). -/
def State.outputFrame (s : State) (n count : Nat) (data : ByteList) (j : Nat) : CanFrame :=
  let c := s.stationCtl n
  s.canFrame c (canIdent 0x13 (s.stationNode n) (s.ownNode c) (count * 16 + j))
    (bytesAt data (64 * j) (segmentBytes (s.outputCount n) j))

/-- One exchange of an enabled station by a LIT: objects still pending are cancelled, the frames loaded, the count
advanced and the timeout started. -/
def State.exchange (s0 : State) (n : Nat) : State :=
  let s := if (s0.station n).awaiting then s0.stationMiss n else s0
  let x := s.station n
  if x.state = 0 then s
  else
    let c := s.stationCtl n
    let os := s.objectsOf n
    let s1 := s.cancelObjects c os
    let data := s1.stationOutputs n
    let count := (x.count + 1) % 16
    let s2 := applyAll (fun p s => s.loadObject c p.1 (some n) (s.outputFrame n count data p.2)) (enumFrom' 0 os) s1
    (s2.setStation n { s2.station n with count := count, awaiting := true, sending := data, segs := [] }).countReg
      (stationIndex n) 0x0E 1

/-- A SHADE sees a station frame of its partner (R426). -/
def State.seeOutput (s : State) (c : Nat) (f : CanFrame) : State :=
  match (s.enabledStations c).find? fun n => s.stationNode n == idDst f.ident with
  | none => s
  | some n =>
    let x := s.station n
    let j := idSegment f.ident
    if x.state = 0 then s
    else
      let fresh := !(x.awaiting && x.count == idCount f.ident)
      let s1 := if x.awaiting && fresh then s.stationMiss n else s
      let y := s1.station n
      let base := if fresh then List.replicate 128 (byteOf 0) else y.sending
      let data := padTo 128 (bytesAt base 0 (64 * j) ++ f.data ++ base.drop (64 * j + f.data.length))
      let s2 := s1.setStation n { y with count := idCount f.ident, awaiting := true, sending := data,
                                         segs := if fresh then [] else y.segs }
      if fresh then s2.countReg (stationIndex n) 0x0E 1 else s2

/-- Segments of a response: those of another exchange are counted, the first copy of each is kept. -/
def State.takeSegments (s : State) (n : Nat) : List RespSeg → State
  | [] => s
  | g :: l =>
    let x := s.station n
    let bits := s.inputCount n
    let s1 :=
      if g.count ≠ x.count then s.countReg (canIndex (s.stationCtl n)) 0x1D 1
      else if x.awaiting && decide (g.seg < segments bits) && g.data.length == segmentLength bits g.seg &&
          (mapFind x.segs g.seg).isNone then
        s.setStation n { x with segs := mapPut g.seg g.data x.segs }
      else s
    s1.takeSegments n l

/-- A valid response (R282). -/
def State.goodResponse (s : State) (n : Nat) : State :=
  let x := s.station n
  let bits := s.inputCount n
  let bytes := (List.range (segments bits)).flatMap fun j => padTo 64 (mapGet x.segs j [])
  let inputs := leNat bytes % 2 ^ bits
  let goods := x.goods + 1
  let up := x.state == 2 || decide (s.stationReg n 9 ≤ goods)
  let y := { x with awaiting := false, segs := [], misses := 0, goods := goods,
                    inputs := if up then inputs else x.inputs, state := if up then 2 else x.state,
                    delivered := if x.state = 3 then x.delivered else padTo 128 x.sending }
  let s1 := s.setStation n y
  if up then
    let s2 := s1.writeSti n inputs true
    if x.state = 2 then s2 else s2.stationEvent n 2
  else s1

/-- Response segments in FIFO 0 (R425): the inputs count once all segments are there. -/
def State.response (s : State) (n : Nat) (segs : List RespSeg) : State :=
  if (s.station n).state = 0 then s
  else
    let s1 := s.takeSegments n segs
    let x := s1.station n
    if x.awaiting && x.segs.length == segments (s1.inputCount n) then s1.goodResponse n else s1

/-- A module that becomes LIT sends one exchange to every enabled station (R286). -/
def State.exchangeAll (s : State) : State :=
  applyAll (fun n s => s.exchange n) ((List.range 64).filter fun n => (s.station n).state != 0) s

/-- A station that a program uses is not OPERATIONAL ([2] of :2E). -/
def State.cycleStatus (s : State) (p : Nat) : Nat :=
  let x := s.prog p
  let down := match x.image with
    | some i => i.stations.any fun n => (s.station n).state != 2
    | none => false
  boolNat x.overrun + 2 * boolNat x.errDue + 4 * boolNat down

end Sys2Proof.Machine
end

