-- ==== Sys2Proof/Machine/CaptureUnit.lean ====
section
/-! DEFINITION. The disturbance capture engine and the record store (chapter 13): arm checks, the values of a row,
intervals, trigger conditions, record states and the store. -/

namespace Sys2Proof.Machine

def CapSlot.idle : CapSlot :=
  { state := 0, startAt := none, disarm := false, closing := false, manual := false, rearm := false, data := none,
    gather := none, prevBits := none, prevVals := [], vals := [] }

def State.slot (s : State) (r : Nat) : CapSlot := mapGet s.capture.slots r CapSlot.idle
def State.setSlot (s : State) (r : Nat) (x : CapSlot) : State :=
  { s with capture := { s.capture with slots := mapPut r x s.capture.slots } }

def capIndex (r : Nat) : Nat := 0x7000 + r
def State.capReg (s : State) (r sub : Nat) : Nat := s.regN (capIndex r) sub

/-! ### Definitions (R325, Tables 13.1 and 13.3)

Analogue and binary descriptors are little-endian as every descriptor; a trigger condition is most significant byte
first, as Table 13.3 says. -/

def chunks (n : Nat) : Nat → ByteList → List ByteList
  | 0, _ => []
  | k + 1, b => b.take n :: chunks n k (b.drop n)

def adKind (d : Nat) : Nat := bitsAt d 60 4
def adUnit (d : Nat) : Nat := bitsAt d 56 4
def adSource (d : Nat) : Nat := bitsAt d 0 13
def tcEn (d : Nat) : Bool := d.testBit 127
def tcKind (d : Nat) : Nat := bitsAt d 124 3
def tcGroup (d : Nat) : Nat := bitsAt d 120 4
def tcQualEn (d : Nat) : Bool := d.testBit 119
def tcQual (d : Nat) : Nat := bitsAt d 72 24
def tcThreshold (d : Nat) : Nat := bitsAt d 32 32
def tcSource (d : Nat) : Nat := bitsAt d 0 24

/-- An area code and bit index in 24 bits that names a bit. -/
def bitRefOk (d : Nat) : Bool := decide (bitsAt d 20 4 < 13) && decide (bitsAt d 0 20 < areaSize (bitsAt d 20 4))

def State.capDef (s : State) (r : Nat) : CapDef :=
  let i := capIndex r
  { owner := s.capReg r 2, mode := s.capReg r 3, k := s.capReg r 4, pre := s.capReg r 5, post := s.capReg r 6,
    alloc := s.capReg r 7, extend := s.capReg r 8 != 0, station := s.blob i 0x0D,
    analog := (chunks 8 (s.capReg r 0x0A) (s.blob i 0x10)).map leNat,
    binary := (chunks 4 (s.capReg r 0x0B) (s.blob i 0x11)).map leNat,
    conds := (chunks 16 (s.capReg r 0x0C) (s.blob i 0x12)).map beNat, names := s.blob i 0x13 }

/-- Bytes of a row record (R329), and the intervals that an allocation holds (R330). -/
def CapDef.rowBytes (d : CapDef) : Nat := 16 + 8 * d.analog.length + 8 * ((d.binary.length + 63) / 64)
def CapDef.capacity (d : CapDef) : Nat := (1048576 * d.alloc - 65536) / d.rowBytes

def analogOk (d : Nat) : Bool :=
  let k := adKind d
  let s := adSource d
  decide (k ≤ 8 ∧ adUnit d ≤ 5) && bitsAt d 13 43 == 0 &&
    (if k ≤ 2 then true else if k ≤ 5 then decide (s < 512) else if k = 6 then decide (s < 1024) else decide (s < 32))

def condOk (a d : Nat) : Bool :=
  bitsAt d 96 23 == 0 && bitsAt d 64 8 == 0 && bitsAt d 24 8 == 0 && decide (tcKind d ≤ 5) &&
    (if tcKind d ≤ 2 then bitRefOk (tcSource d) else decide (tcSource d < a)) &&
    (!tcQualEn d || bitRefOk (tcQual d))

/-! ### Pool and store (R330, R341, R350) -/

/-- MiB of the capture pool held by the slots of an owner (all: none given). -/
def State.poolUsed (s : State) (owner : Option Nat) : Nat :=
  s.capture.slots.foldl (fun a p => match p.2.data with
    | some d => if owner = none ∨ owner = some d.defn.owner then a + d.defn.alloc else a
    | none => a) 0

def poolMiB : Nat := 4096

/-- Bytes that a stored record takes: its control area and its row records. -/
def CapRec.bytes (x : CapRec) : Nat := 65536 + x.count * x.defn.rowBytes

def storeBytes : Nat := 44 * 2 ^ 30

/-- Bytes of the record store that blobs and records leave free. -/
def State.storeFree (s : State) : Nat :=
  storeBytes - (s.facets.blobs.foldl (fun a p => a + p.2.size) 0 +
    s.capture.store.foldl (fun a x => a + x.record.bytes) 0)

/-! ### Arm, disarm, manual trigger (R331, R333, R338 to R340) -/

/-- The checks of R338, in order. The store is at its limit when a record that is complete waits for room. -/
def State.armCode (s : State) (r : Nat) : Nat :=
  let d := s.capDef r
  let i := capIndex r
  let a := s.capReg r 0x0A
  let b := s.capReg r 0x0B
  let c := s.capReg r 0x0C
  let lengths := decide ((s.blob i 0x10).length = 8 * a ∧ (s.blob i 0x11).length = 4 * b ∧
    (s.blob i 0x12).length = 16 * c ∧ a ≤ 2048 ∧ b ≤ 4096 ∧ c ≤ 256)
  let waiting := s.capture.slots.any fun p => p.2.state == 3
  if 2 < (s.slot r).state then 0x0805
  else if lengths = false ∨ d.analog.all analogOk = false ∨ d.binary.all (fun x => bitRefOk x && bitsAt x 24 8 == 0) = false ∨
      d.conds.all (condOk a) = false then 0x0804
  else if d.mode = 1 ∧ d.pre ≠ 0 then 0x080A
  else if s.regN 0x7000 0x83 = 0 ∧ (waiting = true ∨ s.storeFree < 65536) then 0x0809
  else if d.owner < 256 ∧ s.facetReg d.owner 0x0D < s.poolUsed (some d.owner) + d.alloc then 0x0803
  else if poolMiB < s.poolUsed none + d.alloc then 0x0802
  else if d.capacity < d.pre + d.post then 0x0801
  else 0

def CapRec.fresh (d : CapDef) : CapRec :=
  { defn := d, capacity := d.capacity, ivs := [], count := 0, primary := 0xFFFF, trigRow := 0, trigInst := 0, trigs := [],
    unlisted := 0, last := if d.mode = 1 then some (d.post - 1) else none, flags := 0 }

/-- The slot is armed from `start` on (none: the next tick boundary). -/
def State.armSlot (s : State) (r : Nat) (start : Option Nat) : State :=
  let d := s.capDef r
  if (s.slot r).state = 0 then
    s.setSlot r { CapSlot.idle with state := if d.mode = 1 then 2 else 1, startAt := start, data := some (CapRec.fresh d) }
  else s

/-- A write of 1 to :01: the slot's last result holds the code. -/
def State.arm (s : State) (r : Nat) : Nat × State :=
  let c := s.armCode r
  (c, (if c = 0 then s.armSlot r none else s).setReg (capIndex r) 0x21 c)

/-- A disarm: one of a slot that waits to be armed again ends that wait; one in state 3 is ignored (R339). -/
def State.disarm (s : State) (r : Nat) : State :=
  let x := s.slot r
  if x.state = 1 ∨ x.state = 2 then s.setSlot r { x with disarm := true }
  else if x.rearm then s.setSlot r { x with rearm := false } else s

def State.manualCode (s : State) (r : Nat) : Nat :=
  let x := s.slot r
  if x.state = 0 ∨ x.state = 3 ∨ s.capReg r 3 = 1 then 0x0807 else 0

def State.manual (s : State) (r : Nat) : State := s.setSlot r { s.slot r with manual := true }

/-! ### The values of a row (R326) -/

def rad2deg : Nat := 0x42652EE1

/-- The 8 bytes of an analogue channel: value in [31:0], quality in [63:32], ROW_TAG 0. -/
def State.analogEntry (s : State) (row : Row) (d : Nat) : Nat :=
  let src := adSource d
  let n := row.num
  let word := fun (v q : Nat) => v % 2 ^ 32 + q * 2 ^ 32
  let lane := fun (code : Nat) =>
    let q := s.laneQuantity row code src
    word q.q (if q.valid then 0 else 2 ^ 14)
  match adKind d with
  | 0 => word (toBits 32 (sampleValue s.mem src n)) (sampleQuality s.mem src n % 2 ^ 24)
  | 1 | 2 =>
    match phasorAt s.mem src n with
    | some (x, q) =>
      let v := if adKind d = 1 then cAbs x else fMul (atan2F32 x.2 x.1) rad2deg
      word v (bitsAt q 18 6 * 2 ^ 18 + (if qReason q = 0 then 0 else 2 ^ 14))
    | none => word 0 (2 ^ 14)
  | 3 =>
    let o := s.sumOut src n
    word ((o.map SumOut.diff).getD 0) (if ((o.map SumOut.status).getD 1).testBit 0 then 2 ^ 14 else 0)
  | 4 => lane 7
  | 5 => lane 8
  | 6 => word (s.lane src).value (if (s.lane src).valid then 0 else 2 ^ 14)
  | 7 => lane 10
  | _ => lane 11

def entryValue (w : Nat) : Nat := w % 2 ^ 32
def entryQuality (w : Nat) : Nat := w / 2 ^ 32
def entryValid (w : Nat) : Bool := qValid (entryQuality w)

/-- The stored value of a channel of some KIND as binary32. -/
def entryFloat (kind w : Nat) : Nat := if kind = 0 then fOfInt (ofBits 32 (entryValue w)) else entryValue w

/-! ### Intervals (R328, R329) -/

/-- A binary64 sum: rounded to 53 bits after each term. -/
def add64 (a b : Dyadic) : Dyadic :=
  let d := Dyadic.add a b
  let (m, e) := roundTo 53 (-1074) d.m.natAbs d.e
  { m := if d.m < 0 then -(m : Int) else m, e := e }

/-- The binary32 mean of n values, their sum and quotient in binary64. -/
def mean64 (l : List Nat) : Nat :=
  let t := l.foldl (fun a x => add64 a (fVal x)) { m := 0, e := 0 }
  let n := l.length
  if n = 0 then 0
  else
    -- 128 further bits and a sticky bit hold the exact quotient's rounding
    let q := t.m.natAbs * 2 ^ 128 / n
    let sticky := boolNat (decide (t.m.natAbs * 2 ^ 128 % n ≠ 0))
    let (m, e) := roundTo 53 (-1074) (q * 2 + sticky) (t.e - 129)
    fPack (decide (t.m < 0)) m e

/-- A trend entry (Table 13.2) over the row entries of a channel, and the count of valid rows. -/
def trendEntry (kind k : Nat) (disc : Bool) (ws : List Nat) : Nat × Nat :=
  let good := ws.filter entryValid
  let has := fun (b : Nat) => ws.any fun w => (entryQuality w).testBit b
  let short := decide (ws.length < 2 ^ k)
  let sum := if kind = 0 then toBits 48 (good.foldl (fun a w => a + ofBits 32 (entryValue w)) 0)
    else mean64 (good.map entryValue)
  let all := good.length == ws.length
  (boolNat (!all) * 2 ^ 63 + boolNat (has 18) * 2 ^ 62 + boolNat (has 11) * 2 ^ 61 + boolNat (has 21) * 2 ^ 60 +
    boolNat (has 19) * 2 ^ 59 + boolNat (has 22) * 2 ^ 58 + boolNat disc * 2 ^ 57 + boolNat short * 2 ^ 56 +
    (if all && !short then k else 255) * 2 ^ 48 + sum, good.length)

/-- The rows of a channel, one list per channel, from rows oldest first. -/
def channelRows (n : Nat) (rows : List (List Nat)) : List (List Nat) :=
  (List.range n).map fun j => rows.map fun r => r.getD j 0

/-- The interval that a collection makes. -/
def Gather.interval (g : Gather) (d : CapDef) (disc : Bool) : Interval :=
  if d.k = 0 then
    let ws := g.vals.headD []
    { row := g.row, inst := g.inst, vals := ws, valid := ws.map (fun w => boolNat (entryValid w)), bins := g.bins,
      disc := g.disc, oos := g.oos }
  else
    let es := (d.analog.zip (channelRows d.analog.length g.vals)).map fun p => trendEntry (adKind p.1) d.k disc p.2
    { row := g.row, inst := g.inst, vals := es.map (·.1), valid := es.map (·.2), bins := g.bins, disc := g.disc, oos := g.oos }

/-- A bit of an area as it stands: SWB and SYS bits are computed, the others stored. -/
def State.areaNow (s : State) (a i : Nat) : Bool :=
  if a = 2 then s.swbBit i else if a = 5 then s.sysBit false false false i else areaBit s.mem a i

def State.refBit (s : State) (d : Nat) : Bool := s.areaNow (bitsAt d 20 4) (bitsAt d 0 20)

def natOfBits (l : List Bool) : Nat := (enumFrom' 0 l).foldl (fun a p => a + boolNat p.1 * 2 ^ p.2) 0

/-! ### Trigger conditions (R332 to R336) -/

/-- Whether condition `j` holds in the row: bits now and before (none: first row), entries now and before. -/
def condHolds (d : CapDef) (row : Row) (bit qual : Bool) (prev : Option Bool) (vals old : List Nat) (c : Nat) : Bool :=
  let pos := tcSource c % 2048
  let kind := adKind (d.analog.getD pos 0)
  let w := vals.getD pos 0
  let x := entryFloat kind w
  let t := tcThreshold c
  let base :=
    match tcKind c with
    | 0 => !row.disc && prev == some false && bit
    | 1 => !row.disc && prev == some true && !bit
    | 2 => bit
    | 3 => entryValid w && fLe t x
    | 4 => entryValid w && fLe x t
    | _ =>
      match old[pos]? with
      | some o => !row.disc && entryValid w && entryValid o && fLe t (fAbs (fSub x (entryFloat kind o)))
      | none => false
  tcEn c && base && (!tcQualEn c || qual)

/-- The conditions met in a row, ascending, by number. -/
def metConditions (conds : List Nat) (holds : List Bool) (manual : Bool) : List Nat :=
  let l := enumFrom' 0 (conds.zip holds)
  let groupOk := fun (g : Nat) =>
    l.any (fun p => tcEn p.1.1 && tcGroup p.1.1 == g) && l.all fun p => !(tcEn p.1.1 && tcGroup p.1.1 == g) || p.1.2
  (l.filterMap fun p =>
    let g := tcGroup p.1.1
    if p.1.2 && (g == 0 || groupOk g) then some p.2 else none) ++ (if manual then [256] else [])

def setFlag (x : CapRec) (b : Nat) : CapRec := { x with flags := withBit x.flags b true }

/-- Conditions enter the trigger list of 64 entries. -/
def CapRec.list (x : CapRec) (flags index : Nat) (row : Row) : List Nat → CapRec
  | [] => x
  | c :: l =>
    if x.trigs.length < 64 then
      CapRec.list { x with trigs := x.trigs ++ [{ cond := c, flags := flags, index := index, row := row.num, inst := row.inst }] }
        (if flags = 1 then 0 else flags) index row l
    else CapRec.list { setFlag x 3 with unlisted := x.unlisted + 1 } flags index row l

/-- A trigger or retrigger by the conditions met, in the interval `index`. -/
def CapRec.trigger (x : CapRec) (row : Row) (index : Nat) (met : List Nat) (first : Bool) : CapRec :=
  if met.isEmpty then x
  else if first then
    let y := x.list 1 index row met
    let z := { y with primary := met.headD 0xFFFF, trigRow := row.num, trigInst := row.inst,
                      last := some (index + x.defn.post - 1) }
    if index < x.defn.pre then setFlag z 2 else z
  else
    let y := x.list 2 index row met
    if x.defn.extend then { y with last := some (Nat.max (x.last.getD 0) (index + x.defn.post - 1)) } else y

/-- A finished interval enters: the pre-trigger ring while armed, the record when triggered. -/
def CapRec.push (x : CapRec) (triggered : Bool) (iv : Interval) : CapRec :=
  if triggered then { x with ivs := iv :: x.ivs, count := x.count + 1 }
  else
    let l := (iv :: x.ivs).take x.defn.pre
    { x with ivs := l, count := l.length }

/-- Intervals oldest first. -/
def CapRec.rows (x : CapRec) : List Interval := x.ivs.reverse

/-- The discontinuities that the record holds, by interval index, up to 16 (R343). -/
def CapRec.discs (x : CapRec) : List Nat :=
  ((enumFrom' 0 x.rows).filterMap fun p => if p.1.disc then some p.2 else none).take 16

/-- :19: bits 4 and 5 tell of the intervals held. -/
def CapRec.flagByte (x : CapRec) : Nat :=
  x.flags + 16 * boolNat (x.ivs.any (·.disc)) + 32 * boolNat (x.ivs.any (·.oos))

/-! ### Record states (R337, R339, R342) -/

/-- The record closes. -/
def State.capClose (s : State) (r : Nat) (flag : Option Nat) : State :=
  let x := s.slot r
  let d := match flag with
    | some b => x.data.map fun y => setFlag y b
    | none => x.data
  s.setSlot r { x with state := 3, data := d, gather := none, disarm := false, closing := false, manual := false }

/-- The slot returns to IDLE and its allocation to the pool. -/
def State.capRelease (s : State) (r : Nat) : State := (s.setSlot r CapSlot.idle).setReg (capIndex r) 1 0

/-- A disarm or an abort takes effect. -/
def State.capAbort (s : State) (r : Nat) : State :=
  match (s.slot r).state with
  | 1 => s.capRelease r
  | 2 => s.capClose r (some 0)
  | _ => s

/-- Interval index at which a row that is being captured lies. -/
def CapRec.index (x : CapRec) : Nat := x.count

/-- The slot captures a row: armed or triggered, from its start on. -/
def CapSlot.captures (x : CapSlot) (row : Row) : Bool :=
  (x.state == 1 || x.state == 2) && x.startAt.any fun t => decide (t ≤ row.inst)

/-- One slot's part of the capture of a row, once the binary images stand (R327 to R336). -/
def State.captureSlot (row : Row) (r : Nat) (s : State) : State :=
  let x := s.slot r
  match x.data with
  | none => s
  | some d0 =>
    if !x.captures row then s
    else
      let df := d0.defn
      let bits := natOfBits (df.binary.map s.refBit)
      let cbits := df.conds.map fun c => s.refBit (tcSource c)
      let quals := df.conds.map fun c => s.refBit (tcQual c)
      let holds := (enumFrom' 0 df.conds).map fun p =>
        condHolds df row (cbits.getD p.2 false) (quals.getD p.2 false) (x.prevBits.map fun n => n.testBit p.2) x.vals
          x.prevVals p.1
      -- an interval that a discontinuity cuts short is stored first
      let cut := row.disc && x.gather.isSome
      let d1 := match cut, x.gather with
        | true, some g => d0.push (x.state == 2) (g.interval df true)
        | _, _ => d0
      let g0 := if cut then none else x.gather
      let begins := df.k = 0 ∨ row.num % 2 ^ df.k = 0 ∨ cut = true ∨ 0 < d1.count
      let g1 : Option Gather := match g0 with
        | some g => some { g with rows := g.rows + 1, vals := g.vals ++ [x.vals], bins := Nat.lor g.bins bits, oos := g.oos || row.oos }
        | none =>
          if begins then
            some { row := row.num, inst := row.inst, rows := 1, vals := [x.vals], bins := bits, disc := row.disc, oos := row.oos }
          else none
      let idx := d1.index
      let met := if df.mode = 1 then [] else metConditions df.conds holds x.manual
      let d4 := d1.trigger row idx met (x.state == 1)
      let trig := x.state == 2 || !met.isEmpty
      let full := match g1 with
        | some g => decide (2 ^ df.k ≤ g.rows)
        | none => false
      let d5 := match full, g1 with
        | true, some g => d4.push trig (g.interval df false)
        | _, _ => d4
      let y : CapSlot := { x with
        state := if trig then 2 else 1, manual := false, data := some d5, gather := if full then none else g1,
        prevBits := some (natOfBits cbits), prevVals := x.vals }
      let s1 := s.setSlot r y
      let ended := trig && match d5.last with
        | some e => decide (e < d5.count)
        | none => false
      let excess := trig && decide (d5.capacity ≤ d5.count)
      if ended then s1.capClose r none
      else if excess then s1.capClose r (some 1)
      else if x.closing then s1.capAbort r
      else s1

def slotNumbers : List Nat := List.range 32

/-- The binary part of the row in progress, with trigger evaluation. -/
def State.finishRow (s : State) : State :=
  match s.capture.row with
  | none => s
  | some row =>
    let s1 := applyAll (State.captureSlot row) slotNumbers s
    { s1 with capture := { s1.capture with row := none, ready := false } }

/-- The analogue part of the row in stage 8 (R17, R327); a row before it is finished first, so that none is captured out
of order. -/
def State.startRow (s0 : State) : State :=
  let s := s0.finishRow
  match s.phasor.row with
  | none => s
  | some row =>
    if s.phasor.posted then
      let slots := s.capture.slots.map fun p => match p.2.data with
        | some d => (p.1, { p.2 with vals := d.defn.analog.map (s.analogEntry row) })
        | none => p
      { s with capture := { s.capture with slots := slots, row := some row, ready := false } }
    else s

/-- The grid tick boundary at `inst`: arms and disarms take effect; a disarm waits for the row in progress. -/
def State.captureTick (s : State) (inst : Nat) : State :=
  applyAll (fun r s =>
    let x := s.slot r
    if x.rearm ∧ x.state = 0 then
      let c := s.armCode r
      if c = 0 then (s.armSlot r (some inst)).setReg (capIndex r) 0x21 0
      else (s.capRelease r).setReg (capIndex r) 0x21 c
    else if x.disarm then
      if s.capture.row.any x.captures then s.setSlot r { x with disarm := false, closing := true } else s.capAbort r
    else if (x.state = 1 ∨ x.state = 2) ∧ x.startAt = none then s.setSlot r { x with startAt := some inst }
    else s) (mapKeys s.capture.slots) s

/-- Records of a facet close as aborted (R342). -/
def State.capFacetReset (s : State) (n : Nat) : State :=
  applyAll (fun r s => match (s.slot r).data with
    | some d => if d.defn.owner = n then s.capAbort r else s
    | none => s) (mapKeys s.capture.slots) s

/-! ### The record store (R341, R347) -/

def dropFirst (f : StoredRec → Bool) : List StoredRec → Option (List StoredRec)
  | [] => none
  | x :: l => if f x then some l else (dropFirst f l).map (x :: ·)

/-- Room for some bytes under the store policy; none where the record must wait. -/
def State.makeRoom (need : Nat) : Nat → State → Option State
  | 0, s => if need ≤ s.storeFree then some s else none
  | n + 1, s =>
    if need ≤ s.storeFree then some s
    else
      let p := s.regN 0x7000 0x83
      let l := if p = 0 then none else dropFirst (fun x => p == 2 || x.exported) s.capture.store
      match l with
      | some l => State.makeRoom need n (({ s with capture := { s.capture with store := l } } : State).countReg 0x7000 0x8A 1)
      | none => none

/-- The steward moves a complete record to the store. -/
def State.storeRecord (s : State) (r : Nat) : State :=
  let x := s.slot r
  match x.state, x.data with
  | 3, some d =>
    match State.makeRoom d.bytes s.capture.store.length s with
    | none => s
    | some s1 =>
      let id := s1.capture.nextId
      let rec' : StoredRec := { id := id, slot := r, exported := false, record := d }
      let s2 := { s1 with capture := { s1.capture with store := s1.capture.store ++ [rec'], nextId := id + 1 } }
      let again := s2.capReg r 9 != 0
      let s3 := if again then s2.setSlot r { CapSlot.idle with rearm := true } else s2.capRelease r
      let s4 := (s3.setReg (capIndex r) 0x1F id).countReg (capIndex r) 0x20 1
      let owner := if d.defn.owner < 256 then d.defn.owner else noFacet
      let s5 := s4.logRec 0x0801 0 owner 0 r (leBytes 4 id ++ [byteOf d.flagByte])
      if d.defn.owner < 256 then s5.notice d.defn.owner 0x0881 [r, id] else s5
  | _, _ => s

/-- The re-arm of a stored slot at the tick boundary (R341). -/
def State.rearmSlot (s : State) (r : Nat) : State :=
  let x := s.slot r
  if x.rearm ∧ x.state = 0 then
    let c := s.armCode r
    if c = 0 then (s.armSlot r none).setReg (capIndex r) 0x21 0 else (s.capRelease r).setReg (capIndex r) 0x21 c
  else s

def State.stored (s : State) (id : Nat) : Option StoredRec := s.capture.store.find? fun x => x.id == id

/-- Uploads in progress of the selected record. -/
def State.uploading (s : State) : Bool :=
  let k := fun (t : Option Transfer) => match t with
    | some t => !t.down && decide (ek 0x7000 0x86 ≤ t.key ∧ t.key ≤ ek 0x7000 0x88)
    | none => false
  s.access.sessions.any (fun p => k p.2.transfer) || s.access.clients.any fun p => k p.2.transfer

def State.dropStored (s : State) (sel : StoredRec → Bool) : State :=
  { s with capture := { s.capture with store := s.capture.store.filter fun x => !sel x } }

/-- A write to 0x7000:89: 1 the selected record, 2 every exported one. A record that is being uploaded goes when the
upload ends. -/
def State.deleteStored (s : State) (v : Nat) : Nat × State :=
  let sel := s.regN 0x7000 0x85
  if v = 1 then
    match s.stored sel with
    | none => (0x0808, s)
    | some _ =>
      if s.uploading then (0, { s with capture := { s.capture with deleteDue := sel :: s.capture.deleteDue } })
      else (0, s.dropStored fun x => x.id == sel)
  else
    let busy := s.uploading
    let due := s.capture.store.any fun x => busy && x.id == sel && x.exported
    let s1 := s.dropStored fun x => x.exported && !(busy && x.id == sel)
    (0, if due then { s1 with capture := { s1.capture with deleteDue := sel :: s1.capture.deleteDue } } else s1)

/-- An upload ends: deletions that waited take effect. -/
def State.uploadEnded (s : State) : State :=
  if s.uploading then s
  else
    let due := s.capture.deleteDue
    let s1 := s.dropStored fun x => due.contains x.id
    { s1 with capture := { s1.capture with deleteDue := [] } }

/-- The last segment of the data file has been sent (R347). -/
def State.markExported (s : State) (id : Nat) : State :=
  { s with capture := { s.capture with
      store := s.capture.store.map fun x => if x.id = id then { x with exported := true } else x } }

/-- TIME80 of an NS64 time: 48 bits of seconds and 32 of ns, most significant byte first (R82). -/
def time80 (t : Nat) : ByteList := beBytes 6 (t / 1000000000) ++ beBytes 4 (t % 1000000000)

def CapRec.datBytes (x : CapRec) : Nat :=
  x.count * (8 + 4 * x.defn.analog.length + 2 * ((x.defn.binary.length + 15) / 16))

/-- 0x7000:84, numbers most significant byte first as in dictionary values. -/
def State.directory (s : State) : ByteList :=
  s.capture.store.flatMap fun x =>
    beBytes 4 x.id ++ [byteOf x.slot, byteOf x.record.flagByte] ++ beBytes 2 x.record.defn.owner ++
      time80 x.record.trigInst ++ beBytes 4 x.record.count ++ beBytes 4 x.record.datBytes ++
      [byteOf (boolNat x.exported)] ++ List.replicate 5 (byteOf 0)

end Sys2Proof.Machine
end

