-- ==== Sys2Proof/Machine/Comtrade.lean ====
section
/-! DEFINITION. COMTRADE export of a stored record (R344 to R346). Field order and number formats that R344 leaves to
IEEE C37.111-2013, and the layout of the information file, are the model's (log 12). -/

namespace Sys2Proof.Machine

/-! ### Text -/

def ascii (s : String) : ByteList := s.toList.map fun c => byteOf c.toNat
def crlf : ByteList := [byteOf 13, byteOf 10]
def comma : ByteList := [byteOf 44]

def digitsFrom : Nat → Nat → ByteList → ByteList
  | 0, _, acc => acc
  | f + 1, n, acc => if n < 10 then byteOf (48 + n) :: acc else digitsFrom f (n / 10) (byteOf (48 + n % 10) :: acc)

/-- Decimal digits. -/
def decN (n : Nat) : ByteList := digitsFrom (n + 1) n []
def decI (i : Int) : ByteList := if i < 0 then byteOf 45 :: decN i.natAbs else decN i.natAbs
/-- Decimal digits, at least w of them. -/
def decW (w n : Nat) : ByteList :=
  let d := decN n
  List.replicate (w - d.length) (byteOf 48) ++ d

def joinWith (sep : ByteList) : List ByteList → ByteList
  | [] => []
  | [x] => x
  | x :: l => x ++ sep ++ joinWith sep l

def line (fields : List ByteList) : ByteList := joinWith comma fields ++ crlf

/-- n × 10^-k, exactly. -/
def decShift (n k : Nat) : ByteList :=
  if k = 0 then decN n else decN (n / 10 ^ k) ++ [byteOf 46] ++ decW k (n % 10 ^ k)

/-- Text of a name padded with 0x00. -/
def trimmed (b : ByteList) : ByteList := b.takeWhile (· != byteOf 0)

/-! ### Numbers -/

/-- A binary32 value as numerator and denominator. -/
def ratOf (n : Nat) : Int × Nat :=
  let v := fVal n
  if 0 ≤ v.e then (v.m * (2 ^ v.e.toNat : Nat), 1) else (v.m, 2 ^ (-v.e).toNat)

/-- Nearest integer of a quotient, halves away from zero. -/
def roundDiv (a : Int) (b : Nat) : Int :=
  if b = 0 then 0
  else
    let q : Nat := (2 * a.natAbs + b) / (2 * b)
    if a < 0 then -(q : Int) else q

/-- A positive quotient in nine significant digits, as d.dddddddde±x. -/
def sci (a b : Nat) : ByteList :=
  if a = 0 ∨ b = 0 then ascii "0"
  else
    let e0 : Int := ((decN a).length : Int) - (decN b).length
    let scaled := fun (e : Int) => if e ≤ 8 then roundDiv (a * (10 ^ (8 - e).toNat : Nat) : Nat) b
      else roundDiv a (b * 10 ^ (e - 8).toNat)
    let e := if scaled e0 < 100000000 then e0 - 1 else e0
    let d := (scaled e).toNat
    let (d, e) := if 1000000000 ≤ d then (d / 10, e + 1) else (d, e)
    decShift d 8 ++ ascii "e" ++ decI e

def sciF (n : Nat) : ByteList :=
  let (a, b) := ratOf n
  (if a < 0 then ascii "-" else []) ++ sci a.natAbs b

/-! ### Dates -/

/-- Year, month and day of a day number since 1970-01-01. -/
def civil (z0 : Nat) : Nat × Nat × Nat :=
  let z := z0 + 719468
  let era := z / 146097
  let doe := z % 146097
  let yoe := (doe - doe / 1460 + doe / 36524 - doe / 146096) / 365
  let doy := doe - (365 * yoe + yoe / 4 - yoe / 100)
  let mp := (5 * doy + 2) / 153
  let d := doy - (153 * mp + 2) / 5 + 1
  let m := if mp < 10 then mp + 3 else mp - 9
  (yoe + era * 400 + (if m ≤ 2 then 1 else 0), m, d)

/-- dd/mm/yyyy,hh:mm:ss.nnnnnnnnn of a tick instant as UTC. -/
def State.utcText (s : State) (t : Nat) : ByteList :=
  let sec := (((t / 1000000000 : Nat) : Int) - s.time.utc).toNat
  let (y, m, d) := civil (sec / 86400)
  let r := sec % 86400
  joinWith (ascii "/") [decW 2 d, decW 2 m, decW 4 y] ++ comma ++
    joinWith (ascii ":") [decW 2 (r / 3600), decW 2 (r / 60 % 60), decW 2 (r % 60)] ++ ascii "." ++ decW 9 (t % 1000000000)

/-! ### Channels (R343, R345) -/

/-- Measurements of a channel (R343): smallest and largest valid value as binary32 with their interval indices, and
invalid intervals. -/
structure Measure where
  lo : Nat
  loAt : Nat
  hi : Nat
  hiAt : Nat
  seen : Bool
  invalid : Nat

/-- A stored entry is valid: REASON 0, or in trend mode INVALID 0. -/
def storedValid (k w : Nat) : Bool := if k = 0 then entryValid w else !w.testBit 63

/-- The stored value as binary32; for trend KIND 0 the mean SUM / 2^k. -/
def storedFloat (kind k w : Nat) : Nat :=
  if k = 0 then entryFloat kind w
  else if kind = 0 then fOfDyadic { m := ofBits 48 w, e := -(k : Int) } else w % 2 ^ 32

def measureStep (kind k : Nat) (m : Measure) (p : Nat × Nat) : Measure :=
  if storedValid k p.1 then
    let v := storedFloat kind k p.1
    if !m.seen then { m with lo := v, loAt := p.2, hi := v, hiAt := p.2, seen := true }
    else
      let a := if fLt v m.lo then { m with lo := v, loAt := p.2 } else m
      if fLt a.hi v then { a with hi := v, hiAt := p.2 } else a
  else { m with invalid := m.invalid + 1 }

def CapRec.entries (x : CapRec) (j : Nat) : List Nat := x.rows.map fun r => r.vals.getD j 0

def CapRec.measure (x : CapRec) (j : Nat) : Measure :=
  (enumFrom' 0 (x.entries j)).foldl (measureStep (adKind (x.defn.analog.getD j 0)) x.defn.k)
    { lo := 0, loAt := 0, hi := 0, hiAt := 0, seen := false, invalid := 0 }

def missing : Int := -2147483648

/-- e of R345: the largest from 0 to k for which every valid value of a trend KIND 0 channel fits. -/
def trendExp (k : Nat) (ws : List Nat) : Nat :=
  let fits := fun (e : Nat) => ws.all fun w => w.testBit 63 ||
    decide ((roundDiv (ofBits 48 w) (2 ^ (k - e))).natAbs ≤ 2147483647)
  ((List.range (k + 1)).reverse.find? fits).getD 0

/-- Largest magnitude of a channel of another KIND. -/
def largest (kind k : Nat) (ws : List Nat) : Nat :=
  ws.foldl (fun m w => if storedValid k w then fMax m (fAbs (storedFloat kind k w)) else m) 0

/-- The exported integer. -/
def exportValue (kind k e top w : Nat) : Int :=
  if !storedValid k w then missing
  else if kind = 0 then
    if k = 0 then ofBits 32 (entryValue w) else roundDiv (ofBits 48 w) (2 ^ (k - e))
  else
    let (n, d) := ratOf (storedFloat kind k w)
    let (tn, td) := ratOf top
    if tn = 0 then 0 else roundDiv (n * 2147483647 * td) (d * tn.natAbs)

/-- What a channel's export needs: e and the largest magnitude. -/
def CapRec.scale (x : CapRec) (j : Nat) : Nat × Nat :=
  let kind := adKind (x.defn.analog.getD j 0)
  let ws := x.entries j
  if kind = 0 then (if x.defn.k = 0 then 0 else trendExp x.defn.k ws, 0) else (0, largest kind x.defn.k ws)

/-- a of the configuration file. -/
def scaleText (unit kind e top : Nat) : ByteList :=
  if kind = 0 then
    let p := if unit = 0 then 3 else if unit = 1 then 2 else 0
    -- 10^-p / 2^e = 5^e × 10^-(p + e)
    decShift (5 ^ e) (p + e)
  else if fIsZero top then ascii "1"
  else
    let (n, d) := ratOf top
    sci n.natAbs (d * 2147483647)

def unitText (u : Nat) : ByteList :=
  match u with
  | 0 => ascii "A"
  | 1 => ascii "V"
  | 3 => ascii "Hz"
  | 4 => ascii "Hz/s"
  | 5 => ascii "deg"
  | _ => []

def CapRec.channelName (x : CapRec) (digital : Bool) (j : Nat) : ByteList :=
  let n := trimmed (bytesAt x.defn.names (16 * (j + if digital then x.defn.analog.length else 0)) 16)
  if n.isEmpty then ascii (if digital then "D" else "A") ++ decN j else n

/-! ### The three files -/

/-- Timestamp unit: 1 µs, or the smallest that makes the span fit. -/
def CapRec.span (x : CapRec) : Nat := ((x.ivs.head?.map (·.inst)).getD 0) - ((x.rows.head?.map (·.inst)).getD 0)
def CapRec.timemult (x : CapRec) : Nat := Nat.max 1 ((x.span / 1000 + 4294967294) / 4294967295)

def State.analogLine (s : State) (x : CapRec) (j : Nat) : ByteList :=
  let d := x.defn.analog.getD j 0
  let kind := adKind d
  let (e, top) := x.scale j
  let _ := s
  let vs := (x.entries j).filterMap fun w =>
    if storedValid x.defn.k w then some (exportValue kind x.defn.k e top w) else none
  let lo := vs.foldl min (vs.headD 0)
  let hi := vs.foldl max (vs.headD 0)
  line [decN (j + 1), x.channelName false j, [], [], unitText (adUnit d), scaleText (adUnit d) kind e top, ascii "0",
    ascii "0", decI lo, decI hi, ascii "1", ascii "1", ascii "P"]

/-- The configuration file (R344). -/
def State.cfgFile (s : State) (x : CapRec) : ByteList :=
  let na := x.defn.analog.length
  let nb := x.defn.binary.length
  let first := (x.rows.head?.map (·.inst)).getD 0
  let trig := if x.defn.mode = 1 then first else x.trigInst
  let steady := x.discs.isEmpty
  let f := s.grid
  let rate := decN (f / 2 ^ x.defn.k) ++
    (let r := f % 2 ^ x.defn.k
     if r = 0 then [] else ascii "." ++ decW x.defn.k (r * 5 ^ x.defn.k))
  line [x.defn.station, ascii "PZX-6400 " ++ Config.serialNumber, ascii "2013"] ++
  line [decN (na + nb), decN na ++ ascii "A", decN nb ++ ascii "D"] ++
  (List.range na).flatMap (s.analogLine x) ++
  ((List.range nb).flatMap fun j => line [decN (j + 1), x.channelName true j, [], [], ascii "0"]) ++
  line [decN s.nominal] ++
  (if steady then line [ascii "1"] ++ line [rate, decN x.count] else line [ascii "0"] ++ line [ascii "0", decN x.count]) ++
  s.utcText first ++ crlf ++ s.utcText trig ++ crlf ++
  line [ascii "BINARY32"] ++ line [decN x.timemult] ++ line [ascii "0", ascii "0"] ++
  line [if x.flagByte.testBit 5 then ascii "F" else ascii "0", ascii "0"]

/-- The data file (R345). -/
def CapRec.datFile (x : CapRec) : ByteList :=
  let first := (x.rows.head?.map (·.inst)).getD 0
  let tm := x.timemult * 1000
  let scales := (List.range x.defn.analog.length).map x.scale
  (enumFrom' 1 x.rows).flatMap fun p =>
    let r := p.1
    leBytes 4 p.2 ++ leBytes 4 ((2 * (r.inst - first) + tm) / (2 * tm)) ++
      ((enumFrom' 0 r.vals).flatMap fun q =>
        let (e, top) := scales.getD q.2 (0, 0)
        leBytes 4 (toBits 32 (exportValue (adKind (x.defn.analog.getD q.2 0)) x.defn.k e top q.1))) ++
      leBytes (2 * ((x.defn.binary.length + 15) / 16)) r.bins

/-- The information file (R346). -/
def State.infFile (s : State) (id slot : Nat) (x : CapRec) : ByteList :=
  let key := fun (k : String) (v : ByteList) => ascii k ++ ascii "=" ++ v ++ crlf
  ascii "[Isabatum PZX-6400]" ++ crlf ++ key "RecordID" (decN id) ++ key "Slot" (decN slot) ++
  key "Owner" (decN x.defn.owner) ++ key "AveragingExponent" (decN x.defn.k) ++ key "Flags" (decN x.flagByte) ++
  (x.trigs.flatMap fun t => key "Trigger" (joinWith comma [decN t.cond, decN t.flags, decN t.index, decN t.row,
    s.utcText t.inst])) ++
  key "NotListed" (decN x.unlisted) ++
  ((List.range x.defn.analog.length).flatMap fun j =>
    let m := x.measure j
    key "Channel" (joinWith comma [decN j, decN (x.scale j).1, sciF m.lo, decN m.loAt, sciF m.hi, decN m.hiAt,
      decN m.invalid])) ++
  (if x.defn.k = 0 then [] else (enumFrom' 0 x.rows).flatMap fun p =>
    (enumFrom' 0 (p.1.vals.zip p.1.valid)).flatMap fun q =>
      if bitsAt q.1.1 48 8 = 255 then key "ValidRows" (joinWith comma [decN p.2, decN q.2, decN q.1.2]) else []) ++
  (x.discs.flatMap fun d => key "Discontinuity" (decN d))

/-- File 0 .cfg, 1 .dat, 2 .inf of a stored record. -/
def State.exportFile (s : State) (x : StoredRec) (file : Nat) : ByteList :=
  match file with
  | 0 => s.cfgFile x.record
  | 1 => x.record.datFile
  | _ => s.infFile x.id x.slot x.record

end Sys2Proof.Machine
end

