-- ==== Sys2Proof/Machine/FacetUnit.lean ====
section
/-! DEFINITION. Facets (chapter 12): guest memory, definition, the states of Table 12.13, freezing, blobs, resets and
shares. -/

namespace Sys2Proof.Machine

/-! ### Guest memory (R14, R298) -/

def unitBytes : Nat := 2097152

def Facet.guestBytes (f : Facet) : Nat := f.units.length * unitBytes

/-- A range lies in guest memory. -/
def Facet.inside (f : Facet) (a n : Nat) : Bool := decide (a + n ≤ f.guestBytes)

def Facet.phys (f : Facet) (a : Nat) : Nat := guestBase + f.units.getD (a / unitBytes) 0 * unitBytes + a % unitBytes

def guestRead (m : Mem) (f : Facet) (a : Nat) : Nat → ByteList
  | 0 => []
  | n + 1 => memRead m (f.phys a) :: guestRead m f (a + 1) n

def guestWrite (m : Mem) (f : Facet) (a : Nat) : ByteList → Mem
  | [] => m
  | b :: l => guestWrite (memWrite m (f.phys a) b) f (a + 1) l

/-! ### Who reaches what (R11, R13, R22) -/

/-- Guest-physical base of the plane view, PLANE_BASE of Table 12.2a (R13). -/
def planeView : Nat := 0x1000000000

/-- A guest-physical address lies in the plane view. -/
def inPlaneView (a : Nat) : Bool := decide (planeView ≤ a ∧ a < planeView + 0x1800000)

/-- The channel whose ring entry stands at an offset of the plane (R12). -/
def planeChannel (o : Nat) : Nat := if o < 0x1000000 then o / 2048 else (o - 0x1000000) / 1024

/-- The facet may read the plane at a guest-physical address: the block of 64 channels that it lies in is granted (R13). -/
def Facet.planeGranted (f : Facet) (a : Nat) : Bool :=
  inPlaneView a && f.plane.testBit (planeChannel (a - planeView) / 64)

/-- A refused access of facet n outside the plane: counted against the facet and logged, and nothing else (R22). -/
def State.accessFault (s : State) (n addr kind : Nat) : State :=
  let f := s.facet n
  (s.setFacet n { f with accessFaults := wrap 64 (f.accessFaults + 1) }).logRec 0x0101 1 n 0 n (leBytes 8 addr ++ [byteOf kind])

/-- A refused access of facet n to the plane (R13). -/
def State.planeFault (s : State) (n addr kind : Nat) : State :=
  let f := s.facet n
  (s.setFacet n { f with planeFaults := wrap 64 (f.planeFaults + 1) }).logRec 0x0101 1 n 0 n (leBytes 8 addr ++ [byteOf kind])

/-- An access of facet n to a guest-physical address. A read of its memory or of a granted block answers the 8 bytes there
(log 23: the width of the access is the model's); what its own code stores or executes in its memory is its own; every
other access is refused. -/
def State.guestAccess (s : State) (n addr kind : Nat) : State :=
  let f := s.facet n
  if f.inside addr 8 then (if kind = 0 then s.answer 0 (guestRead s.mem f addr 8) else s)
  else if inPlaneView addr then
    if kind = 0 ∧ f.planeGranted addr then s.answer 0 (memReadList s.mem (sampleBase + (addr - planeView)) 8)
    else s.planeFault n addr kind
  else s.accessFault n addr kind

/-- An access of the steward to a physical address (R11): an unmapped one is refused, reads 0 and is logged; the reserved
region reads 0; the rings, the scheme logic data and guest memory answer their bytes. What the steward's own regions hold is
its firmware's and no state of the model (log 23). -/
def State.stewardAccess (s : State) (addr kind : Nat) : State :=
  match regionOf addr with
  | none => (if kind = 0 then s.answer 0 (leBytes 8 0) else s).logRec 0x0101 1 noFacet 0 0xFFFF (leBytes 8 addr ++ [byteOf kind])
  | some r =>
    if kind ≠ 0 then s
    else match r with
      | .reserved => s.answer 0 (leBytes 8 0)
      | .sampleRing | .phasorRing | .logicData | .guest => s.answer 0 (memReadList s.mem addr 8)
      | .boot | .tables | .steward | .log | .logSpare | .staging | .capture => s

/-! ### Defining and deleting (R299, R312) -/

def State.definedFacets (s : State) : List Nat := s.facets.facet.filterMap fun p => if p.2.state = 0 then none else some p.1

def State.usedUnits (s : State) : List Nat := s.facets.facet.flatMap fun p => if p.2.state = 0 then [] else p.2.units

/-- 0x5000:D2. -/
def State.freeUnits (s : State) : Nat := 28672 - s.usedUnits.length

/-- n free units. Which free units a facet is given the spec leaves open (R14): the model takes the lowest-numbered ones
(DESIGN CHOICE, log 23). -/
def State.takeUnits (s : State) (n : Nat) : List Nat :=
  let used := s.usedUnits
  ((List.range 28672).filter fun u => !used.contains u).take n

/-- The core mask's checks: not empty, no core of another facet, every domain ON. -/
def State.maskCode (s : State) (n mask : Nat) : Nat :=
  let others := s.definedFacets.filter (· != n)
  let bad := mask == 0 || (others.any fun m => Nat.land (s.coreMask m) mask != 0) ||
    (bitList mask 64).any fun k => !s.domOn (3 + k / 16)
  if bad then 0x0901 else 0

/-- Totals of a share over the defined facets, with facet n's at v. -/
def State.shareTotal (s : State) (n sub v : Nat) : Nat :=
  (s.definedFacets.filter (· != n)).foldl (fun a m => a + s.facetReg m sub) v

def shareLimit (sub : Nat) : Nat := if sub = 0x0B then 4096 else if sub = 0x0C then 16384 else 4096

/-- Receive filters of a facet with VALID set. -/
def validFilters (b : ByteList) : List ByteList := (chunks 12 8 b).filter fun f => (leAt f 0 1).testBit 7

/-- A filter without its reserved bits. -/
def filterKey (f : ByteList) : ByteList :=
  byteOf (leAt f 0 1 % 2) :: (bytesAt f 2 8)

def listDup : List ByteList → Bool
  | [] => false
  | x :: l => l.contains x || listDup l

def State.filterCode (s : State) (n : Nat) (b : ByteList) : Nat :=
  let mine := (validFilters b).map filterKey
  let others := (s.definedFacets.filter (· != n)).flatMap fun m => (validFilters (s.blob (0x5000 + m) 0x0A)).map filterKey
  if listDup mine || mine.any others.contains then 0x0913 else 0

def State.defineCode (s : State) (n : Nat) : Nat :=
  let base := s.facetReg n 8
  let cnt := s.facetReg n 9
  let clash := (s.definedFacets.filter (· != n)).any fun m =>
    decide (0 < cnt ∧ 0 < s.facetReg m 9 ∧ base < s.facetReg m 8 + s.facetReg m 9 ∧ s.facetReg m 8 < base + cnt)
  let units := s.facetReg n 6
  if (s.facet n).state ≠ 0 then 0x0906
  else firstCode
    [s.maskCode n (s.coreMask n), if units = 0 ∨ s.freeUnits < units then 0x0902 else 0,
     if 4096 < base + cnt ∨ clash = true then 0x0903 else 0,
     if [0x0B, 0x0C, 0x0D].any fun k => decide (shareLimit k < s.shareTotal n k (s.facetReg n k)) then 0x0904 else 0,
     if 8192 < s.shareTotal n 0x15 (s.facetReg n 0x15) ∨ 1048576 * s.facetReg n 0x15 < (s.facet n).boot.length then 0x0907
     else 0,
     s.filterCode n (s.blob (0x5000 + n) 0x0A)]

def State.defineFacet (s : State) (n : Nat) : State :=
  s.setFacet n { Facet.none with state := 1, units := s.takeUnits (s.facetReg n 6), boot := (s.facet n).boot,
                                 plane := leNat (s.blob (0x5000 + n) 7) }

/-- The tasks of a facet become FREE. -/
def State.freeTasks (s : State) (n : Nat) : State :=
  let base := s.facetReg n 8
  let cnt := s.facetReg n 9
  { s with facets := { s.facets with
      tasks := s.facets.tasks.filter fun p => !(decide (base ≤ p.1) && decide (p.1 < base + cnt)) } }

/-- Publishers that the facet owns are disabled. -/
def State.ownPubsOff (s : State) (n : Nat) : State :=
  applyAll (fun p s => if s.pubOwner p = n ∧ (s.pub p).on then (s.pubOff p).setReg (pubIndex p) 1 0 else s)
    (mapKeys s.goose.pubs) s

/-- TPO grants return to the steward. -/
def State.tpoReturn (s : State) (n : Nat) : State :=
  applyAll (fun k s => if (s.tpo k).owner = n ∨ (s.tpo k).newOwner = some n then
      (s.tpoGrant k 0xFFFF).setReg (tpoIndex k) 0x0A 0xFFFF else s) (List.range 16) s

def State.deleteFacet (s : State) (n : Nat) : State :=
  (((s.freeTasks n).ownPubsOff n).tpoReturn n).setFacet n Facet.none

/-! ### Records and the health cause -/

/-- Record 0x0901. -/
def State.facetEvent (s : State) (n command result : Nat) : State :=
  s.logRec 0x0901 1 n 0 n ([byteOf (s.facet n).state, byteOf command] ++ leBytes 2 result)

/-- The latched cause FACET_FROZEN is no longer present when no facet is frozen by its deadline or a fault. -/
def State.unfrozen (s : State) : State :=
  if s.facets.facet.any fun p => p.2.failed then s
  else { s with health := { s.health with present := withBit s.health.present 6 false } }

/-! ### Launch, freeze and thaw (R314, R315) -/

/-- The boot image matches its digest. -/
def State.launchCode (s : State) (n : Nat) : Nat :=
  let b := (s.facet n).boot
  if b.isEmpty ∨ sha256 b ≠ s.blob (0x5000 + n) 0x12 then 0x090A else 0

def clearUnits (m : Mem) : List Nat → Mem
  | [] => m
  | u :: l => clearUnits (memClear m (guestBase + u * unitBytes) (guestBase + (u + 1) * unitBytes)) l

/-- Guest memory is zeroed, the boot image copied to guest-physical 0; window registers are at their resets. -/
def State.launchFacet (s : State) (n : Nat) : State :=
  let f := s.facet n
  let mem := guestWrite (clearUnits s.mem f.units) f 0 (f.boot.take f.guestBytes)
  ({ s with mem := mem } : State).setFacet n
    { f with state := 2, ready := false, restored := false, mirrorErr := false, overShare := false, refusals := 0,
             swb := [], gooseBits := 0, gooseF := [], gooseResult := 0, dmaResult := 0, dmaCompleted := 0, dmaAccepted := 0,
             mbox := Mailbox.empty, irq := 0, nic := [], waitLimit := 0, affinityReg := 0, dispatchResult := 0, taskQuery := 0,
             waiters := [], answers := [], mirrorBase := 0, mirrorSize := 0 }

/-- Every core halts; cores in TAKE_WAIT return with REASON 3. -/
def State.freezeFacet (s : State) (n : Nat) : State :=
  let f := s.facet n
  s.setFacet n { f with state := 4, waiters := [],
                        answers := f.waiters.foldl (fun m c => mapPut c (takeWord 0 0 3 0 0) m) f.answers }

/-- A facet frozen by its deadline or a fault: logged, with the health warning. -/
def State.freezeByFault (s : State) (n : Nat) : State :=
  let t := s.freezeFacet n
  ((t.setFacet n { t.facet n with failed := true }).facetEvent n 0 0).latchCause 6 true

/-- Occupancy of the NIC share: transmit descriptors taken and not completed. -/
def NicQueue.outstanding (q : NicQueue) : Nat := (q.taken + 2 ^ 32 - q.txHead) % 2 ^ 32
def Facet.nicOccupancy (f : Facet) : Nat := f.nic.foldl (fun a p => a + p.2.outstanding) 0

/-- The NICs take descriptors in queue order while the occupancy is below the share (R310). -/
def takeQueues (share : Nat) : Map NicQueue → Nat → Map NicQueue
  | [], _ => []
  | (k, q) :: l, occ =>
    let n := Nat.min ((q.txTail + 2 ^ 32 - q.taken) % 2 ^ 32) (share - occ)
    (k, { q with taken := (q.taken + n) % 2 ^ 32 }) :: takeQueues share l (occ + n)

def State.nicTake (s : State) (n : Nat) : State :=
  let f := s.facet n
  if f.live then s.setFacet n { f with nic := takeQueues (s.facetReg n 0x0C) f.nic f.nicOccupancy } else s

def State.thawFacet (s : State) (n : Nat) : State :=
  let f := s.facet n
  ((s.setFacet n { f with state := if f.ready then 3 else 2, failed := false }).nicTake n).unfrozen

/-! ### Blobs (R316, R317, Table 12.14)

The state section after the header is laid out by the model as 64-bit little-endian words (log 13). -/

/-- Position of core k in a mask, and the core at a position. -/
def corePos (mask k : Nat) : Nat := popCount (mask % 2 ^ k) 64
def coreAt (mask i : Nat) : Nat := (bitList mask 64).getD i 0

def toPositions (mask aff : Nat) : Nat := (bitList aff 64).foldl (fun a k => a + 2 ^ corePos mask k) 0
def fromPositions (mask pos : Nat) : Nat := (bitList pos 64).foldl (fun a i => a + 2 ^ coreAt mask i) 0

/-- A facet's tasks, by local number. -/
def State.ownTasks (s : State) (n : Nat) : List (Nat × Task) :=
  let base := s.facetReg n 8
  s.facets.tasks.filterMap fun p => if base ≤ p.1 ∧ p.1 < base + s.facetReg n 9 then some (p.1 - base, p.2) else none

def State.snapshot (s : State) (n : Nat) : Snapshot :=
  let f := s.facet n
  let mask := s.coreMask n
  let bytes := f.units.length * unitBytes
  { cores := popCount mask 64, units := f.units.length, taskCount := s.facetReg n 9, irq := toPositions mask f.irq, mbox := f.mbox, swb := f.swb, dma := f.dma,
    dmaCompleted := f.dmaCompleted, dmaAccepted := f.dmaAccepted, nic := f.nic,
    tasks := (s.ownTasks n).map fun p => (p.1, { p.2 with affinity := toPositions mask p.2.affinity, core := corePos mask p.2.core }),
    bindings := f.bindings, waitLimit := f.waitLimit, mirrorBase := f.mirrorBase, mirrorSize := f.mirrorSize, ready := f.ready,
    memory := (enumFrom' 0 f.units).flatMap fun u =>
      s.mem.filterMap fun c =>
        let lo := guestBase + u.1 * unitBytes
        if lo ≤ c.1 ∧ c.1 < lo + unitBytes ∧ 0 < bytes then some (u.2 * unitBytes + (c.1 - lo), c.2) else none }

def mapWords (m : Map Nat) : List Nat := m.length :: m.flatMap fun p => [p.1, p.2]

/-- The words of a state section. -/
def Snapshot.words (x : Snapshot) : List Nat :=
  let m := x.mbox
  mapWords m.inSlots ++ mapWords m.outSlots ++ [m.inProd, m.inCons, m.outProd, m.outCons, m.ctrl, m.status, m.noticeTag] ++
  mapWords x.swb ++ (x.dma.length :: x.dma.flatMap fun d => [d.src, d.dst, d.len, d.tag, d.completion]) ++
  [x.dmaCompleted, x.dmaAccepted] ++
  (x.nic.length :: x.nic.flatMap fun p => [p.1, p.2.ring, p.2.txTail, p.2.rxTail, p.2.txHead, p.2.rxHead, p.2.taken]) ++
  (x.tasks.length :: x.tasks.flatMap fun p => [p.1, p.2.state, p.2.flags, p.2.mask, boolNat p.2.all, p.2.priority,
    p.2.affinity, p.2.stamp, p.2.since, p.2.core, boolNat p.2.cancelPending]) ++
  mapWords x.bindings ++ [x.waitLimit, x.mirrorBase, x.mirrorSize, boolNat x.ready, x.irq]

/-- Groups of k words. -/
def groups (k : Nat) : Nat → List Nat → List (List Nat) × List Nat
  | 0, l => ([], l)
  | n + 1, l =>
    let (g, r) := groups k n (l.drop k)
    (l.take k :: g, r)

def counted (k : Nat) (l : List Nat) : List (List Nat) × List Nat :=
  groups k (Nat.min (l.headD 0) 8192) l.tail

def asMap (l : List (List Nat)) : Map Nat := l.map fun g => (g.getD 0 0, g.getD 1 0)

/-- A snapshot from its words. -/
def Snapshot.ofWords (cores units tasks : Nat) (w0 : List Nat) (memory : List (Nat × Byte)) : Snapshot :=
  let (ins, w1) := counted 2 w0
  let (outs, w2) := counted 2 w1
  let h := w2.take 7
  let (swb, w3) := counted 2 (w2.drop 7)
  let (dma, w4) := counted 5 w3
  let (nic, w5) := counted 7 (w4.drop 2)
  let (ts, w6) := counted 11 w5
  let (bs, w7) := counted 2 w6
  let g := fun (l : List Nat) (i : Nat) => l.getD i 0
  { cores := cores, units := units, taskCount := tasks, irq := g w7 4,
    mbox := { inSlots := asMap ins, outSlots := asMap outs, inProd := g h 0, inCons := g h 1, outProd := g h 2,
              outCons := g h 3, ctrl := g h 4, status := g h 5, held := [], noticeTag := g h 6 },
    swb := asMap swb,
    dma := dma.map fun l => { src := g l 0, dst := g l 1, len := g l 2, tag := g l 3, completion := g l 4 },
    dmaCompleted := g w4 0, dmaAccepted := g w4 1,
    nic := nic.map fun l => (g l 0, { ring := g l 1, txTail := g l 2, rxTail := g l 3, txHead := g l 4, rxHead := g l 5,
                                      taken := g l 6 }),
    tasks := ts.map fun l => (g l 0, { state := g l 1, flags := g l 2, mask := g l 3, all := g l 4 != 0, priority := g l 5,
                                       affinity := g l 6, stamp := g l 7, since := g l 8, core := g l 9,
                                       cancelPending := g l 10 != 0 }),
    bindings := asMap bs, waitLimit := g w7 0, mirrorBase := g w7 1, mirrorSize := g w7 2, ready := g w7 3 != 0,
    memory := memory }

def stateSection : Nat := 1048576

/-- Length of a blob of some units: state section, guest memory, digest. -/
def blobLength (units : Nat) : Nat := stateSection + units * unitBytes + 32

def Blob.empty : Blob := { state := 0, size := 0, source := 0, savedAt := (0, 0), snap := none, key := [], raw := [] }

def State.blobOf (s : State) (b : Nat) : Blob := mapGet s.facets.blobs b Blob.empty
def State.setBlobOf (s : State) (b : Nat) (x : Blob) : State :=
  { s with facets := { s.facets with blobs := mapPut b x s.facets.blobs } }

/-- Guest memory of a snapshot as bytes. -/
def expand (memory : List (Nat × Byte)) : Nat → Nat → ByteList
  | 0, _ => []
  | n + 1, a =>
    match memory with
    | [] => List.replicate (n + 1) (byteOf 0)
    | (k, v) :: l => if k = a then v :: expand l n (a + 1) else byteOf 0 :: expand memory n (a + 1)

/-- The bytes of a blob: as downloaded, or made from what this module saved. -/
def Blob.bytes (x : Blob) : ByteList :=
  match x.snap with
  | none => x.raw
  | some sn =>
    let head := [byteOf 0x50, byteOf 0x5A, byteOf 0x46, byteOf 0x42] ++ leBytes 2 1 ++ leBytes 2 x.source ++
      padTo 12 Config.serialNumber ++ leBytes 6 x.savedAt.1 ++ leBytes 4 x.savedAt.2 ++ leBytes 2 sn.cores ++
      leBytes 2 sn.units ++ leBytes 2 sn.taskCount ++ leBytes 4 (blobLength sn.units) ++ List.replicate 24 (byteOf 0)
    let body := padTo stateSection (head ++ sn.words.flatMap (leBytes 8)) ++ expand sn.memory (sn.units * unitBytes) 0
    body ++ hmacSha256 x.key body

/-- Bytes of guest memory that are not 0, from the section after the state section. -/
def sparse (a : Nat) : ByteList → List (Nat × Byte)
  | [] => []
  | b :: l => if b = byteOf 0 then sparse (a + 1) l else (a, b) :: sparse (a + 1) l

/-- The digest, format and magic of a downloaded blob, then its parts. -/
def parseBlob (key raw : ByteList) : Option Snapshot :=
  let n := raw.length - 32
  let body := raw.take n
  let units := leAt raw 32 2
  if raw.length = blobLength units ∧ hmacSha256 key body = raw.drop n ∧ leAt raw 0 4 = 0x42465A50 ∧ leAt raw 4 2 = 1 then
    some (Snapshot.ofWords (leAt raw 30 2) units (leAt raw 34 2)
      ((chunks 8 ((stateSection - 64) / 8) (body.drop 64)).map leNat) (sparse 0 (body.drop stateSection)))
  else none

/-- The snapshot that a restore finds valid. -/
def State.blobSnap (s : State) (b : Nat) : Option Snapshot :=
  let x := s.blobOf b
  if x.state ≠ 2 then none
  else match x.snap with
    | some sn => if x.key = s.sec.migration then some sn else none
    | none => parseBlob s.sec.migration x.raw

def State.saveCode (s : State) (n : Nat) : Nat :=
  let u := (s.facet n).units.length
  let b := s.facetReg n 0x16
  if 2047 < u ∨ s.storeFree + (s.blobOf b).size < blobLength u then 0x0907 else 0

def State.startSave (s : State) (n : Nat) : State :=
  let b := s.facetReg n 0x16
  let f := s.facet n
  (s.setBlobOf b { Blob.empty with state := 1, size := blobLength f.units.length, source := n }).setFacet n { f with state := 5 }

/-- The blob that facet n is writing. -/
def State.writingBlob (s : State) (n : Nat) : Option Nat :=
  (s.facets.blobs.find? fun p => p.2.state == 1 && p.2.source == n).map (·.1)

/-- The save ends: the blob is valid, or invalid with 0x0907. -/
def State.endSave (s : State) (n : Nat) (ok : Bool) : State :=
  let f := s.facet n
  if f.state ≠ 5 then s
  else
    match s.writingBlob n with
    | none => s
    | some b =>
      let x := s.blobOf b
      let y := if ok then { x with state := 2, snap := some (s.snapshot n), key := s.sec.migration,
                                   savedAt := (s.time.sec, s.time.ns) }
        else { x with state := 3 }
      let c := if ok then 0 else 0x0907
      ((s.setBlobOf b y).setFacet n { f with state := 4, result := c }).facetEvent n 4 c

/-- A restore ends. `read` is the result of reading the blob; the checks of R317 come first. -/
def State.endRestore (s : State) (n read : Nat) : State :=
  let f := s.facet n
  if f.state ≠ 6 then s
  else
    let mask := s.coreMask n
    let fail := fun (c : Nat) => (s.setFacet n { f with state := 8, result := c }).facetEvent n 5 c
    match s.blobSnap (s.facetReg n 0x16) with
    | none => fail 0x0908
    | some sn =>
      if sn.cores ≠ popCount mask 64 ∨ sn.units ≠ f.units.length ∨ sn.taskCount ≠ s.facetReg n 9 then fail 0x0909
      else if read ≠ 0 then fail read
      else
        let base := s.facetReg n 8
        let mem := sn.memory.foldl (fun m c => memWrite m (f.phys c.1) c.2) (clearUnits s.mem f.units)
        let s1 := ({ s with mem := mem } : State).freeTasks n
        let s2 := applyAll (fun p s => s.setTask (base + p.1)
          { p.2 with affinity := fromPositions mask p.2.affinity, core := coreAt mask p.2.core }) sn.tasks s1
        (s2.setFacet n { f with
          state := 4, result := 0, restored := true, irq := fromPositions mask sn.irq, mbox := sn.mbox, swb := sn.swb, dma := sn.dma,
          dmaCompleted := sn.dmaCompleted, dmaAccepted := sn.dmaAccepted, nic := sn.nic, bindings := sn.bindings,
          waitLimit := sn.waitLimit, mirrorBase := sn.mirrorBase, mirrorSize := sn.mirrorSize, ready := sn.ready,
          waiters := [], answers := [] }).facetEvent n 5 0

/-- A blob that has been downloaded; length 0 empties it. -/
def State.blobDownload (s : State) (b : Nat) (raw : ByteList) : Nat × State :=
  if raw.isEmpty then (0, s.setBlobOf b Blob.empty)
  else if s.storeFree + (s.blobOf b).size < raw.length then (0x0907, s)
  else (0, s.setBlobOf b { Blob.empty with state := 2, size := raw.length, raw := raw })

/-! ### Reset (R318) -/

/-- Steps 1 to 6. The queued descriptors that step 2 discards are counted at DMA_COUNT, the only count of descriptors
(DEDUCED, log 23). -/
def State.resetFacet (s : State) (n : Nat) : State :=
  let f := s.facet n
  let s0 := match f.state, s.writingBlob n with
    | 5, some b => s.setBlobOf b { s.blobOf b with state := 3 }
    | _, _ => s
  let s1 := ((s0.dropSubmissions n).capFacetReset n).freeTasks n
  let s2 := applyAll (fun k s => if (s.tpo k).owner = n then s.tpoOff k else s) (List.range 16) s1
  let s3 := { s2 with log := { s2.log with cursors := match mapFind s2.log.cursors n with
    | some c => mapPut n { c with cursor := 0, notify := false } s2.log.cursors
    | none => s2.log.cursors } }
  -- a reset of class 6 of Table 3.2
  ({ s3 with boot := { s3.boot with lastClass := 6 } } : State).setFacet n { s3.facet n with
    state := 7, ready := false, dma := [], dmaCompleted := wrap 32 (f.dmaCompleted + f.dma.length), nic := [], bindings := [], mbox := Mailbox.empty, irq := 0, waiters := [],
    answers := [], waitLimit := 0, swb := [] }

/-- Every engine has acknowledged. -/
def State.endReset (s : State) (n : Nat) : State :=
  let f := s.facet n
  if f.state = 7 then
    (((s.setFacet n { f with state := 1, failed := false, resets := wrap 32 (f.resets + 1) }).facetEvent n 6 0)).unfrozen
  else s

/-! ### Commands (R314) -/

/-- The result of a command 1 to 6 in the present state, before its own checks. -/
def facetCommandCode (state v : Nat) : Nat :=
  if v = 6 then (if state = 0 then 0x0906 else 0)
  else if state = 5 ∨ state = 6 ∨ state = 7 then 0x090B
  else
    match v with
    | 1 => if state = 1 then 0 else 0x0906
    | 2 => if state = 2 ∨ state = 3 then 0 else 0x0906
    | 3 => if state = 4 then 0 else 0x0906
    | 4 => if state = 4 then 0 else 0x0906
    | _ => if state = 1 ∨ state = 8 then 0 else 0x0906

/-- A write to :02: 1 launch, 2 freeze, 3 thaw, 4 save, 5 restore, 6 reset. :17 holds the result. -/
def State.facetCommand (s : State) (n v : Nat) : Nat × State :=
  let f := s.facet n
  let c0 := facetCommandCode f.state v
  let c := if c0 ≠ 0 then c0 else if v = 1 then s.launchCode n else if v = 4 then s.saveCode n else 0
  let done := fun (t : State) => t.setFacet n { t.facet n with result := c }
  if c ≠ 0 then (c, done s)
  else
    match v with
    | 1 => (0, (done (s.launchFacet n)).facetEvent n 1 0)
    | 2 => (0, (done (s.freezeFacet n)).facetEvent n 2 0)
    | 3 => (0, (done (s.thawFacet n)).facetEvent n 3 0)
    | 4 => (0, done (s.startSave n))
    | 5 => (0, done (s.setFacet n { f with state := 6 }))
    | _ => if f.state = 7 then (0, done s) else (0, done (s.resetFacet n))

/-- Facets that phase 9 waits for. -/
def State.setAwaited (s : State) (l : List Nat) : State := { s with boot := { s.boot with awaited := l } }

/-- The launch deadline of :11, or of 0xC001:04 (R65): phase 9 waits for the facet no longer. -/
def State.launchExpired (s : State) (n : Nat) : State :=
  (if (s.facet n).state = 2 then s.freezeByFault n else s).setAwaited (s.boot.awaited.filter fun k => k != n)

/-- Launch of the autostart facets in phase 9 (R65), which then waits for each of them, launched or refused. -/
def State.autostart (s : State) : State :=
  let l := s.facetKeys.filter fun n => (s.facet n).state == 1 && s.facetReg n 0x10 == 1
  (applyAll (fun n s => (s.facetCommand n 1).2) l s).setAwaited l

/-- Phase 9 exits once every autostart facet has been ready, or its launch deadline has expired. -/
def State.phase9 (s : State) : State :=
  let l := s.boot.awaited.filter fun n => (s.facet n).state != 3
  if s.boot.launched then (if l.isEmpty then (s.setAwaited l).endPhase 9 else s.setAwaited l) else s

/-- READY written 1 or 0. -/
def State.setReady (s : State) (n : Nat) (b : Bool) : State :=
  let f := s.facet n
  if f.live then s.setFacet n { f with ready := b, state := if b then 3 else 2 } else s

/-- A frozen facet is moved to a mask with the same number of cores: tasks and affinities follow by position (R300). -/
def State.moveCores (s : State) (n old new : Nat) : State :=
  let map := fun (a : Nat) => fromPositions new (toPositions old a)
  let f := s.facet n
  let s1 := s.setFacet n { f with affinityReg := map f.affinityReg, irq := map f.irq }
  applyAll (fun p s => s.setTask (s.facetReg n 8 + p.1)
    { p.2 with affinity := map p.2.affinity, core := coreAt new (corePos old p.2.core) }) (s1.ownTasks n) s1

/-- :23, write 1 clears :19 to :22. -/
def State.facetClear (s : State) (n : Nat) : State :=
  let f := s.facet n
  s.setFacet n { f with planeFaults := 0, accessFaults := 0, overRefusals := 0, mboxErrors := 0, taken := 0, lostPosts := 0,
                        nicDiscards := 0, dispatches := 0, longest := [] }

/-! ### Shares (R312, R313, Table 12.10) -/

def State.shareWord (s : State) (n k : Nat) : Nat :=
  let f := s.facet n
  match k with
  | 0 => s.facetReg n 0x0B * 2 ^ 32 + f.dma.length
  | 1 => s.facetReg n 0x0C * 2 ^ 32 + f.nicOccupancy
  | 2 => s.facetReg n 0x0D * 2 ^ 32 + s.poolUsed (some n)
  | 3 => s.facetReg n 9 * 2 ^ 16 + ((s.ownTasks n).filter fun p => p.2.state != 0).length
  | 4 => s.facetReg n 0x0E
  | _ => f.refusals

def State.shareCode (s : State) (n sub v : Nat) : Nat :=
  if sub = 0x0E then 0 else if (s.facet n).state ≠ 0 ∧ shareLimit sub < s.shareTotal n sub v then 0x0904 else 0

/-- After a share or the weight has been written. -/
def State.shareChanged (s : State) (n : Nat) : State :=
  (s.nicTake n).notice n 0x0083 [s.shareWord n 0, s.shareWord n 1, s.shareWord n 4]

/-- The plane grant takes effect at the tick boundary, with its notice (R300, Table 12.7a). -/
def State.grantTick (s : State) : State :=
  applyAll (fun n s =>
    let f := s.facet n
    let g := leNat (s.blob (0x5000 + n) 7)
    if f.state = 0 ∨ f.plane = g then s
    else (s.setFacet n { f with plane := g }).grantNotice n) s.facetKeys s

end Sys2Proof.Machine
end

