-- ==== Sys2Proof/Machine/FacetPorts.lean ====
section
/-! DEFINITION. The facet window's ports (R301 to R310, R320, R321): mirror set, mailbox indices and slots, software
bits, DMA, NIC queues, dispatch ports and event bindings. -/

namespace Sys2Proof.Machine

/-- The guest of facet n executes: its cores run and the dispatch domain is on. -/
def State.guest (s : State) (n : Nat) : Bool := s.domOn 2 && (s.facet n).live

/-- A facet changed by its guest. -/
def State.mapFacet (s : State) (n : Nat) (g : Facet → Facet) : State := s.setFacet n (g (s.facet n))

/-! ### Mirror set (Table 12.3) -/

/-- A write to MIRROR_BASE or MIRROR_SIZE that the checks refuse is ignored and sets MIRROR_ERR (log 14: so is a size
that is no multiple of 64). -/
def State.mirrorSet (s : State) (n : Nat) (isSize : Bool) (v : Nat) : State :=
  s.mapFacet n fun f =>
    let base := if isSize then f.mirrorBase else 4096 * bitsAt v 12 36
    let size := if isSize then bitsAt v 0 17 else f.mirrorSize
    if (size == 0 || f.inside base size) && decide (size ≤ s.facetReg n 0x0F) && size % 64 == 0 then
      { f with mirrorBase := base, mirrorSize := size }
    else { f with mirrorErr := true }

/-! ### Mailboxes (R302 to R304) -/

/-- (a − b) mod 2^32. -/
def sub32 (a b : Nat) : Nat := (a + 2 ^ 32 - b) % 2 ^ 32

/-- A refused index or slot write: ERR and :1C. -/
def Facet.mboxError (f : Facet) : Facet :=
  { f with mboxErrors := wrap 64 (f.mboxErrors + 1), mbox := { f.mbox with status := withBit f.mbox.status 1 true } }

/-- OUT_PROD (R303). -/
def State.outProdWrite (s : State) (n v : Nat) : State :=
  let p := v % 2 ^ 32
  s.mapFacet n fun f =>
    if 1 ≤ sub32 p f.mbox.outProd ∧ sub32 p f.mbox.outCons ≤ 16 then { f with mbox := { f.mbox with outProd := p } }
    else f.mboxError

/-- IN_CONS (R303); freed slots let held messages through (R304). -/
def State.inConsWrite (s : State) (n v : Nat) : State :=
  let c := v % 2 ^ 32
  let f := s.facet n
  if sub32 c f.mbox.inCons ≤ sub32 f.mbox.inProd f.mbox.inCons then
    releaseHeld n f.mbox.held (s.setFacet n { f with mbox := { f.mbox with inCons := c } })
  else s.setFacet n f.mboxError

/-- MBOX_STATUS: bits written 1 are cleared; the interrupt goes with IN_PENDING. -/
def State.mboxStatusWrite (s : State) (n v : Nat) : State :=
  s.mapFacet n fun f =>
    let st := (bitList (v % 8) 3).foldl (fun x i => withBit x i false) f.mbox.status
    { f with irq := if v.testBit 0 then 0 else f.irq, mbox := { f.mbox with status := st } }

/-- MBOX_CTRL keeps IN_IRQ_EN and TARGET. -/
def State.mboxCtrlWrite (s : State) (n v : Nat) : State :=
  s.mapFacet n fun f => { f with mbox := { f.mbox with ctrl := bitsAt v 8 1 * 256 + bitsAt v 0 6 } }

/-- A write to outbound slot i: accepted where the slot is free (R302). -/
def State.outSlotWrite (s : State) (n i v : Nat) : State :=
  s.mapFacet n fun f =>
    if (i + 16 - f.mbox.outCons % 16) % 16 < sub32 f.mbox.outProd f.mbox.outCons then f.mboxError
    else { f with mbox := { f.mbox with outSlots := mapPut i v f.mbox.outSlots } }

/-! ### Software bits (R308) -/

/-- SWB_w written (0), set (1) or cleared (2). -/
def State.swbOp (s : State) (n w op v : Nat) : State :=
  s.mapFacet n fun f =>
    let old := mapGet f.swb w 0
    let new := match op with
      | 0 => v % 2 ^ 64
      | 1 => Nat.lor old (v % 2 ^ 64)
      | _ => old - Nat.land old v
    { f with swb := mapPut w new f.swb }

/-! ### DMA (R309, Table 12.8) -/

/-- A refused descriptor: its tag and code at DMA_RESULT. -/
def Facet.dmaRefuse (f : Facet) (tag code : Nat) : Facet := { f with dmaResult := tag * 2 ^ 32 + code }

/-- DMA_SUBMIT. The tag of a descriptor that the module cannot read is a free value (log 14). -/
def State.dmaSubmit (s : State) (n a : Nat) : State :=
  let f := s.facet n
  if !(f.inside a 32) then (s.setFacet n (f.dmaRefuse (s.free % 65536) 0x090C)).nextFree
  else
    let b := guestRead s.mem f a 32
    let d : DmaDesc := { src := leAt b 0 8, dst := leAt b 8 8, len := leAt b 16 4, tag := leAt b 20 2,
                         completion := leAt b 24 4 }
    let reserved := leAt b 22 2 ≠ 0 ∨ leAt b 28 4 ≠ 0 ∨ bitsAt d.completion 29 2 ≠ 0 ∨ bitsAt d.completion 12 12 ≠ 0
    if a % 32 ≠ 0 ∨ reserved ∨ d.len = 0 ∨ 16777216 < d.len ∨ f.inside d.src d.len = false ∨ f.inside d.dst d.len = false then
      s.setFacet n (f.dmaRefuse d.tag 0x090C)
    else if s.facetReg n 0x0B ≤ f.dma.length then
      s.setFacet n { f.dmaRefuse d.tag 0x0905 with
        overShare := true, refusals := wrap 64 (f.refusals + 1), overRefusals := wrap 64 (f.overRefusals + 1) }
    else s.setFacet n { f with dma := f.dma ++ [d], dmaAccepted := wrap 32 (f.dmaAccepted + 1) }

/-- The oldest accepted descriptor's data lands: the whole source is read before the destination is written. -/
def State.dmaComplete (s : State) (n : Nat) : State :=
  let f := s.facet n
  match f.dma with
  | [] => s
  | d :: l =>
    let mem := guestWrite s.mem f d.dst (guestRead s.mem f d.src d.len)
    let s1 := ({ s with mem := mem } : State).setFacet n { f with dma := l, dmaCompleted := wrap 32 (f.dmaCompleted + 1) }
    if d.completion.testBit 31 then s1.postFlags n (bitsAt d.completion 0 12) (2 ^ bitsAt d.completion 24 5) else s1

/-! ### NIC queues (R309, R310, Table 12.9) -/

def NicQueue.none : NicQueue := { ring := 0, txTail := 0, rxTail := 0, txHead := 0, rxHead := 0, taken := 0 }

def Facet.queue (f : Facet) (q : Nat) : NicQueue := mapGet f.nic q NicQueue.none
def Facet.setQueue (f : Facet) (q : Nat) (x : NicQueue) : Facet := { f with nic := mapPut q x f.nic }

def NicQueue.base (x : NicQueue) : Nat := 4096 * bitsAt x.ring 12 36
def NicQueue.entries (x : NicQueue) : Nat := 2 ^ bitsAt x.ring 0 4

/-- NQ_RING: the ring is set and every count is 0. -/
def State.nqRingWrite (s : State) (n q v : Nat) : State :=
  s.mapFacet n fun f => f.setQueue q { NicQueue.none with ring := 4096 * bitsAt v 12 36 + bitsAt v 0 4 }

/-- NQ_TX_TAIL: the NIC takes what the share allows. -/
def State.nqTxWrite (s : State) (n q v : Nat) : State :=
  (s.mapFacet n fun f => f.setQueue q { f.queue q with txTail := v % 2 ^ 32 }).nicTake n

def State.nqRxWrite (s : State) (n q v : Nat) : State :=
  s.mapFacet n fun f => f.setQueue q { f.queue q with rxTail := v % 2 ^ 32 }

/-- Status of a completed descriptor: DONE, and ERROR with a reason. -/
def nicStatus (reason : Nat) : Nat := 0x8000 + (if reason = 0 then 0 else 0x4000 + reason)

/-- Writing a field of a descriptor that lies in guest memory. -/
def Facet.writeField (f : Facet) (m : Mem) (a : Nat) (b : ByteList) : Mem :=
  if f.inside a b.length then guestWrite m f a b else m

/-- The NIC completes the oldest descriptor that it has taken; one with an error sends nothing. -/
def State.nicTransmit (s : State) (n q : Nat) : State :=
  let f := s.facet n
  let x := f.queue q
  if x.outstanding = 0 then s
  else
    let a := x.base + 16 * (x.txHead % x.entries)
    let d := if f.inside a 16 then guestRead s.mem f a 16 else []
    let len := leAt d 8 2
    let reason :=
      if f.inside a 16 = false ∨ f.inside (leAt d 0 8) len = false then 1
      else if len < 60 ∨ 1532 < len then 2
      else if 5 < leAt d 12 1 then 3
      else 0
    let mem := f.writeField s.mem (a + 14) (leBytes 2 (nicStatus reason))
    let s1 := ({ s with mem := mem } : State).setFacet n (f.setQueue q { x with txHead := wrap 32 (x.txHead + 1) })
    (s1.postSource n (32 + q) 0).nicTake n

/-- A filter (R309) that a received frame matches. -/
def filterMatches (nic vid mac : Nat) (b : ByteList) : Bool :=
  (leAt b 0 1).testBit 7 && leAt b 0 1 % 2 == nic && (beAt b 2 2 == 0 || beAt b 2 2 == vid) && beAt b 4 6 == mac

/-- The first queue, by facet and queue number, whose filter matches. -/
def State.matchQueue (s : State) (nic vid mac : Nat) : Option (Nat × Nat) :=
  ((s.definedFacets.flatMap fun n =>
    (enumFrom' 0 (chunks 12 8 (s.blob (0x5000 + n) 0x0A))).filterMap fun p =>
      if filterMatches nic vid mac p.1 then some (n, p.2) else none).head?)

/-- The frame fills the next posted buffer of its queue. -/
def State.nicFill (s : State) (n q tci : Nat) (data : ByteList) : State :=
  let f := s.facet n
  let x := f.queue q
  if !f.live || x.rxTail == x.rxHead then s.setFacet n { f with nicDiscards := wrap 64 (f.nicDiscards + 1) }
  else
    let a := x.base + 16 * x.entries + 16 * (x.rxHead % x.entries)
    let d := if f.inside a 16 then guestRead s.mem f a 16 else []
    let buf := leAt d 0 8
    let reason :=
      if f.inside a 16 = false ∨ f.inside buf (leAt d 8 2) = false then 1
      else if leAt d 8 2 < data.length then 4
      else 0
    let m1 := if reason = 0 then
        f.writeField (guestWrite s.mem f buf data) (a + 8) (leBytes 2 data.length ++ leBytes 2 tci)
      else s.mem
    let m2 := f.writeField m1 (a + 14) (leBytes 2 (nicStatus reason))
    let s1 := ({ s with mem := m2 } : State).setFacet n (f.setQueue q { x with rxHead := wrap 32 (x.rxHead + 1) })
    if reason = 0 then s1.postSource n (24 + q) 0 else s1

/-- A frame that matches no filter goes to the steward's own queues (R22, R317). DESIGN CHOICE (log 23): the newest 1,024
frames are kept, since the spec gives those queues no depth. -/
def State.nicReceive (s : State) (nic vid tci : Nat) (data : ByteList) : State :=
  match s.matchQueue nic vid (beAt data 0 6) with
  | some (n, q) => s.nicFill n q tci data
  | none =>
    let l := s.facets.steward ++ [{ nic := nic, vid := vid, tci := tci, data := data }]
    { s with facets := { s.facets with steward := l.drop (l.length - 1024) } }

/-! ### Dispatch ports (R320, R321, Tables 12.11, 12.15 to 12.17) -/

def State.coreAnswer (s : State) (n core w : Nat) : State :=
  (s.mapFacet n fun f => { f with answers := mapPut core w f.answers, waiters := f.waiters.filter (· != core) }).answer 0 (leBytes 8 w)

/-- TAKE. -/
def State.takeNow (s : State) (n core : Nat) : State :=
  match bestTask (s.candidates n core) with
  | some c =>
    let t := s.handOver n core c
    t.answer 0 (leBytes 8 (mapGet (t.facet n).answers core 0))
  | none => s.coreAnswer n core (takeWord 0 0 0 0 0)

/-- TAKE_WAIT: a ready task, else an interrupt pending for the core, else the core waits. -/
def State.takeOrWait (s : State) (n core : Nat) (irq : Bool) : State :=
  match bestTask (s.candidates n core) with
  | some _ => s.takeNow n core
  | none =>
    if irq || (s.facet n).irq.testBit core then s.coreAnswer n core (takeWord 0 0 1 0 0)
    else s.mapFacet n fun f => { f with waiters := f.waiters.filter (· != core) ++ [core] }

/-- WAIT_LIMIT expires for a waiting core. -/
def State.waitExpired (s : State) (n core : Nat) : State :=
  let f := s.facet n
  if f.waiters.contains core && f.waitLimit != 0 then s.coreAnswer n core (takeWord 0 0 2 0 0) else s

def State.dispatchCode (s : State) (n c : Nat) : State := s.mapFacet n fun f => { f with dispatchResult := c }

/-- An operation on local task t: refused with 0x090D outside the range or where the state does not permit it. -/
def State.taskOp (s : State) (n t : Nat) (ok : Task → Bool) (f : Nat → Task → State → State) : State :=
  let g := s.facetReg n 8 + t
  if s.facetReg n 9 ≤ t ∨ ok (s.task g) = false then s.dispatchCode n 0x090D
  else ((f g (s.task g) s).dispatchCode n 0).serveWaiters n

def opTask (v : Nat) : Nat := bitsAt v 32 12

/-- DONE: new mask and mode unless KEEP; YIELD; a pending cancel takes effect. -/
def State.taskDone (s : State) (n core v : Nat) : State :=
  s.taskOp n (opTask v) (fun k => k.state == 3 && k.core == core) fun g k s =>
    let k1 := if v.testBit 63 then k else { k with mask := v % 2 ^ 32, all := v.testBit 62 }
    if k1.cancelPending then s.setTask g { k1 with state := 4, cancelPending := false }
    else if v.testBit 61 then s.makeReady g k1
    else s.settleTask g k1

/-- POST: a post to a FREE task is counted; one outside the range also answers 0x090D. -/
def State.taskPost (s : State) (n v : Nat) : State :=
  let t := opTask v
  (s.postFlags n t (v % 2 ^ 32)).dispatchCode n (if s.facetReg n 9 ≤ t then 0x090D else 0)

/-- AFFINITY names only cores of the facet. -/
def State.affinityOk (s : State) (n : Nat) : Bool :=
  let a := (s.facet n).affinityReg
  Nat.land a (s.coreMask n) == a

def State.taskCreate (s : State) (n v : Nat) : State :=
  if s.affinityOk n then
    s.taskOp n (opTask v) (fun k => k.state == 0) fun g _ s =>
      s.setTask g { Task.free with state := 1, mask := v % 2 ^ 32, all := v.testBit 56, priority := bitsAt v 57 3,
                                   affinity := (s.facet n).affinityReg }
  else s.dispatchCode n 0x090E

def State.taskCancel (s : State) (n v : Nat) : State :=
  s.taskOp n (opTask v) (fun k => k.state == 1 || k.state == 2 || k.state == 3) fun g k s =>
    if k.state = 3 then s.setTask g { k with cancelPending := true } else s.setTask g { k with state := 4 }

def State.taskRestart (s : State) (n v : Nat) : State :=
  s.taskOp n (opTask v) (fun k => k.state == 4) fun g k s => s.settleTask g k

def State.taskDelete (s : State) (n v : Nat) : State :=
  s.taskOp n (opTask v) (fun k => k.state == 1 || k.state == 2 || k.state == 4) fun g _ s =>
    { s with facets := { s.facets with tasks := mapDel g s.facets.tasks } }

def State.taskSet (s : State) (n v : Nat) : State :=
  if s.affinityOk n then
    s.taskOp n (opTask v) (fun _ => true) fun g k s =>
      let k1 := { k with priority := bitsAt v 57 3, affinity := (s.facet n).affinityReg }
      if k.state = 2 then s.makeReady g k1 else s.setTask g k1
  else s.dispatchCode n 0x090E

/-- TASK_OP by its OP field; another OP is refused with 0x090D (log 14). -/
def State.taskWord (s : State) (n v : Nat) : State :=
  match bitsAt v 60 4 with
  | 1 => s.taskCreate n v
  | 2 => s.taskCancel n v
  | 3 => s.taskRestart n v
  | 4 => s.taskDelete n v
  | 5 => s.taskSet n v
  | _ => s.dispatchCode n 0x090D

/-- A binding's source is one of Table 12.17, and a TPO is granted to the facet. -/
def State.sourceOk (s : State) (n src : Nat) : Bool :=
  src == 0 || src == 1 || src == 18 || src == 19 || decide (24 ≤ src ∧ src ≤ 39) ||
    (decide (2 ≤ src ∧ src ≤ 17) && (s.tpo (src - 2)).owner == n)

/-- EVENT_BIND_i. -/
def State.bindWrite (s : State) (n i v : Nat) : State :=
  if v.testBit 63 && (!s.sourceOk n (bitsAt v 0 8) || decide (s.facetReg n 9 ≤ bitsAt v 36 12)) then s.dispatchCode n 0x090F
  else
    let w := bitsAt v 63 1 * 2 ^ 63 + bitsAt v 48 5 * 2 ^ 48 + bitsAt v 36 12 * 2 ^ 36 + bitsAt v 16 16 * 2 ^ 16 + bitsAt v 0 8
    s.mapFacet n fun f => { f with bindings := mapPut i w f.bindings }

/-- TASK_INFO. -/
def Task.info (k : Task) : Nat :=
  (if k.state = 3 then k.core * 65536 else 0) + boolNat k.all * 256 + k.priority * 16 + boolNat k.cancelPending * 8 + k.state

/-- Tasks READY at a priority. -/
def State.readyAt (s : State) (n p : Nat) : Nat := ((s.ownTasks n).filter fun x => x.2.state == 2 && x.2.priority == p).length

/-- READY_DEPTH. -/
def State.readyDepth (s : State) (n : Nat) : Nat :=
  (List.range 8).foldl (fun a p => a + Nat.min 255 (s.readyAt n p) * 256 ^ p) 0

end Sys2Proof.Machine
end

