-- ==== Sys2Proof/Machine/Messages.lean ====
section
/-! DEFINITION. The steward's service of outbound mailbox messages (R304, R307): echo, persistent area (R311) and
disturbance capture (R348). -/

namespace Sys2Proof.Machine

/-! ### Persistent area (R311) -/

/-- The usable size: the area less the boot image rounded up to whole MiB. -/
def State.persistSize (s : State) (n : Nat) : Nat :=
  1048576 * s.facetReg n 0x15 - 1048576 * (((s.facet n).boot.length + 1048575) / 1048576)

/-- Lengths of 1 to 16 MiB. -/
def lengthOk (len : Nat) : Bool := decide (1 ≤ len ∧ len ≤ 16777216)

/-- The check of offset, length and guest range; 0x0912 for a length outside its range (log 14). -/
def State.persistCode (s : State) (n off len a : Nat) : Nat :=
  if lengthOk len = false then 0x0912
  else if s.persistSize n < off + len then 0x0914
  else if (s.facet n).inside a len = false then 0x090C
  else 0

/-- Message answers: result, payload, state. -/
abbrev MsgResult := Nat × List Nat × State

def State.persistRead (s : State) (n off len a : Nat) : MsgResult :=
  let c := s.persistCode n off len a
  if c ≠ 0 then (c, [], s)
  else
    let f := s.facet n
    (0, [len], { s with mem := guestWrite s.mem f a (memReadList f.persist (guestBase + off) len) })

def State.persistWrite (s : State) (n off len a : Nat) : MsgResult :=
  let c := s.persistCode n off len a
  if c ≠ 0 then (c, [], s)
  else
    let f := s.facet n
    (0, [len], s.setFacet n { f with persist := memWriteList f.persist (guestBase + off) (guestRead s.mem f a len) })

/-! ### Capture messages (R348, Table 13.5) -/

/-- The slot exists and facet n owns it. -/
def State.ownsSlot (s : State) (n r : Nat) : Bool := decide (r < 32) && s.capReg r 2 == n

/-- Subindices and lengths of the header of a definition image. -/
def capHeaderFields : List (Nat × Nat) :=
  [(3, 1), (4, 1), (5, 4), (6, 4), (7, 2), (8, 1), (9, 1), (0x0A, 2), (0x0B, 2), (0x0C, 2)]

/-- The fields of a header as subindex and value, most significant byte first as in dictionary values (log 14). -/
def headerValues : List (Nat × Nat) → ByteList → List (Nat × Nat)
  | [], _ => []
  | (sub, w) :: l, b => (sub, beAt b 0 w) :: headerValues l (b.drop w)

/-- Each value lies in the range of its entry. -/
def headerOk (vals : List (Nat × Nat)) : Bool :=
  vals.all fun p => match entryOf (ek 0x7000 p.1) with
    | some e => decide (e.min ≤ (p.2 : Int) ∧ (p.2 : Int) ≤ e.max)
    | none => false

/-- 0x0801: the definition image is read from guest memory into an idle slot. -/
def State.capDefine (s : State) (n r a : Nat) : MsgResult :=
  let f := s.facet n
  if s.ownsSlot n r = false then (0x0806, [], s)
  else if (s.slot r).state ≠ 0 then (0x0805, [], s)
  else if f.inside a 64 = false then (0x090C, [], s)
  else
    let vals := headerValues capHeaderFields (guestRead s.mem f a 64)
    let v := fun (sub : Nat) => ((vals.find? fun p => p.1 == sub).map (·.2)).getD 0
    let na := 8 * v 0x0A
    let nb := 4 * v 0x0B
    let nc := 16 * v 0x0C
    let nn := 16 * (v 0x0A + v 0x0B)
    if headerOk vals = false then (0x0804, [], s)
    else if f.inside a (64 + na + nb + nc + nn) = false then (0x090C, [], s)
    else
      let s1 := vals.foldl (fun t p => State.setReg t (capIndex r) p.1 p.2) s
      let at' := fun (o k : Nat) => guestRead s.mem f (a + 64 + o) k
      (0, [], (((s1.setBlob (capIndex r) 0x10 (at' 0 na)).setBlob (capIndex r) 0x11 (at' na nb)).setBlob (capIndex r) 0x12
        (at' (na + nb) nc)).setBlob (capIndex r) 0x13 (at' (na + nb + nc) nn))

/-- 0x0802. -/
def State.capArmMsg (s : State) (n r : Nat) : MsgResult :=
  if s.ownsSlot n r then
    let p := s.arm r
    (p.1, [], if p.1 = 0 then p.2.setReg (capIndex r) 1 1 else p.2)
  else (0x0806, [], s)

/-- 0x0803. -/
def State.capDisarmMsg (s : State) (n r : Nat) : MsgResult :=
  if s.ownsSlot n r then (0, [], s.disarm r) else (0x0806, [], s)

/-- 0x0804. -/
def State.capTriggerMsg (s : State) (n r : Nat) : MsgResult :=
  if s.ownsSlot n r then
    let c := s.manualCode r
    (c, [], if c = 0 then s.manual r else s)
  else (0x0806, [], s)

def State.slotFlags (s : State) (r : Nat) : Nat := ((s.slot r).data.map (·.flagByte)).getD 0
def State.slotCount (s : State) (r : Nat) : Nat := ((s.slot r).data.map (·.count)).getD 0

/-- 0x0805: state in bits 7 to 0, flags in 15 to 8, intervals in 63 to 32 (log 14); last record ID. -/
def State.capStatusMsg (s : State) (n r : Nat) : MsgResult :=
  if s.ownsSlot n r then
    (0, [(s.slot r).state + 256 * s.slotFlags r + 2 ^ 32 * s.slotCount r, s.capReg r 0x1F], s)
  else (0x0806, [], s)

/-- 0x0806: part of a COMTRADE file into guest memory; the last slot holds the length in bits 63 to 36 and the guest
address below (log 14). -/
def State.capExportMsg (s : State) (n id file off w : Nat) : MsgResult :=
  let len := w / 2 ^ 36
  let a := w % 2 ^ 36
  let f := s.facet n
  match s.stored id with
  | none => (0x0808, [], s)
  | some x =>
    if x.record.defn.owner ≠ n then (0x0806, [], s)
    else if 2 < file ∨ lengthOk len = false then (0x0912, [], s)
    else if f.inside a len = false then (0x090C, [], s)
    else
      let part := ((s.exportFile x file).drop off).take len
      (0, [part.length], { s with mem := guestWrite s.mem f a part })

/-! ### Taking a message (R304) -/

/-- Payload length of the codes that have one; none for a code that is unknown. -/
def messageLength (code : Nat) : Option Nat :=
  match code with
  | 0x0801 => some 2
  | 0x0802 => some 1
  | 0x0803 => some 1
  | 0x0804 => some 1
  | 0x0805 => some 1
  | 0x0806 => some 4
  | 0x0920 => some 3
  | 0x0921 => some 3
  | 0x0922 => some 0
  | _ => none

/-- Execution of a request: result, reply payload, state. A payload of another length than the code's is malformed
(log 14). -/
def State.serve (s : State) (n code result : Nat) (p : List Nat) : MsgResult :=
  let w := fun (i : Nat) => p.getD i 0
  if result ≠ 0 then (0x0912, [], s)
  else if code = 1 then (0, p, s)
  else
    match messageLength code with
    | none => (0x0910, [], s)
    | some k =>
      if p.length ≠ k then (0x0912, [], s)
      else
        match code with
        | 0x0801 => s.capDefine n (w 0) (w 1)
        | 0x0802 => s.capArmMsg n (w 0)
        | 0x0803 => s.capDisarmMsg n (w 0)
        | 0x0804 => s.capTriggerMsg n (w 0)
        | 0x0805 => s.capStatusMsg n (w 0)
        | 0x0806 => s.capExportMsg n (w 0) (w 1) (w 2) (w 3)
        | 0x0920 => s.persistRead n (w 0) (w 1) (w 2)
        | 0x0921 => s.persistWrite n (w 0) (w 1) (w 2)
        | _ => (0, [s.persistSize n], s)

/-- The header of the message at OUT_CONS. -/
def Mailbox.head (m : Mailbox) : Nat := mapGet m.outSlots (m.outCons % 16) 0

def Mailbox.headCode (m : Mailbox) : Nat := bitsAt m.head 32 16

/-- The steward may take a message: it is whole, fewer than 64 answers are held, and the facet is launched. -/
def Facet.mayTake (f : Facet) : Bool :=
  let m := f.mbox
  f.launched && decide (m.held.length < 64 ∧ 1 + bitsAt m.head 28 4 ≤ sub32 m.outProd m.outCons)

/-- The steward takes one outbound message, executes it once and writes one reply. -/
def State.takeMessage (s : State) (n : Nat) : State :=
  let f := s.facet n
  if f.mayTake then
    let m := f.mbox
    let h := m.head
    let len := bitsAt h 28 4
    let payload := (List.range len).map fun i => mapGet m.outSlots ((m.outCons + 1 + i) % 16) 0
    let s1 := s.setFacet n { f with
      taken := wrap 64 (f.taken + 1),
      mbox := { m with outCons := wrap 32 (m.outCons + 1 + len), status := withBit m.status 2 true } }
    let r := s1.serve n m.headCode (h % 65536) payload
    r.2.2.sendToGuest n (msgHeader (h / 2 ^ 48) (m.headCode % 32768 + 32768) r.2.1.length r.1 :: r.2.1)
  else s

/-- The message at the head of the ring, where it has the code. -/
def State.takeCoded (s : State) (n code : Nat) : State :=
  if (s.facet n).mbox.headCode = code then s.takeMessage n else s

end Sys2Proof.Machine
end

