-- ==== Sys2Proof/Machine/Facets.lean ====
section
/-! DEFINITION. The meanings of the commands of chapters 12 and 13 that are events of a facet, of its guest, of its
engines, or of disturbance capture. -/

namespace Sys2Proof.Machine

/-! ### Facet states (R314 to R318) -/

def opSaveComplete (n : Nat) (ok : Bool) (s : State) : State := s.when s.stewardUp fun s => s.endSave n ok
def execSaveComplete (n : Nat) (ok : Bool) (s : State) : Host.Outcome State Fault Refusal :=
  checked (.saveComplete n ok) (opSaveComplete n ok s)

def opRestoreComplete (n result : Nat) (s : State) : State := s.when s.stewardUp fun s => s.endRestore n result
def execRestoreComplete (n result : Nat) (s : State) : Host.Outcome State Fault Refusal :=
  checked (.restoreComplete n result) (opRestoreComplete n result s)

def opFacetResetComplete (n : Nat) (s : State) : State := s.when s.stewardUp fun s => s.endReset n
def execFacetResetComplete (n : Nat) (s : State) : Host.Outcome State Fault Refusal :=
  checked (.facetResetComplete n) (opFacetResetComplete n s)

/-- READY written 1 (Table 12.13): the facet is READY, its software bits and its SYS bit follow from that state. -/
def opReadyReported (n : Nat) (s : State) : State := s.when (s.guest n) fun s => (s.setReady n true).phase9
def execReadyReported (n : Nat) (s : State) : Host.Outcome State Fault Refusal :=
  checked (.readyReported n) (opReadyReported n s)

def opReadyWithdrawn (n : Nat) (s : State) : State := s.when (s.guest n) fun s => s.setReady n false
def execReadyWithdrawn (n : Nat) (s : State) : Host.Outcome State Fault Refusal :=
  checked (.readyWithdrawn n) (opReadyWithdrawn n s)

/-- A core of the facet stops by a fault the hypervisor cannot resume: the facet is frozen and logged. -/
def opGuestCoreFault (n core : Nat) (s : State) : State :=
  s.when (s.guest n && (s.coreMask n).testBit core) fun s => s.freezeByFault n
def execGuestCoreFault (n core : Nat) (s : State) : Host.Outcome State Fault Refusal :=
  checked (.guestCoreFault n core) (opGuestCoreFault n core s)

/-- The launch deadline passes in LAUNCHING (R65, R314). -/
def opFacetLaunchDeadline (n : Nat) (s : State) : State := s.when s.stewardUp fun s => (s.launchExpired n).phase9
def execFacetLaunchDeadline (n : Nat) (s : State) : Host.Outcome State Fault Refusal :=
  checked (.facetLaunchDeadline n) (opFacetLaunchDeadline n s)

/-! ### Window writes (R301 to R310) -/

def opMirrorBase (n : Nat) (isSize : Bool) (v : Nat) (s : State) : State := s.when (s.guest n) fun s => s.mirrorSet n isSize v
def execMirrorBase (n : Nat) (isSize : Bool) (v : Nat) (s : State) : Host.Outcome State Fault Refusal :=
  checked (.mirrorBase n isSize v) (opMirrorBase n isSize v s)

def opOutProd (n v : Nat) (s : State) : State := s.when (s.guest n) fun s => s.outProdWrite n v
def execOutProd (n v : Nat) (s : State) : Host.Outcome State Fault Refusal := checked (.outProd n v) (opOutProd n v s)

def opInCons (n v : Nat) (s : State) : State := s.when (s.guest n) fun s => s.inConsWrite n v
def execInCons (n v : Nat) (s : State) : Host.Outcome State Fault Refusal := checked (.inCons n v) (opInCons n v s)

def opMboxStatus (n v : Nat) (s : State) : State := s.when (s.guest n) fun s => s.mboxStatusWrite n v
def execMboxStatus (n v : Nat) (s : State) : Host.Outcome State Fault Refusal :=
  checked (.mboxStatus n v) (opMboxStatus n v s)

def opSwbWrite (n w v : Nat) (s : State) : State := s.when (s.guest n) fun s => s.swbOp n w 0 v
def execSwbWrite (n w v : Nat) (s : State) : Host.Outcome State Fault Refusal := checked (.swbWrite n w v) (opSwbWrite n w v s)

def opSwbSet (n w v : Nat) (s : State) : State := s.when (s.guest n) fun s => s.swbOp n w 1 v
def execSwbSet (n w v : Nat) (s : State) : Host.Outcome State Fault Refusal := checked (.swbSet n w v) (opSwbSet n w v s)

def opSwbClr (n w v : Nat) (s : State) : State := s.when (s.guest n) fun s => s.swbOp n w 2 v
def execSwbClr (n w v : Nat) (s : State) : Host.Outcome State Fault Refusal := checked (.swbClr n w v) (opSwbClr n w v s)

def opDmaSubmit (n gpa : Nat) (s : State) : State := s.when (s.guest n) fun s => s.dmaSubmit n gpa
def execDmaSubmit (n gpa : Nat) (s : State) : Host.Outcome State Fault Refusal :=
  checked (.dmaSubmit n gpa) (opDmaSubmit n gpa s)

/-- Data of the oldest descriptor has landed; descriptors in progress at a freeze complete too (R315). -/
def opDmaCompletion (n : Nat) (s : State) : State :=
  s.when (s.domOn 2 && s.domOn 11 && (s.facet n).launched) fun s => s.dmaComplete n
def execDmaCompletion (n : Nat) (s : State) : Host.Outcome State Fault Refusal :=
  checked (.dmaCompletion n) (opDmaCompletion n s)

def opNqRing (n q v : Nat) (s : State) : State := s.when (s.guest n) fun s => s.nqRingWrite n q v
def execNqRing (n q v : Nat) (s : State) : Host.Outcome State Fault Refusal := checked (.nqRing n q v) (opNqRing n q v s)

def opNqTxTail (n q v : Nat) (s : State) : State := s.when (s.guest n) fun s => s.nqTxWrite n q v
def execNqTxTail (n q v : Nat) (s : State) : Host.Outcome State Fault Refusal := checked (.nqTxTail n q v) (opNqTxTail n q v s)

def opNqRxTail (n q v : Nat) (s : State) : State := s.when (s.guest n) fun s => s.nqRxWrite n q v
def execNqRxTail (n q v : Nat) (s : State) : Host.Outcome State Fault Refusal := checked (.nqRxTail n q v) (opNqRxTail n q v s)

def opNicTransmit (n q : Nat) (s : State) : State := s.when (s.domOn 8 && (s.facet n).launched && !s.power.framesStopped) fun s => s.nicTransmit n q
def execNicTransmit (n q : Nat) (s : State) : Host.Outcome State Fault Refusal :=
  checked (.nicTransmit n q) (opNicTransmit n q s)

def opNicReceive (nic vid tci : Nat) (data : ByteList) (s : State) : State := s.when (s.domOn 8) fun s => s.nicReceive nic vid tci data
def execNicReceive (nic vid tci : Nat) (data : ByteList) (s : State) : Host.Outcome State Fault Refusal :=
  checked (.nicReceive nic vid tci data) (opNicReceive nic vid tci data s)

/-! ### Mailbox messages (R304, R307, R311, R348) -/

def opOutboundMessage (n : Nat) (s : State) : State := s.when s.stewardUp fun s => s.takeMessage n
def execOutboundMessage (n : Nat) (s : State) : Host.Outcome State Fault Refusal :=
  checked (.outboundMessage n) (opOutboundMessage n s)

def opEcho (n : Nat) (s : State) : State := s.when s.stewardUp fun s => s.takeCoded n 0x0001
def execEcho (n : Nat) (s : State) : Host.Outcome State Fault Refusal := checked (.echo n) (opEcho n s)

def opPersistentRead (n : Nat) (s : State) : State := s.when s.stewardUp fun s => s.takeCoded n 0x0920
def execPersistentRead (n : Nat) (s : State) : Host.Outcome State Fault Refusal :=
  checked (.persistentRead n) (opPersistentRead n s)

def opPersistentWrite (n : Nat) (s : State) : State := s.when s.stewardUp fun s => s.takeCoded n 0x0921
def execPersistentWrite (n : Nat) (s : State) : Host.Outcome State Fault Refusal :=
  checked (.persistentWrite n) (opPersistentWrite n s)

def opPersistentSize (n : Nat) (s : State) : State := s.when s.stewardUp fun s => s.takeCoded n 0x0922
def execPersistentSize (n : Nat) (s : State) : Host.Outcome State Fault Refusal :=
  checked (.persistentSize n) (opPersistentSize n s)

def opCaptureDefine (n : Nat) (s : State) : State := s.when s.stewardUp fun s => s.takeCoded n 0x0801
def execCaptureDefine (n : Nat) (s : State) : Host.Outcome State Fault Refusal :=
  checked (.captureDefine n) (opCaptureDefine n s)

def opCaptureArm (n : Nat) (s : State) : State := s.when s.stewardUp fun s => s.takeCoded n 0x0802
def execCaptureArm (n : Nat) (s : State) : Host.Outcome State Fault Refusal := checked (.captureArm n) (opCaptureArm n s)

def opCaptureDisarm (n : Nat) (s : State) : State := s.when s.stewardUp fun s => s.takeCoded n 0x0803
def execCaptureDisarm (n : Nat) (s : State) : Host.Outcome State Fault Refusal :=
  checked (.captureDisarm n) (opCaptureDisarm n s)

def opCaptureTrigger (n : Nat) (s : State) : State := s.when s.stewardUp fun s => s.takeCoded n 0x0804
def execCaptureTrigger (n : Nat) (s : State) : Host.Outcome State Fault Refusal :=
  checked (.captureTrigger n) (opCaptureTrigger n s)

def opCaptureStatus (n : Nat) (s : State) : State := s.when s.stewardUp fun s => s.takeCoded n 0x0805
def execCaptureStatus (n : Nat) (s : State) : Host.Outcome State Fault Refusal :=
  checked (.captureStatus n) (opCaptureStatus n s)

def opCaptureExport (n : Nat) (s : State) : State := s.when s.stewardUp fun s => s.takeCoded n 0x0806
def execCaptureExport (n : Nat) (s : State) : Host.Outcome State Fault Refusal :=
  checked (.captureExport n) (opCaptureExport n s)

/-! ### Dispatch ports (R320, R321) -/

def opTake (n core : Nat) (s : State) : State := s.when (s.guest n && (s.coreMask n).testBit core) fun s => s.takeNow n core
def execTake (n core : Nat) (s : State) : Host.Outcome State Fault Refusal := checked (.take n core) (opTake n core s)

def opTakeWait (n core : Nat) (irq : Bool) (s : State) : State :=
  s.when (s.guest n && (s.coreMask n).testBit core) fun s => s.takeOrWait n core irq
def execTakeWait (n core : Nat) (irq : Bool) (s : State) : Host.Outcome State Fault Refusal :=
  checked (.takeWait n core irq) (opTakeWait n core irq s)

def opWaitLimitExpiry (n core : Nat) (s : State) : State := s.when (s.guest n) fun s => s.waitExpired n core
def execWaitLimitExpiry (n core : Nat) (s : State) : Host.Outcome State Fault Refusal :=
  checked (.waitLimitExpiry n core) (opWaitLimitExpiry n core s)

def opDone (n core v : Nat) (s : State) : State := s.when (s.guest n) fun s => s.taskDone n core v
def execDone (n core v : Nat) (s : State) : Host.Outcome State Fault Refusal := checked (.done n core v) (opDone n core v s)

def opPost (n v : Nat) (s : State) : State := s.when (s.guest n) fun s => s.taskPost n v
def execPost (n v : Nat) (s : State) : Host.Outcome State Fault Refusal := checked (.post n v) (opPost n v s)

def opCreate (n v : Nat) (s : State) : State := s.when (s.guest n) fun s => s.taskCreate n v
def execCreate (n v : Nat) (s : State) : Host.Outcome State Fault Refusal := checked (.create n v) (opCreate n v s)

def opCancel (n v : Nat) (s : State) : State := s.when (s.guest n) fun s => s.taskCancel n v
def execCancel (n v : Nat) (s : State) : Host.Outcome State Fault Refusal := checked (.cancel n v) (opCancel n v s)

def opRestart (n v : Nat) (s : State) : State := s.when (s.guest n) fun s => s.taskRestart n v
def execRestart (n v : Nat) (s : State) : Host.Outcome State Fault Refusal := checked (.restart n v) (opRestart n v s)

def opDelete (n v : Nat) (s : State) : State := s.when (s.guest n) fun s => s.taskDelete n v
def execDelete (n v : Nat) (s : State) : Host.Outcome State Fault Refusal := checked (.delete n v) (opDelete n v s)

def opSetPriorityAndAffinity (n v : Nat) (s : State) : State := s.when (s.guest n) fun s => s.taskSet n v
def execSetPriorityAndAffinity (n v : Nat) (s : State) : Host.Outcome State Fault Refusal :=
  checked (.setPriorityAndAffinity n v) (opSetPriorityAndAffinity n v s)

def opEventBind (n i v : Nat) (s : State) : State := s.when (s.guest n) fun s => s.bindWrite n i v
def execEventBind (n i v : Nat) (s : State) : Host.Outcome State Fault Refusal := checked (.eventBind n i v) (opEventBind n i v s)

/-! ### Disturbance capture (R327, R341) -/

def opRowCapture (s : State) : State := s.when (s.domOn 11) State.startRow
def execRowCapture (s : State) : Host.Outcome State Fault Refusal := checked .rowCapture (opRowCapture s)

/-- Once every instant batch of the row has ended (R327). -/
def opBinaryCapture (s : State) : State := s.when (s.domOn 11 && s.capture.ready) State.finishRow
def execBinaryCapture (s : State) : Host.Outcome State Fault Refusal := checked .binaryCapture (opBinaryCapture s)

def opRecordStored (r : Nat) (s : State) : State := s.when s.stewardUp fun s => s.storeRecord r
def execRecordStored (r : Nat) (s : State) : Host.Outcome State Fault Refusal := checked (.recordStored r) (opRecordStored r s)

def opAutoReArm (r : Nat) (s : State) : State := s.when s.stewardUp fun s => s.rearmSlot r
def execAutoReArm (r : Nat) (s : State) : Host.Outcome State Fault Refusal := checked (.autoReArm r) (opAutoReArm r s)

end Sys2Proof.Machine
end

