-- ==== Sys2Proof/Machine/CanBus.lean ====
section
/-! DEFINITION. The meanings of the commands of chapter 16 that are events of a CAN FD controller. -/

namespace Sys2Proof.Machine

/-- A frame received without error (R416); a SHADE supervises stations from the output frames of its partner (R426). -/
def opCanFrameReceived (c : Nat) (fr : CanFrame) (s : State) : State :=
  s.when (s.domOn 1) fun s =>
    let st := (s.ctl c).state
    let s1 := s.canReceive c fr
    if s.stewardUp && !s.lit && (st == 1 || st == 2) && fr.ext && idKind fr.ident == 0x13 && idSrc fr.ident == s.partnerNode c then
      s1.seeOutput c fr
    else s1
def execCanFrameReceived (c : Nat) (fr : CanFrame) (s : State) : Host.Outcome State Fault Refusal :=
  checked (.canFrameReceived c fr) (opCanFrameReceived c fr s)

/-- The steward reads a FIFO's head register (R417). -/
def opFifoHeadRead (c fifo : Nat) (s : State) : State := s.when (s.domOn 1) fun s => s.headRead c fifo
def execFifoHeadRead (c fifo : Nat) (s : State) : Host.Outcome State Fault Refusal :=
  checked (.fifoHeadRead c fifo) (opFifoHeadRead c fifo s)

/-- Bus idle: the pending object with the lowest identifier is offered (R414). -/
def opTransmitOffer (c : Nat) (s : State) : State := s.when (s.domOn 1) fun s => s.offer c
def execTransmitOffer (c : Nat) (s : State) : Host.Outcome State Fault Refusal :=
  checked (.transmitOffer c) (opTransmitOffer c s)

/-- The offered frame's end of frame passes without error (R414). -/
def opFrameSent (c : Nat) (s : State) : State := s.when (s.domOn 1) fun s => s.sent c
def execFrameSent (c : Nat) (s : State) : Host.Outcome State Fault Refusal := checked (.frameSent c) (opFrameSent c s)

/-- A bus error (R418, R422). -/
def opBusError (c : Nat) (e : CanError) (s : State) : State := s.when (s.domOn 1) fun s => s.busError c e
def execBusError (c : Nat) (e : CanError) (s : State) : Host.Outcome State Fault Refusal :=
  checked (.busError c e) (opBusError c e s)

/-- 128 occurrences of 11 recessive bits end a recovery (R418). -/
def opRecoveryComplete (c : Nat) (s : State) : State :=
  s.when (s.domOn 1 && (s.ctl c).state == 4) fun s =>
    ((s.setCtl c { s.ctl c with state := 1, tec := 0, recv := 0 }).canEvent c 2).frameEnd c
def execRecoveryComplete (c : Nat) (s : State) : Host.Outcome State Fault Refusal :=
  checked (.recoveryComplete c) (opRecoveryComplete c s)

end Sys2Proof.Machine
end

