-- ==== Sys2Proof/Machine/Logic.lean ====
section
/-! DEFINITION. The meanings of the commands of chapters 10 and 11 that are events: instant batches, triggers, fast
direct inputs, exchange boundaries and station exchanges. -/

namespace Sys2Proof.Machine

/-- A logic processor runs the instant batch of the row in stage 8 (R273, R275); programs run from phase 7. -/
def opInstantBatch (lp : Nat) (s : State) : State := s.when (s.domOn 11) fun s => s.batch lp

def execInstantBatch (lp : Nat) (s : State) : Host.Outcome State Fault Refusal :=
  checked (.instantBatch lp) (opInstantBatch lp s)

/-- Triggers of fast, normal and slow programs (R272, R280). -/
def opTrigger (p cls : Nat) (s : State) : State := s.when (s.domOn 11) fun s => s.trigger p cls

def execFastCycle (p : Nat) (s : State) : Host.Outcome State Fault Refusal :=
  checked (.fastCycle p) (opTrigger p 1 s)

def execNormalCycle (p : Nat) (s : State) : Host.Outcome State Fault Refusal :=
  checked (.normalCycle p) (opTrigger p 2 s)

def execSlowCycle (p : Nat) (s : State) : Host.Outcome State Fault Refusal :=
  checked (.slowCycle p) (opTrigger p 3 s)

/-- An FDI pin changes level (R48, R279). -/
def opFdiEdge (pin : Nat) (level : Bool) (s : State) : State := s.when (s.domOn 11) fun s => s.fdiEdge pin level

def execFdiEdge (pin : Nat) (level : Bool) (s : State) : Host.Outcome State Fault Refusal :=
  checked (.fdiEdge pin level) (opFdiEdge pin level s)

/-- A pin has held its level for the filter time (R279). -/
def opFdiFilterExpiry (pin : Nat) (s : State) : State := s.when (s.domOn 11) fun s => s.fdiHeld pin

def execFdiFilterExpiry (pin : Nat) (s : State) : Host.Outcome State Fault Refusal :=
  checked (.fdiFilterExpiry pin) (opFdiFilterExpiry pin s)

/-- The cycle boundary of a program with a pending exchange (R288, R289). -/
def opExchangeSwitchAtBoundary (p : Nat) (s : State) : State := s.when (s.domOn 11) fun s => s.exchangeBoundary p

def execExchangeSwitchAtBoundary (p : Nat) (s : State) : Host.Outcome State Fault Refusal :=
  checked (.exchangeSwitchAtBoundary p) (opExchangeSwitchAtBoundary p s)

/-- A station's exchange instant (R423): only a LIT sends (R286). -/
def opStationExchange (n : Nat) (s : State) : State := s.when (s.stewardUp && s.driven) fun s => s.exchange n

def execStationExchange (n : Nat) (s : State) : Host.Outcome State Fault Refusal :=
  checked (.stationExchange n) (opStationExchange n s)

/-- Segments of a station's response are in FIFO 0 (R425). -/
def opStationResponse (n : Nat) (segs : List RespSeg) (s : State) : State :=
  s.when s.stewardUp fun s => s.response n segs

def execStationResponse (n : Nat) (segs : SegList) (s : State) : Host.Outcome State Fault Refusal :=
  checked (.stationResponse n segs) (opStationResponse n segs s)

/-- The response timeout ends (R282). A SHADE whose controller is neither error active nor passive counts no miss
(R426). -/
def opResponseTimeout (n : Nat) (s : State) : State :=
  let x := s.station n
  let c := (s.ctl (s.stationCtl n)).state
  s.when (s.stewardUp && x.state != 0 && x.awaiting && (s.driven || c == 1 || c == 2)) fun s => s.stationMiss n

def execResponseTimeout (n : Nat) (s : State) : Host.Outcome State Fault Refusal :=
  checked (.responseTimeout n) (opResponseTimeout n s)

end Sys2Proof.Machine
end

