-- ==== Sys2Proof/Machine/HealthUnit.lean ====
section
/-! DEFINITION. Self-tests and the health report (R380, R402 to R405). -/

namespace Sys2Proof.Machine

def TestEntry.fresh : TestEntry := { result := 0, unit := 0xFFFF, passes := 0, failures := 0, lastPass := none }

def State.testEntry (s : State) (i : Nat) : TestEntry := mapGet s.health.tests i TestEntry.fresh

/-- A test of Table 15.7 completes: 1 passing, 2 warning, 3 failed with the failing unit and an address. A failure
writes 0x0B07. -/
def State.testRan (s : State) (i result unit addr : Nat) : State :=
  let x := s.testEntry i
  let y : TestEntry :=
    if result = 1 then { x with result := 1, unit := 0xFFFF, passes := wrap 32 (x.passes + 1), lastPass := some s.mono }
    else { x with result := result, unit := unit, failures := wrap 32 (x.failures + 1) }
  let s1 := { s with health := { s.health with tests := mapPut i y s.health.tests } }
  if result = 1 then s1
  else s1.logRec 0x0B07 (if result = 2 then 1 else 2) noFacet 0 i
    ([byteOf result, byteOf 0] ++ leBytes 2 unit ++ List.replicate 4 (byteOf 0) ++ leBytes 8 addr)

/-- A test of one unit: a pass of the failing unit ends its failure and the condition of its latched cause; a pass of
another one counts beside it. -/
def State.unitTest (s : State) (i cause unit : Nat) (pass : Bool) : State :=
  let x := s.testEntry i
  if !pass then (s.latchCause cause true).testRan i 3 unit 0
  else if x.result = 3 ∧ x.unit ≠ unit then
    { s with health := { s.health with
        tests := mapPut i { x with passes := wrap 32 (x.passes + 1), lastPass := some s.mono } s.health.tests } }
  else ({ s with health := { s.health with present := withBit s.health.present cause false } } : State).testRan i 1 unit 0

/-- Tests that a LIT suspends (Table 15.7). -/
def suspendedOnLit (i : Nat) : Bool := i == 2 || i == 3 || i == 5 || i == 8 || i == 9

/-- A test entry of the report (Table 15.6). -/
def State.testBytes (s : State) (i : Nat) : ByteList :=
  let x := s.testEntry i
  let state := if s.lit && suspendedOnLit i then 4 else x.result
  let age := match x.lastPass with
    | some t => (s.mono - t) / 1000000000
    | none => 0xFFFFFFFF
  [byteOf state, byteOf 0] ++ leBytes 2 x.unit ++ leBytes 4 x.passes ++ leBytes 4 x.failures ++ leBytes 4 age

/-- Correctable DDR errors of the last hour. -/
def State.ddrLastHour (s : State) : Nat :=
  (s.health.ddrRecent.filter fun t => decide (s.mono < t + 3600000000000)).length

/-- The health report 0x9010:06 (R404). -/
def State.healthReport (s : State) : ByteList :=
  let h := s.health
  leBytes 2 1 ++ [byteOf h.flags, byteOf s.pair.role] ++ bytesAt Config.serialNumber 8 4 ++
  leBytes 8 h.warnings ++ leBytes 8 h.faults ++ leBytes 8 h.latched ++ leBytes 8 s.log.lastHealth ++
  leBytes 8 h.ddrCorrectable ++ leBytes 4 s.ddrLastHour ++ [byteOf s.log.state] ++ List.replicate 11 (byteOf 0) ++
  (List.range 12).flatMap s.testBytes

/-- DDR_CORRECTABLE follows the errors of the last hour. -/
def State.showDdr (s : State) : State := s.setCause 12 (decide (s.regN 0x9010 0x0A < s.ddrLastHour))

/-- Acknowledging latched causes (R403): TAKEOVER_FAULT, a live cause, is not among them. -/
def State.acknowledge (s : State) (mask : Nat) : Nat × State :=
  let m := mask % 2 ^ 64
  if Nat.land m s.health.latched ≠ m ∨ Nat.land m s.health.present ≠ 0 then (0x0B01, s)
  else (0, applyAll (fun b s => s.setCause b false) (bitList m 64) s)

end Sys2Proof.Machine
end

