-- ==== Sys2Proof/Machine/MirrorUnit.lean ====
section
/-! DEFINITION. What is mirrored between the modules of a pair (R361 to R368): the state of programs, publishers and
facet mirror sets, the messages that carry it, and the tick-class budget. -/

namespace Sys2Proof.Machine

/-! ### Program state (R364) -/

/-- Library blocks with state of their own. -/
def statefulType (n : Nat) : Bool :=
  decide (1 ≤ n ∧ n ≤ 16) || decide (68 ≤ n ∧ n ≤ 73) || n == 58 || n == 60 || n == 63 || n == 75 || n == 76 || n == 77 ||
    n == 79 || n == 80 || n == 84 || n == 92 || n == 93 || n == 94

/-- Instances with their paths, names and whether they lie in a RETAIN instance. -/
def namedInsts (types : List UserType) : Nat → Nat → ByteList → Option Bool → List InstDesc →
    List (Nat × ByteList × Bool × InstDesc)
  | 0, _, _, _, _ => []
  | d + 1, base, pre, keep, insts =>
    (enumFrom' 0 insts).flatMap fun p =>
      let path := childPath base p.2
      let name := pre ++ padTo 32 p.1.name
      let kept := keep.getD (p.1.flags == 1)
      (path, name, kept, p.1) ::
        match findType types p.1.typ with
        | some t => namedInsts types d path name (some kept) t.subs
        | none => []

def ProgImage.named (i : ProgImage) : List (Nat × ByteList × Bool × InstDesc) := namedInsts i.types 5 0 [] none i.insts

/-- The record of a stateful instance. -/
def stateWords (x : InstData) : List Int := [x.et, x.flags] ++ x.hist.map Int.ofNat

/-- The whole data of a RETAIN instance. -/
def retainWords (x : InstData) : List Int :=
  [x.et, x.flags, x.pt, x.pins, x.loc, x.outs.length] ++ x.outs.map Int.ofNat ++ x.hist.map Int.ofNat

/-- Data with the words of a record in place. -/
def withWords (retained : Bool) (x : InstData) (l : List Int) : InstData :=
  let n := fun (i : Nat) => (l.getD i 0).toNat
  if retained then
    { et := l.getD 0 0, flags := n 1, pt := l.getD 2 0, pins := n 3, loc := n 4,
      outs := ((l.drop 6).take (n 5)).map Int.toNat, hist := (l.drop (6 + n 5)).map Int.toNat }
  else { x with et := l.getD 0 0, flags := n 1, hist := (l.drop 2).map Int.toNat }

/-- Owned marker and retentive bits, and owned words. -/
def ownedBits (m : Mem) (i : ProgImage) : List (Nat × Nat × Bool) :=
  (claimed i.claims).filterMap fun w => if w.1 = 6 ∨ w.1 = 7 then some (w.1, w.2, areaBit m w.1 w.2) else none

def ownedWords (m : Mem) (i : ProgImage) : List (Nat × Nat × Nat) :=
  (claimed i.claims).filterMap fun w => if w.1 = 16 ∨ w.1 = 17 then some (w.1, w.2, memWord m (w.1 - 16) w.2) else none

/-- The state of a loaded program. -/
def State.progMirror (s : State) (p : Nat) : Option ProgMirror :=
  let x := s.prog p
  x.image.map fun i =>
    { prog := p,
      insts := i.named.flatMap fun q =>
        let d := mapGet x.data q.1 (startData q.2.2.2)
        (if statefulType q.2.2.2.typ then
          [{ name := q.2.1, typ := q.2.2.2.typ, retained := false, data := stateWords d : InstMirror }] else []) ++
        (if q.2.2.1 then [{ name := q.2.1, typ := q.2.2.2.typ, retained := true, data := retainWords d : InstMirror }] else []),
      bits := ownedBits s.mem i, words := ownedWords s.mem i }

/-- Bytes of a program's state in a mirror. -/
def ProgImage.mirrorBytes (i : ProgImage) : Nat :=
  let records := i.named.foldl (fun a q => a + if statefulType q.2.2.2.typ then stateBytes q.2.2.2.typ else 0) 0
  let count := fun (sp : Nat) => i.claims.foldl (fun a c => a + if c.1 = sp then c.2.2 else 0) 0
  records + i.retData + (count 6 + count 7 + 7) / 8 + 4 * (count 16 + count 17)

/-- An instance of the own program whose state is mirrored. -/
abbrev NamedInst := Nat × ByteList × Bool × InstDesc

/-- The mirrored words of an instance: those of its name and type (R76). -/
def mirrorOf (m : ProgMirror) (q : NamedInst) : List InstMirror :=
  m.insts.filter fun r => r.name == q.2.1 && r.typ == q.2.2.2.typ

/-- Instances of the own program with state that the mirror does not match by name and type. -/
def unmatchedOf (m : ProgMirror) (i : ProgImage) : List NamedInst :=
  i.named.filter fun q => (statefulType q.2.2.2.typ || q.2.2.1) && (mirrorOf m q).isEmpty

/-- The name of an instance alone: the last 32 bytes of its name with those of the blocks around it. -/
def lastName (n : ByteList) : ByteList := n.drop (n.length - 32)

/-- The exchange report of instances that first synchronisation leaves at their defaults (R76, R293): new where the LIT has
none of the name, type changed where it has. -/
def syncReport (p : Nat) (i : ProgImage) (m : ProgMirror) (l : List NamedInst) : ByteList :=
  let row := fun (q : NamedInst) =>
    let old := m.insts.find? fun r => r.name == q.2.1
    let was := (old.map (·.typ)).getD 0
    lastName q.2.1 ++ leBytes 2 was ++ leBytes 2 q.2.2.2.typ ++
      [byteOf (if old.isSome then 2 else 3), byteOf 0, byteOf 0, byteOf 0] ++ leBytes 4 0 ++ leBytes 4 (toBits 32 q.2.2.2.pt)
  leBytes 2 p ++ leBytes 2 l.length ++ (sha256 i.raw).take 8 ++ leBytes 4 0 ++ (l.map row).flatten

/-- Mirrored state overwrites what the standby computed (R364), matched by name and type (R76); what its own program does not
hold is left out. Own instances that nothing matches start from their defaults at first synchronisation (`first`) and are
listed in the exchange report. DEDUCED (log 23): at that one time, after which they run on; the report of an exchange that is
ready or pending stays. -/
def State.applyProg (s : State) (first : Bool) (m : ProgMirror) : State :=
  let x := s.prog m.prog
  match x.image with
  | none => s
  | some i =>
    let lone := if first then unmatchedOf m i else []
    let start := lone.foldl (fun (a : Map InstData) q => mapPut q.1 (startData q.2.2.2) a) x.data
    let data := i.named.foldl (fun (a : Map InstData) q =>
      (mirrorOf m q).foldl (fun a r => mapPut q.1 (withWords r.retained (mapGet a q.1 (startData q.2.2.2)) r.data) a) a) start
    let vals := (m.bits.map fun b => (b.1, b.2.1, boolNat b.2.2)) ++ m.words
    let owned := vals.filter fun w => claimHolds i.claims (w.1, w.2.1)
    let kept := lone.isEmpty || x.exState == 3 || x.exState == 4
    (s.editMem (putAll owned)).setProg m.prog { x with
      data := data, report := if kept then x.report else syncReport m.prog i m lone }

/-- The tick instant of a row of this stretch, counted back from the newest. -/
def State.rowInstant (s : State) (R : Nat) : Nat :=
  match s.lens.newest with
  | some (num, inst) => if R ≤ num then tickInstant s.grid (tickAt s.grid inst - (num - R)) else 0
  | none => 0

/-- A cycle of the program on a row later than t has started (R365). -/
def State.progLate (s : State) (p t : Nat) : Bool :=
  let x := s.prog p
  x.state == 2 && !x.first && decide (t < s.rowInstant x.lastRow)

/-- A late or discarded item; LATE_MIRROR for 1 s. -/
def State.lateItem (s : State) (late : Bool) : State :=
  let s1 := s.mirrorCount 6 1
  if late then { s1 with pair := { s1.pair with lateMirror := true } } else s1

/-! ### Facet mirror sets (R368) -/

/-- 0x8020 to 0x8023. -/
def State.mirrorClass (s : State) (n : Nat) : Nat := s.regN (0x8020 + n / 64) (n % 64 + 1)

def State.facetMirror (s : State) (n : Nat) : FacetMirror :=
  let f := s.facet n
  { facet := n, base := f.mirrorBase, data := if f.inside f.mirrorBase f.mirrorSize then guestRead s.mem f f.mirrorBase f.mirrorSize else [] }

/-- The sets of facets of some classes. -/
def State.mirrorSets (s : State) (cls : List Nat) : List FacetMirror :=
  (s.definedFacets.filter fun n => cls.contains (s.mirrorClass n) && decide (0 < (s.facet n).mirrorSize)).map s.facetMirror

/-- The set is written where the facet runs or is frozen, with the same base and size. -/
def State.applySet (s : State) (m : FacetMirror) : State :=
  let f := s.facet m.facet
  if (f.state = 2 ∨ f.state = 3 ∨ f.state = 4) ∧ f.mirrorBase = m.base ∧ f.mirrorSize = m.data.length ∧
      f.inside m.base m.data.length = true then
    { s with mem := guestWrite s.mem f m.base m.data }
  else s.lateItem false

/-! ### Mirror messages -/

def State.pubMirror (s : State) (p : Nat) : PubMirror :=
  let x := s.pub p
  { pub := p, stNum := x.stNum, sqNum := x.sqNum, values := x.values, t := x.t, k := x.k }

def State.pubMirrors (s : State) : List PubMirror :=
  ((mapKeys s.goose.pubs).filter fun p => (s.pub p).on).map s.pubMirror

/-- Programs of some classes (0 instant, 1 fast, 2 normal, 3 slow). -/
def State.progMirrors (s : State) (cls : Nat → Bool) : List ProgMirror :=
  (mapKeys s.logic.progs).filterMap fun p =>
    match (s.prog p).image with
    | some i => if cls i.cls then s.progMirror p else none
    | none => none

/-- Bytes of mirrored programs, publishers and sets as R367 counts them. -/
def State.pubBytes (s : State) : Nat :=
  ((mapKeys s.goose.pubs).filter fun p => (s.pub p).on).foldl (fun a p =>
    a + 32 + 4 * ((s.pubDescs p).filter fun d => pmKind d == 4).length) 0

def State.progBytes (s : State) (cls : Nat → Bool) : Nat :=
  (mapKeys s.logic.progs).foldl (fun a p => match (s.prog p).image with
    | some i => if cls i.cls then a + 8 + i.mirrorBytes else a
    | none => a) 0

/-- Tick budget (Table 14.6): 1.2 × 2^30 bytes per second. -/
def State.tickBudget (s : State) : Nat := if s.grid = 0 then 0 else 1288490188 / s.grid

/-- Tick worst case (R367): 8 bytes, enabled publishers, instant and fast programs, facets of tick class. -/
def State.tickWorst (s : State) : Nat :=
  let facets := (s.definedFacets.filter fun n => s.mirrorClass n == 1).foldl (fun a n => a + 8 + s.facetReg n 0x0F) 0
  8 + s.pubBytes + s.progBytes (fun c => c ≤ 1) + facets

/-- The change from s to t would exceed the budget (0x0A01). -/
def overBudget (s t : State) : Bool := decide (t.tickBudget < t.tickWorst ∧ s.tickWorst < t.tickWorst)

/-- The epoch that own frames go out under: the pending one once commanded (R438). -/
def Security.sendEpoch (x : Security) : Nat := if x.sendPending then x.pendEpoch else x.epoch

/-- The mirror is sent to a SHADE, or to a standby in first synchronisation, with a bound partner. -/
def State.mirrorTo (s : State) : Bool :=
  s.lit && decide (s.sec.sendEpoch ≠ 0) && s.sec.partnerState == 1 &&
    (s.pair.partnerRole == 2 || (s.pair.partnerRole == 3 && (s.pair.partner.map (·.eligibility)).getD 0 == 16))

/-- What a standby applies: on a SHADE, or on a DIM whose only reason is SYNC_PENDING. -/
def State.mirrorFrom (s : State) : Bool :=
  s.pair.role == 2 || (s.pair.role == 3 && s.eligNow == 16)

/-! ### Sending (R361, R366) -/

/-- The frames of a unit: payloads of at most 8,192 bytes, segments from 0. -/
def framesOf (kind time unit bytes seq : Nat) (handover : Bool) : List MirrorFrame :=
  let n := Nat.max 1 ((bytes + 8191) / 8192)
  (List.range n).map fun k =>
    { kind := kind, seq := seq + k + 1, time := time, unit := unit, segment := k, last := k + 1 == n, handover := handover,
      bytes := Nat.min 8192 (bytes - 8192 * k) }

/-- The last sequence sent of a kind. -/
def Pair.sent (p : Pair) (kind : Nat) : Nat := mapGet p.sendSeq kind 0

/-- The frames of a unit are queued for the lane in use, each with the next sequence of its kind. -/
def State.post (s : State) (kind time unit bytes : Nat) (handover : Bool) : State :=
  let l := framesOf kind time unit bytes (s.pair.sent kind) handover
  { s with pair := { s.pair with
    outbox := s.pair.outbox ++ l, sendSeq := mapPut kind (s.pair.sent kind + l.length) s.pair.sendSeq } }

/-- Bytes of bulk frames queued (0x8004:03). -/
def Pair.backlog (p : Pair) : Nat := p.outbox.foldl (fun a f => if f.kind = 3 then a + f.bytes else a) 0

/-- Bytes of a frame on the lane: addresses, EtherType, header, payload, tag and FCS (R361). -/
def MirrorFrame.wire (f : MirrorFrame) : Nat := 98 + f.bytes

/-- The frame that the lane takes next: control, acknowledgement and tick frames before bulk frames, each in their order, and
a bulk frame only as the rate of bulk data allows (R366). -/
def Pair.nextFrame (p : Pair) : Option MirrorFrame :=
  match p.outbox.find? (fun f => f.kind != 3) with
  | some f => some f
  | none =>
    match p.outbox with
    | f :: _ => if f.bytes * 10000000000 ≤ p.bulkCredit then some f else none
    | [] => none

/-- One cycle of CLK_TIME (4 ns) of the lane in use: the frame on it goes on, and after its end the next one begins. Bulk data
may go at 0.6 × 2^30 bytes per second, 2.5769803776 bytes a cycle, at most one full payload ahead. DESIGN CHOICE (log 23):
12 bytes a cycle, since the spec gives the lane no exact rate. -/
def Pair.laneCycle (p : Pair) : Pair :=
  let credit := Nat.min 81920000000000 (p.bulkCredit + 25769803776)
  match p.onLane with
  | some (f, n) => if 12 < n then { p with onLane := some (f, n - 12), bulkCredit := credit }
      else { p with onLane := none, bulkCredit := credit }
  | none =>
    match p.nextFrame with
    | some f =>
      { p with onLane := some (f, f.wire), outbox := p.outbox.erase f,
               bulkCredit := if f.kind = 3 then credit - f.bytes * 10000000000 else credit }
    | none => { p with bulkCredit := credit }

/-- The lane in use is up. -/
def Pair.laneOk (p : Pair) : Bool := if p.lane = 0 then p.lane0 else p.lane1

/-- One cycle of the lane in use, where it is up. -/
def State.laneStep (s : State) : State := s.when (s.domOn 10 && s.pair.laneOk) fun s => { s with pair := s.pair.laneCycle }

/-- The tick mirror of the newest row (R365). -/
def State.tickMessage (s : State) : MirrorMsg :=
  let inst := (s.lens.newest.map (·.2)).getD 0
  { authentic := true, kind := 2, epoch := s.sec.sendEpoch, seq := s.pair.sent 2, unit := s.pair.tickUnit + 1, instant := inst,
    handover := s.pair.swapArmed && decide (s.pair.swapFrom ≤ inst), pubs := s.pubMirrors,
    progs := s.progMirrors fun c => c ≤ 1, facets := s.mirrorSets [1], forwardCount := s.access.forwardCount }

/-- A bulk unit: normal and slow programs and bulk sets, or the whole first synchronisation (R370). -/
def State.bulkMessage (s : State) (all : Bool) : MirrorMsg :=
  { authentic := true, kind := 3, epoch := s.sec.sendEpoch, seq := s.pair.sent 3, unit := s.pair.bulkUnit + 1, instant := 0,
    handover := false, pubs := if all then s.pubMirrors else [], progs := s.progMirrors fun c => all || decide (2 ≤ c),
    facets := s.mirrorSets (if all then [1, 2] else [2]), forwardCount := s.access.forwardCount }

def msgBytes (s : State) (m : MirrorMsg) : Nat :=
  8 + (m.pubs.foldl (fun a q => a + 32 + 4 * ((s.pubDescs q.pub).filter fun d => pmKind d == 4).length) 0) +
    (m.progs.foldl (fun a q => match (s.prog q.prog).image with
      | some i => a + 8 + i.mirrorBytes
      | none => a + 8) 0) + m.facets.foldl (fun a f => a + 8 + f.data.length) 0

/-- TICK_MIRROR. -/
def State.sendTick (s : State) : State :=
  let m := s.tickMessage
  let b := msgBytes s m
  let t := s.post 2 m.instant m.unit b m.handover
  let s1 := { t with pair := { t.pair with
    tickUnit := m.unit, lastTick := some { m with seq := t.pair.sent 2 }, newestTick := m.instant,
    handover := if m.handover then some m.unit else t.pair.handover,
    counters := mapPut 13 b (mapPut 14 (Nat.max b (mapGet t.pair.counters 14 0)) t.pair.counters) } }
  s1.mirrorCount 4 1

/-- BULK_MIRROR. -/
def State.sendBulk (s : State) (all : Bool) : State :=
  let m := s.bulkMessage all
  let t := s.post 3 0 m.unit (msgBytes s m) false
  let s1 := { t with pair := { t.pair with
    bulkUnit := m.unit, lastBulk := some { m with seq := t.pair.sent 3 }, syncSent := t.pair.syncSent || all } }
  s1.mirrorCount 9 (msgBytes s m)

/-! ### Acceptance (R23, R362) -/

/-- A frame that fails authentication is discarded, counted and logged. -/
def State.mirrorRefused (s : State) : State :=
  (s.mirrorCount 7 1).logRec 0x0A02 1 noFacet 0 0 [byteOf 7]

/-- Frames of the own epoch or of the pending key are authenticated (R438); epoch 0 authenticates nothing. -/
def State.epochKnown (s : State) (epoch : Nat) : Bool :=
  epoch != 0 && (epoch == s.sec.epoch || (epoch == s.sec.pendEpoch && !s.sec.pendKey.isEmpty))

/-- A sequence above the last one accepted of its kind and epoch. -/
def State.seqFresh (s : State) (kind epoch seq : Nat) : Bool :=
  match mapFind s.pair.lastSeq (epoch * 8 + kind) with
  | some n => decide (n < seq)
  | none => true

def State.seqTaken (s : State) (kind epoch seq : Nat) : State :=
  { s with pair := { s.pair with lastSeq := mapPut (epoch * 8 + kind) seq s.pair.lastSeq } }

/-- A valid frame under the pending epoch makes its key current (R438). -/
def State.keyUsed (s : State) (epoch : Nat) : State :=
  let x := s.sec
  if epoch ≠ 0 ∧ epoch = x.pendEpoch ∧ x.pendKey.isEmpty = false then
    ({ s with sec := { x with mirrorKey := x.pendKey, epoch := epoch, pendKey := [], pendEpoch := 0, sendPending := false } } :
      State).logSec 8 0 epoch
  else s

/-- Frames of a kind that pass both checks are given to `f`: the tag, then the sequence. The others are discarded, counted
and, where the tag failed, logged (R23, R362). -/
def State.tagTakes (s : State) (kind : Nat) (g : MirrorTag) (f : State → State) : State :=
  if !(g.authentic && s.epochKnown g.epoch) then s.mirrorRefused
  else if !s.seqFresh kind g.epoch g.seq then s.mirrorCount 8 1
  else f ((s.seqTaken kind g.epoch g.seq).keyUsed g.epoch)

def tagOf (m : MirrorMsg) : MirrorTag := { authentic := m.authentic, epoch := m.epoch, seq := m.seq }

/-- A unit of mirrored state lands in the staging region; its content is given to `f` only after the checks (R23). -/
def State.mirrorTakes (s : State) (m : MirrorMsg) (f : State → State) : State :=
  s.tagTakes m.kind (tagOf m) fun s => f { s with pair := { s.pair with staged := some m } }

/-- Programs of a mirror: late ones are counted, the others applied. -/
def State.applyProgs (s : State) (tick first : Bool) (t : Nat) (l : List ProgMirror) : State :=
  applyAll (fun m s => if tick && s.progLate m.prog t then s.lateItem true else s.applyProg first m) l s

/-- First synchronisation ends with a tick mirror after the bulk part. -/
def State.syncEnds (s : State) (m : MirrorMsg) : State :=
  if s.pair.synced ∧ s.pair.elig.testBit 4 then
    ({ s with access := { s.access with applied := m.forwardCount } } : State).setElig 4 false
  else s

/-- TICK_MIRROR_APPLIED: a handover mirror is acknowledged by its unit (R377). -/
def State.takeTick (s : State) (m : MirrorMsg) : State :=
  s.mirrorTakes m fun s =>
    if s.mirrorFrom then
      let s1 := applyAll State.mirrorPub m.pubs s
      let s2 := applyAll (fun f s => s.applySet f) m.facets (s1.applyProgs true false m.instant m.progs)
      let s3 := ({ s2 with pair := { s2.pair with
        newestTick := m.instant, handover := if m.handover then some m.unit else s2.pair.handover } } : State).mirrorCount 5 1
      let s4 := s3.syncEnds m
      if m.handover then s4.post 5 0 m.unit 4 false else s4
    else s.lateItem false

/-- BULK_MIRROR_RECEIVED, or the bulk part of first synchronisation. -/
def State.takeBulk (s : State) (first : Bool) (m : MirrorMsg) : State :=
  s.mirrorTakes m fun s =>
    if s.mirrorFrom then
      let s1 := applyAll State.mirrorPub m.pubs s
      applyAll (fun f s => s.applySet f) m.facets (s1.applyProgs false first 0 m.progs)
    else s.lateItem false

/-- The bulk part of first synchronisation: applied on a standby whose only reason is SYNC_PENDING; any other standby checks
and discards it. -/
def State.takeSync (s : State) (m : MirrorMsg) : State :=
  let due := s.pair.role == 3 && s.eligNow == 16
  let s1 := s.takeBulk due m
  if due then
    { s1 with pair := { s1.pair with synced := s1.pair.synced || (m.authentic && s.epochKnown m.epoch && s.seqFresh m.kind m.epoch m.seq) } }
  else s1

end Sys2Proof.Machine
end

