-- ==== Sys2Proof/Machine/PairUnit.lean ====
section
/-! DEFINITION. The redundant pair (chapter 14): blinks, gaining and releasing ownership, takeover and its check,
eligibility against the partner, lanes and planned swap. -/

namespace Sys2Proof.Machine

def State.setPair (s : State) (f : Pair → Pair) : State := { s with pair := f s.pair }

/-- Record 0x0A02. -/
def State.pairEvent (s : State) (event : Nat) : State := s.logRec 0x0A02 1 noFacet 0 0 [byteOf event]

/-! ### Fitness and blinks (R356, R358, R359, Table 14.4) -/

/-- The module is fit: watchdog serviced, units answering, PD2 and PD7 to PD11 up. -/
def State.fitNow (s : State) : Bool :=
  s.stewardUp && s.pair.fit && [7, 8, 9, 10, 11].all s.domOn && decide (7 ≤ s.boot.phase)

/-- 0.001 ppm per unit of 2^-32 ns per cycle. -/
def Time.ppb (t : Time) : Int := t.corr * 1000000 / (maxCorr : Int)
def corrOf (ppb : Int) : Int := ppb * (maxCorr : Int) / 1000000

/-- Lanes as blink bytes 14 and 15 report them. -/
def Pair.laneBits (p : Pair) : Nat := boolNat p.lane0 + 2 * boolNat p.lane1 + 4 * p.lane + 8 * p.laneErr

def Pair.healthBits (p : Pair) (h : Health) : Nat :=
  h.flags + 4 * boolNat p.takeoverFault + 8 * boolNat p.safeHold.isSome

def State.partnerFingerprint (s : State) : ByteList := (s.pair.partner.map (·.fingerprint)).getD []

/-- An accepted partner fingerprint of zeros accepts nothing (R76). -/
def State.acceptsPartner (s : State) (fp : ByteList) : Bool :=
  let a := s.blob 0xC030 5
  a != zero32 && a == fp

/-- The blink that the module sends now. -/
def State.blinkNow (s : State) (seq : Nat) (release handBack : Bool) : Blink :=
  let p := s.pair
  { authentic := decide (s.sec.sendEpoch ≠ 0), major := 1, minor := Config.mirrorMinor, seq := seq, time := s.now, epoch := s.sec.sendEpoch,
    release := release, handBack := handBack, slot := boolNat s.power.slotB, role := p.role,
    linesDriven := boolNat p.own + 2 * boolNat p.req, linesRead := linesByte p.lines, health := p.healthBits s.health,
    eligibility := s.eligNow, firmware := s.fwVersion, lanes := p.laneBits, fingerprint := s.access.fingerprint,
    overlayDigest := overlayDigest s.access.overlay, newestTickMirror := p.newestTick, servo := s.time.servo,
    utcOffset := s.time.utc, freqCorr := s.time.ppb, gmIdentity := s.time.gm,
    newestSealed := (s.lens.newest.map (·.2)).getD 0,
    forwardCount := if s.lit then s.access.forwardCount else s.access.applied,
    pendingJump := s.time.pendingOffset, accepts := s.acceptsPartner s.partnerFingerprint, arrival := 0 }

/-- A blink leaves on the mirror lane in use. -/
def State.sendBlink (s : State) (release handBack : Bool) : State :=
  let n := s.pair.blinkSeq + 1
  (s.setPair fun p => { p with blinkSeq := n, blinking := true, lastBlink := some (s.blinkNow n release handBack) }).mirrorCount 1 1

/-- VLAN of station-network blinks: 0x8001:01, or that of MAP where it is 0. -/
def State.stationVlan (s : State) : Nat := if s.regN 0x8001 1 = 0 then s.access.vlan else s.regN 0x8001 1

/-- A blink leaves over the station network, in class 6 (R359). -/
def State.sendStationBlink (s : State) : State :=
  let n := s.pair.stationSeq + 1
  s.setPair fun p => { p with
    stationSeq := n, lastStation := some (s.blinkNow n false false), stationTag := (6, s.regN 0x8001 2, s.stationVlan) }

/-! ### Gaining ownership (R353, R355, R372) -/

/-- Outputs are enabled: OSEL_OWN high, switches closed, takeover frames, station exchanges, the takeover check. -/
def State.activate (s : State) : State :=
  let s1 := { s with power := { s.power with oselOwn := true, fdoSwitches := true },
                     pair := { s.pair with checking := !s.power.oselFb, switchesDue := false } }
  let s2 := s1.deliverFdo.takeoverFrames.exchangeAll
  -- OSEL_FB already high: the path is passed at once
  if s2.power.oselFb then
    match s2.pair.gain with
    | some t => s2.setPair fun p => { p with takeTime := wrap 32 (s2.mono - t), gain := none }
    | none => s2
  else s2

/-- The partner's servo state as its last authenticated blink as LIT gave it. -/
def State.litBlink (s : State) : Option Blink :=
  match s.pair.partner with
  | some b => if b.authentic && b.epoch != 0 && b.role == 1 then some b else none
  | none => none

/-- What a new LIT takes of the time servo (R124): state with its freezing of the frequency, correction, offsets; a step where the difference exceeds the
lock bound. -/
def State.takeServo (s : State) : State :=
  match s.litBlink with
  | none => s
  | some b =>
    let t := s.time
    let held := t.freeze
    let t1 :=
      if b.servo = 3 ∨ b.servo = 4 then { held with degraded := !(s.power.ocxoWarm && held.lockedLong) }
      else if b.servo = 5 then held
      else if b.servo = 2 then
        { t with frozenAt := none, degraded := false, lockedOnce := true,
                 lockedAt := if t.servo = 2 then t.lockedAt else some t.mono }
      else t.thaw
    let s1 := { s with time := { t1 with
      corr := corrOf b.freqCorr, freq := corrOf b.freqCorr, utc := b.utcOffset, gm := b.gmIdentity, filter := [], aside := [],
      loaded := if b.servo = 5 then some b.pendingJump else none } }
    let s2 := s1.setServo b.servo
    if (s.regN 0x3001 4) < iabs s.pair.timeDiff then s2.stepBy s.pair.timeDiff 2 else s2

/-- Ownership is gained for a cause of 0x8000:06. Outputs follow once phase 8 has ended (R64, R355). -/
def State.gain (s : State) (cause : Nat) : State :=
  let was := (s.pair.partner.map (fun b => b.role == 1 || b.release)).getD false
  let s1 := s.setPair fun p => { p with
    own := true, req := false, cause := cause, takeovers := wrap 32 (p.takeovers + 1), gain := some s.mono,
    predecessor := was && cause != 7, handover := none, missed := 0 }
  let s2 := ((s1.setRole 1).setCause 20 false).takeServo
  (if s2.driven then s2.activate else s2).bmca

/-- A request for ownership: granted in the same cycle, or waiting (R355). -/
def State.request (s : State) (cause : Nat) : State :=
  if s.mayGain then s.gain cause
  else if s.pair.takeoverFault || !s.sec.provisioned then s
  else s.setPair fun p => { p with req := !linesOwner p.lines }

/-! ### Releasing ownership (R357) -/

/-- Pair-shared indices (R93). -/
def pairShared (index : Nat) : Bool :=
  !(decide (0x1000 ≤ index ∧ index ≤ 0x1FFF) || decide (0x8000 ≤ index ∧ index ≤ 0x80FF) ||
    decide (0x9000 ≤ index ∧ index ≤ 0x90FF) || decide (0xA000 ≤ index ∧ index ≤ 0xA0FF) ||
    decide (0xC000 ≤ index ∧ index ≤ 0xC0FF))

def sharedDown (t : Option Transfer) : Bool :=
  match t with
  | some t => t.down && pairShared (t.key / 256)
  | none => false

/-- An owning function learns that its download was aborted (R101). -/
def State.downAborted (s : State) (key : Nat) : State :=
  let i := key / 256
  if 0x5400 ≤ i ∧ i ≤ 0x57FF ∧ key % 256 = 0x22 then s.exchangeAbort (i - 0x5400)
  else if key = ek 0xC010 2 then { s with boot := { s.boot with inst := 4, instResult := 0x010C } }
  else if key = ek 0xC030 2 then { s with boot := { s.boot with pend := 4, cfgResult := 0x010C } }
  else s

/-- Downloads to pair-shared entries end with the role (R101). -/
def State.abortShared (s : State) : State :=
  let a := s.access
  let due := (a.sessions.filterMap fun p => if sharedDown p.2.transfer then p.2.transfer.map (·.key) else none) ++
    a.clients.filterMap fun p => if sharedDown p.2.transfer then p.2.transfer.map (·.key) else none
  let s1 := { s with access := { a with
    sessions := a.sessions.map fun p => if sharedDown p.2.transfer then (p.1, { p.2 with transfer := none }) else p,
    clients := a.clients.map fun p => if sharedDown p.2.transfer then (p.1, { p.2 with transfer := none }) else p } }
  applyAll (fun k s => s.downAborted k) due s1

/-- The release at its time 0; the switches and the fence follow as events. -/
def State.release (s : State) (handBack : Bool) (role : Nat) : State :=
  let s1 := if s.fitNow then s.sendBlink true handBack else s
  let s2 := { s1 with
    power := { s1.power with oselOwn := false },
    pair := { s1.pair with own := false, req := false, gain := none, checking := false, safeHold := none,
                           switchesDue := s1.power.fdoSwitches, fenceDue := true, swapArmed := false, handover := none } }
  ((s2.cancelStations.abortShared).setRole role).bmca

/-- 4 µs after a release. -/
def State.openSwitches (s : State) : State :=
  if s.pair.switchesDue then
    { s with power := { s.power with fdoSwitches := false }, pair := { s.pair with switchesDue := false } }
  else s

/-- 27 µs after a release: copies of P51 frames that have not started at their egress are discarded. -/
def State.fence (s : State) : State :=
  if !s.pair.fenceDue then s
  else
    let fromGoose := fun (k : Nat) => (s.fabricFrame k).head.port == 51
    let started := fun (o k : Nat) => match mapFind s.fabric.egress o with
      | some e => e.current == some k
      | none => false
    let cut := fun (k o : Nat) => fromGoose k && !started o k
    let waiting : List Nat := s.fabric.egress.flatMap fun (p : Nat × Egress) =>
      p.2.fifo.filterMap fun x => if cut x.1 p.1 then some x.1 else none
    let gone : List Nat := (((s.fabric.copies.filter fun c => cut c.fr c.out).map (·.fr)) ++ waiting).eraseDups
    let s1 := { s with fabric := { s.fabric with
      copies := s.fabric.copies.filter fun c => !cut c.fr c.out,
      flight := s.fabric.flight.filter fun x => !cut x.1 x.2.2,
      egress := s.fabric.egress.map fun (p : Nat × Egress) => (p.1, { p.2 with fifo := p.2.fifo.filter fun x => !cut x.1 p.1 }),
      held := s.fabric.held.filter fun h => h.1.port != 51 } }
    let n := gone.length + (s.fabric.held.filter fun h => h.1.port == 51).length
    let s2 := applyAll (fun k s => s.settleFrame k) gone (s1.setPair fun p => { p with fenceDue := false })
    if n = 0 then s2 else s2.mirrorCount 11 n

/-! ### The partner (R352, R358, R359, R369) -/

/-- The partner's latest sign of life on either path, monotonic. -/
def State.lastSign (s : State) : Nat := Nat.max (s.pair.partnerAt.getD 0) (Nat.max (s.pair.stationAt.getD 0) (s.pair.seenAt.getD 0))

/-- DARK when absent or silent on both paths for 3 ms. -/
def State.judgeDark (s : State) : State :=
  if s.power.peerPresentN || decide (s.lastSign + 3000000 ≤ s.mono) then s.setPair fun p => { p with partnerRole := 4 } else s

/-- The partner reads as not-owner on both sets. -/
def State.notOwner (s : State) : Bool := !linesOwner s.pair.lines

/-- A handshake set fault (R354). -/
def State.setFaulted (s : State) : State :=
  if s.pair.setFault then s
  else
    let s1 := (s.setPair fun p => { p with setFault := true }).mirrorCount 12 1
    ((s1.pairEvent 3).setCause 19 true).testRan 7 3 0xFFFF 0

/-- A reading that contradicts the role claimed in three consecutive blinks (R354); agreement of both sets with the
claim clears the fault (log 15). -/
def State.compareSets (s : State) (role : Nat) : State :=
  let claim := role == 1
  let l := s.pair.lines
  let c0 := if l.own0 == claim then 0 else s.pair.contradict0 + 1
  let c1 := if l.own1 == claim then 0 else s.pair.contradict1 + 1
  let s1 := s.setPair fun p => { p with contradict0 := c0, contradict1 := c1 }
  if 3 ≤ c0 ∨ 3 ≤ c1 then s1.setFaulted
  else if s1.pair.setFault ∧ c0 = 0 ∧ c1 = 0 ∧ l.req0 = l.req1 then
    ((s1.setPair fun p => { p with setFault := false }).setCause 19 false).testRan 7 1 0xFFFF 0
  else s1

/-- Eligibility against a LIT's blink (Table 14.7): protocol, configuration, overlay, link. -/
def State.judge (s : State) (b : Blink) : State :=
  if b.major ≠ 1 then s.setElig 2 true
  else
    let same := b.fingerprint == s.access.fingerprint
    let config := same || s.acceptsPartner b.fingerprint || b.accepts
    let behind := decide (s.access.applied < b.forwardCount)
    let ov := (same && b.overlayDigest != overlayDigest s.access.overlay) || behind
    let e := withBit (withBit (withBit (withBit s.pair.elig 2 false) 3 (!config)) 5 ov) 6 false
    let s1 := s.setPair fun p => { p with elig := e, overlayAsked := ov, protoMinor := b.minor != Config.mirrorMinor }
    s1.settle

/-- The time difference of a blink (R363), and the divergence warning (R124). -/
def State.timeCompare (s : State) (b : Blink) : State :=
  let d : Int := (b.arrival : Int) - (b.time : Int) - (mapGet s.pair.laneDelay s.pair.lane 0 : Nat)
  let big := decide (1000 < iabs d)
  let s1 := s.setPair fun p => { p with timeDiff := d, divergence := big }
  s1.testRan 9 (if big then 2 else 1) 0xFFFF 0

/-- A dual claim: slot B yields (R376). -/
def State.dualClaim (s : State) : State :=
  let s1 := (s.setPair fun p => { p with dualClaims := wrap 32 (p.dualClaims + 1) }).pairEvent 4
  if s.power.slotB then (s1.release false 3).setElig 9 true else s1

/-- A planned swap starts: rows that open from the next tick boundary carry the handover flag (R377). -/
def State.armSwap (s : State) : State :=
  s.setPair fun p => { p with swapArmed := true, swapFrom := tickInstant s.grid (tickFrom s.grid (s.now + 1)), handover := none }

/-- 0x0A04 on a module that is not LIT; 0x0A07 and 0x0A02 without a SHADE partner. -/
def State.swapCode (s : State) : Nat :=
  if !s.lit then 0x0A04
  else if s.sec.bound = zero32 ∧ s.pair.partnerRole ≠ 2 then 0x0A07
  else if s.pair.partnerRole ≠ 2 then 0x0A02
  else 0

/-- A failure declared (R358): a SHADE takes over, a DIM shows the loss of its partner. -/
def State.declareFailure (s : State) (cause : Nat) : State :=
  if s.pair.role = 2 then s.request cause
  else if s.pair.role = 3 then s.latchCause 9 true
  else s

/-- A blink counts as missed (R358): at the third in a row a failure is declared, or a standby whose partner reads as owner
becomes DIM with reason LINK. -/
def State.missOne (s0 : State) : State :=
  let s := s0.mirrorCount 2 1
  let n := s.pair.missed + 1
  let s1 := (s.setPair fun p => { p with missed := n }).judgeDark
  if n = 3 then
    if s1.notOwner then s1.declareFailure 1
    else if s1.pair.role = 2 ∨ s1.pair.role = 3 then (s1.setElig 6 true).pairEvent 6
    else s1
  else s1

/-- The health byte of a blink refreshes the flags of the partner's report that is held (R405). -/
def State.refreshReport (s : State) (b : Blink) : State :=
  let h := s.health
  if h.partnerStatus = 0 then s
  else { s with health := { h with partner := h.partner.take 2 ++ [byteOf (b.health % 4)] ++ h.partner.drop 3 } }

/-- An accepted blink of the mirror link. A release in a blink that epoch 0 carries starts no takeover (R362). -/
def State.takeBlink (s : State) (b : Blink) : State :=
  let auth := b.authentic && b.epoch != 0
  let s1 := (s.refreshReport b).setPair fun p => { p with
    partner := some b, partnerAt := some s.mono, missed := 0, trained := true, partnerRole := b.role }
  let s2 := s1.compareSets b.role
  let s2 := if s2.health.present.testBit 9 then { s2 with health := { s2.health with present := withBit s2.health.present 9 false } } else s2
  let s3 := if b.role = 1 ∧ s2.lit = false then
      (if auth then (s2.timeCompare b).judge b else s2.setElig 6 false)
    else s2
  if b.release then
    if auth = false then s3
    else if b.handBack ∧ s3.pair.role ≠ 0 ∧ s3.lit = false ∧ s3.notOwner = true then s3.request 5
    else if s3.pair.role = 2 ∧ s3.notOwner = true then s3.request (if s3.pair.handover.isSome then 4 else 2)
    else s3
  else if s3.pair.req ∧ s3.pair.role = 2 then s3.request s3.pair.cause
  else if s3.lit ∧ b.role = 1 then s3.dualClaim
  else if s3.lit ∧ b.role = 2 ∧ s3.pair.safeHold.isSome ∧ s3.pair.swapArmed = false then s3.armSwap
  else s3

/-- What a blink under epoch 0 tells a module that holds a mirror key: presence, role claim and line check (R362). -/
def State.seeBlink (s : State) (b : Blink) : State :=
  let s1 := (s.setPair fun p => { p with seenAt := some s.mono, partnerRole := b.role }).compareSets b.role
  if s1.lit ∧ b.role = 1 ∧ b.release = false then s1.dualClaim else s1

/-- A blink arrives: tag, then sequence (R358, R362). One that fails authentication counts as missed: it fails its tag, or
comes under epoch 0 to a module that holds a mirror key (R441). -/
def State.blinkIn (s0 : State) (b : Blink) (lines : Lines) : State :=
  let s := s0.readLines lines
  if b.epoch ≠ 0 ∧ (b.authentic = false ∨ (s.epochKnown b.epoch = false ∧ s.sec.epoch ≠ 0)) then
    s.mirrorRefused.missOne
  else
    -- a module with no mirror key authenticates nothing
    let c := if s.epochKnown b.epoch then b else { b with epoch := 0 }
    let t := (s.seqTaken 1 c.epoch b.seq).keyUsed c.epoch
    if !s.seqFresh 1 c.epoch b.seq then s.mirrorCount 8 1
    else if c.epoch = 0 ∧ s.sec.epoch ≠ 0 then ((t.mirrorCount 7 1).seeBlink c).missOne
    else t.takeBlink c

/-- An expected blink has not come by 5 µs after its time (R358). -/
def State.blinkMissed (s0 : State) (lines : Lines) : State :=
  let due := s0.pair.partnerAt.getD s0.mono + 50000 * (s0.pair.missed + 1) + 5000
  ((s0.advanceMono (due - s0.mono)).readLines lines).missOne

/-- PEER_PRESENT_N changes (R352, R358). -/
def State.peerChange (s0 : State) (present : Bool) (lines : Lines) : State :=
  let s := { (s0.readLines lines) with power := { s0.power with peerPresentN := !present } }
  if present then s.setPair fun p => { p with partnerRole := 0 }
  else
    let s1 := s.setPair fun p => { p with partnerRole := 4 }
    if s1.pair.role = 2 ∧ s1.notOwner = true then s1.request 3 else s1

/-- A station-network blink (R359): presence and dual claims. -/
def State.stationBlinkIn (s : State) (b : Blink) : State :=
  if b.epoch ≠ 0 ∧ (b.authentic = false ∨ (s.epochKnown b.epoch = false ∧ s.sec.epoch ≠ 0)) then s.mirrorRefused
  else
    let e := if s.epochKnown b.epoch then b.epoch else 0
    if !s.seqFresh 7 e b.seq then s.mirrorCount 8 1
    else
      let s1 := ((s.seqTaken 7 e b.seq).keyUsed e).setPair fun p => { p with
        station := some b, stationAt := some s.mono, stationLost := false,
        partnerRole := if p.partnerRole = 4 ∨ p.partnerRole = 0 then b.role else p.partnerRole }
      if s1.lit ∧ b.role = 1 then s1.dualClaim else s1

def State.stationBlinkLost (s : State) : State :=
  ((s.setPair fun p => { p with stationLost := true }).mirrorCount 3 1).judgeDark

/-! ### Takeover check, safe hold (R374) -/

/-- The images whose delivery safe hold freezes. -/
def State.images (s : State) : SafeHold :=
  { pub := memReadList s.mem (logicBase + areaOffset 8) 1024, fdo := s.power.fdo,
    sto := memReadList s.mem (logicBase + areaOffset 12) 8192 }

/-- The predecessor has sent a blink on either path within the last 1 ms that shows no fault. -/
def State.predecessorFit (s : State) : Bool :=
  let ok := fun (b : Option Blink) (t : Option Nat) => match b, t with
    | some b, some t => decide (s.mono ≤ t + 1000000) && !b.health.testBit 1
    | _, _ => false
  s.pair.predecessor && (ok s.pair.partner s.pair.partnerAt || ok s.pair.station s.pair.stationAt)

/-- OSEL_FB is not high within the takeover check time. -/
def State.takeoverFails (s : State) : State :=
  let s1 := s.setPair fun p => { p with takeoverFault := true, checking := false, gain := none }
  let s2 := (s1.pairEvent 0).setCause 10 true
  if s2.flag 0x8001 5 && s2.predecessorFit then s2.release true 3 |>.settle
  else (s2.setPair fun p => { p with safeHold := some s2.images }).pairEvent 1

/-- Delivery follows scheme logic again: what changed meanwhile goes out. -/
def State.leaveHold (s : State) : State :=
  let s1 := (s.setPair fun p => { p with safeHold := none }).pairEvent 2
  (s1.deliverFdo).scanPubs none s1.now

/-! ### Lanes (R360, R363) -/

def State.laneUp (s : State) (k : Nat) : Bool := if k = 0 then s.pair.lane0 else s.pair.lane1

/-- Block lock of the lanes, or errors that the partner reports: the sender moves to the spare lane where that is up. A
link that was down trains on the preferred lane. -/
def State.lanesAre (s0 : State) (l0 l1 : Bool) : State :=
  let was := s0.pair.lane0 || s0.pair.lane1
  let s := s0.setPair fun p => { p with lane0 := l0, lane1 := l1 }
  let errors := match s.pair.partner with
    | some b => b.lanes.testBit (3 + s.pair.lane)
    | none => false
  let s1 :=
    if !l0 && !l1 then
      -- DESIGN CHOICE (log 23): what waits for the lanes is dropped with them
      let t := s.setPair fun p => { p with trained := false, outbox := [], onLane := none }
      if t.pair.role = 2 ∨ t.pair.role = 3 then t.setElig 6 true else t
    else if !was then
      let pref := s.regN 0x8001 7
      let k := if (if pref = 0 then l0 else l1) then pref else 1 - pref
      (s.setPair fun p => { p with lane := k, spareInUse := false, trained := true }).setElig 6 false
    else if (!s.laneUp s.pair.lane || errors) && s.laneUp (1 - s.pair.lane) then
      ((s.setPair fun p => { p with lane := 1 - p.lane, spareInUse := true }).mirrorCount 10 1).pairEvent 5
    else s
  if l0 && l1 then s1.setElig 9 false else s1

/-! ### Force, resynchronise, clear (Table 14.12) -/

/-- DESIGN CHOICE (log 16): a module that is not provisioned, which never drives an output (R61), answers 0x0A06. -/
def State.forceCode (s : State) : Nat :=
  if s.pair.role ≠ 3 then 0x0A04
  else if s.pair.partnerRole ≠ 4 ∨ s.notOwner = false ∨ s.sec.provisioned = false then 0x0A06 else 0

def State.resync (s : State) : Nat × State :=
  if s.lit then (0x0A04, s)
  else (0, (s.setPair fun p => { p with synced := false, overlayAsked := true }).setElig 4 true)

def State.pairClear (s : State) : State := s.setPair fun p => { p with dualClaims := 0, counters := [] }

/-- Planned swap acknowledged: the LIT releases and becomes SHADE (R377). -/
def State.swapAcked (s : State) (unit : Nat) : State :=
  if s.lit ∧ s.pair.swapArmed ∧ s.pair.handover = some unit then
    let s1 := s.setPair fun p => { p with elig := withBit p.elig 4 false }
    (s1.release false 2).settle
  else s

def State.swapAbandoned (s : State) : State :=
  if s.lit ∧ s.pair.swapArmed then
    ({ s with pair := { s.pair with swapArmed := false, handover := none },
              boot := { s.boot with swapThenReset := false } } : State).answer 0x0A03
  else s

/-- 0x8000:03 (Table 14.13). -/
def Pair.flagBits (p : Pair) : Nat :=
  boolNat p.lane0 + 2 * boolNat p.lane1 + 4 * boolNat p.protoMinor + 8 * boolNat p.divergence + 16 * boolNat p.lateMirror +
    32 * boolNat p.spareInUse + 64 * boolNat p.stationLost + 128 * boolNat p.setFault + 256 * boolNat p.takeoverFault +
    512 * boolNat p.safeHold.isSome

end Sys2Proof.Machine
end

