-- ==== Sys2Proof/Machine/PowerUnit.lean ====
section
/-! DEFINITION. Supplies, power domains and resets (chapters 2 and 3): what the supply events change, the power-fail
sequence, what a reset clears and keeps, and the last-gasp record. -/

namespace Sys2Proof.Machine

def State.setPower (s : State) (f : Power → Power) : State := { s with power := f s.power }
def State.setBoot (s : State) (f : Boot → Boot) : State := { s with boot := f s.boot }

/-- PD2 to PD11 may be up: the hot-swap controller is on and no sequence has begun (R36). -/
def State.supplied (s : State) : Bool :=
  match s.power.stage with
  | .rising | .up => true
  | _ => false

def State.inStandby (s : State) : Bool :=
  match s.power.stage with
  | .standby => true
  | _ => false

/-- PD1 serves cabinet access without the steward: in standby management, in the power-on order, and in phases 1 to 4 (R55,
R58). -/
def State.standbyManaged (s : State) : Bool :=
  s.domOn 1 && (s.inStandby || (s.supplied && decide (s.boot.phase ≤ 4)))

/-! ### Domains (R40 to R42) -/

def DomState.code : DomState → Nat
  | .off => 0 | .ramping => 1 | .testing => 2 | .on => 3 | .failed => 4

def State.dom (s : State) (d : Nat) : DomState := mapGet s.power.dom d .off

def State.setDom (s : State) (d : Nat) (x : DomState) : State :=
  s.setPower fun p => { p with dom := mapPut d x p.dom }

def State.setDoms (s : State) (l : List Nat) (x : DomState) : State := applyAll (fun d s => s.setDom d x) l s

/-- Record 0x0E05: 0 ordering violation, 1 power-fail, 2 thermal warning, 3 thermal shutdown, 4 domain state change. -/
def State.powerEvent (s : State) (event dom new : Nat) : State :=
  s.logRec 0x0E05 1 noFacet 0 dom [byteOf event, byteOf new]

/-- DOMAIN_FAILED follows the domains. -/
def State.showFailed (s : State) : State := s.setCause 2 ([3, 4, 5, 6].any fun d => s.dom d == .failed)

/-- A cluster-pair domain changes its state: logged. -/
def State.domainTo (s : State) (d : Nat) (x : DomState) : State :=
  ((s.setDom d x).powerEvent 4 d x.code).showFailed

/-- Cores of cluster-pair domain d: 16 from 16 × (d − 3). -/
def State.domainInUse (s : State) (d : Nat) : Bool :=
  s.definedFacets.any fun n => decide (bitsAt (s.coreMask n) (16 * (d - 3)) 16 ≠ 0)

/-- The result of a write of v to the cluster-pair command of domain d. -/
def State.clusterCode (s : State) (d v : Nat) : Nat :=
  let up := match s.power.stage with
    | .up => true
    | _ => false
  if !up || s.power.thermal == 2 then 0x0E64
  else if s.dom d = .ramping ∨ s.dom d = .testing then 0x0E61
  else if v = 1 ∨ s.dom d ≠ .on then 0
  else if s.domainInUse d then 0x0E60
  else if ([3, 4, 5, 6].filter fun k => s.dom k == .on).length ≤ 1 then 0x0E63
  else 0

/-- A cluster-pair domain switches: class 7 of Table 3.2. -/
def State.clusterTo (s : State) (d : Nat) (x : DomState) : State :=
  (s.domainTo d x).setBoot fun b => { b with lastClass := 7 }

def State.clusterSwitch (s : State) (d v : Nat) : State :=
  match v, s.dom d with
  | 0, .on => s.clusterTo d .off
  | 0, _ => s
  | _, .off => s.clusterTo d .ramping
  | _, .failed => s.clusterTo d .ramping
  | _, _ => s

/-- End of the tests of a domain in TESTING: 16 core cross-checks and the march test of its L2. -/
def State.domainTested (s : State) (d : Nat) (pass : Bool) : State :=
  if s.dom d = .testing then s.domainTo d (if pass then .on else .failed) else s

/-! ### Supply status (Table 2.14) -/

/-- 0x1800:07 bits [5:1] (R30). -/
def Power.supplyFault (p : Power) : Bool := p.strapConflict || p.batAbsent || p.batLow || p.ioLost || p.mainOv

/-- The live cause SUPPLY of Table 15.4: MAIN_OV, VIN_IO_LOST, VBAT_LOW, VBAT_ABSENT. -/
def State.showSupply (s : State) : State :=
  let p := s.power
  s.setCause 1 (p.mainOv || p.ioLost || p.batLow || p.batAbsent)

/-- 0x1800:07. -/
def Power.status (p : Power) : Nat :=
  let pending := match p.stage with
    | .standby => !p.anaOk
    | _ => false
  boolNat pending + 2 * boolNat p.mainOv + 4 * boolNat p.ioLost + 8 * boolNat p.batLow + 16 * boolNat p.batAbsent +
    32 * boolNat p.strapConflict + 64 * boolNat (!p.pwrEn) + 128 * boolNat p.inletRange

/-- The threshold of a row of Table 2.6 (9: a thermal shutdown) is crossed, or no longer crossed: only one that stays
crossed for 2 µs counts (R36). -/
def State.crossed (s : State) (row : Nat) (b : Bool) : State :=
  s.setPower fun p =>
    if b then (if p.crossing.contains row then p else { p with crossing := p.crossing ++ [row] })
    else { p with crossing := p.crossing.filter fun x => x != row }

/-! ### The last-gasp record (R392) -/

/-- A 0x0E03 record goes to the PD0 bank, and into DDR where the log engine still runs. -/
def State.lastGasp (s : State) (kind cause : Nat) : State :=
  let l := s.log
  let q : LogReq := { typ := 0x0E03, severity := 2, facet := noFacet, code := 0, inst := 0, data := [byteOf kind, byteOf cause] }
  let r := s.recordOf q l.next
  if l.bankMode then { s with log := { l.place r with next := l.next + 1, blockEnd := blockEndOf (l.next + 1) } }
  else
    { s with log := { l with
        bank := mapPut (8 + l.bankPtr % 8) r l.bank, bankPtr := (l.bankPtr + 1) % 8, next := l.next + 1,
        blockEnd := blockEndOf (l.next + 1),
        held := if l.ready && s.domOn 11 then (r :: l.held).take ringSize else l.held } }

/-! ### What a reset clears and keeps (Table 3.2, R73, R78) -/

/-- An installation or a load in progress is interrupted (R73, Tables 3.3 and 3.5); an image that is not valid goes. -/
def Boot.afterReset (b : Boot) : Boot :=
  let cut := b.inst == 1 || b.inst == 2
  let slot := fun (x : FwSlot) (mine : Bool) => if cut && mine then { x with hdr := none } else x
  let kept := b.pend == 3 || b.pend == 5
  { Boot.reset with
    recA := b.recA, recB := b.recB, slotA := slot b.slotA (b.booted == 1), slotB := slot b.slotB (b.booted == 0),
    floor := b.floor, booted := b.booted, failedSlots := [], lastClass := b.lastClass, startClass := b.startClass,
    resetCount := b.resetCount,
    inst := if b.inst = 3 then 3 else 0, instResult := if cut then 0x0E09 else b.instResult,
    active := b.active, activeRaw := b.activeRaw, previous := b.previous, previousRaw := b.previousRaw,
    pending := if kept then b.pending else none, pendingRaw := if kept then b.pendingRaw else [],
    pend := if kept then b.pend else 0,
    cfgResult := if b.pend = 1 ∨ b.pend = 2 then 0x0E09 else b.cfgResult }

/-- What the key store and the fuses hold, with the tamper record; a key that was only generated is lost (R444). -/
def Security.afterReset (x : Security) : Security :=
  let y := { x with queue := [], reports := [], repState := [], attResult := 0, sent := [], nonce := none, challenge := none,
                    debugOpen := false, received := List.replicate 32 (byteOf 0), receivedSerial := [], sinceTraining := false, partnerState := 0,
                    sendPending := false }
  if y.state = 1 then { y.clearKeys with state := if y.tamperState = 1 then 3 else 0 } else y

/-- Persistent areas and boot images stay; a facet in RESTORING comes back frozen and empty (Table 12.13). -/
def keptFacet (p : Nat × Facet) : Option (Nat × Facet) :=
  let f := p.2
  if f.state = 0 ∧ f.persist.isEmpty ∧ f.boot.isEmpty then none
  else some (p.1, { Facet.none with persist := f.persist, boot := f.boot, state := if f.state = 6 then 8 else 0,
                                    units := if f.state = 6 then f.units else [] })

def Facets.afterReset (x : Facets) : Facets :=
  { (default : Facets) with facet := x.facet.filterMap keptFacet,
                            blobs := x.blobs.map fun p => (p.1, if p.2.state = 1 then { p.2 with state := 3 } else p.2) }

/-- On-line exchanges are discarded (Table 11.5). -/
def Logic.dropExchanges (x : Logic) : Logic :=
  { x with progs := x.progs.map fun p => (p.1, { p.2 with exState := 0, exImage := none }) }

/-- The log keeps its number, its exports and the bank; the ring where DDR is kept (R384, R391, R392). -/
def Log.afterReset (l : Log) (ddr : Bool) : Log :=
  { Log.reset with next := l.next, blockEnd := l.blockEnd, state := l.state, held := if ddr then l.held else [],
                   exported := l.exported, exportedThrough := l.exportedThrough, bank := l.bank, bankPtr := l.bankPtr,
                   failedAt := l.failedAt, pushedOut := l.pushedOut }

/-- The state of the module after a reset of class 1 (`ddr` false) or 2 to 5: everything but PD0, NAND, the pins, the
power and thermal entries and, where DDR is kept, the log. -/
def State.cleared (s : State) (ddr : Bool) : State :=
  let power := fun (k : Nat × Int) => decide (0x1800 ≤ k.1 / 256 ∧ k.1 / 256 ≤ 0x1803)
  { State.reset with
    pending := s.pending, reply := s.reply, freeCount := s.freeCount,
    regs := if ddr then s.regs.filter power else [],
    power := { s.power with oselOwn := false, fdoSwitches := false, fdo := 0, fdi := s.power.fdi, pulses := 0 },
    boot := s.boot.afterReset,
    access := { Access.reset with copyA := s.access.copyA, copyB := s.access.copyB },
    time := s.time.afterReset,
    facets := s.facets.afterReset,
    capture := { Capture.reset with store := s.capture.store, nextId := s.capture.nextId },
    pair := { Pair.reset with takeovers := s.pair.takeovers, lines := s.pair.lines },
    log := s.log.afterReset ddr,
    can := { (default : Can) with kept := s.can.kept },
    sec := s.sec.afterReset }

/-- Phase 1 begins after a reset of class c, which is counted and, once the log runs, recorded (R66). The detail of its
cause is open (log 16). -/
def State.startAfter (s : State) (c : Nat) : State :=
  let s1 := s.setBoot fun b => { b with phase := if b.held then 0 else 1, lastClass := c, startClass := c,
                                        resetCount := wrap 32 (b.resetCount + 1), startedAt := s.mono }
  (s1.logRec 0x0E02 1 noFacet 0 c [byteOf (s.free % 256)]).nextFree

/-- A reset of class 2 to 5: release in the order of R67, then the clear. The controllers of the cabinet bus start again. -/
def State.resetNow (s : State) (c : Nat) (hold : Bool) : State :=
  let s1 := (s.release false 0).openSwitches
  let s2 := (s1.cleared true).setBoot fun b => { b with held := hold }
  (s2.startAfter c).canPowerUp

/-! ### The stages of the supply sequence -/

/-- Measured levels that an event implies without naming them are free within the tolerance (R31, log 3). -/
def State.freeLevels (s : State) : State :=
  let p := s.power
  { s with freeCount := s.freeCount + 3,
           power := { p with mains := 10800 + s.free % 2401, io := 3135 + Config.freeValue (s.freeCount + 1) % 331,
                             ana := 4750 + Config.freeValue (s.freeCount + 2) % 501 } }

/-- VIN_IO within tolerance: PD0 and PD1 come up (R32). -/
def State.ioQualified (s : State) : State :=
  let p := s.power
  match p.stage with
  | .off =>
    let s1 := s.setPower fun p => { p with stage := .standby, io := 3135 + s.free % 331, ioLost := false }
    (((s1.setDoms [0, 1] .on).nextFree).showSupply).canPowerUp
  | _ => ((s.setPower fun p => { p with io := 3135 + s.free % 331, ioLost := false }).nextFree).showSupply

/-- PD0 contents count as lost after a fall below 1.6 V (R39): the bank, the real-time counter, the tamper record. The
log learns it in phase 4. -/
def State.losePd0 (s : State) : State :=
  if s.power.latch then
    { s with log := { s.log with bank := [], bankPtr := 0 }, time := { s.time with rtc := 0, rtcSet := false },
             sec := { s.sec with tamperState := 0, tamperEvents := 0, tamperSensors := 0, tamperTime := 0 } }
  else s

/-- The domains that each step of the power-on order brings up (Table 2.5): the hold-up capacitors, PD2, PD11, PD8, PD7, PD9
with PD10, and PD3 to PD6 one after another. -/
def riseOrder : List (List Nat) := [[], [2], [11], [8], [7], [9, 10], [3], [4], [5], [6]]

/-- The step of the power-on order in progress completes, and the next one starts. -/
def State.riseNext (s : State) : State :=
  let n := s.power.riseStep
  if n < riseOrder.length then
    ((s.setDoms (riseOrder.getD n []) .on).setDoms (riseOrder.getD (n + 1) []) .ramping).setPower fun p =>
      { p with riseStep := n + 1 }
  else s

/-- The steps that are not complete yet, in their order. -/
def State.riseRest : Nat → State → State
  | 0, s => s
  | n + 1, s => State.riseRest n s.riseNext

def State.rising (s : State) : Bool :=
  match s.power.stage with
  | .rising => true
  | _ => false

/-- The hot-swap controller turns on, and step 1 of the power-on order runs. The slot is read from the straps; time has
passed on the real-time counter. -/
def State.hotSwap (s : State) : State :=
  let s1 := s.losePd0
  let seconds := s1.free
  let slot := Config.freeValue (s1.freeCount + 1)
  let t := s1.time
  let s2 := { s1 with freeCount := s1.freeCount + 2, time := { t with rtc := if t.rtcSet then t.rtc + seconds else 0 } }
  s2.freeLevels.setPower fun p => { p with
    stage := .rising, riseStep := 0, crossing := [], cause := 0, thermal := if p.thermal = 2 then 0 else p.thermal,
    thermAlertN := p.thermal == 2 || p.thermAlertN, restartAsked := false, anaOk := true, strapConflict := false,
    strapLevel := none, slotB := slot % 2 == 1, pfailN := true, framesStopped := false, gasped := false, mainOv := false }

/-- Step 8 of the power-on order: PGOOD, and start-up begins. The time base starts from the real-time counter (R112). -/
def State.powerGood (s : State) : State :=
  let s1 := (s.riseRest riseOrder.length).setPower fun p => { p with stage := .up, pgood := true }
  ({ s1 with time := s1.time.afterReset } : State).startAfter 1

/-- The class-1 reset takes hold (R37): every event "reset of class 1 to 5" of a state table occurs, and the operations of
Table 3.5 are interrupted. Requests in the sequence are still answered, so sessions stay until PD2 switches off. -/
def State.resetEvents (s : State) : State :=
  { s with boot := { s.boot.afterReset with phase := s.boot.phase }, facets := s.facets.afterReset, sec := s.sec.afterReset,
           logic := s.logic.dropExchanges, capture := { s.capture with slots := [], row := none },
           pair := { s.pair with role := 0, own := false }, power := { s.power with oselOwn := false },
           time := s.time.afterReset }

/-- The oldest threshold that has stayed crossed for 2 µs qualifies: the class-1 reset takes hold, and outputs and handshake
lines are released (R37). Without PD7 to PD11 up there is nothing to release (R36). -/
def State.qualified (s : State) (cause : Nat) : State :=
  let s1 := if cause = 9 then s else s.powerEvent 1 0 0
  let s2 := if 2 ≤ s1.boot.phase then s1.release false 0 else s1
  s2.resetEvents.setPower fun p => { p with
    stage := .failing, crossing := [], cause := cause, gasped := false, pfailN := false, pgood := false,
    ocxoWarm := p.ocxoWarm && cause != 4, powerFails := wrap 32 (p.powerFails + 1) }

/-- At 100 µs PD3 to PD7, PD9 and PD10 switch off and lose their state; a domain in RAMPING or TESTING goes to OFF. -/
def State.domainsOff (s : State) : State :=
  { s.setDoms [3, 4, 5, 6, 7, 9, 10] .off with
    lens := default, phasor := default, goose := default,
    facets := { s.facets with facet := s.facets.facet.map fun p => (p.1, { p.2 with waiters := [], running := [], answers := [] }) } }

/-- At 400 µs PD11 and PD8 switch off: the DDR contents, scheme logic, open records, fabric and time base are lost. -/
def State.flushOff (s : State) : State :=
  { s.setDoms [8, 11] .off with
    mem := [], logic := default, fabric := default, time := s.time.afterReset,
    capture := { s.capture with slots := [], row := none, ready := false },
    log := { s.log with held := [] } }

/-- PD0 without any supply loses its key store (R39). -/
def State.pd0Falls (s : State) : State :=
  { s with sec := (s.sec.tamper 16 s.time.rtcNow).afterReset }

/-- VIN_IO is gone and no converter holds PD1: it switches off, with its logic state; PD0 runs from VBAT, or loses its key
store (R39). -/
def State.pd1Off (s : State) : State :=
  let s1 := ({ s with can := { (default : Can) with kept := s.can.kept }, access := { s.access with clients := [] } } : State).setDom 1 .off
  let s2 := s1.setPower fun p => { p with stage := .off, ioLost := false }
  if s2.power.batAbsent then s2.pd0Falls else s2

/-- At 800 µs PD2 switches off: standby management, or nothing where PD1 has lost its supplies. THERM_ALERT_N and the thermal
state stay as they are (Table 2.7, R45). -/
def State.pd2Off (s : State) : State :=
  let p := s.power
  -- VIN_IO lost: PD1 lives from the converter of VIN_MAIN, which these causes take away
  let dark := p.ioLost && (p.cause == 1 || p.cause == 3)
  let s1 := (s.setDom 2 .off).cleared false
  let s2 := s1.setPower fun p => { p with
    stage := .standby, pfailN := true, anaOk := p.cause != 4, framesStopped := false, gasped := false, cause := 0, mainOv := false }
  let s3 := s2.setBoot fun b => { b with phase := 0 }
  if dark then s3.pd1Off else s3.canPowerUp

/-! ### Thermal (R45) -/

def State.thermalWarning (s : State) (j : Int) : State :=
  let hot := decide (s.reg 0x1803 7 ≤ j)
  let s1 := s.setPower fun p => { p with junction := j, thermal := if p.thermal = 2 then 2 else boolNat hot,
                                         thermAlertN := if p.thermal = 2 then p.thermAlertN else !hot }
  let s2 := if hot && s.power.thermal == 0 then s1.powerEvent 2 0 0 else s1
  s2.setCause 0 hot

def State.thermalShutdown (s : State) (j : Int) : State :=
  let s1 := s.setPower fun p => { p with junction := j, thermal := 2, thermAlertN := false, restartAsked := false }
  (s1.powerEvent 3 0 0).crossed 9 true

/-- The result of a write of 1 to 0x1803:08. -/
def State.restartCode (s : State) : Nat := if s.power.thermal = 2 ∧ 900 ≤ s.power.junction then 0x0E62 else 0

def State.thermalRestart (s : State) : State :=
  if s.power.thermal = 2 then s.setPower fun p => { p with thermal := 0, restartAsked := true, thermAlertN := true } else s

end Sys2Proof.Machine
end

