-- ==== Sys2Proof/Machine/Power.lean ====
section
/-! DEFINITION. Meanings of the commands of chapter 2: supply events, the power-fail sequence, power domains, thermal
protection, and the checks of the fast direct outputs and the ownership selector. -/

namespace Sys2Proof.Machine

/-! ### Supplies (R31 to R39) -/

/-- VIN_IO has been within tolerance for 10 ms (R32). -/
def opVinIoQualified (s : State) : State := s.ioQualified

def execVinIoQualified (s : State) : Host.Outcome State Fault Refusal := checked .vinIoQualified (opVinIoQualified s)

/-- The conditions of R32 have held for 20 ms, PWR_EN high among them; after a thermal shutdown only once a restart was asked
for (R45). -/
def opHotSwapTurnOn (s : State) : State :=
  s.when (s.inStandby && s.power.pwrEn && (s.power.thermal != 2 || (s.power.restartAsked && decide (s.power.junction < 900)))) State.hotSwap

def execHotSwapTurnOn (s : State) : Host.Outcome State Fault Refusal := checked .hotSwapTurnOn (opHotSwapTurnOn s)

/-- Step 8 of Table 2.5 completes. -/
def opPowerGood (s : State) : State := s.when s.rising State.powerGood

def execPowerGood (s : State) : Host.Outcome State Fault Refusal := checked .powerGood (opPowerGood s)

/-- VIN_IO arrived too late after VIN_MAIN: counted when VIN_IO arrives, recorded once the log runs (R34). -/
def opOrderingViolation (s : State) : State :=
  s.when (!s.supplied && !s.power.failing) fun s =>
    s.setPower fun p => { p with violations := wrap 32 (p.violations + 1), violationPending := true }

def execOrderingViolation (s : State) : Host.Outcome State Fault Refusal := checked .orderingViolation (opOrderingViolation s)

/-- The straps read the same level (R35); `level` is that level. -/
def opSlotStrapConflict (level : Bool) (s : State) : State :=
  s.when (s.domOn 1) fun s => s.setPower fun p => { p with strapConflict := true, strapLevel := some level }

def execSlotStrapConflict (level : Bool) (s : State) : Host.Outcome State Fault Refusal :=
  checked (.slotStrapConflict level) (opSlotStrapConflict level s)

/-- VIN_MAIN reads mv: rows 1 to 3 of Table 2.6. A level within the thresholds takes back a crossing that has not qualified
(R36); before the hot-swap controller turns on the level is only read (R447). -/
def State.mainReads (s : State) (mv : Nat) : State :=
  let s1 := s.setPower fun p => { p with mains := mv }
  if s.supplied then
    let s2 := (s1.setPower fun p => { p with mainOv := decide (13200 < mv ∧ mv ≤ 14000) }).showSupply
    (s2.crossed 1 (decide (mv < 10200))).crossed 3 (decide (14000 < mv))
  else s1

/-- VIN_MAIN below 10.2 V: row 1 of Table 2.6. -/
def opVinMainUndervoltage (mv : Nat) (s : State) : State := s.when (s.domOn 1) fun s => s.mainReads mv

def execVinMainUndervoltage (mv : Nat) (s : State) : Host.Outcome State Fault Refusal :=
  checked (.vinMainUndervoltage mv) (opVinMainUndervoltage mv s)

/-- VIN_MAIN between 13.2 V and 14.0 V: row 2. -/
def opVinMainOvervoltageWarning (mv : Nat) (s : State) : State := s.when (s.domOn 1) fun s => s.mainReads mv

def execVinMainOvervoltageWarning (mv : Nat) (s : State) : Host.Outcome State Fault Refusal :=
  checked (.vinMainOvervoltageWarning mv) (opVinMainOvervoltageWarning mv s)

/-- VIN_MAIN above 14.0 V: row 3. -/
def opVinMainOvervoltage (mv : Nat) (s : State) : State := s.when (s.domOn 1) fun s => s.mainReads mv

def execVinMainOvervoltage (mv : Nat) (s : State) : Host.Outcome State Fault Refusal :=
  checked (.vinMainOvervoltage mv) (opVinMainOvervoltage mv s)

/-- VIN_ANA reads mv: below 4.6 V row 4 while the hot-swap controller is on. In standby management a fall below the tolerance
holds the start (Table 2.14), and the oscillator cools (R33). -/
def State.anaReads (s : State) (mv : Nat) : State :=
  let s1 := s.setPower fun p => { p with ana := mv }
  if s.supplied then s1.crossed 4 (decide (mv < 4600))
  else if mv < 4750 then s1.setPower fun p => { p with anaOk := false, ocxoWarm := p.ocxoWarm && decide (4600 ≤ mv) }
  else s1

/-- VIN_ANA below 4.6 V: row 4. -/
def opVinAnaUndervoltage (mv : Nat) (s : State) : State := s.when (s.domOn 1) fun s => s.anaReads mv

def execVinAnaUndervoltage (mv : Nat) (s : State) : Host.Outcome State Fault Refusal :=
  checked (.vinAnaUndervoltage mv) (opVinAnaUndervoltage mv s)

/-- VIN_IO reads mv: below 3.0 V row 5, on the internal converter, also in a power-fail sequence. With the hot-swap controller
off no converter runs (R34), and PD1 loses its supply; the level at which it does is taken from row 5 (log 16). -/
def State.ioReads (s : State) (mv : Nat) : State :=
  if s.inStandby then
    let s1 := s.setPower fun p => { p with io := mv }
    if mv < 3000 then s1.pd1Off else s1
  else (s.setPower fun p => { p with io := mv, ioLost := decide (mv < 3000) }).showSupply

/-- VIN_IO below 3.0 V while VIN_MAIN is up: row 5. -/
def opVinIoLost (mv : Nat) (s : State) : State := s.when (s.domOn 1) fun s => s.ioReads mv

def execVinIoLost (mv : Nat) (s : State) : Host.Outcome State Fault Refusal := checked (.vinIoLost mv) (opVinIoLost mv s)

/-- VBAT reads mv: the flags of rows 6 and 7 follow it. -/
def State.batReads (s : State) (mv : Nat) : State :=
  (s.setPower fun p => { p with bat := mv, batLow := decide (mv < 2600), batAbsent := decide (mv < 1000) }).showSupply

/-- VBAT below 2.6 V: row 6. -/
def opVbatLow (mv : Nat) (s : State) : State := s.when (s.domOn 1) fun s => s.batReads mv

def execVbatLow (mv : Nat) (s : State) : Host.Outcome State Fault Refusal := checked (.vbatLow mv) (opVbatLow mv s)

/-- VBAT below 1.0 V: row 7. -/
def opVbatAbsent (mv : Nat) (s : State) : State := s.when (s.domOn 1) fun s => s.batReads mv

def execVbatAbsent (mv : Nat) (s : State) : Host.Outcome State Fault Refusal := checked (.vbatAbsent mv) (opVbatAbsent mv s)

/-- PWR_EN falls: row 8. -/
def opPwrEnFall (s : State) : State :=
  let s1 := s.setPower fun p => { p with pwrEn := false }
  if s.supplied then s1.crossed 8 true else s1

def execPwrEnFall (s : State) : Host.Outcome State Fault Refusal := checked .pwrEnFall (opPwrEnFall s)

/-- PWR_EN rises; a fall that has not qualified does not count. After a thermal shutdown it asks for the restart, which waits until the junction is below 90 °C (R45). -/
def opPwrEnRise (junction : Int) (s : State) : State :=
  (s.crossed 8 false).setPower fun p =>
    if p.pwrEn then { p with junction := junction }
    else if p.thermal = 2 ∧ junction < 900 then
      { p with pwrEn := true, junction := junction, thermal := 0, restartAsked := true, thermAlertN := true }
    else { p with pwrEn := true, junction := junction, restartAsked := p.restartAsked || p.thermal == 2 }

def execPwrEnRise (junction : Int) (s : State) : Host.Outcome State Fault Refusal :=
  checked (.pwrEnRise junction) (opPwrEnRise junction s)

/-- PD0 fell below 1.6 V without any supply (R39): the key store went at 2.25 V, the latch holds the fall. -/
def opPd0RetentionLoss (s : State) : State :=
  let dark := match s.power.stage with
    | .off => true
    | _ => false
  s.when dark fun s =>
    (if s.sec.keyStoreEmpty then s else s.pd0Falls).setPower fun p => { p with latch := true }

def execPd0RetentionLoss (s : State) : Host.Outcome State Fault Refusal := checked .pd0RetentionLoss (opPd0RetentionLoss s)

/-! ### The power-fail sequence (Table 2.7) -/

/-- 2 µs: the oldest threshold crossed has stayed crossed (R36). -/
def opSupplyEventQualified (s : State) : State :=
  match s.power.crossing with
  | c :: _ => s.when s.supplied fun s => s.qualified c
  | [] => s

def execSupplyEventQualified (s : State) : Host.Outcome State Fault Refusal :=
  checked .supplyEventQualified (opSupplyEventQualified s)

/-- 4 µs: the output switches open. -/
def opPfailFdoSwitchesOpen (s : State) : State := s.when s.power.failing State.openSwitches

def execPfailFdoSwitchesOpen (s : State) : Host.Outcome State Fault Refusal :=
  checked .pfailFdoSwitchesOpen (opPfailFdoSwitchesOpen s)

/-- 5 µs: the GOOSE engine and the core NICs start no new frame. -/
def opPfailFrameStop (s : State) : State :=
  s.when s.power.failing fun s => s.setPower fun p => { p with framesStopped := true }

def execPfailFrameStop (s : State) : Host.Outcome State Fault Refusal := checked .pfailFrameStop (opPfailFrameStop s)

/-- 50 µs: the last-gasp record is written, once in a sequence (R392). -/
def opLastGaspRecord (s : State) : State :=
  s.when (s.power.failing && !s.power.gasped) fun s =>
    (s.lastGasp 0 s.power.cause).setPower fun p => { p with gasped := true }

def execLastGaspRecord (s : State) : Host.Outcome State Fault Refusal := checked .lastGaspRecord (opLastGaspRecord s)

/-- 100 µs. -/
def opPfailDomainsOff (s : State) : State := s.when s.power.failing State.domainsOff

def execPfailDomainsOff (s : State) : Host.Outcome State Fault Refusal := checked .pfailDomainsOff (opPfailDomainsOff s)

/-- 400 µs. -/
def opPfailFlush (s : State) : State := s.when s.power.failing State.flushOff

def execPfailFlush (s : State) : Host.Outcome State Fault Refusal := checked .pfailFlush (opPfailFlush s)

/-- 800 µs: the sequence ends (R38). -/
def opPfailPd2Off (s : State) : State := s.when s.power.failing State.pd2Off

def execPfailPd2Off (s : State) : Host.Outcome State Fault Refusal := checked .pfailPd2Off (opPfailPd2Off s)

/-! ### Thermal protection and power domains (R41, R42, R45) -/

/-- The highest junction reading, against the warning threshold 0x1803:07. -/
def opThermalWarning (junction : Int) (s : State) : State := s.when (s.domOn 1) fun s => s.thermalWarning junction

def execThermalWarning (junction : Int) (s : State) : Host.Outcome State Fault Refusal :=
  checked (.thermalWarning junction) (opThermalWarning junction s)

/-- The highest junction reading is at or above 110 °C. -/
def opThermalShutdown (junction : Int) (s : State) : State :=
  s.when (s.supplied && decide (1100 ≤ junction)) fun s => s.thermalShutdown junction

def execThermalShutdown (junction : Int) (s : State) : Host.Outcome State Fault Refusal :=
  checked (.thermalShutdown junction) (opThermalShutdown junction s)

/-- A cluster-pair domain leaves RAMPING. -/
def opDomainRampingDone (d : Nat) (s : State) : State :=
  s.when (s.supplied && s.dom d == .ramping && decide (3 ≤ d ∧ d ≤ 6) && s.boot.phase != 0) fun s => s.domainTo d .testing

def execDomainRampingDone (d : Nat) (s : State) : Host.Outcome State Fault Refusal :=
  checked (.domainRampingDone d) (opDomainRampingDone d s)

/-- The tests of a cluster-pair domain end. -/
def opDomainTestingDone (d : Nat) (pass : Bool) (s : State) : State := s.when s.supplied fun s => s.domainTested d pass

def execDomainTestingDone (d : Nat) (pass : Bool) (s : State) : Host.Outcome State Fault Refusal :=
  checked (.domainTestingDone d pass) (opDomainTestingDone d pass s)

/-- An inlet reading against the range of the ordering code (Table 0.1, R45). -/
def opInletOutsideRating (inlet : Int) (s : State) : State :=
  s.when (s.domOn 1) fun s =>
    let lo : Int := if Config.orderingCodeX then -400 else -250
    let hi : Int := if Config.orderingCodeX then 700 else 600
    s.setPower fun p => { p with inlet := some inlet, inletRange := decide (inlet < lo ∨ hi < inlet) }

def execInletOutsideRating (inlet : Int) (s : State) : Host.Outcome State Fault Refusal :=
  checked (.inletOutsideRating inlet) (opInletOutsideRating inlet s)

/-- The oscillator is warm: holdover figures apply from now on (R33). -/
def opOcxoWarmUp (s : State) : State := s.when (s.domOn 1) fun s => s.setPower fun p => { p with ocxoWarm := true }

def execOcxoWarmUp (s : State) : Host.Outcome State Fault Refusal := checked .ocxoWarmUp (opOcxoWarmUp s)

/-! ### Output drivers and the selector (R48, R54) -/

/-- A pulse of the driver test of a standby completes. -/
def opFdoPulseTest (driver : Nat) (pass : Bool) (s : State) : State :=
  s.when (s.running && (s.pair.role == 2 || s.pair.role == 3)) fun s =>
    let s1 := s.setPower fun p => { p with pulses := p.pulses + 1 }
    s1.unitTest 5 17 driver pass

def execFdoPulseTest (driver : Nat) (pass : Bool) (s : State) : Host.Outcome State Fault Refusal :=
  checked (.fdoPulseTest driver pass) (opFdoPulseTest driver pass s)

/-- OSEL_FB has been high for more than 100 µs while the module is not LIT (R54). -/
def opOselFbStuck (s : State) : State :=
  s.when (s.stewardUp && !s.lit && s.power.oselFb) fun s => (s.setCause 20 true).testRan 8 3 0xFFFF 0

def execOselFbStuck (s : State) : Host.Outcome State Fault Refusal := checked .oselFbStuck (opOselFbStuck s)

/-- OSEL_FB changes. Low ends the idle fault; high ends the check of a takeover and fixes its time (R54, R374). -/
def opOselFbChange (high : Bool) (s : State) : State :=
  s.when (s.domOn 1) fun s =>
    let s1 := s.setPower fun p => { p with oselFb := high }
    if !high then s1.setCause 20 false
    else if s1.lit && s1.pair.checking then
      let t := (s1.pair.gain.map fun t => wrap 32 (s1.mono - t)).getD s1.pair.takeTime
      s1.setPair fun p => { p with checking := false, takeTime := t, gain := none }
    else s1

def execOselFbChange (high : Bool) (s : State) : Host.Outcome State Fault Refusal :=
  checked (.oselFbChange high) (opOselFbChange high s)

/-! ### Chassis reset (R68) -/

/-- CH_RST_N held low for 10 µs: a reset of class 2 that holds the steward. -/
def opChassisReset (s : State) : State :=
  s.when (s.domOn 2 && s.supplied) fun s => s.resetNow 2 true

def execChassisReset (s : State) : Host.Outcome State Fault Refusal := checked .chassisReset (opChassisReset s)

/-- CH_RST_N is released: phase 1 begins. -/
def opChassisResetRelease (s : State) : State :=
  s.when s.boot.held fun s => s.setBoot fun b => { b with held := false, phase := 1 }

def execChassisResetRelease (s : State) : Host.Outcome State Fault Refusal :=
  checked .chassisResetRelease (opChassisResetRelease s)

end Sys2Proof.Machine
end

