-- ==== Sys2Proof/Machine/BootUnit.lean ====
section
/-! DEFINITION. Start-up phases, firmware installation, trial boots and the configuration store (chapter 3), and the
preparation of the log in phase 4 (R384, R393). -/

namespace Sys2Proof.Machine

/-- Phase n of start-up runs. -/
def State.inPhase (s : State) (n : Nat) : Bool :=
  s.domOn 2 && s.supplied && !s.boot.held && s.boot.phase == n

/-- Neither slot passes (R60): the module stays in phase 2. -/
def State.stuck (s : State) : Bool := s.inPhase 2 && s.boot.failedSlots.length == 2

/-- The steward serves; a module without firmware serves its debug port, session 8 (R60). -/
def State.serves (s : State) (who : Nat) : Bool := s.stewardUp || (s.stuck && who == 8)

/-- Record 0x0E04: 0 installation state, 1 trial boot, 2 commit, 3 revert, 4 configuration activated. -/
def State.updateEvent (s : State) (kind new : Nat) : State := s.logRec 0x0E04 1 noFacet 0 0 [byteOf kind, byteOf new]

/-! ### The boot record and the slot to boot (R59, R60) -/

/-- The copy with a good CRC and the higher sequence number. -/
def Boot.current (b : Boot) : BootRecord :=
  if b.recA.good && (!b.recB.good || decide (b.recB.seq ≤ b.recA.seq)) then b.recA
  else if b.recB.good then b.recB else b.recA

/-- A new boot record goes to the copy not in use, with the next sequence number. -/
def Boot.writeRecord (b : Boot) (f : BootRecord → BootRecord) : Boot :=
  let r := b.current
  let r' := { f r with seq := r.seq + 1, good := true }
  if r = b.recA then { b with recB := r' } else { b with recA := r' }

def Boot.slot (b : Boot) (n : Nat) : FwSlot := if n = 0 then b.slotA else b.slotB
def Boot.setSlot (b : Boot) (n : Nat) (x : FwSlot) : Boot := if n = 0 then { b with slotA := x } else { b with slotB := x }

/-- The inactive slot (0xC010:04). -/
def Boot.target (b : Boot) : Nat := 1 - b.booted

/-- The image of a slot carries a firmware signature, and its digest is the header's (R59, R430). A slot programmed at
manufacture, whose bytes the model does not hold, has both (log 1). -/
def FwSlot.verified (x : FwSlot) (h : FwHeader) : Bool :=
  x.image.isEmpty ||
    (signedImage 0 (fun k => sha256 k == Config.firmwareRootDigest) x.image && h.digest == sha256 x.image)

/-- A slot passes: valid header, digest and signature verified over bytes that read back intact, security version not below
the floor (R59). -/
def Boot.slotOk (b : Boot) (n : Nat) (intact : Bool) : Bool :=
  match (b.slot n).hdr with
  | some h => intact && (b.slot n).verified h && decide (b.floor ≤ h.secVersion)
  | none => false

/-- The slot chosen, the boot state it gives, and the record as written back. -/
def Boot.choose (b : Boot) : Nat × Nat × Boot :=
  let r := b.current
  match r.trial with
  | some t =>
    if r.attempts = 0 then (r.committed, 2, b.writeRecord fun r => { r with trial := none })
    else (t, 1, b.writeRecord fun r => { r with attempts := r.attempts - 1 })
  | none => (r.committed, 0, b)

/-- Phase 2: the chosen slot, else the other one; with neither the module stays in phase 2. The boot state is trial only
while the slot on trial is the one that runs. DESIGN CHOICE (log 16): R59 does not say which record a slot that fails is
logged with; it is 0x0E04 with kind 0 (installation state) and new state 4 (FAILED), and names no slot. -/
def State.secureBoot (s : State) (sigA sigB : Bool) : State :=
  let (n, st, b) := s.boot.choose
  let sig := fun (k : Nat) => if k = 0 then sigA else sigB
  let s1 := s.setBoot fun _ => b
  let s2 := if st = 1 then s1.updateEvent 1 1 else if st = 2 then s1.updateEvent 3 2 else s1
  let failed := fun (s : State) => s.updateEvent 0 4
  if b.slotOk n (sig n) then (s2.setBoot fun b => { b with booted := n, bootState := st, failedSlots := [] }).endPhase 2
  else if b.slotOk (1 - n) (sig (1 - n)) then
    ((failed s2).setBoot fun b => { b with booted := 1 - n, bootState := if st = 1 then 0 else st, failedSlots := [n] }).endPhase 2
  else (failed (failed s2)).setBoot fun b => { b with failedSlots := [n, 1 - n] }

/-! ### Preparation of the log (R384, R393, R401) -/

/-- The runs of numbers from `lo` to `hi` that an ascending list leaves out. -/
def gaps : Nat → Nat → List Nat → List (Nat × Nat)
  | lo, hi, [] => if lo ≤ hi then [(lo, hi)] else []
  | lo, hi, x :: l => (if lo < x then [(lo, x - 1)] else []) ++ gaps (x + 1) hi l

/-- Bank records ascending in number. -/
def Log.bankRecords (l : Log) : List LogRecord := ((l.bank.map (·.2)).foldr insertRecord []).reverse

def addRecords (l held : List LogRecord) : List LogRecord := (l.foldl (fun h r => insertRecord r h) held).take ringSize

/-- The region that phase 4 uses after a start in bank mode: which region passes its test is free (log 3). -/
def State.logRegion (s : State) : Nat :=
  if s.log.bankMode then (match s.free % 3 with
    | 0 => 0
    | 1 => 2
    | _ => 3)
  else s.log.state

/-- Steps 1 to 5. Each run that step 5 names takes cause 0, or 3 after a CRC failure (log 18). -/
def State.prepareLog (s : State) (crcOk : Bool) : State :=
  let l := s.log
  let region := s.logRegion
  let base := (l.exported.head?.map (·.seq)).getD 0
  let reload := s.boot.startClass == 1 || !crcOk || l.bankMode
  let held := if reload then l.exported else l.held
  let top := if reload then base else (l.held.head?.map (·.seq)).getD 0
  let lostPd0 := s.power.latch
  let next := if lostPd0 then l.blockEnd + 1 else l.next
  let s0 := if l.bankMode then s.nextFree else s
  if region = 3 then
    (({ s0 with log := { l with ready := true, state := 3, next := next, blockEnd := blockEndOf next } } : State).anchor 6).setCause 8 true
  else
    let s1 := ({ s0 with log := { l with ready := true, state := region, held := held, next := next, blockEnd := blockEndOf next } } : State).anchor 6
    if lostPd0 then s1.logLost (top + 1) l.blockEnd 4
    else
      let copies := (l.bankRecords.filter fun r => !(held.any fun x => x.seq == r.seq)).map fun r => { r with fromBank := true }
      let s2 := { s1 with log := { s1.log with held := addRecords copies s1.log.held, bank := [], bankPtr := 0, pushedOut := none } }
      let runs := gaps (top + 1) (l.next - 1) ((copies.map (·.seq)).filter fun n => decide (top < n))
      applyAll (fun (r : Nat × Nat) s => s.logLost r.1 r.2 (if crcOk then 0 else 3)) runs s2

/-- Live causes follow conditions that a reset left in place (R402). -/
def State.showLive (s : State) : State :=
  (((s.showSupply.showFailed).setCause 0 (s.power.thermal == 1)).setCause 8 s.log.bankMode)

/-- The log runs: waiting records enter, and an ordering violation is recorded (R34, R393). -/
def State.startLog (s : State) (crcOk : Bool) : State :=
  let waiting := s.log.waiting
  let s1 := { s with log := { s.log with waiting := [] } }
  let s2 := applyAll (fun q s => s.logReq q) waiting (s1.prepareLog crcOk)
  let s3 := if s2.power.violationPending then s2.powerEvent 0 0 0 else s2
  (s3.setPower fun p => { p with violationPending := false, latch := false }).showLive

/-! ### Firmware installation (R70 to R73) -/

def imageLimit : Nat := 1610612736
def configLimit : Nat := 268435456

/-- The installation reaches state n. -/
def State.instTo (s : State) (n : Nat) : State := (s.setBoot fun b => { b with inst := n }).updateEvent 0 n

/-- A write of v to 0xC010:01 by a session. DESIGN CHOICE (log 16): Table 3.3 names no answer to a write of 2 in VERIFYING, which
is 0x0E01; a begin is accepted in INSTALLED too, and an abort in IDLE, INSTALLED or FAILED succeeds without an effect. -/
def State.instCode (s : State) (sess v : Nat) : Nat :=
  let b := s.boot
  let busy := b.inst == 1 || b.inst == 2
  if busy && b.instOwner != sess then 0x0E01
  else if v = 1 then (if b.bootState = 1 then 0x0E07 else if busy then 0x0E01 else 0)
  else if v = 2 then (if b.inst = 1 then 0 else if b.inst = 2 then 0x0E01 else 0x0E02)
  else 0

/-- A begin erases the header of the inactive slot; an abort leaves it invalid. -/
def State.instDo (s : State) (sess v : Nat) : State :=
  let b := s.boot
  if v = 1 then
    (s.setBoot fun b => { b.setSlot b.target { hdr := none, image := [] } with instOwner := sess, instBytes := 0 }).instTo 1
  else if v = 2 then s.instTo 2
  else if b.inst = 1 ∨ b.inst = 2 then s.instTo 0 else s

/-- More than 1,536 MiB: refused, and the installation fails. -/
def State.instTooLarge (s : State) : Nat × State := (0x0E06, (s.setBoot fun b => { b with instResult := 0x0E06 }).instTo 4)

/-- A segment of the firmware image goes to the slot in order. DESIGN CHOICE (log 16): in VERIFYING, for which Table 3.3 names
no answer, it is refused with 0x0E01. -/
def State.instSegment (s : State) (sess : Nat) (data : ByteList) : Nat × State :=
  let b := s.boot
  if b.inst ≠ 1 then ((if b.inst = 2 then 0x0E01 else 0x0E02), s)
  else if b.instOwner ≠ sess then (0x0E01, s)
  else if imageLimit < b.instBytes + data.length then s.instTooLarge
  else
    (0, s.setBoot fun b =>
      let x := b.slot b.target
      { b.setSlot b.target { x with image := x.image ++ data } with instBytes := b.instBytes + data.length })

/-- The code of the verification of R59: `result` of the checks that read the image's own format (0, 0x0E03 or 0x0E05), then
signature, digest and floor. -/
def State.instVerdict (s : State) (result : Nat) (h : FwHeader) : Nat :=
  let x := s.boot.slot s.boot.target
  if result ≠ 0 then result
  else if x.image.isEmpty || !x.verified h then 0x0E03
  else if h.secVersion < s.boot.floor then 0x0E04 else 0

/-- The verification ends: the valid header is written as the last step. -/
def State.instVerified (s : State) (result : Nat) (h : FwHeader) : State :=
  let c := s.instVerdict result h
  let s1 := s.setBoot fun b => { b with instResult := c }
  if c = 0 then (s1.setBoot fun b => b.setSlot b.target { b.slot b.target with hdr := some h }).instTo 3 else s1.instTo 4

/-! ### Trial and commit (R72) -/

def State.trialCode (s : State) (n : Nat) : Nat := if (s.boot.slot n).hdr.isSome then 0 else 0x0E08

def State.nameTrial (s : State) (n : Nat) : State :=
  s.setBoot fun b => b.writeRecord fun r => { r with trial := some n, attempts := 3 }

def State.commitTrial (s : State) : State :=
  if s.boot.bootState = 1 then
    let floor := ((s.boot.slot s.boot.booted).hdr.map (·.secFloor)).getD 0
    (s.setBoot fun b =>
      { b.writeRecord (fun r => { r with committed := b.booted, trial := none, attempts := 0 }) with
        bootState := 0, trialSince := none, floor := Nat.max b.floor floor }).updateEvent 2 0
  else s

/-! ### The configuration store (R74, R79) -/

/-- Entry value of an image. -/
def cfgValue (i : CfgImage) (key : Nat) : Option Val := (i.entries.find? fun p => p.1 == key).map (·.2)

/-- The program images, with their numbers. -/
def cfgPrograms (i : CfgImage) : List (Nat × ProgImage) :=
  i.programs.filterMap fun raw => (parseImage raw).map fun x => (x.1.number, x.1)

/-- R19 over the trip programs of an image and the error tasks that its entries bind to them. -/
def cfgTripCode (i : CfgImage) : Nat :=
  let l := cfgPrograms i
  let task := fun (p : Nat) => match cfgValue i (ek (progIndex p) 0x21) with
    | some (.int v) => v
    | _ => entryDefault (ek (progIndex p) 0x21)
  let excess := fun (lp : Nat) =>
    let trips := l.filter fun q => q.2.trip && q.2.lp == lp
    let tasks := l.filter fun q => !q.2.trip && trips.any fun t => task t.1 == (q.1 : Int)
    decide (320 < (trips ++ tasks).foldl (fun (a : Nat) (q : Nat × ProgImage) => a + q.2.cost) 0)
  if (List.range 16).any excess then 0x0740 else 0

/-- The bytes of a configuration image verify against the configuration tree (R430). An image of no bytes was active at
manufacture, and with no root in the key store (R61) only the image's own checks remain (log 1). -/
def State.cfgSigned (s : State) (raw : ByteList) : Bool :=
  raw.isEmpty || s.sec.roots.isEmpty || signedImage 1 s.sec.rootOk raw

/-- A write of v to 0xC030:01 by a session. DESIGN CHOICE (log 16): the spec does not say what a begin does while the pending
image is marked for activation; it is refused with 0x0E23. -/
def State.cfgCode (s : State) (sess v : Nat) : Nat :=
  let b := s.boot
  let busy := b.pend == 1 || b.pend == 2
  let marked := b.current.marked != 0
  if v ≤ 2 ∧ busy = true ∧ b.pendOwner ≠ sess then 0x0E01
  else if v = 1 then (if busy then 0x0E01 else if b.pend = 5 then 0x0E23 else 0)
  else if v = 2 then (if b.pend = 1 then 0 else if b.pend = 2 then 0x0E01 else 0x0E02)
  else if v = 3 then
    (if marked then 0x0E23 else if b.pend ≠ 3 then 0x0E22
     else match b.pending with
      | some i => cfgTripCode i
      | none => 0x0E22)
  else if v = 4 then (if marked then 0x0E23 else if b.previous.isNone then 0x0E24 else 0)
  else 0

def State.cfgDo (s : State) (sess v : Nat) : State :=
  let b := s.boot
  if v = 1 then s.setBoot fun b => { b with pend := 1, pendOwner := sess, pending := none, pendingRaw := [] }
  else if v = 2 then s.setBoot fun b => { b with pend := 2 }
  else if v = 3 then s.setBoot fun b => { b.writeRecord (fun r => { r with marked := 1 }) with pend := 5 }
  else if v = 4 then s.setBoot fun b => b.writeRecord fun r => { r with marked := 2 }
  else if b.pend = 1 ∨ b.pend = 2 then s.setBoot fun b => { b with pend := 0, pending := none, pendingRaw := [] }
  else s

/-- More than 256 MiB: refused, and the load fails. -/
def State.cfgTooLarge (s : State) : Nat × State :=
  (0x0E06, s.setBoot fun b => { b with cfgResult := 0x0E06, pend := 4, pendingRaw := [] })

def State.cfgSegment (s : State) (sess : Nat) (data : ByteList) : Nat × State :=
  let b := s.boot
  if b.pend ≠ 1 then ((if b.pend = 2 then 0x0E01 else 0x0E02), s)
  else if b.pendOwner ≠ sess then (0x0E01, s)
  else if configLimit < b.pendingRaw.length + data.length then
    s.cfgTooLarge
  else (0, s.setBoot fun b => { b with pendingRaw := b.pendingRaw ++ data })

/-- The code of the check of the pending image: its signature, and `result` of the checks that read its own format. -/
def State.cfgVerdict (s : State) (result : Nat) : Nat :=
  if result = 0 ∧ signedImage 1 s.sec.rootOk s.boot.pendingRaw = false then 0x0E03 else result

/-- The check of the pending image ends. -/
def State.cfgVerified (s : State) (verdict : Nat) (i : CfgImage) : State :=
  let result := s.cfgVerdict verdict
  s.setBoot fun b =>
    if result = 0 then { b with cfgResult := 0, pend := 3, pending := some i }
    else { b with cfgResult := result, pend := 4, pending := none, pendingRaw := [] }

/-- The marked image verifies again in phase 5: it reads back intact, and its signature holds. -/
def State.markedVerifies (s : State) (intact : Bool) : Bool :=
  let b := s.boot
  intact && (if b.current.marked = 1 then b.pending.isSome && s.cfgSigned b.pendingRaw
             else b.previous.isSome && s.cfgSigned b.previousRaw)

/-- Phase 5 rotates the images where one is marked (R74); a marked image that fails leaves the old one. -/
def State.rotate (s : State) (markedOk : Bool) : State :=
  let b := s.boot
  let m := b.current.marked
  let b1 := b.writeRecord fun r => { r with marked := 0 }
  if m = 0 then s
  else if s.markedVerifies markedOk then
    let b2 : Boot := { b1 with previous := some b.active, previousRaw := b.activeRaw }
    let b3 : Boot :=
      if m = 1 then { b2 with active := b.pending.getD b.active, activeRaw := b.pendingRaw, pending := none, pendingRaw := [], pend := 0 }
      else { b2 with active := b.previous.getD b.active, activeRaw := b.previousRaw }
    ({ s with boot := b3 } : State).updateEvent 4 m
  else
    { s with boot := if m = 1 then { b1 with cfgResult := 0x0E20, pend := 4, pending := none, pendingRaw := [] }
                     else { b1 with cfgResult := 0x0E20 } }

/-! ### Commanded resets (R69) -/

/-- 0x0E10 on a LIT whose partner is not SHADE. -/
def State.orderlyCode (s : State) : Nat := if s.lit && s.pair.partnerRole != 2 then 0x0E10 else 0

/-- A LIT swaps first and resets once its partner has become LIT; any other role resets at once. -/
def State.orderly (s : State) : State :=
  if s.lit then s.armSwap.setBoot fun b => { b with swapThenReset := true } else s.resetNow 5 false

end Sys2Proof.Machine
end

