-- ==== Sys2Proof/Machine/ReadUnit.lean ====
section
/-! DEFINITION. What a read of each dictionary entry returns (R81, R83): the running value of a setting, the present
value of what reports state. Entries not named here read the register or byte string that holds them. -/

namespace Sys2Proof.Machine


/-- A measured quantity that the spec bounds but does not state (R447, log 3). -/
def State.measured (s : State) (key bound : Nat) : Nat := (Config.measured key s.freeCount).natAbs % (bound + 1)

/-- A voltage reading: within 1 % and 10 mV of the level. -/
def State.voltage (s : State) (key level : Nat) : Nat :=
  let tol := level / 100 + 10
  Nat.min 65535 (level + s.measured key (2 * tol) - tol)

/-- VIN_MAIN current: at most that of Table 2.4, or of R34 with the hot-swap controller off, within 2 % and 20 mA. -/
def State.mainCurrent (s : State) : Nat := s.measured (ek 0x1800 2) (if s.supplied then 11036 else 25)

/-- The sum over VIN_MAIN, VIN_IO and VIN_ANA, in mW (R447): the currents of the last two, which no entry reports, are free up to
the maxima of Table 2.4; within 3 % and 250 mW. -/
def State.inputPower (s : State) : Nat :=
  let p := s.power
  let sum := (p.mains * s.mainCurrent + p.io * s.measured (ek 0x1800 3) 1600 + p.ana * s.measured (ek 0x1800 4) 850) / 1000
  let tol := sum * 3 / 100 + 250
  sum + s.measured (ek 0x1800 6) (2 * tol) - tol

/-- A temperature in 0.1 °C, from −64.0 to 191.0. -/
def State.temperature (s : State) (key : Nat) : Int := (s.measured key 2550 : Int) - 640

/-- Entries whose reading is a new measurement each time. -/
def measuredKey (k : Nat) : Bool :=
  decide (ek 0x1800 1 ≤ k ∧ k ≤ ek 0x1800 6) || decide (ek 0x1803 1 ≤ k ∧ k ≤ ek 0x1803 5) || k == ek 0xA030 5 ||
    k == ek 0x47E0 8 || k == ek 0x7000 0x8B || decide (ek 0x5000 0x80 ≤ k ∧ k ≤ ek 0x5000 0xBF)

/-! ### Chapters 2 to 4 -/

def State.readPower (s : State) (index sub : Nat) : Int :=
  let p := s.power
  let k := ek index sub
  if index = 0x1800 then
    match sub with
    | 1 => s.voltage k p.mains
    | 2 => s.mainCurrent
    | 3 => s.voltage k p.io
    | 4 => s.voltage k p.ana
    | 5 => s.voltage k p.bat
    | 6 => s.inputPower
    | 7 => p.status
    | 8 => p.violations
    | 9 => p.powerFails
    | _ => 0
  else if index = 0x1801 then (s.dom (sub - 1)).code
  else if index = 0x1803 then
    match sub with
    | 1 => p.inlet.getD (s.temperature k)
    | 3 => p.junction
    | 4 => if s.domOn 11 then s.temperature k else -32768
    | 6 => p.thermal
    | 7 => s.reg index sub
    | 8 => 0
    | _ => s.temperature k
  else s.reg index sub

def slotVersion (x : FwSlot) : Nat := (x.hdr.map (·.version)).getD 0

def State.readBoot (s : State) (index sub : Nat) : Int :=
  let b := s.boot
  match index, sub with
  | 0xC000, 1 => b.phase
  | 0xC000, 2 => b.booted
  | 0xC000, 3 => b.bootState
  | 0xC000, 4 => b.lastClass
  | 0xC000, 5 => b.resetCount
  | 0xC000, 6 => b.startTime
  | 0xC000, 7 => s.fwVersion
  | 0xC010, 3 => b.inst
  | 0xC010, 4 => b.target
  | 0xC010, 5 => b.instBytes
  | 0xC010, 6 => b.instResult
  | 0xC010, 7 => slotVersion (b.slot b.target)
  | 0xC011, 1 => match b.current.trial with
    | some t => (t : Int)
    | none => 255
  | 0xC011, 4 => b.current.attempts
  | 0xC030, 3 => b.pend
  | 0xC030, 6 => b.cfgResult
  | _, _ => s.reg index sub

/-- 0x1010:04 (R450). -/
def State.savedState (s : State) : Nat :=
  let a := s.access
  if a.savedDiscarded then 2
  else match a.saved with
    | none => if a.overlay.isEmpty then 0 else 3
    | some (m, _) => if a.overlay = m then 1 else 3

def State.readAccess (s : State) (index sub : Nat) : Int :=
  let a := s.access
  match index, sub with
  | 0x1000, 4 => 1
  | 0x1000, 6 => s.fwVersion
  | 0x1000, 7 => (2 ^ 24 + bitsAt s.fwVersion 16 8 * 2 ^ 16 : Nat)
  | 0x1000, 8 => boolNat s.power.slotB
  | 0x1010, 2 => a.overlay.length
  | 0x1010, 4 => s.savedState
  | 0x1010, 5 => a.overlayResult
  | 0x1100, 4 => (a.sessions.filter fun p => p.1 != 8).length
  | 0x1100, 6 => a.failedHandshakes
  | 0x1100, 7 => a.repeats
  | _, _ => s.reg index sub

/-! ### Chapters 5 and 6 -/

def State.readTime (s : State) (index sub : Nat) : Int :=
  let t := s.time
  if index = 0x3000 then
    match sub with
    | 2 => s.servoByte
    | 3 => t.filtered
    | 4 => t.ppb
    | 6 => t.utc
    | 7 => match t.frozenAt with
      | some f => if t.servo = 1 then 0 else ((t.mono - f) / 1000000000 : Nat)
      | none => 0
    | 8 => t.steps
    | 9 => t.outliers
    | _ => 0
  else if index = 0x3001 then
    match sub with
    | 6 => t.pendingOffset
    | 8 => if s.lit || s.pair.partnerAt.isNone then 0 else s.pair.timeDiff
    | _ => s.reg index sub
  else if index = 0x3010 then (if sub = 7 then (Config.clockIdentity % 2 ^ 64 : Nat) else s.reg index sub)
  else if index = 0x3011 then
    match sub with
    | 1 => t.gm
    | 2 => t.gmClass
    | 3 => t.gmPriority1
    | 4 => t.stepsRemoved
    | 6 => t.gmChanges
    | 7 => t.inaccuracy
    | _ => 0
  else if 0x3040 ≤ index ∧ index ≤ 0x306F then
    let x := s.port (index - 0x3040)
    match sub with
    | 2 => x.state
    | 7 => x.delay
    | 9 => x.discarded
    | _ => s.reg index sub
  else if 0x3100 ≤ index ∧ index ≤ 0x310F then
    let n := index - 0x3100
    match sub with
    | 2 => (s.tpo n).startReg
    | 0x0B => s.tpoState n
    | 0x0C => wrap 32 ((s.tpo n).late + (s.tpo n).gated)
    | _ => s.reg index sub
  else if 0x3120 ≤ index ∧ index ≤ 0x3123 then
    let x := s.tci (index - 0x3120)
    match sub with
    | 2 => x.queue.headD 0
    | 3 => x.queue.length
    | 4 => x.overflow
    | 6 => x.deviation
    | _ => s.reg index sub
  else s.reg index sub

def State.readFabric (s : State) (index sub : Nat) : Int :=
  let f := s.fabric
  if 0x2000 ≤ index ∧ index ≤ 0x2033 then
    match sub with
    | 2 => s.linkState (index - 0x2000)
    | 0x21 => 0
    | _ => s.reg index sub
  else if 0x2400 ≤ index ∧ index ≤ 0x2407 then
    match sub with
    | 5 => if 0x2406 ≤ index then 0 else s.reg index sub
    | 6 => s.cellsInUse (index - 0x2400)
    | 7 => (mapGet f.highCells (index - 0x2400) 0 : Nat)
    | _ => s.reg index sub
  else match index, sub with
    | 0x2410, 1 => s.freeCells
    | 0x2410, 2 => s.poolInUse
    | 0x2410, 3 => s.completionInUse
    | 0x2420, 2 => f.fdb.length
    | 0x2420, 3 => (f.fdb.filter fun p => !fdbStatic p.2).length
    | 0x2430, 5 => f.streamTab.length
    | 0x2468, 1 => f.nodes.length
    | 0x2468, 2 => f.proxies.length
    | 0x2420, 5 => 0
    | 0x2421, 1 => 0
    | 0x2430, 1 => 0
    | 0x2440, 1 => 0
    | _, _ => s.reg index sub

/-- The class counters of a port (Table 6.6); integers little-endian (log 19). -/
def State.classBytes (s : State) (p : Nat) : ByteList :=
  (List.range 8).flatMap fun c =>
    let b := s.block p c
    leBytes 8 b.sent ++ leBytes 8 b.discarded ++ leBytes 8 b.highest

def State.latencyBytes (s : State) (p : Nat) : ByteList :=
  (List.range 8).flatMap fun c =>
    let b := s.block p c
    leBytes 4 b.minNs ++ leBytes 4 b.maxNs ++ (List.range 8).flatMap fun i => leBytes 4 (Nat.min (mapGet b.counts i 0) 4294967295)

/-! ### Chapters 7 to 9 -/

def State.readLens (s : State) (index sub : Nat) : Int :=
  if index = 0x47F0 then
    let x := s.lens
    match sub with
    | 6 => x.state
    | 7 => x.sealedRows
    | 8 => x.expiryRows
    | 9 => (x.newest.map (·.1)).getD 0
    | 0x0B => (enabledStreams s.regs).length
    | 0x0C => (x.inUse.foldl (fun (a : Nat) (p : Nat × Nat) => a + p.2) 0 : Nat)
    | 0x0D => x.highestOpen
    | 0x0E => x.heldRows
    | 0x0F => x.discs
    | 0x10 => x.highestDelay
    | 0x11 => 0
    | _ => s.reg index sub
  else
    let n := index - 0x4000
    let x := s.stream n
    match sub with
    | 0x0C => x.state
    | 0x0D => x.lastPlaced
    | 0x0E => x.lastSynch
    | 0x0F => boolNat x.usingSim
    | 0x23 => 0
    | 0x24 => popCount (strReg s.regs n 7) 32
    | _ => if 0x10 ≤ sub ∧ sub ≤ 0x22 then (mapGet x.cnt sub 0 : Nat) else s.reg index sub

def State.readPhasor (s : State) (index sub : Nat) : Int :=
  if 0x4400 ≤ index ∧ index ≤ 0x45FF then
    let g := index - 0x4400
    let o := (s.sumGroup g).outs.head?
    match sub with
    | 6 => s.sumStatus g
    | 7 => (o.map (·.diff)).getD 0
    | 8 => (o.map (·.rms)).getD 0
    | 9 => (o.map (·.rest)).getD 0
    | 0x0C => 0
    | _ => s.reg index sub
  else if 0x4700 ≤ index ∧ index ≤ 0x471F then
    let g := index - 0x4700
    match sub with
    | 8 => s.freqOf g
    | 9 => s.rocof g
    | 0x0A => s.freqStatus g
    | 0x0B => (s.freqGroup g).changes
    | 0x0C => (s.freqGroup g).holds
    | _ => s.reg index sub
  else if index = 0x47E0 then
    match sub with
    | 5 => match s.phasor.newest with
      | some r => (tripleAt s.mem r.cfg (s.regN 0x47E0 1) r.num).q
      | none => 0x8000
    | 6 => s.phasor.channels
    | 7 => (validTriples s.regs).length
    | 8 => s.measured (ek index sub) 65535
    | _ => s.reg index sub
  else s.reg index sub

/-- 0x47E0:02 to :04, from the newest sealed row. -/
def State.sequence (s : State) (sub : Nat) : ByteList :=
  let t := match s.phasor.newest with
    | some r => tripleAt s.mem r.cfg (s.regN 0x47E0 1) r.num
    | none => TripleRes.none
  let c := if sub = 2 then t.x0 else if sub = 3 then t.x1 else t.x2
  leBytes 4 c.1 ++ leBytes 4 c.2

def State.readGoose (s : State) (index sub : Nat) : Int :=
  if 0x4800 ≤ index ∧ index ≤ 0x4BFF then
    let x := s.lane (index - 0x4800)
    match sub with
    | 0x11 => 0
    | 0x12 => x.status
    | 0x13 => x.value
    | 0x15 => x.pickRow
    | _ => s.reg index sub
  else if 0x5800 ≤ index ∧ index ≤ 0x59FF then
    let x := s.pub (index - 0x5800)
    match sub with
    | 0x13 => x.stNum
    | 0x14 => x.sqNum
    | 0x15 => if !x.on then 0 else if s.driven then 1 else 2
    | _ => s.reg index sub
  else
    let x := s.sub (index - 0x6000)
    match sub with
    | 0x20 => x.state
    | 0x21 => x.lastSt
    | 0x22 => x.lastSq
    | 0x2C => 0
    | _ => s.reg index sub

/-! ### Chapters 10 to 13 -/

def State.readProg (s : State) (index sub : Nat) : Int :=
  let p := index - 0x5400
  let x := s.prog p
  let h := fun (g : ProgImage → Nat) => (((x.image.map g).getD 0 : Nat) : Int)
  match sub with
  | 0x03 => x.state
  | 0x04 => h (·.form)
  | 0x05 => h (·.cls)
  | 0x06 => h (·.period)
  | 0x07 => h (·.lp)
  | 0x08 => h fun i => boolNat i.trip
  | 0x09 => h (·.cost)
  | 0x0A => h (·.count)
  | 0x0F => h fun i => i.insts.length
  | 0x10 => h (·.retData)
  | 0x23 => 0
  | 0x24 => x.exState
  | 0x25 => x.exResult
  | 0x2E => s.cycleStatus p
  | 0x2F => 0
  | 0x30 => h fun i => i.stations.foldl (fun a n => a + 2 ^ n) 0
  | 0x31 => h fun i => s.load i.lp
  | _ =>
    if 0xA0 ≤ sub ∧ sub ≤ 0xAF then (s.load (sub - 0xA0) : Int)
    else if 0xB0 ≤ sub then (s.instantCost (sub - 0xB0) : Int) else s.reg index sub

def State.readFacet (s : State) (index sub : Nat) : Int :=
  let n := index - 0x5000
  let f := s.facet n
  match sub with
  | 0x02 => 0
  | 0x03 => f.state
  | 0x13 => f.boot.length
  | 0x17 => f.result
  | 0x18 => f.resets
  | 0x19 => f.planeFaults
  | 0x1A => f.accessFaults
  | 0x1B => f.overRefusals
  | 0x1C => f.mboxErrors
  | 0x1D => f.taken
  | 0x1E => f.lostPosts
  | 0x1F => f.nicDiscards
  | 0x20 => f.dispatches
  | 0x23 => 0
  | 0xD1 => (s.facets.tasks.filter fun t => t.2.state != 0).length
  | 0xD2 => s.freeUnits
  | 0xD3 => s.definedFacets.length
  | _ => if 0x80 ≤ sub ∧ sub ≤ 0xBF then (s.measured (ek index sub) 1000 : Int) else s.reg index sub

/-- 0x5000 + n:21: READY tasks by priority; integers little-endian (log 19). -/
def State.depthBytes (s : State) (n : Nat) : ByteList := (List.range 8).flatMap fun k => leBytes 2 (s.readyAt n k)

/-- 0x5000 + n:22. -/
def State.longestWait (s : State) (n : Nat) : ByteList :=
  (List.range 8).flatMap fun k => leBytes 4 (mapGet (s.facet n).longest k 0)

def State.readCapture (s : State) (index sub : Nat) : Int :=
  let x := s.slot (index - 0x7000)
  let h := fun (g : CapRec → Nat) (d : Nat) => (((x.data.map g).getD d : Nat) : Int)
  match sub with
  | 0x14 => 0
  | 0x18 => x.state
  | 0x19 => h (·.flagByte) 0
  | 0x1A => h (·.count) 0
  | 0x1B => h (·.capacity) 0
  | 0x1C => h (·.primary) 0xFFFF
  | 0x1D => h (·.trigRow) 0
  | 0x80 => (poolMiB - s.poolUsed none : Nat)
  | 0x81 => (s.storeFree / 1048576 : Nat)
  | 0x82 => s.capture.store.length
  | 0x89 => 0
  | 0x8B => s.measured (ek index sub) 4294967295
  | _ => s.reg index sub

/-- The export file of the selected record: 0 configuration, 1 data, 2 information. -/
def State.selectedFile (s : State) (file : Nat) : ByteList :=
  match s.stored (s.regN 0x7000 0x85) with
  | some x => s.exportFile x file
  | none => []

/-! ### Chapters 14 to 17 -/

def State.readPair (s : State) (index sub : Nat) : Int :=
  let p := s.pair
  match index, sub with
  | 0x8000, 1 => p.role
  | 0x8000, 2 => p.partnerRole
  | 0x8000, 3 => p.flagBits
  | 0x8000, 4 => p.elig
  | 0x8000, 5 => p.takeovers
  | 0x8000, 6 => p.cause
  | 0x8000, 7 => p.takeTime
  | 0x8000, 8 => p.dualClaims
  | 0x8000, 9 => (p.partner.map (·.firmware)).getD 0
  | 0x8000, 0x0A => ((p.partner.map fun b => b.major % 256 * 256 + b.minor % 256).getD 0 : Nat)
  | 0x8000, 0x0B => (0x100 + Config.mirrorMinor % 256 : Nat)
  | 0x8000, 0x0C => linesByte p.lines
  | 0x8000, 0x0D => 0
  | 0x8003, _ => (mapGet p.counters sub 0 : Nat)
  | 0x8004, 1 => s.tickBudget
  | 0x8004, 2 => s.tickWorst
  | 0x8004, _ => (wrap 32 p.backlog : Nat)
  | 0x8002, _ => 0
  | _, _ => s.reg index sub

def State.cursorOf (s : State) (who : Nat) : Cursor := mapGet s.log.cursors who Cursor.fresh

/-- The reader of a session or cabinet client (R398): 256 + session, 512 + node. -/
def readerOf (who : Nat) : Nat := if who < 512 then 256 + who else who

def State.readLog (s : State) (who index sub : Nat) : Int :=
  let l := s.log
  let k := s.cursorOf (readerOf who)
  match index, sub with
  | 0x9000, 1 => l.next
  | 0x9000, 2 => l.oldest
  | 0x9000, 3 => if l.bankMode then (l.bank.length : Int) else l.held.length
  | 0x9000, 4 => l.state
  | 0x9000, 5 => l.exportedThrough
  | 0x9000, 6 => l.suppressed
  | 0x9000, 7 => l.lost
  | 0x9000, 8 => l.memErrors
  | 0x9000, 9 => l.bank.length
  | 0x9000, 0x0A => 0
  | 0x9001, 1 => k.cursor
  | 0x9001, 3 => k.status
  | 0x9001, 4 => k.skipped
  | 0x9001, 5 => k.resume
  | 0x9010, 1 => s.health.flags
  | 0x9010, 2 => s.health.warnings
  | 0x9010, 3 => s.health.faults
  | 0x9010, 4 => s.health.latched
  | 0x9010, 5 => 0
  | 0x9010, 8 => match s.health.partnerAt with
    | some t => ((s.mono - t) / 1000000 : Nat)
    | none => 4294967295
  | 0x9010, 9 => s.health.partnerStatus
  | _, _ => s.reg index sub

def State.readCan (s : State) (index sub : Nat) : Int :=
  let x := s.ctl (index - 0xB000)
  match sub with
  | 0x10 => 0
  | 0x11 => x.state
  | 0x12 => x.tec
  | 0x13 => x.recv
  | 0x14 => x.lastErr
  | _ => s.reg index sub

def State.readSec (s : State) (who index sub : Nat) : Int :=
  let x := s.sec
  match index, sub with
  | 0xA000, 1 => x.state
  | 0xA000, 4 => x.q
  | 0xA000, 5 => (leafLimit - x.q : Nat)
  | 0xA000, 7 => s.boot.floor
  | 0xA000, 9 => (4 - x.owners.length : Nat)
  | 0xA010, 3 => (mapGet x.repState who 0 : Nat)
  | 0xA010, 4 => x.attResult
  | 0xA020, 3 => x.partnerState
  | 0xA020, 6 => x.epoch
  | 0xA020, 7 => x.pendEpoch
  | 0xA030, 1 => x.tamperState
  | 0xA030, 2 => x.tamperEvents
  | 0xA030, 3 => x.tamperSensors
  | 0xA030, 5 => s.temperature (ek index sub)
  | 0xA040, 3 => boolNat x.debugOpen
  | _, _ => 0

/-! ### Identity records (R95, R444) -/

/-- Name, role and enable of identity record r: as written, else as the provisioning bundle gave them. -/
def State.identity (s : State) (r : Nat) : ByteList × Nat × Bool :=
  let index := 0x1110 + r
  let b := (mapFind s.sec.records r).getD ([], 1, false)
  ((mapFind s.blobs (ek index 1)).getD b.1,
   ((mapFind s.regs (ek index 2)).map Int.toNat).getD b.2.1,
   ((mapFind s.regs (ek index 3)).map fun v => decide (v ≠ 0)).getD b.2.2)

/-! ### The read of an entry -/

/-- A numeric entry. -/
def State.readNum (s : State) (who index sub : Nat) : Int :=
  if 0x1800 ≤ index ∧ index ≤ 0x1803 then s.readPower index sub
  else if 0x1110 ≤ index ∧ index ≤ 0x112F then
    let r := s.identity (index - 0x1110)
    if sub = 2 then (r.2.1 : Int) else boolNat r.2.2
  else if index < 0x2000 then s.readAccess index sub
  else if index < 0x3000 then s.readFabric index sub
  else if index < 0x4000 then s.readTime index sub
  else if index < 0x4400 ∨ index = 0x47F0 then s.readLens index sub
  else if index < 0x4800 then s.readPhasor index sub
  else if index < 0x5000 then s.readGoose index sub
  else if index < 0x5400 then s.readFacet index sub
  else if index < 0x5800 then s.readProg index sub
  else if index < 0x7000 then s.readGoose index sub
  else if index < 0x8000 then s.readCapture index sub
  else if index < 0x9000 then s.readPair index sub
  else if index < 0xA000 then s.readLog who index sub
  else if index < 0xB000 then s.readSec who index sub
  else if index < 0xB040 then s.readCan index sub
  else if index < 0xC000 then
    (if sub = 0x0C then (s.station (index - 0xB040)).state else if sub = 0x11 then 0 else s.reg index sub)
  else if index = 0xC002 ∨ ek index sub = ek 0xC010 1 ∨ ek index sub = ek 0xC011 2 ∨ ek index sub = ek 0xC030 1 then 0
  else s.readBoot index sub

/-- A STR, DOMAIN or TIME80 entry. -/
def State.readBytes (s : State) (who index sub : Nat) : ByteList :=
  let x := s.sec
  match index, sub with
  | 0x1000, 1 => ascii "Isabatum Grid Electronics"
  | 0x1000, 2 => ascii "PZX-6400"
  | 0x1000, 3 => ascii (if Config.orderingCodeX then "PZX-6400-X" else "PZX-6400-A")
  | 0x1000, 5 => padTo 12 Config.serialNumber
  | 0x1010, 3 => overlayDigest s.access.overlay
  | 0x1010, 6 => padTo 32 s.access.fingerprint
  | 0x3000, _ => time80 s.now
  | 0x3011, 5 => match s.time.parent with
    | some (c, p) => beBytes 8 c ++ beBytes 2 p
    | none => List.replicate 10 (byteOf 0)
  | 0x47F0, 0x0A => time80 ((s.lens.newest.map (·.2)).getD 0)
  | 0x47E0, _ => s.sequence sub
  | 0x5000, 0xD0 => (List.range 16).map fun b => byteOf (s.blobOf b).state
  | 0x7000, 0x84 => s.directory
  | 0x7000, 0x86 => s.selectedFile 0
  | 0x7000, 0x87 => s.selectedFile 1
  | 0x7000, 0x88 => s.selectedFile 2
  | 0x9001, 2 => (s.cursorOf (readerOf who)).window
  | 0x9010, 6 => s.healthReport
  | 0x9010, 7 => padTo 256 s.health.partner
  | 0xA000, 2 => x.publicKey
  | 0xA000, 3 => x.digest
  | 0xA000, 6 => padTo 32 Config.firmwareRootDigest
  | 0xA000, 8 => x.owner.getD zero32
  | 0xA001, _ => padTo 60 (mapGet x.roots sub [])
  | 0xA010, 2 => padTo 5652 (mapGet x.reports who [])
  | 0xA020, 1 => x.bound
  | 0xA020, 2 => padTo 32 x.received
  | 0xA030, 4 => time80 (1000000000 * x.tamperTime)
  | 0xA040, 1 => x.challenge.getD (List.replicate 64 (byteOf 0))
  | 0xC030, 4 => if s.boot.pend = 3 ∨ s.boot.pend = 5 then sha256 s.boot.pendingRaw else zero32
  | _, _ =>
    if 0x1110 ≤ index ∧ index ≤ 0x112F ∧ sub = 1 then (s.identity (index - 0x1110)).1
    else if 0x2500 ≤ index ∧ index ≤ 0x2533 then s.classBytes (index - 0x2500)
    else if 0x2600 ≤ index ∧ index ≤ 0x2633 then s.latencyBytes (index - 0x2600)
    else if 0x5000 ≤ index ∧ index ≤ 0x50FF ∧ sub = 0x21 then s.depthBytes (index - 0x5000)
    else if 0x5000 ≤ index ∧ index ≤ 0x50FF ∧ sub = 0x22 then s.longestWait (index - 0x5000)
    else if index = 0x5000 ∧ 0xC0 ≤ sub ∧ sub ≤ 0xCF then (s.blobOf (sub - 0xC0)).bytes
    else if 0x5400 ≤ index ∧ index ≤ 0x57FF then
      let g := s.prog (index - 0x5400)
      match sub with
      | 0x02 => (g.image.map (·.raw)).getD []
      | 0x0B => (g.image.map fun i => sha256 i.raw).getD zero32
      | 0x0E => trimmed ((g.image.map (·.name)).getD [])
      | 0x26 => g.report
      | _ => s.blob index sub
    else if 0x7000 ≤ index ∧ index ≤ 0x701F ∧ sub = 0x1E then
      time80 (((s.slot (index - 0x7000)).data.map (·.trigInst)).getD 0)
    else if 0xB040 ≤ index ∧ index ≤ 0xB07F ∧ sub = 0x0D then padTo 128 (s.station (index - 0xB040)).delivered
    else s.blob index sub

/-- Types whose values are byte strings. -/
def bytesType (t : Nat) : Bool := t == 0x09 || t == 0x0F || t == 0x30

/-- The value of an entry for a reader (`who` as in `Requester`). -/
def State.readEntry (s : State) (who key : Nat) : Val :=
  let typ := entryType key
  if bytesType typ then .bytes (s.readBytes who (key / 256) (key % 256)) else .int (s.readNum who (key / 256) (key % 256))

end Sys2Proof.Machine
end

