-- ==== Sys2Proof/Machine/Time.lean ====
section
/-! DEFINITION. The meanings of the commands of chapter 5: PTP messages, servo events, steps, pulse outputs,
capture inputs. -/

namespace Sys2Proof.Machine

/-- The time unit runs: PD8 is up and phase 5 has been passed. -/
def State.timeUp (s : State) : Bool := s.domOn 8 && decide (6 ≤ s.boot.phase)

/-- A Sync of the selected master gives a raw offset at once, or awaits its Follow_Up (R448). -/
def opSync (port : Nat) (m : SyncMsg) (s : State) : State :=
  s.when s.timeUp fun s =>
    if !s.ptpTakes port m.supported m.domain then s.ptpDiscard port
    else if !s.fromParent port m.source then s
    else if m.twoStep then
      let x := s.port port
      s.setPort port { x with pending := some (m, (s.quarterStamp : Int)) }
    else s.syncOffset port s.quarterStamp m.origin m.correction

def execSync (port : Nat) (m : SyncMsg) (s : State) : Host.Outcome State Fault Refusal :=
  checked (.sync port m) (opSync port m s)

/-- A Follow_Up completes the offset of its two-step Sync (R448). -/
def opFollowUp (port : Nat) (m : FollowUpMsg) (s : State) : State :=
  s.when s.timeUp fun s =>
    if !s.ptpTakes port m.supported m.domain then s.ptpDiscard port
    else
      let x := s.port port
      match x.pending with
      | some (y, rx) =>
        if y.seq = m.seq ∧ y.source = m.source then
          (s.setPort port { x with pending := none }).syncOffset port rx m.origin (y.correction + m.correction)
        else s
      | none => s

def execFollowUp (port : Nat) (m : FollowUpMsg) (s : State) : Host.Outcome State Fault Refusal :=
  checked (.followUp port m) (opFollowUp port m s)

/-- The foreign masters heard on a port, each by its last Announce. -/
def heard (m : AnnounceMsg) (l : List AnnounceMsg) : List AnnounceMsg :=
  m :: l.filter fun k => !(k.sourceClock == m.sourceClock && k.sourcePort == m.sourcePort)

/-- An Announce enters the BMCA (R116, R123). -/
def opAnnounce (port : Nat) (m : AnnounceMsg) (s : State) : State :=
  s.when s.timeUp fun s =>
    if !s.ptpTakes port m.supported m.domain then s.ptpDiscard port
    else
      let x := s.port port
      (s.setPort port { x with foreign := heard m x.foreign }).bmca

def execAnnounce (port : Nat) (m : AnnounceMsg) (s : State) : Host.Outcome State Fault Refusal :=
  checked (.announce port m) (opAnnounce port m s)

/-- A Pdelay_Req is answered in every role (R116, R117), with the stamps of its reception and of the answer. -/
def opPdelayReq (port : Nat) (m : PdelayReqMsg) (s : State) : State :=
  s.when s.timeUp fun s =>
    if !s.ptpTakes port m.supported m.domain then s.ptpDiscard port
    else
      let x := s.port port
      s.setPort port { x with
        responses := x.responses + 1,
        lastResponse := some { supported := true, domain := m.domain, seq := m.seq, t1 := 0, t2 := s.quarterStamp,
                               t3 := s.quarterStamp, t4 := 0 } }

def execPdelayReq (port : Nat) (m : PdelayReqMsg) (s : State) : Host.Outcome State Fault Refusal :=
  checked (.pdelayReq port m) (opPdelayReq port m s)

/-- A peer delay response gives the mean link delay ((t4 - t1) - (t3 - t2)) / 2 (R116), in whole ns. -/
def opPdelayResp (port : Nat) (m : PdelayRespMsg) (s : State) : State :=
  s.when s.timeUp fun s =>
    if !s.ptpTakes port m.supported m.domain then s.ptpDiscard port
    else
      let x := s.port port
      s.setPort port { x with delay := (((m.t4 - m.t1) - (m.t3 - m.t2)) / 8).toNat % 2 ^ 32 }

def execPdelayResp (port : Nat) (m : PdelayRespMsg) (s : State) : Host.Outcome State Fault Refusal :=
  checked (.pdelayResp port m) (opPdelayResp port m s)

/-- A MASTER port sends a Sync, and with two-step transmit its Follow_Up (R116). -/
def opSyncTransmit (port : Nat) (s : State) : State :=
  s.when (s.timeUp && (s.port port).state == 6) fun s =>
    let x := s.port port
    let oneStep := s.flag (0x3040 + port) 3
    let origin : Int := s.now
    let sync : SyncMsg :=
      { supported := true, domain := s.regN 0x3010 3, source := Config.clockIdentity, seq := wrap 16 (x.seqSync + 1),
        twoStep := !oneStep, origin := if oneStep then origin else 0, correction := 0 }
    let follow : FollowUpMsg :=
      { supported := true, domain := sync.domain, source := sync.source, seq := sync.seq, origin := origin, correction := 0 }
    s.setPort port { x with
      seqSync := sync.seq, sent := x.sent + (if oneStep then 1 else 2), lastSync := some sync,
      lastFollowUp := if oneStep then x.lastFollowUp else some follow }

def execSyncTransmit (port : Nat) (s : State) : Host.Outcome State Fault Refusal :=
  checked (.syncTransmit port) (opSyncTransmit port s)

/-- A MASTER port sends an Announce (R117). -/
def opAnnounceTransmit (port : Nat) (s : State) : State :=
  s.when (s.timeUp && (s.port port).state == 6) fun s =>
    let x := s.port port
    s.setPort port { x with
      seqAnnounce := wrap 16 (x.seqAnnounce + 1), sent := x.sent + 1, lastAnnounce := some (s.ownAnnounce port) }

def execAnnounceTransmit (port : Nat) (s : State) : Host.Outcome State Fault Refusal :=
  checked (.announceTransmit port) (opAnnounceTransmit port s)

/-- A PTP port sends a Pdelay_Req (R116). -/
def opPdelayReqTransmit (port : Nat) (s : State) : State :=
  s.when (s.timeUp && s.ptpOn port) fun s =>
    let x := s.port port
    s.setPort port { x with seqPdelay := wrap 16 (x.seqPdelay + 1), sent := x.sent + 1 }

def execPdelayReqTransmit (port : Nat) (s : State) : Host.Outcome State Fault Refusal :=
  checked (.pdelayReqTransmit port) (opPdelayReqTransmit port s)

/-- The selected master is heard no more on the slave port. -/
def Time.dropMaster (t : Time) : Time :=
  let gone := fun (p : Nat) (m : AnnounceMsg) => t.slavePort == some p && t.parent == some (m.sourceClock, m.sourcePort)
  { t with ports := t.ports.map fun p => (p.1, { p.2 with foreign := p.2.foreign.filter fun m => !gone p.1 m }) }

/-- No Announce has arrived within the receipt timeout on the slave port (R118): the master is lost where no other qualified
master exists, and otherwise the BMCA selects that one. -/
def opMasterLost (s : State) : State :=
  s.when s.timeUp fun s =>
    let s1 := { s with time := s.time.dropMaster }
    if s1.selected.isSome then s1.bmca else s1.masterLost.bmca

def execMasterLost (s : State) : Host.Outcome State Fault Refusal := checked .masterLost (opMasterLost s)

/-- The holdover limit, counted from the freezing of the frequency, elapses (R118, R120). -/
def opHoldoverLimitExpired (s : State) : State :=
  s.when s.timeUp fun s =>
    match s.time.frozenAt with
    | none => s
    | some f =>
      let s1 := s.advanceMono (f + 1000000000 * s.regN 0x3001 3 - s.mono)
      if s1.time.servo = 3 then s1.setServo 4
      else if s1.inSpec = s.inSpec then s1 else s1.tellTime false

def execHoldoverLimitExpired (s : State) : Host.Outcome State Fault Refusal :=
  checked .holdoverLimitExpired (opHoldoverLimitExpired s)

/-- Accepting the pending jump (R122): 0x0304 when none is pending. -/
def State.acceptJump (s : State) : State :=
  if s.time.servo = 5 then
    let o := s.time.pendingOffset
    (({ s with time := { s.time.thaw with accepted := some o, loaded := none } } : State).setServo 1).answer 0
  else s.answer 0x0304

def opAcceptJump (s : State) : State := s.when s.timeUp State.acceptJump

def execAcceptJump (s : State) : Host.Outcome State Fault Refusal := checked .acceptJump (opAcceptJump s)

/-- The accepted step is made at the grid tick boundary (R122). -/
def opJumpStep (s : State) : State :=
  s.when s.timeUp fun s =>
    match s.time.accepted with
    | none => s
    | some o =>
      let f := s.grid
      let s1 := s.advanceTo (tickInstant f (tickFrom f s.now))
      ({ s1 with time := { s1.time with accepted := none } } : State).stepBy o 0

def execJumpStep (s : State) : Host.Outcome State Fault Refusal := checked .jumpStep (opJumpStep s)

/-- Setting the time in FREERUN or a holdover state; otherwise 0x0305 (R136, Table 5.2). -/
def State.setTime (s : State) (sec ns : Nat) : State :=
  match s.time.servo with
  | 0 | 3 | 4 => ((s.anchor 4).stepTo (1000000000 * sec + ns) 1).answer 0
  | _ => s.answer 0x0305

def opSetTime (sec ns : Nat) (s : State) : State :=
  s.when s.timeUp fun s => if 1000000000 ≤ ns then s.answer 0x0109 else s.setTime sec ns

def execSetTime (sec ns : Nat) (s : State) : Host.Outcome State Fault Refusal :=
  checked (.setTime sec ns) (opSetTime sec ns s)

/-- While LOCKED the seconds are copied to PD0 at a whole second (R112). -/
def opRtcCopy (s : State) : State :=
  s.when (s.timeUp && s.time.servo == 2) fun s =>
    let s1 := if s.time.ns = 0 then s else s.advanceTo (1000000000 * (s.time.sec + 1))
    { s1 with time := { s1.time with rtc := s1.time.sec, rtcPhase := 0, rtcSet := true } }

def execRtcCopy (s : State) : Host.Outcome State Fault Refusal := checked .rtcCopy (opRtcCopy s)

/-- An anchor at a whole second whose count is a multiple of the anchor interval (R134). -/
def opTimeAnchor (s : State) : State :=
  s.when s.timeUp fun s =>
    let i := s.regN 0x3001 7
    let next := 1000000000 * i * ((s.now + 1000000000 * i - 1) / (1000000000 * i))
    (s.advanceTo next).anchor 0

def execTimeAnchor (s : State) : Host.Outcome State Fault Refusal := checked .timeAnchor (opTimeAnchor s)

def opTpoStart (n v : Nat) (s : State) : State := s.when s.timeUp fun s => s.tpoStart n v

def execTpoStart (n v : Nat) (s : State) : Host.Outcome State Fault Refusal := checked (.tpoStart n v) (opTpoStart n v s)

def opTpoEdge (n : Nat) (s : State) : State := s.when s.timeUp fun s => s.tpoEdge n

def execTpoEdge (n : Nat) (s : State) : Host.Outcome State Fault Refusal := checked (.tpoEdge n) (opTpoEdge n s)

def opTpoPulseEnd (n : Nat) (s : State) : State := s.when s.timeUp fun s => s.tpoPulseEnd n

def execTpoPulseEnd (n : Nat) (s : State) : Host.Outcome State Fault Refusal := checked (.tpoPulseEnd n) (opTpoPulseEnd n s)

/-- A write to :0A: the entry reads the new owner at once, and the grant changes at the end of the pulse (R129). -/
def opTpoGrant (n owner : Nat) (s : State) : State :=
  s.when s.timeUp fun s =>
    if 256 ≤ owner ∧ owner ≠ 65535 then s.answer 0x0109
    else ((s.setReg (tpoIndex n) 0x0A owner).tpoGrant n owner).answer 0

def execTpoGrant (n owner : Nat) (s : State) : Host.Outcome State Fault Refusal :=
  checked (.tpoGrant n owner) (opTpoGrant n owner s)

/-- A rising edge on an enabled capture input (R131). -/
def opCaptureEdge (n : Nat) (s : State) : State :=
  s.when (s.timeUp && s.flag (0x3120 + n) 1) fun s => s.captureEdge n

def execCaptureEdge (n : Nat) (s : State) : Host.Outcome State Fault Refusal := checked (.captureEdge n) (opCaptureEdge n s)

/-- A read of :02 of a capture input removes and answers the oldest stamp (R131). -/
def opOldestStampRead (n : Nat) (s : State) : State :=
  s.when s.timeUp fun s =>
    let (s1, v) := s.takeStamp n
    s1.answer 0 (beBytes 8 v)

def execOldestStampRead (n : Nat) (s : State) : Host.Outcome State Fault Refusal :=
  checked (.oldestStampRead n) (opOldestStampRead n s)

/-- TIME_STATUS of a facet (Table 5.4). -/
def State.timeStatus (s : State) (f : Nat) : Nat :=
  s.statusBits + 512 * boolNat (s.facet f).stepped + 65536 * toBits 16 s.time.utc

/-- A facet's read of TIME_STATUS answers it and clears STEPPED (Table 5.4). -/
def opTimeStatusRead (f : Nat) (s : State) : State :=
  s.when (s.timeUp && (s.facet f).live) fun s =>
    let w := s.timeStatus f
    let x := s.facet f
    (s.setFacet f { x with stepped := false }).answer 0 (leBytes 8 w)

def execTimeStatusRead (f : Nat) (s : State) : Host.Outcome State Fault Refusal :=
  checked (.timeStatusRead f) (opTimeStatusRead f s)

/-! ### The clock (R110, R113) -/

/-- One CLK_TIME cycle: 4 ns plus the correction, on the time base and on the monotonic count; 4 ns of CLK_AON. -/
def Time.cycle (t : Time) : Time :=
  let inc := (17179869184 + t.corr).toNat
  let f := t.frac + inc
  let g := t.monoFrac + inc
  let n := t.ns + f / 4294967296
  Time.rtcCount { t with frac := f % 4294967296, ns := n % 1000000000, sec := t.sec + n / 1000000000,
                         monoFrac := g % 4294967296, mono := t.mono + g / 4294967296 } 256

end Sys2Proof.Machine
end

