-- ==== Sys2Proof/Machine/OwnerUnit.lean ====
section
/-! DEFINITION. The owning functions of the dictionary entries (R83, R89): when each is running, which values it
refuses with a code of its own, what an accepted write does to it, and what each CMD and WO entry does. -/

namespace Sys2Proof.Machine

/-- The unsigned number of a value as written (Table 4.1). -/
def valNat : Val → Nat
  | .int i => i.toNat
  | .bytes b => beNat b

def valInt : Val → Int
  | .int i => i
  | .bytes b => beNat b

def valRaw : Val → ByteList
  | .int _ => []
  | .bytes b => b

/-- Where an entry holds a value of its own. -/
def State.putVal (s : State) (key : Nat) (v : Val) : State :=
  match v with
  | .int i =>
    let s1 := { s with regs := mapPut key i s.regs }
    -- the domain takes the default of the profile (0x3010:03)
    if key = ek 0x3010 1 then s1.setReg 0x3010 3 (if i = 1 then 254 else 0) else s1
  | .bytes b =>
    -- images, roots, the bound identity, the cursor and blobs have homes of their own
    if (0x5400 ≤ key / 256 ∧ key / 256 ≤ 0x57FF ∧ key % 256 = 2) ∨ (0xA000 ≤ key / 256 ∧ key / 256 ≤ 0xA0FF) ∨
        (key / 256 = 0x5000 ∧ 0xC0 ≤ key % 256 ∧ key % 256 ≤ 0xCF) then s
    else { s with blobs := mapPut key b s.blobs }

def State.putVals (s : State) (items : ValList) : State := items.foldl (fun s p => s.putVal p.1 p.2) s

/-! ### Running functions (Table 4.2) -/

/-- The owning function of an RWS entry is running. -/
def State.ownerRunning (s : State) (index sub : Nat) : Bool :=
  if 0x2000 ≤ index ∧ index ≤ 0x202F then s.flag index 1
  else if 0x2460 ≤ index ∧ index ≤ 0x2467 then s.flag index 1 && sub != 1
  else if index = 0x3010 then s.flag index 8
  else if 0x5000 ≤ index ∧ index ≤ 0x50FF then
    let st := (s.facet (index - 0x5000)).state
    decide (1 < st) && !(sub == 5 && st == 4)
  else if 0x5400 ≤ index ∧ index ≤ 0x57FF then decide (2 ≤ (s.prog (index - 0x5400)).state)
  else if 0x7000 ≤ index ∧ index ≤ 0x701F then (s.slot (index - 0x7000)).state != 0
  else if index = 0xB000 ∨ index = 0xB001 then (s.ctl (index - 0xB000)).state != 0
  else if (0x4000 ≤ index ∧ index ≤ 0x45FF) ∨ (0x4800 ≤ index ∧ index ≤ 0x4BFF) ∨ (0x5800 ≤ index ∧ index ≤ 0x6FFF) ∨
      (0xB040 ≤ index ∧ index ≤ 0xB07F) then s.flag index 1
  else false

/-! ### Codes of the owning functions

`s` is the state before the write, `t` the same with every item of the write set put, and `u` is `t` with the enable
of the entry's function as it was. -/

/-- DEDUCED (log 23): an identity that another record holds is a value out of its range ("unique", 0x0109), a role code that R84
does not define a reserved value (0x010A); Table 4.6 names no code for either. -/
def State.codeAccess (s : State) (index sub : Nat) (v : Val) : Nat :=
  if 0x1110 ≤ index ∧ index ≤ 0x112F ∧ sub = 1 then
    (if (List.range 32).any (fun r => r != index - 0x1110 && (s.identity r).1 == valRaw v) then 0x0109 else 0)
  else if index = 0x1140 then
    let role := valNat v % 256
    if valNat v ≠ 0 ∧ (role = 0 ∨ 5 < role) then 0x010A else 0
  else 0

def State.codeFabric (s t : State) (index sub n : Nat) : Nat :=
  if 0x2000 ≤ index ∧ index ≤ 0x2033 then
    let p := index - 0x2000
    if 48 ≤ p ∧ (sub = 1 ∨ sub = 3 ∨ sub = 4 ∨ sub = 9 ∨ sub = 0x0C ∨ sub = 0x0D) then 0x0206
    else if sub = 3 then (if (if p < 40 then n ≤ 1 else n = 2) then 0 else 0x0109)
    else if sub = 9 ∧ n = 1 ∧ (s.pairOf p).isSome then 0x0207
    else 0
  else if 0x2400 ≤ index ∧ index ≤ 0x2407 then
    if sub = 1 ∧ 64512 < (List.range 8).foldl (fun a c => a + t.regN (0x2400 + c) 1) 0 then 0x0204
    else if sub = 5 ∧ 0x2406 ≤ index then 0x0109
    else 0
  else if (index = 0x2421 ∧ sub = 2 ∧ fdbRepl n = 3) ∨ (index = 0x2430 ∧ sub = 2 ∧ 2 ≤ bitsAt n 125 2) ∨
      (index = 0x2440 ∧ sub = 3 ∧ bitsAt n 104 21 ≠ 0) then 0x010A
  else if 0x2460 ≤ index ∧ index ≤ 0x2467 ∧ sub = 1 ∧ n ≠ 0 then
    if s.flag index 1 then 0x0104 else if t.pairValid (index - 0x2460) then 0 else 0x0205
  else 0

def State.codeTime (s t : State) (index sub n : Nat) : Nat :=
  if 0x3100 ≤ index ∧ index ≤ 0x310F then
    let k := index - 0x3100
    if (s.tpo k).owner < 256 ∧ sub ≤ 9 then 0x0303
    else if sub = 2 then
      match schedule s.now n with
      | none => 0x0301
      | some at' => if (t.tpoRun k at').isNone then 0x0302 else 0
    else match (s.tpo k).run with
      | some r => if sub ≤ 6 ∧ (t.tpoRun k r.start).isNone then 0x0302 else 0
      | none => 0
  else 0

def State.codeLens (t u : State) (index sub n : Nat) (was : Bool) : Nat :=
  if index = 0x47F0 then (if sub = 3 ∧ t.waitOk n = false then 0x0405 else 0)
  else if sub = 7 ∧ 2 ^ 24 ≤ n then 0x010A
  else if sub = 1 ∧ n = 1 ∧ was = false then
    let k := index - 0x4000
    u.streamEnableCode k (u.identified 0 k)
  else 0

def State.codePhasor (t u : State) (index sub n : Nat) (was : Bool) : Nat :=
  if index < 0x4600 then
    if sub = 5 then (if 7 < n then 0x010A else 0)
    else if 0x10 ≤ sub then (if memberReserved n then 0x010A else 0)
    else if sub = 1 ∧ n = 1 ∧ was = false then u.groupEnableCode (index - 0x4400)
    else 0
  else if index < 0x4680 then
    if bitsAt n 39 23 ≠ 0 then 0x010A
    else if tripleValid n = true ∧ tripleOneGroup t.regs n = false then 0x0502
    else 0
  else if index < 0x4700 then (if (validTriples t.regs).all (tripleOneGroup t.regs) then 0 else 0x0502)
  else if index < 0x4720 then
    if (sub = 2 ∨ sub = 3) ∧ freqSourceOk t.regs n = false then 0x0504
    else 0
  else 0

def State.codeLane (t u : State) (index sub n : Nat) (was : Bool) : Nat :=
  let l := index - 0x4800
  if sub = 1 ∧ n = 1 ∧ was = false then u.laneEnableCode l
  else if was = true ∧ (5 ≤ sub ∧ sub ≤ 9) then laneSettingsCode t.regs l
  else 0

def State.codePub (t u : State) (index sub n : Nat) (was : Bool) : Nat :=
  let p := index - 0x5800
  if sub = 1 ∧ n = 1 ∧ was = false then u.pubEnableCode p
  else if (sub = 0x0D ∨ sub = 0x0E) ∧ was = true ∧ t.pubReg p 0x0E < t.pubReg p 0x0D then 0x060B
  else if (sub = 2 ∨ sub = 3) ∧ t.pubReg p 3 = 1 ∧ t.pubOwner p < 256 then 0x0607
  else if 0x20 ≤ sub ∧ sub ≤ 0x3F ∧ (pmReserved n ≠ 0 ∨ 5 ≤ pmKind n) then 0x010A
  else 0

def State.codeSub (u : State) (index sub n : Nat) (was : Bool) : Nat :=
  if sub = 1 ∧ n = 1 ∧ was = false then u.subEnableCode (index - 0x6000)
  else if 0x10 ≤ sub ∧ sub ≤ 0x1F ∧ (2 ≤ smType n ∨ bitsAt n 2 12 ≠ 0) then 0x010A
  else 0

/-- The task range of facet f lies below 4,096 and overlaps no other defined facet's (R299). -/
def State.taskRangeOk (s : State) (f : Nat) : Bool :=
  let base := s.facetReg f 8
  let cnt := s.facetReg f 9
  decide (base + cnt ≤ 4096) && !((s.definedFacets.filter (· != f)).any fun m =>
    decide (0 < cnt ∧ 0 < s.facetReg m 9 ∧ base < s.facetReg m 8 + s.facetReg m 9 ∧ s.facetReg m 8 < base + cnt))

/-- A reserved byte of a receive filter is not 0 (R309): byte 0 [6:1], bytes 1, 10 and 11 of each of 8. -/
def filtersReserved (b : ByteList) : Bool :=
  (List.range 8).any fun k => bitsAt (leAt b (12 * k) 1) 1 6 != 0 || leAt b (12 * k + 1) 1 != 0 || leAt b (12 * k + 10) 2 != 0

def State.codeFacet (s t u : State) (index sub n : Nat) (v : Val) : Nat :=
  let f := index - 0x5000
  let st := (s.facet f).state
  if index = 0x5000 ∧ 0xC0 ≤ sub ∧ sub ≤ 0xCF then (s.blobDownload (sub - 0xC0) (valRaw v)).1
  else match sub with
    | 1 => if n = 1 then (if st = 0 then u.defineCode f else 0) else if st ≤ 1 then 0 else 0x0906
    | 5 => if st = 0 then 0
           else if st = 4 ∧ popCount n 64 ≠ popCount (s.coreMask f) 64 then 0x0104
           else s.maskCode f n
    | 6 => if st = 0 then 0 else if n = 0 ∨ s.freeUnits + (s.facet f).units.length < n then 0x0902 else 0
    | 8 => if st = 0 ∨ t.taskRangeOk f then 0 else 0x0903
    | 9 => if st = 0 ∨ t.taskRangeOk f then 0 else 0x0903
    | 0x0A => if filtersReserved (valRaw v) then 0x010A else if st = 0 then 0 else s.filterCode f (valRaw v)
    | 0x0B => s.shareCode f sub n
    | 0x0C => s.shareCode f sub n
    | 0x0D => s.shareCode f sub n
    | 0x0F => if n % 64 = 0 then 0 else 0x0109
    | 0x15 =>
      if 1048576 * n < (s.facet f).boot.length then 0x0907
      else if st ≠ 0 ∧ 8192 < s.shareTotal f 0x15 n then 0x0907 else 0
    | _ => 0

def State.codeProg (s t : State) (index sub n : Nat) (v : Val) : Nat :=
  let p := index - 0x5400
  match sub with
  | 1 => if n = 1 ∧ (s.prog p).state < 2 then s.startCode p else 0
  | 2 => if s.loadCode p ≠ 0 then s.loadCode p else (s.verifyImage p (valRaw v) none).1
  | 0x20 => match (s.prog p).image with
    | some i => if i.period ≤ n then 0x0109 else 0
    | none => 0
  | 0x21 => t.taskCode p n
  | _ => 0

def State.codeCan (t : State) (index sub n : Nat) : Nat :=
  let c := index - 0xB000
  if sub = 2 ∨ sub = 3 then t.nodeCode c sub n
  else if 4 ≤ sub ∧ sub ≤ 0x0C then t.timingCode c sub n
  else 0

def State.codeStation (t u : State) (index sub n : Nat) (was : Bool) : Nat :=
  if sub = 1 ∧ n = 1 ∧ was = false then u.stationEnableCode (index - 0xB040)
  else if (sub = 6 ∨ sub = 7) ∧ 1000 * t.regN index 6 ≤ t.regN index 7 then 0x0109
  else 0

/-- A configuration root must leave the key of the active image among the roots (0x0D08). -/
def State.rootCode (s : State) (sub : Nat) (b : ByteList) : Nat :=
  let x := mapPut sub b s.sec.roots
  if s.boot.activeRaw.isEmpty = false ∧ (x.any fun r => r.2 == s.boot.active.signer) = false then 0x0D08 else 0

/-- A descriptor or condition of a record definition sets a reserved value (Tables 13.1 and 13.3, R325). -/
def captureReserved (sub : Nat) (b : ByteList) : Bool :=
  if sub = 0x10 then ((chunks 8 (b.length / 8) b).map leNat).any fun d =>
    decide (9 ≤ adKind d) || decide (6 ≤ adUnit d) || bitsAt d 13 43 != 0
  else if sub = 0x11 then ((chunks 4 (b.length / 4) b).map leNat).any fun d => bitsAt d 24 8 != 0
  else if sub = 0x12 then ((chunks 16 (b.length / 16) b).map beNat).any fun d =>
    decide (6 ≤ tcKind d) || bitsAt d 96 23 != 0 || bitsAt d 64 8 != 0 || bitsAt d 24 8 != 0
  else false

/-- The code of the owning function for one item (0 accepts). -/
def State.ownerCode (s t : State) (key : Nat) (v : Val) : Nat :=
  let index := key / 256
  let sub := key % 256
  let n := valNat v
  let was := s.flag index 1
  let u := t.setReg index 1 (s.reg index 1)
  if index < 0x2000 then s.codeAccess index sub v
  else if index < 0x3000 then s.codeFabric t index sub n
  else if index < 0x4000 then s.codeTime t index sub n
  else if index < 0x4400 ∨ index = 0x47F0 then State.codeLens t u index sub n was
  else if index < 0x4800 then State.codePhasor t u index sub n was
  else if index < 0x5000 then State.codeLane t u index sub n was
  else if index < 0x5400 then s.codeFacet t u index sub n v
  else if index < 0x5800 then s.codeProg t index sub n v
  else if index < 0x6000 then State.codePub t u index sub n was
  else if index < 0x7000 then u.codeSub index sub n was
  else if index < 0x8000 then
    (if captureReserved sub (valRaw v) then 0x010A
     else if sub = 1 ∧ index ≤ 0x701F ∧ (s.slot (index - 0x7000)).state = 3 then 0x0805
     else if sub = 1 ∧ index ≤ 0x701F ∧ n = 1 ∧ (s.slot (index - 0x7000)).state ≠ 1 ∧ (s.slot (index - 0x7000)).state ≠ 2 then
      u.armCode (index - 0x7000)
     else 0)
  else if index = 0xA001 then s.rootCode sub (valRaw v)
  else if 0xB000 ≤ index ∧ index ≤ 0xB001 then t.codeCan index sub n
  else if 0xB040 ≤ index ∧ index ≤ 0xB07F then State.codeStation t u index sub n was
  else 0

/-- A refusal that the function's own result entry keeps: 0x7000:21, and the result of a TPO. -/
def State.noteRefusal (s : State) (key code : Nat) : State :=
  let index := key / 256
  if 0x7000 ≤ index ∧ index ≤ 0x701F ∧ key % 256 = 1 then s.setReg index 0x21 code
  else if 0x3100 ≤ index ∧ index ≤ 0x310F ∧ key % 256 = 2 ∧ (code = 0x0301 ∨ code = 0x0302) then
    s.setTpo (index - 0x3100) { s.tpo (index - 0x3100) with result := code }
  else s

/-! ### What an accepted configuration write does (R89) -/

/-- The next scheduled edge of output n in its run, after the pulse in progress; a single pulse has a next edge only for a new
periodic run, one period on. -/
def State.tpoNext (s : State) (x : Tpo) (r new : TpoRun) : Nat :=
  if !x.pulse then x.next else s.edgeAfter (if r.mode = 1 then { r with mode := 2, period := new.period } else r) x.next 1

/-- The registers' effect on the running settings of an output (R127, R128): a change of a running output waits for the
end of its pulse and goes on from the next scheduled edge (log 20). -/
def State.tpoSettings (s : State) (n : Nat) : State :=
  let x := s.tpo n
  match x.run with
  | none => s
  | some r =>
    if s.regN (tpoIndex n) 1 = 0 then s.tpoOff n
    else
      match s.tpoRun n r.start with
      | none => s.setTpo n { x with result := 0x0302 }
      | some r' => s.tpoChange n (some { r' with start := s.tpoNext x r r' })

/-- The image of program p goes back to what the configuration image holds (R86). -/
def State.returnImage (s : State) (p : Nat) : State :=
  let s1 := if (s.prog p).state = 2 then s.stopProgram p else s
  match (cfgPrograms s1.boot.active).find? fun q => q.1 == p with
  | some q => s1.loadImage p q.2
  | none =>
    match (s1.prog p).image with
    | some i => (s1.editMem (clearClaims i fun _ => true)).setProg p Prog.empty
    | none => s1

def State.effectProg (s : State) (index sub n : Nat) (v : Val) : State :=
  let p := index - 0x5400
  if sub = 1 then (if n = 1 then s.progStart p else s.stopProgram p)
  else if sub = 2 then
    (if (valRaw v).isEmpty then s.returnImage p
     else match s.verifyImage p (valRaw v) none with
      | (_, some i) => s.loadImage p i
      | (_, none) => s)
  else if index = 0x5400 ∧ 0x80 ≤ sub ∧ sub ≤ 0x9F then s.fdiFilter (sub - 0x80)
  else s

def State.effectFacet (o s : State) (index sub n : Nat) (v : Val) : State :=
  let f := index - 0x5000
  let st := (s.facet f).state
  if index = 0x5000 ∧ 0xC0 ≤ sub ∧ sub ≤ 0xCF then (s.blobDownload (sub - 0xC0) (valRaw v)).2
  else match sub with
    | 1 => if n = 1 then (if st = 0 then s.defineFacet f else s) else if st = 1 then s.deleteFacet f else s
    | 5 => if st = 4 then s.moveCores f (o.coreMask f) n else s
    | 6 => if st = 1 then s.setFacet f { s.facet f with units := (s.setFacet f Facet.none).takeUnits n } else s
    | 0x0B => s.shareChanged f
    | 0x0C => s.shareChanged f
    | 0x0D => s.shareChanged f
    | 0x0E => s.shareChanged f
    | _ => s

def State.effectCan (s : State) (index sub n : Nat) : State :=
  let c := index - 0xB000
  if sub = 1 then (if n = 1 then s.canEnable c else s.canDisable c)
  else if sub = 0x0E then s.canRestrict c (n == 1)
  else s

/-- The effect of an item already put, on a state that held `o` before; `who` writes. -/
def State.effect (o s : State) (who key : Nat) (v : Val) : State :=
  let index := key / 256
  let sub := key % 256
  let n := valNat v
  let rises := sub == 1 && n == 1 && !o.flag index 1
  let falls := sub == 1 && n == 0 && o.flag index 1
  if index < 0x2000 then s
  else if index < 0x3000 then
    (if index ≤ 0x2033 ∧ sub = 1 then
      let u := s.setReg index 1 (o.reg index 1)
      if n = 1 then u.portOn (index - 0x2000) else u.portOff (index - 0x2000)
     else s)
  else if index < 0x3100 then (if index = 0x3010 ∨ 0x3040 ≤ index then s.bmca else s)
  else if index < 0x3110 then
    (if sub = 2 then s.tpoStart (index - 0x3100) n
     else if sub = 0x0A then s.tpoGrant (index - 0x3100) n
     else if sub ≤ 6 then s.tpoSettings (index - 0x3100)
     else s)
  else if 0x4800 ≤ index ∧ index ≤ 0x4BFF then (if rises then s.laneFresh (index - 0x4800) else s)
  else if 0x4700 ≤ index ∧ index ≤ 0x471F ∧ sub ≤ 3 then
    s.setFreqGroup (index - 0x4700) { s.freqGroup (index - 0x4700) with ref := none }
  else if 0x5000 ≤ index ∧ index < 0x5400 then State.effectFacet o s index sub n v
  else if 0x5400 ≤ index ∧ index < 0x5800 then s.effectProg index sub n v
  else if 0x5800 ≤ index ∧ index < 0x6000 then
    let p := index - 0x5800
    if rises then s.pubOn p else if falls then s.pubOff p
    else if (sub = 0x10 ∨ sub = 0x11) ∧ (s.pub p).on = true then s.setPub p { s.pub p with modeChange := true }
    else s
  else if 0x6000 ≤ index ∧ index < 0x7000 then
    (if rises then s.subOn (index - 0x6000) else if falls then s.subOff (index - 0x6000) else s)
  else if 0x7000 ≤ index ∧ index ≤ 0x701F then
    (if sub = 1 then (if n = 1 then (s.arm (index - 0x7000)).2 else s.disarm (index - 0x7000)) else s)
  else if key = ek 0x9001 1 then s.fill (readerOf who) n
  else if index = 0xA001 then
    ({ s with sec := { s.sec with roots := mapPut sub (valRaw v) s.sec.roots } } : State).logSec 7 0 0
  else if key = ek 0xA020 1 then
    (if s.sec.bound = valRaw v then s
     else ((({ s with sec := { s.sec with bound := valRaw v } } : State).recordBinding
       (if valRaw v = s.sec.received then s.sec.receivedSerial else [])).logSec 5 0 0).startExchange false)
  else if 0xB000 ≤ index ∧ index ≤ 0xB001 then s.effectCan index sub n
  else if 0xB040 ≤ index ∧ index ≤ 0xB07F then
    (if rises then s.stationOn (index - 0xB040) else if falls then s.stationOff (index - 0xB040) else s)
  else s

/-- Items take effect together (R90, R91). -/
def State.place (s : State) (who : Nat) (items : ValList) : State :=
  items.foldl (fun t p => State.effect s t who p.1 p.2) (s.putVals items)

end Sys2Proof.Machine
end

