-- ==== Sys2Proof/Machine/ActionUnit.lean ====
section
/-! DEFINITION. What the CMD and WO entries do (Table 4.2): the result code and the state after the action. -/

namespace Sys2Proof.Machine

/-- An operation that leaves its result as the answer, as a code and a state. -/
def withCode (s : State) : Nat × State := (s.reply.code, s)

/-! ### The overlay (R85 to R87) -/

/-- A management event record: session, identity record and role (Table 15.2). -/
def State.logSession (s : State) (kind sess record role : Nat) : State :=
  s.logRec 0x0102 0 noFacet 0 sess [byteOf kind, byteOf record, byteOf role]

/-- Identity record of a requester; 32 for the debug port, a cabinet client or a command without a session. -/
def State.recordOfReq (s : State) (q : Requester) : Nat := ((mapFind s.access.sessions q.who).map (·.record)).getD 32

/-- Saving the running overlay with the fingerprint; the standby manager keeps the bus settings and the role table
(R86, R106, R427). -/
def State.overlaySave (s : State) (q : Requester) : State :=
  let a := s.access
  (({ s with access := { a.save a.overlay with savedDiscarded := false, overlayResult := 0 } } :
    State).keepCan).logSession 3 q.who (s.recordOfReq q) q.role

/-- The value of an entry below the overlay: the image's, else the default (R85). -/
def State.baseValue (s : State) (key : Nat) : Val :=
  match mapFind s.access.image key with
  | some v => v
  | none =>
    if bytesType (entryType key) then .bytes (if 0x5400 ≤ key / 256 ∧ key / 256 ≤ 0x57FF ∧ key % 256 = 2 then [] else blobDefault key)
    else .int (entryDefault key)

/-- Entries whose value is held in the key store (R439), with a session or a client (R398): no layer rebuilds it
(DEDUCED, log 23). -/
def heldElsewhere (key : Nat) : Bool := key == ek 0x9001 1 || decide (0xA000 ≤ key / 256 ∧ key / 256 ≤ 0xA0FF)

/-- Every entry of the running overlay returns to its image or default value (R86). -/
def State.overlayDiscard (s : State) (who : Nat) : State :=
  let a := s.access
  let back := (a.overlay.filter fun p => !heldElsewhere p.1).map fun p => (p.1, s.baseValue p.1)
  ({ s with access := { a with overlay := [], savedDiscarded := false, overlayResult := 0 } } : State).place who back

/-! ### Logs and identities -/

/-- Clearing the log (R399). -/
def State.clearLog (s : State) (record : Nat) : Nat × State :=
  let l := s.log
  if l.state ≠ 0 ∧ l.state ≠ 2 then (0x0B02, s)
  else
    let last := ((l.held ++ l.exported).map (·.seq)).foldl Nat.max 0
    (0, ({ s with log := { l with held := [], exported := [] } } : State).logRec 0x0B01 1 noFacet 0 record (leBytes 8 last))

/-- A new identity with Q at 0 (R444); its seed is the hardware's own (log 3). -/
def State.generateIdentity (s : State) : Nat × State :=
  if s.sec.state = 2 then (0x0D0B, s)
  else
    (0, { s with freeCount := s.freeCount + 1,
                 sec := { s.sec.clearKeys with seed := Config.freeBytes s.freeCount 48, state := 1 } })

/-- A provisioning bundle (R444). -/
def State.takeBundle (s : State) (b : ByteList) : Nat × State :=
  let (c, x) := s.sec.accept b
  let t : State := { s with sec := x }
  if c = 0 then (0, ((if x.bound = s.sec.bound then t else t.recordBinding []).logSec 4 0 0).settle) else (c, s)

/-- Copying the received identity to the binding (R437). -/
def State.bindReceived (s : State) : Nat × State :=
  if !s.sec.sinceTraining then (0x0D0A, s)
  else (0, ((({ s with sec := { s.sec with bound := s.sec.received } } : State).recordBinding s.sec.receivedSerial).logSec 5 0
    0).startExchange false)

/-- Unbinding, a binding change too (R437). -/
def State.unbind (s : State) : State :=
  let x := { s.sec with bound := zero32, mirrorKey := [], epoch := 0, pendKey := [], pendEpoch := 0, sendPending := false,
                        partnerState := 0, binding := none }
  (({ s with sec := x } : State).logSec 5 0 0).startExchange false

/-- The LIT sends under the pending epoch from now on (R438); with no key pending its epoch is 0 (0x0D09, log 20). -/
def State.activateKey (s : State) : Nat × State :=
  if !s.lit then (0x0A04, s)
  else if s.sec.pendEpoch = 0 then (0x0D09, s)
  else (0, { s with sec := { s.sec with sendPending := true } })

/-- A new pending mirror key (R438). -/
def State.takeMirrorKey (s : State) (b : ByteList) : Nat × State :=
  let e := leAt b 0 4
  if e = 0 ∨ e ≤ s.sec.epoch then (0x0D09, s)
  else (0, { s with sec := { s.sec with pendEpoch := e, pendKey := bytesAt b 4 32, sendPending := false } })

/-! ### Clear entries -/

/-- Entries set to 0. -/
def State.zeroRegs (s : State) (index : Nat) (subs : List Nat) : State := applyAll (fun k s => s.setReg index k 0) subs s

/-- 0x47F0:11. -/
def State.lensClear (s : State) : State :=
  { s with lens := { s.lens with sealedRows := 0, expiryRows := 0, highestOpen := 0, heldRows := 0, discs := 0, highestDelay := 0 } }

/-- 0x4000 + n:23. -/
def State.streamClear (s : State) (n : Nat) : State := s.setStream n { s.stream n with cnt := [] }

/-- 0x4400 + g:0C. -/
def State.sumClear (s : State) (g : Nat) : State :=
  (s.setSumGroup g { s.sumGroup g with unsub := false }).zeroRegs (0x4400 + g) [0x0A, 0x0B]

/-- 0x6000 + n:2C. -/
def State.subClear (s : State) (n : Nat) : State := s.zeroRegs (0x6000 + n) ((List.range 9).map (0x23 + ·))

/-- 0xB040 + n:11. -/
def State.stationClear (s : State) (n : Nat) : State := s.zeroRegs (0xB040 + n) [0x0E, 0x0F, 0x10]

/-- 0xB000 + c:1F. -/
def State.canClear (s : State) (c : Nat) : State := s.zeroRegs (0xB000 + c) ((List.range 10).map (0x15 + ·))

/-! ### Actions by range -/

def State.actFabric (s : State) (index n : Nat) : Nat × State :=
  if index ≤ 0x2033 then (0, opPortClearCounters (index - 0x2000) s)
  else if index = 0x2420 then withCode (opFlushLearned s)
  else if index = 0x2421 then
    withCode (match n with
      | 1 => opDatabaseWrite s
      | 2 => opDatabaseDeleteByKey s
      | 3 => opDatabaseReadByKey s
      | _ => opDatabaseReadByPosition s)
  else if index = 0x2430 then
    withCode (match n with
      | 1 => opStreamTableWrite s
      | 2 => opStreamTableDeleteByKey s
      | 3 => opStreamTableReadByKey s
      | _ => opStreamTableReadByPosition s)
  else if index = 0x2440 then
    withCode (match n with
      | 1 => opVlanWrite s
      | 2 => opVlanRead s
      | _ => opVlanInvalidate s)
  else (0, s)

/-- 0x1802, 0x1803:08, 0xC002, 0xC010, 0xC011, 0xC030. -/
def State.actModule (s : State) (q : Requester) (index sub n : Nat) (v : Val) : Nat × State :=
  match index, sub with
  | 0x1803, _ => let c := s.restartCode; (c, if c = 0 then s.thermalRestart else s)
  | 0xC002, 1 => let c := s.orderlyCode; (c, if c = 0 then s.orderly else s)
  | 0xC002, _ => (0, s.resetNow 5 false)
  | 0xC010, 1 => let c := s.instCode q.who n; (c, if c = 0 then s.instDo q.who n else s)
  | 0xC010, _ => s.instSegment q.who (valRaw v)
  | 0xC011, 1 => let c := s.trialCode n; (c, if c = 0 then s.nameTrial n else s)
  | 0xC011, _ => (0, s.commitTrial)
  | 0xC030, 1 => let c := s.cfgCode q.who n; (c, if c = 0 then s.cfgDo q.who n else s)
  | 0xC030, _ => s.cfgSegment q.who (valRaw v)
  | 0x1802, _ =>
    let c := s.clusterCode (2 + sub) n
    (c, if c = 0 then (s.clusterSwitch (2 + sub) n).setReg 0x1802 sub n else s)
  | _, _ => (0, s)

def State.actFacet (s : State) (index sub n : Nat) (v : Val) : Nat × State :=
  let f := index - 0x5000
  match sub with
  | 2 => s.facetCommand f n
  | 0x14 =>
    let st := (s.facet f).state
    if st ≠ 1 then (0x0104, s)
    else if 1048576 * s.facetReg f 0x15 < (valRaw v).length then (0x0907, s)
    else (0, s.setFacet f { s.facet f with boot := valRaw v })
  | _ => (0, s.facetClear f)

def State.actProg (s : State) (index sub n : Nat) (v : Val) : Nat × State :=
  let p := index - 0x5400
  match sub with
  | 0x22 => s.exchangeImage p (valRaw v)
  | 0x23 => s.exchangeCommand p n
  | _ => (0, s.progClear p)

def State.actPair (s : State) (index sub : Nat) : Nat × State :=
  match index, sub with
  | 0x8000, _ => (0, s.pairClear)
  | 0x8002, 1 => let c := s.swapCode; (c, if c = 0 then s.armSwap else s)
  | 0x8002, 2 =>
    if s.pair.takeoverFault then (0, ((s.setPair fun p => { p with takeoverFault := false }).setCause 10 false).settle)
    else (0x0A05, s)
  | 0x8002, 3 => if s.pair.safeHold.isSome then (0, s.leaveHold) else (0x0A05, s)
  | 0x8002, 4 => let c := s.forceCode; (c, if c = 0 then s.request 6 else s)
  | _, _ => s.resync

def State.actSecurity (s : State) (q : Requester) (index sub n : Nat) (v : Val) : Nat × State :=
  match index, sub with
  | 0xA010, _ =>
    let t := s.queueNonce q.who (valRaw v)
    (if t.reply.code = 0 then 65536 else t.reply.code, t)
  | 0xA020, 4 => if n = 1 then s.bindReceived else if n = 2 then (0, s.unbind) else s.activateKey
  | 0xA020, 5 => s.takeMirrorKey (valRaw v)
  | 0xA020, _ => (0, { s with sec := { s.sec with migration := padTo 32 (valRaw v) } })
  | 0xA040, 2 => withCode (s.unlockWith (valRaw v))
  | 0xA040, _ => (0, { s with sec := { s.sec with debugOpen := false } })
  | 0xA050, 1 => s.generateIdentity
  | _, _ => s.takeBundle (valRaw v)

/-- The action of a write of v to a CMD or WO entry. -/
def State.action (s : State) (q : Requester) (key : Nat) (v : Val) : Nat × State :=
  let index := key / 256
  let sub := key % 256
  let n := valNat v
  let b := valRaw v
  if index = 0x1010 then (0, if n = 1 then s.overlaySave q else s.overlayDiscard q.who)
  else if 0x1110 ≤ index ∧ index ≤ 0x112F then
    (0, { s with sec := { s.sec with psk := mapPut (index - 0x1110) b s.sec.psk } })
  else if index < 0x2000 then s.actModule q index sub n v
  else if index < 0x3000 then s.actFabric index n
  else if index = 0x3000 then withCode (s.setTime (beAt b 0 6) (beAt b 6 4))
  else if index = 0x3001 then withCode s.acceptJump
  else if index < 0x4400 then (0, s.streamClear (index - 0x4000))
  else if index < 0x4600 then (0, s.sumClear (index - 0x4400))
  else if index = 0x47F0 then (0, s.lensClear)
  else if index < 0x5000 then (0, s.laneReset (index - 0x4800))
  else if index < 0x5400 then s.actFacet index sub n v
  else if index < 0x5800 then s.actProg index sub n v
  else if index < 0x7000 then (0, s.subClear (index - 0x6000))
  else if index < 0x8000 then
    (if sub = 0x14 then let c := s.manualCode (index - 0x7000); (c, if c = 0 then s.manual (index - 0x7000) else s)
     else s.deleteStored n)
  else if index < 0x9000 then s.actPair index sub
  else if index = 0x9000 then s.clearLog (s.recordOfReq q)
  else if index = 0x9010 then s.acknowledge n
  else if index < 0xB000 then s.actSecurity q index sub n v
  else if index < 0xB040 then
    let c := index - 0xB000
    if sub = 0x10 then let k := s.canRecoverCode c; (k, if k = 0 then s.canRecover c else s) else (0, s.canClear c)
  else if index < 0xC000 then (0, s.stationClear (index - 0xB040))
  else s.actModule q index sub n v

end Sys2Proof.Machine
end

