-- ==== Sys2Proof/Machine/AccessUnit.lean ====
section
/-! DEFINITION. Dictionary access (R81 to R93, R105, R106, R443): the checks of a read and of a write, write sets, the
overlay, forwarding to a SHADE, and how an accepted write is applied. -/

namespace Sys2Proof.Machine

/-! ### Values (Table 4.1) -/

/-- Length of a type's encoding; none for STR and DOMAIN. -/
def typeLength (t : Nat) : Option Nat :=
  match t with
  | 0x01 => some 1 | 0x02 => some 1 | 0x03 => some 2 | 0x04 => some 4 | 0x15 => some 8 | 0x05 => some 1 | 0x06 => some 2
  | 0x07 => some 4 | 0x1B => some 8 | 0x08 => some 4 | 0x30 => some 10 | 0x31 => some 5
  | _ => none

def signedType (t : Nat) : Bool := t == 0x02 || t == 0x03 || t == 0x04 || t == 0x15

/-- The value that bytes carry, none where their length is not the type's. -/
def decodeVal (t : Nat) (b : ByteList) : Option Val :=
  match typeLength t with
  | some n =>
    if b.length ≠ n then none
    else if t = 0x30 then some (.bytes b)
    else some (.int (if signedType t then ofBits (8 * n) (beNat b) else beNat b))
  | none => if t = 0x09 ∧ 256 < b.length then none else some (.bytes b)

/-- The form of a value agrees with a type. -/
def valShape (t : Nat) (v : Val) : Bool :=
  match v with
  | .int _ => !bytesType t
  | .bytes _ => bytesType t

/-- A value in the entry's range (R82): BOOL, NaN, TIME80 and lengths under Table 4.1. The range of an F32 entry is kept as
bit patterns. -/
def rangeCode (e : Entry) (v : Val) : Nat :=
  match v with
  | .bytes b =>
    if e.typ = 0x30 then
      (if b.length ≠ 10 then 0x0112 else if 1000000000 ≤ beAt b 6 4 then 0x0109 else 0)
    else if e.typ = 0x0F ∧ e.min = e.max ∧ (b.length : Int) ≠ e.max then 0x0112
    else if (b.length : Int) < e.min ∨ e.max < (b.length : Int) then 0x0109
    else 0
  | .int i =>
    if e.typ = 0x08 then (if fFinite i.toNat && fLe e.min.toNat i.toNat && fLe i.toNat e.max.toNat then 0 else 0x0109)
    else if e.only.isEmpty = false then (if e.only.contains i then 0 else 0x0109)
    else if (e.min ≤ i ∧ i ≤ e.max) ∨ e.also.contains i = true then 0
    else 0x0109

/-! ### Who may access what -/

/-- R84; `need` 0 is nobody. A command that names one write stands for an accepted requester (role 6, log 20). -/
def roleOk (role need : Nat) : Bool :=
  role == 6 || (need != 0 && (if role = 4 then need == 1 || need == 4 else need != 4 && decide (need ≤ role)))

/-- A requester that passes every role check and holds no session. -/
def rowReq : Requester := { role := 6, who := 255, cabinet := false }

/-- What a locked debug port serves (R443), and the firmware image that an unlocked one takes in phase 2 (R60); session 8
is the debug port. -/
def State.portServes (s : State) (q : Requester) (key : Nat) (write : Bool) : Bool :=
  let index := key / 256
  let sub := key % 256
  if q.who ≠ 8 ∨ (s.sec.debugOpen = true ∧ s.stuck = false) then true
  else if s.sec.debugOpen = true ∧ (index = 0xC010 ∨ index = 0xA040) then true
  else if write then key == ek 0xA040 2
  else index == 0x1000 || index == 0xA030 || key == ek 0xA040 1 || (index == 0xA000 && decide (1 ≤ sub ∧ sub ≤ 5))

/-- Paths that an entry refuses (R107, R435). -/
def cabinetServes (index : Nat) (write : Bool) : Bool :=
  index != 0xA010 && !(write && decide (0x1110 ≤ index ∧ index ≤ 0x112F))

def State.pathOk (s : State) (q : Requester) (key : Nat) (write : Bool) : Bool :=
  s.portServes q key write && (!q.cabinet || cabinetServes (key / 256) write)

/-- Entries that act on the module they are written to in any role (R93): clears, time commands, the record store. -/
def localEntry (key : Nat) : Bool :=
  let i := key / 256
  let s := key % 256
  (i ≤ 0x2033 && s == 0x21) || key == ek 0x3000 5 || key == ek 0x3001 5 || (decide (0x4000 ≤ i ∧ i ≤ 0x43FF) && s == 0x23) ||
    (decide (0x4400 ≤ i ∧ i ≤ 0x45FF) && s == 0x0C) || key == ek 0x47F0 0x11 || (decide (0x5000 ≤ i ∧ i ≤ 0x50FF) && s == 0x23) ||
    (decide (0x5400 ≤ i ∧ i ≤ 0x57FF) && s == 0x2F) || (decide (0x6000 ≤ i ∧ i ≤ 0x6FFF) && s == 0x2C) ||
    (i == 0x7000 && decide (0x80 ≤ s ∧ s ≤ 0x8B)) || (decide (0xB000 ≤ i ∧ i ≤ 0xB001) && s == 0x1F) ||
    (decide (0xB040 ≤ i ∧ i ≤ 0xB07F) && s == 0x11)

/-- Writes that only LIT accepts, and forwards. -/
def sharedEntry (key : Nat) : Bool := pairShared (key / 256) && !localEntry key

/-- What LIT forwards (R93): writes to shared entries, and a save of the overlay, which the SHADE performs too. -/
def forwardedItem (key : Nat) (v : Val) : Bool := sharedEntry key || (key == ek 0x1010 1 && valNat v == 1)

def State.lockedFor (s : State) (q : Requester) (index : Nat) : Bool :=
  q.role != 6 && s.access.locks.any fun l => l.sess != q.who && decide (l.first ≤ index ∧ index ≤ l.last)

/-- 0x0101 or 0x0102 where the dictionary has no such entry. -/
def missingCode (key : Nat) : Nat := if (topSub (key / 256)).isSome then 0x0102 else 0x0101

/-! ### Reading (R81, R83) -/

/-- A read: code, type and value bytes. A read of a capture stamp removes it, of the unlock challenge makes a new one,
and a measured quantity is measured anew. -/
def State.dictRead (s : State) (q : Requester) (key : Nat) : Nat × Nat × ByteList × State :=
  let index := key / 256
  if key % 256 = 0 then
    match topSub index with
    | some m => if s.pathOk q key false then (0, 5, [byteOf m], s) else (0x0105, 0, [], s)
    | none => (0x0101, 0, [], s)
  else
    match entryOf key with
    | none => (missingCode key, 0, [], s)
    | some e =>
      if e.acc = 2 then (0x0103, 0, [], s)
      else if !(roleOk q.role e.rd && s.pathOk q key false) then (0x0105, 0, [], s)
      else if 0x3120 ≤ index ∧ index ≤ 0x3123 ∧ key % 256 = 2 then
        let (t, v) := s.takeStamp (index - 0x3120)
        (0, e.typ, beBytes 8 v, t)
      else
        let t := if key = ek 0xA040 1 then s.newChallenge else if measuredKey key then s.nextFree else s
        let r := if key = ek 0xA040 1 then t else s
        (0, e.typ, valBytes e.typ (r.readEntry q.who key), t)

/-! ### Writing (R82 to R84, R89 to R93) -/

/-- The checks of one write before its owning function is asked. -/
def State.writeCode (s : State) (q : Requester) (key : Nat) : Nat :=
  if key % 256 = 0 then (if (topSub (key / 256)).isSome then 0x0103 else 0x0101)
  else
    match entryOf key with
    | none => missingCode key
    | some e =>
      if e.acc = 0 then 0x0103
      else if !(roleOk q.role e.wr && s.pathOk q key true) then 0x0105
      else if s.lockedFor q (key / 256) then 0x0106
      else if sharedEntry key && !s.lit then 0x0110
      else if e.acc = 3 ∧ s.ownerRunning (key / 256) (key % 256) = true then 0x0104
      else 0

/-- The checks of a value of its entry's form. -/
def valueCode (key : Nat) (v : Val) : Nat :=
  match entryOf key with
  | some e => if valShape e.typ v then rangeCode e v else 0x010B
  | none => 0

/-- Configuration entries: RW and RWS (R85). -/
def configEntry (key : Nat) : Bool :=
  match entryOf key with
  | some e => e.acc == 1 || e.acc == 3
  | none => false

/-- Entries that a write puts into the overlay; not 0xC030:05 (R86). DEDUCED (log 23): nor the facet blobs, which hold no
setting and up to 4 GiB, beyond what the overlay may hold. -/
def overlaid (key : Nat) : Bool :=
  configEntry key && key != ek 0xC030 5 && !(key / 256 == 0x5000 && decide (0xC0 ≤ key % 256 ∧ key % 256 ≤ 0xCF))

def overlayBytes (m : Map Val) : Nat := m.foldl (fun a p => a + (valBytes (entryType p.1) p.2).length) 0

def State.overlayWith (s : State) (items : ValList) : Map Val := mapPutAll (items.filter fun p => overlaid p.1) s.access.overlay

/-- 65,536 entries and 4 MiB of values (R86). -/
def overlayFull (m : Map Val) : Bool := decide (65536 < m.length ∨ 4194304 < overlayBytes m)

/-- Accepted items applied: configuration entries together, then actions in order; the first code that is not 0. -/
def State.applyItems (s : State) (q : Requester) (items : ValList) : Nat × State :=
  let cfg := items.filter fun p => configEntry p.1
  let s1 := s.place q.who cfg
  let s2 := if cfg.isEmpty then s1
    else { s1 with access := { s1.access with overlay := s1.overlayWith cfg, savedDiscarded := false } }
  (items.filter fun p => !configEntry p.1).foldl (fun (r : Nat × State) p =>
    let (c, t) := r.2.action q p.1 p.2
    (if r.1 = 0 then c else r.1, t)) (0, s2)

/-- Result of a write or write set: failing subindex, code (65536: the answer is due later), state. -/
structure WriteRes where
  sub : Nat
  code : Nat
  st : State

/-- Bytes of a forwarded write in its control unit. DESIGN CHOICE (log 23): its count, and each entry in the form of R87, since
the spec gives the payload no form. -/
def forwardBytes (items : ValList) : Nat := 8 + (canonical items).length

/-- A write accepted by LIT with a SHADE partner is numbered and forwarded in control frames, and applied at its
acknowledgement (R93). -/
def State.forward (s0 : State) (q : Requester) (items : ValList) : State :=
  let n := s0.access.forwardCount + 1
  let s := s0.post 4 0 (wrap 32 n) (forwardBytes (items.filter fun p => forwardedItem p.1 p.2)) false
  let a := s.access
  { s with access := { a with forwardCount := n, forwardsSent := ((n, items.filter fun p => forwardedItem p.1 p.2) :: a.forwardsSent).take 4096,
                              pendingForwards := a.pendingForwards ++ [{ count := n, items := items, req := q }] } }

/-- An item of a write: its key, the code of the checks of R82 to R84 on it as it came, and its value where it has one. -/
structure WriteItem where
  key : Nat
  code : Nat
  val : Option Val

/-- The first item refused, in the order of the request (R90): by the checks of its entry and value, else by its owner, which
sees every item of the write put (`t`). -/
def firstFault (s t : State) : List WriteItem → Option (Nat × Nat)
  | [] => none
  | i :: l =>
    let c := if i.code ≠ 0 then i.code
      else match i.val with
        | some v => if configEntry i.key then s.ownerCode t i.key v else 0
        | none => 0
    if c = 0 then firstFault s t l else some (i.key, c)

/-- A write or write set: every check of every item before any is applied; applied together, or numbered and forwarded by a
LIT with a SHADE (R90, R93). -/
def State.writeItems (s : State) (q : Requester) (l : List WriteItem) : WriteRes :=
  let items := l.filterMap fun i => i.val.map fun v => (i.key, v)
  let sub := ((l.head?.map (·.key)).getD 0) % 256
  match firstFault s (s.putVals (items.filter fun p => configEntry p.1)) l with
  | some (k, c) => ⟨k % 256, c, s.noteRefusal k c⟩
  | none =>
    let (c, u) := s.applyItems q items
    if overBudget s u then ⟨sub, 0x0A01, s⟩
    else if overlayFull u.access.overlay ∧ s.access.overlay ≠ u.access.overlay then ⟨sub, 0x0118, s⟩
    else if c = 0 ∧ s.lit = true ∧ s.pair.partnerRole = 2 ∧ items.any (fun p => forwardedItem p.1 p.2) = true then
      ⟨sub, 65536, s.forward q items⟩
    else ⟨sub, c, u⟩

/-- A write of values, each of its entry's form (R82 to R84, R90). -/
def State.writeVals (s : State) (q : Requester) (items : ValList) : WriteRes :=
  s.writeItems q (items.map fun p =>
    { key := p.1, code := if s.writeCode q p.1 ≠ 0 then s.writeCode q p.1 else valueCode p.1 p.2, val := some p.2 })

/-- A raw item of a request: key, type code (none in a write set) and bytes. -/
structure RawItem where
  key : Nat
  typ : Option Nat
  data : ByteList

/-- The code of the checks of a raw item: entry, type, length, range. A value of more than 1,024 bytes travels only by
segmented transfer (Table 4.1). -/
def State.rawCode (s : State) (q : Requester) (i : RawItem) : Nat :=
  let t := entryType i.key
  if s.writeCode q i.key ≠ 0 then s.writeCode q i.key
  else if i.typ.isSome ∧ i.typ ≠ some t then 0x010B
  else if 1024 < i.data.length then 0x0113
  else match decodeVal t i.data with
    | none => 0x0112
    | some v => valueCode i.key v

/-- A write or write set as a request carries it. -/
def State.writeRaw (s : State) (q : Requester) (l : List RawItem) : WriteRes :=
  s.writeItems q (l.map fun i => { key := i.key, code := s.rawCode q i, val := decodeVal (entryType i.key) i.data })

/-- A request of a power-fail sequence: not executed, and answered 0x0114 before PD2 switches off (R38). -/
def State.inSequence (s : State) : Bool := s.power.failing && s.domOn 2

/-- One dictionary write and its answer. -/
def State.writeOne (s : State) (q : Requester) (key : Nat) (v : Val) : State :=
  let r := s.writeVals q [(key, v)]
  r.st.answer r.code

/-- An operation waits for the one in progress (R91); with 256 waiting it is refused (R109). -/
def State.defer (s : State) (w : Waiting) : State :=
  if 256 ≤ s.access.waiting.length then s.answer 0x0114
  else ({ s with access := { s.access with waiting := s.access.waiting ++ [w] } } : State).answer 65536

/-- A forwarded write is on its way: the steward executes nothing else of the dictionary until it is answered (R91). -/
def State.busy (s : State) : Bool := !s.access.pendingForwards.isEmpty

/-- An operation is executed at once, or in its turn. -/
def State.inTurn (s : State) (w : Waiting) (f : State → State) : State := if s.busy then s.defer w else f s

/-- A command that names one dictionary write: its effect with every check but those of the requester. -/
def State.rowWrite (s : State) (q : Requester) (key : Nat) (v : Val) : State :=
  if s.inSequence then s.answer 0x0114
  else s.when (s.serves q.who) fun s => s.inTurn (.write q key v) fun s => s.writeOne q key v

end Sys2Proof.Machine
end

