-- ==== Sys2Proof/Machine/SessionUnit.lean ====
section
/-! DEFINITION. Management sessions (R94 to R101), locks (R92), the Management Access Protocol, cabinet object access
(R102 to R106), and the acknowledgement of forwarded writes (R93). -/

namespace Sys2Proof.Machine

/-! ### Sessions -/

def Session.fresh (record role : Nat) : Session := { record := record, role := role, lastId := none, window := [], transfer := none }

/-- Session n; the debug port is session 8 and needs no handshake (R94). -/
def State.session (s : State) (n : Nat) : Option Session :=
  match mapFind s.access.sessions n with
  | some x => some x
  | none => if n = 8 then some (Session.fresh 32 5) else none

def State.setSession (s : State) (n : Nat) (x : Session) : State :=
  { s with access := { s.access with sessions := mapPut n x s.access.sessions } }

/-- What a session's requests hold: the locked debug port holds VIEW, unlocked SERVICE. -/
def State.requester (s : State) (n : Nat) (x : Session) : Requester :=
  { role := if n = 8 then (if s.sec.debugOpen then 5 else 1) else x.role, who := n, cabinet := false }

/-- The end of a transfer that is not completed: the owner is told of a download, a record's deletion may have waited for
an upload (R101, R347). -/
def State.dropTransfer (s : State) (t : Transfer) : State := if t.down then s.downAborted t.key else s.uploadEnded

def State.abortTransfer (s : State) (n : Nat) : State :=
  match s.session n with
  | some x =>
    match x.transfer with
    | some t => (s.setSession n { x with transfer := none }).dropTransfer t
    | none => s
  | none => s

/-- The end of a session: its locks end, its transfer is aborted, its report and cursor go (R95, R398, R435). -/
def State.endSession (s : State) (n : Nat) : State :=
  match mapFind s.access.sessions n with
  | none => s
  | some x =>
    let s1 := s.abortTransfer n
    let had := s1.access.locks.any fun l => l.sess == n
    let s2 := { s1 with
      access := { s1.access with sessions := mapDel n s1.access.sessions, locks := s1.access.locks.filter fun l => l.sess != n },
      sec := { s1.sec with reports := mapDel n s1.sec.reports, repState := mapDel n s1.sec.repState,
                           queue := s1.sec.queue.filter fun r => r.1 != n },
      log := { s1.log with cursors := mapDel (256 + n) s1.log.cursors } }
    let s3 := if had then s2.logSession 6 n x.record x.role else s2
    s3.logSession 1 n x.record x.role

def State.endSessions (s : State) : State := applyAll (fun n s => s.endSession n) (mapKeys s.access.sessions) s

/-- The record of an enabled identity whose key the key store holds. -/
def State.identityRecord (s : State) (name : ByteList) : Option Nat :=
  (List.range 32).find? fun r => let i := s.identity r; i.1 == name && !name.isEmpty && i.2.2 && (mapFind s.sec.psk r).isSome

/-- What the module supports of an offer (R94): psk_dhe_ke (1), x25519 (29) or secp256r1 (23), and one of the two cipher
suites 0x1301 and 0x1302; certificates and psk_ke are not supported, and early data is passed over. -/
def offerSupported (o : DtlsOffer) : Bool :=
  o.modes.contains 1 && (o.groups.contains 29 || o.groups.contains 23) && (o.suites.contains 0x1301 || o.suites.contains 0x1302)

/-- An offer reaches the server: on the UDP port in force, and from the station network in the VLAN in force (R94, R107). -/
def State.reached (s : State) (o : DtlsOffer) : Bool := o.port == s.access.port && (o.service || o.vlan == s.access.vlan)

/-- A handshake: the TLS alert that ends it (40 handshake_failure, 115 unknown_psk_identity, 80 internal_error), the
HelloRetryRequest (answer 65538) that every hello without its cookie gets, or a new session of the lowest free number (R94,
R95). DESIGN CHOICE (log 23): a hello that does not prove the key of its identity ends with handshake_failure too. -/
def State.handshake (s : State) (name : ByteList) (o : DtlsOffer) : State :=
  let fails := fun (alert record : Nat) =>
    (({ s with access := { s.access with failedHandshakes := wrap 32 (s.access.failedHandshakes + 1) } } :
      State).logSession 2 0xFFFF record 0).answer 65537 [byteOf alert]
  let open' := (s.access.sessions.filter fun p => p.1 != 8).length
  if !s.reached o then s
  else if !offerSupported o then fails 40 32
  else if !o.cookie then s.answer 65538
  else if !s.sec.provisioned then fails 115 32
  else match s.identityRecord name with
    | none => fails 115 32
    | some r =>
      if !o.binder then fails 40 r
      else if s.regN 0x1100 2 ≤ open' then fails 80 r
      else
        let n := ((List.range 8).find? fun k => (mapFind s.access.sessions k).isNone).getD 0
        let role := (s.identity r).2.1
        ((s.setSession n (Session.fresh r role)).logSession 0 n r role).answer 0 [byteOf n]

/-! ### Requests (R96, R97) -/

/-- The digest of a request: its header (Table 4.4) and payload. -/
def requestDigest (op : Nat) (m : MapMsg) : ByteList :=
  sha256 ([byteOf m.version, byteOf op] ++ beBytes 2 m.flags ++ beBytes 4 m.tid ++ beBytes 2 m.index ++
    [byteOf m.sub, byteOf m.typ, byteOf 0, byteOf 0] ++ beBytes 2 m.len ++ m.payload)

def malformed (m : MapMsg) : Bool := m.version != 1 || m.len != m.payload.length || decide (1028 < m.payload.length)

/-- The first 12 bytes of a message from the module (Table 4.4): bit 7 of the opcode is set. -/
def mapHead (op tid index sub typ : Nat) : ByteList :=
  [byteOf 1, byteOf (op % 128 + 128), byteOf 0, byteOf 0] ++ beBytes 4 tid ++ beBytes 2 index ++ [byteOf sub, byteOf typ]

/-- A whole message: header with result code and payload length, then the payload. -/
def mapMessage (head : ByteList) (code : Nat) (payload : ByteList) : ByteList :=
  head ++ beBytes 2 code ++ beBytes 2 payload.length ++ payload

/-- Type code of a response: of the value that a READ answers, else as the request carried it. -/
def answerType (op code : Nat) (m : MapMsg) : Nat :=
  if op = 1 ∧ code = 0 then (if m.sub = 0 then 5 else entryType (ek m.index m.sub)) else m.typ

/-- The response is sent; one whose result is due later (65536) is sent then. -/
def State.respond (s : State) (op : Nat) (m : MapMsg) : State :=
  let r := s.reply
  if r.code = 65536 then s
  else { s with reply := { r with
    msgs := r.msgs ++ [mapMessage (mapHead op m.tid m.index m.sub (answerType op r.code m)) r.code r.payload] } }

/-- The executed request goes into the window of its session, with its answer. -/
def State.keepRequest (s : State) (op : Nat) (m : MapMsg) (digest : ByteList) : State :=
  match s.session m.sess with
  | some x =>
    let e : Executed := { tid := m.tid, digest := digest, head := mapHead op m.tid m.index m.sub m.typ, code := s.reply.code,
                          payload := s.reply.payload, msgs := s.reply.msgs }
    if (mapFind s.access.sessions m.sess).isNone ∧ m.sess ≠ 8 then s
    else s.setSession m.sess { x with lastId := some m.tid, window := (e :: x.window).take 64 }
  | none => s

/-- A request of another kind to the entry of an upload ends the upload (R99). -/
def State.otherRequest (s : State) (m : MapMsg) : State :=
  match (s.session m.sess).bind (·.transfer) with
  | some t => if t.down = false ∧ t.key = ek m.index m.sub then s.abortTransfer m.sess else s
  | none => s

/-- What every request meets first: no session, no steward, a power-fail sequence (R38), an operation in progress (R91), a
malformed message (R96). -/
def State.received (s : State) (op : Nat) (m : MapMsg) (f : Session → State → State) : State :=
  match s.session m.sess with
  | none => s
  | some x =>
    if s.inSequence then (s.answer 0x0114).respond op m
    else if !s.serves m.sess then s
    else if s.busy then (s.defer (.map op m)).respond op m
    else if malformed m then (s.answer 0x010E).respond op m
    else f x s

/-- A request with a transaction ID (R97): `f` executes it and leaves its answer. -/
def State.request97 (s : State) (op : Nat) (m : MapMsg) (f : Requester → State → State) : State :=
  s.received op m fun x s =>
    let d := requestDigest op m
    if m.tid = 0 then (s.answer 0x010E).respond op m
    else match x.window.find? fun e => e.tid == m.tid with
      | some e =>
        if e.digest = d then
          { s with access := { s.access with repeats := wrap 32 (s.access.repeats + 1) },
                   reply := { code := e.code, payload := e.payload, msgs := e.msgs } }
        else (s.answer 0x0108).respond op m
      | none =>
        let stale := match x.lastId with
          | some n => let d := (m.tid + 4294967296 - n % 4294967296) % 4294967296; d == 0 || decide (2147483648 ≤ d)
          | none => false
        if stale then (s.answer 0x0107).respond op m
        else ((f (s.requester m.sess x) (s.otherRequest m)).respond op m).keepRequest op m d

/-! ### READ, WRITE, WRITE_SET, DESCRIBE -/

def State.mapRead (s : State) (q : Requester) (m : MapMsg) : State :=
  let (c, _, b, t) := s.dictRead q (ek m.index m.sub)
  if c ≠ 0 then t.answer c else if 1024 < b.length then s.answer 0x0113 else t.answer 0 b

def State.mapWrite (s : State) (q : Requester) (m : MapMsg) : State :=
  let r := s.writeRaw q [{ key := ek m.index m.sub, typ := some m.typ, data := m.payload }]
  r.st.answer r.code

/-- Groups of a write set: subindex, length and value. -/
def writeGroups (index : Nat) : Nat → ByteList → Option (List RawItem)
  | 0, _ => none
  | fuel + 1, b =>
    if b.isEmpty then some []
    else
      let n := beAt b 1 2
      if b.length < 3 + n then none
      else (writeGroups index fuel (b.drop (3 + n))).map fun l =>
        { key := ek index (beAt b 0 1), typ := none, data := bytesAt b 3 n } :: l

def State.mapWriteSet (s : State) (q : Requester) (m : MapMsg) : State :=
  match writeGroups m.index 18 m.payload with
  | none => s.answer 0x010E
  | some l =>
    if l.isEmpty ∨ 16 < l.length then s.answer 0x010E
    else
      let r := s.writeRaw q l
      r.st.answer r.code (if r.code = 0 ∨ r.code = 65536 then [] else [byteOf r.sub])

/-- Type, access, read role, write role, default, minimum and maximum (Table 4.5). Log 20: of STR and DOMAIN entries the
default is its length (U32) and bytes, and the range the least and the greatest length (U32); a TIME80 ranges over its form. -/
def describeBytes (key : Nat) (e : Entry) : ByteList :=
  [byteOf e.typ, byteOf e.acc, byteOf e.rd, byteOf e.wr] ++
    (if e.typ = 0x30 then List.replicate 20 (byteOf 0) ++ beBytes 6 (2 ^ 48 - 1) ++ beBytes 4 999999999
     else if bytesType e.typ then
       let d := (blobDefault key).take 1000
       beBytes 4 d.length ++ d ++ beBytes 4 e.min.toNat ++ beBytes 4 e.max.toNat
     else valBytes e.typ (.int e.dflt) ++ valBytes e.typ (.int e.min) ++ valBytes e.typ (.int e.max))

/-- Subindex 0 of an index that exists: U8, RO, the highest subindex (R6). -/
def topEntry (index : Nat) : Option Entry :=
  (topSub index).map fun n =>
    { lo := index, hi := index, s0 := 0, s1 := 0, typ := 5, acc := 0, rd := 1, wr := 0, dflt := n, min := n, max := n,
      also := [], only := [], name := "Highest subindex" }

def State.mapDescribe (s : State) (q : Requester) (m : MapMsg) : State :=
  let key := ek m.index m.sub
  match if m.sub = 0 then topEntry m.index else entryOf key with
  | none => s.answer (missingCode key)
  | some e => if q.who = 8 ∧ s.sec.debugOpen = false then s.answer 0x0105 else s.answer 0 (describeBytes key e)

/-! ### Locks (R92) -/

def State.mapLock (s : State) (q : Requester) (record : Nat) (m : MapMsg) : State :=
  let last := beNat m.payload
  let a := s.access
  if m.payload.length ≠ 2 then s.answer 0x010E
  else if q.role ≠ 3 ∧ q.role ≠ 5 then s.answer 0x0105
  else if last < m.index then s.answer 0x0109
  else if (a.locks.any fun l => decide (l.first ≤ last ∧ m.index ≤ l.last)) = true then s.answer 0x0106
  else if 8 ≤ a.locks.length then s.answer 0x0111
  else (({ s with access := { a with locks := a.locks ++ [{ sess := q.who, first := m.index, last := last }] } } :
    State).logSession 5 q.who record q.role).answer 0

/-- The locks of a session end at its UNLOCK. -/
def State.mapUnlock (s : State) (q : Requester) (record : Nat) : State :=
  let a := s.access
  let s1 := { s with access := { a with locks := a.locks.filter fun l => l.sess != q.who } }
  (if a.locks.any fun l => l.sess == q.who then s1.logSession 6 q.who record q.role else s1).answer 0

/-- A lock runs out 60 s after the last request of its session. -/
def State.lockExpires (s : State) (first : Nat) : State :=
  match s.access.locks.find? fun l => l.first == first with
  | some l =>
    let x := (s.session l.sess).getD (Session.fresh 32 0)
    ({ s with access := { s.access with locks := s.access.locks.filter fun k => k.first != first } } :
      State).logSession 6 l.sess x.record x.role
  | none => s

/-! ### Segmented transfers (R98 to R101) -/

/-- An entry is being transferred, either way, by another session or client (R100). -/
def State.transferring (s : State) (who key : Nat) : Bool :=
  let k := fun (t : Option Transfer) => match t with
    | some t => t.key == key
    | none => false
  (s.access.sessions.any fun p => p.1 != who && k p.2.transfer) ||
    s.access.clients.any fun p => p.1 + 512 != who && k p.2.transfer

/-- The code of an owning function for the start of a download, and the state told of it. -/
def State.downStarts (s : State) (who key total : Nat) : Nat × State :=
  let index := key / 256
  let sub := key % 256
  let busy := s.transferring who key
  if key = ek 0xC010 2 then
    let c := firstCode [if busy then 0x0E01 else 0, (s.instSegment who []).1]
    if c = 0 ∧ imageLimit < total then s.instTooLarge else (c, s)
  else if key = ek 0xC030 2 then
    let c := firstCode [if busy then 0x0E01 else 0, (s.cfgSegment who []).1]
    if c = 0 ∧ configLimit < total then s.cfgTooLarge else (c, s)
  else if busy then (0x0117, s)
  else if ((entryOf key).map fun e => decide (e.max < (total : Int))).getD false then (0x0109, s)
  else if 0x5400 ≤ index ∧ index ≤ 0x57FF ∧ sub = 0x22 then s.exchangeInit (index - 0x5400)
  else if 0x5400 ≤ index ∧ index ≤ 0x57FF ∧ sub = 2 then (s.loadCode (index - 0x5400), s)
  else if 0x5000 ≤ index ∧ index ≤ 0x50FF ∧ sub = 0x14 ∧ (s.facet (index - 0x5000)).state ≠ 1 then (0x0104, s)
  else if key = ek 0xA050 2 ∧ s.sec.state ≠ 1 then (0x0D01, s)
  else (0, s)

/-- The start of a download: the entry's checks, one transfer at a time, then its owner. DESIGN CHOICE (log 23): R100 names no
code for a second transfer of the same session; it is 0x0117, here and in `upBegin`. -/
def State.downBegin (s : State) (q : Requester) (key total : Nat) (own : Option Transfer) : Nat × State :=
  let c := s.writeCode q key
  if c ≠ 0 then (c, s)
  else if entryType key ≠ 0x0F then (0x010B, s)
  else if own.isSome then (0x0117, s)
  else s.downStarts q.who key total

/-- Data of a download that its owner takes as it comes (R70, R79). -/
def State.streamSegment (s : State) (who key : Nat) (data : ByteList) : Nat × State :=
  if key = ek 0xC010 2 then s.instSegment who data
  else if key = ek 0xC030 2 then s.cfgSegment who data
  else (0, s)

/-- A complete download is handed to its owner. -/
def State.downDone (s : State) (q : Requester) (t : Transfer) : Nat × State :=
  if t.key = ek 0xC010 2 ∨ t.key = ek 0xC030 2 then (0, s)
  else
    let r := s.writeVals q [(t.key, .bytes t.data)]
    (r.code, r.st)

def Transfer.new (down : Bool) (key total : Nat) (data : ByteList) : Transfer :=
  { down := down, key := key, total := total, next := 0, discarded := 0, data := data }

def segments1024 (total : Nat) : Nat := (total + 1023) / 1024

def State.mapInitDown (s : State) (q : Requester) (own : Option Transfer) (m : MapMsg) : State :=
  if m.payload.length ≠ 4 then s.answer 0x010E
  else
    let total := beNat m.payload
    let key := ek m.index m.sub
    let (c, t) := s.downBegin q key total own
    if c ≠ 0 then t.answer c
    else
      let x := (t.session m.sess).getD (Session.fresh 32 5)
      (t.setSession m.sess { x with transfer := some (Transfer.new true key total []) }).answer 0

/-- The SEG_ACK and SEG_DATA messages of a transfer (Table 4.5). -/
def segAck (t : Transfer) : ByteList := mapMessage (mapHead 0x90 0 (t.key / 256) (t.key % 256) 0) 0 (beBytes 4 t.next)
def segData (t : Transfer) (k : Nat) : ByteList :=
  mapMessage (mapHead 0x94 0 (t.key / 256) (t.key % 256) 0x0F) 0 (beBytes 4 k ++ (t.data.drop (1024 * k)).take 1024)

/-- A SEG_ACK with the next segment expected. -/
def State.ack (s : State) (t : Transfer) : State := { s with reply := { code := 0, payload := [], msgs := [segAck t] } }

/-- SEG_DOWN: a segment in order is written; any other is discarded and counted, and acknowledged again. One to the entry of an
upload ends the upload (R99). DESIGN CHOICE (log 23): a segment whose length is not what R98 gives its place is discarded and
acknowledged too. -/
def State.mapDown (s : State) (m : MapMsg) : State :=
  s.received 0x11 m fun x s =>
    match x.transfer with
    | none => s
    | some t =>
      let n := beAt m.payload 0 4
      let data := m.payload.drop 4
      let want := Nat.min 1024 (t.total - 1024 * n)
      if !t.down ∨ t.key ≠ ek m.index m.sub then s.otherRequest m
      else if m.tid ≠ 0 ∨ m.payload.length < 4 then (s.answer 0x010E).respond 0x11 m
      else if n ≠ t.next ∨ segments1024 t.total ≤ n ∨ data.length ≠ want then
        let t1 := { t with discarded := t.discarded + 1 }
        (s.setSession m.sess { x with transfer := some t1 }).ack t1
      else
        let (c, s1) := s.streamSegment m.sess t.key data
        if c ≠ 0 then s1.setSession m.sess { x with transfer := none }
        else
          let t1 := { t with next := n + 1, data := t.data ++ data }
          let s2 := s1.setSession m.sess { x with transfer := some t1 }
          if t1.next % 16 = 0 then s2.ack t1 else s2

/-- SEG_END_DOWN (R98). DESIGN CHOICE (log 23): R98 names no code for one without a transfer (0x010C) or for another entry than the
transfer's (0x0117). -/
def State.mapEndDown (s : State) (q : Requester) (own : Option Transfer) (m : MapMsg) : State :=
  match own with
  | none => s.answer 0x010C
  | some t =>
    if !t.down ∨ t.key ≠ ek m.index m.sub then s.answer 0x0117
    else if m.payload.length ≠ 32 then s.answer 0x010E
    else
      let acked := fun (s : State) (c : Nat) => { s with reply := { code := c, payload := [], msgs := [segAck t] } }
      let x := (s.session m.sess).getD (Session.fresh 32 5)
      let s1 := s.setSession m.sess { x with transfer := none }
      if t.next < segments1024 t.total then acked s 0x0113
      else if sha256 t.data ≠ m.payload then acked (s1.downAborted t.key) 0x0116
      else
        let (c, u) := s1.downDone q t
        acked u c

def State.upBegin (s : State) (q : Requester) (key : Nat) (own : Option Transfer) : Nat × ByteList × State :=
  let (c, typ, b, t) := s.dictRead q key
  if c ≠ 0 then (c, [], s)
  else if typ ≠ 0x0F then (0x010B, [], s)
  else if own.isSome then (0x0117, [], s)
  else (0, b, t)

def State.mapInitUp (s : State) (q : Requester) (own : Option Transfer) (m : MapMsg) : State :=
  let (c, b, t) := s.upBegin q (ek m.index m.sub) own
  if c ≠ 0 then t.answer c
  else
    let x := (t.session m.sess).getD (Session.fresh 32 5)
    (t.setSession m.sess { x with transfer := some (Transfer.new false (ek m.index m.sub) b.length b) }).answer 0 (beBytes 4 b.length)

/-- The last segment of a record's data file marks it exported (R347). -/
def State.sentUpTo (s : State) (t : Transfer) (byte : Nat) : State :=
  if t.key = ek 0x7000 0x87 ∧ t.total ≤ byte ∧ t.total ≠ 0 then s.markExported (s.regN 0x7000 0x85) else s

/-- SEG_UP: up to 64 segments of the snapshot (R99). -/
def State.mapUp (s : State) (m : MapMsg) : State :=
  s.received 0x14 m fun x s =>
    match x.transfer with
    | none => s
    | some t =>
      let first := beAt m.payload 0 4
      let n := beAt m.payload 4 1
      if t.down ∨ t.key ≠ ek m.index m.sub then s
      else if m.tid ≠ 0 ∨ m.payload.length ≠ 5 ∨ n = 0 ∨ 64 < n then (s.answer 0x010E).respond 0x14 m
      else
        let ks := ((List.range n).map (first + ·)).filter fun k => decide (k < segments1024 t.total)
        let s1 := { s with reply := { code := 0, payload := [], msgs := ks.map (segData t) } }
        match ks.getLast? with
        | some k => s1.sentUpTo t (1024 * (k + 1))
        | none => s1

/-! ### Answers that were due (R93, R435) -/

/-- The last of a list that satisfies p is changed: the oldest entry of a window. -/
def mapOldest (p : Executed → Bool) (f : Executed → Executed) (l : List Executed) : List Executed :=
  match l.reverse.findIdx? p with
  | some i => l.mapIdx fun k e => if k + i + 1 = l.length then f e else e
  | none => l

/-- A cabinet response goes out on the controller of its request, in the two response objects in turn (Table 16.3). -/
def State.cabSend (s : State) (c node : Nat) (data : ByteList) : State :=
  let x := s.ctl c
  let s1 := s.loadObject c x.nextResp none (s.canFrame c (canIdent 0x18 node (s.ownNode c) 0) data)
  s1.setCtl c { s1.ctl c with nextResp := 1 - x.nextResp }

/-- The answer of an executed request whose result was due, as it becomes known. -/
def State.completeDue (s : State) (who code : Nat) (payload : ByteList) : State :=
  if who < 9 then
    match mapFind s.access.sessions who with
    | some x =>
      let msg := fun (e : Executed) => mapMessage e.head code payload
      let sent := ((x.window.reverse.find? fun e => e.code == 65536).map msg).toList
      let done := fun (e : Executed) => { e with code := code, payload := payload, msgs := e.msgs ++ [msg e] }
      let s1 := s.setSession who { x with window := mapOldest (fun e => e.code == 65536) done x.window }
      { s1 with reply := { code := code, payload := payload, msgs := s1.reply.msgs ++ sent } }
    | none => s
  else if 512 ≤ who then
    match mapFind s.access.clients (who - 512) with
    | some k =>
      let data := k.response.take 6 ++ beBytes 2 code ++ k.response.drop 8
      ({ s with access := { s.access with clients := mapPut (who - 512) { k with response := data } s.access.clients } } :
        State).cabSend (leAt k.request 0 1) (who - 512) data
    | none => s
  else s

/-! ### Cabinet object access (R102 to R106) -/

/-- The role of a source node (R105); in standby management that of the kept copy (R106). -/
def State.cabinetRole (s : State) (node : Nat) : Nat :=
  let m := if s.stewardUp then s.regs else s.can.kept
  let l := (List.range 16).map fun i => (regIn m (ek 0x1140 (i + 1))).toNat
  match l.find? fun v => v != 0 && v / 256 == node with
  | some v => if 1 ≤ v % 256 ∧ v % 256 ≤ 3 then v % 256 else 1
  | none => 1

/-- The data field of a response. -/
def cabResponse (req : ByteList) (typ code : Nat) (data : ByteList) : ByteList :=
  bytesAt req 0 4 ++ [byteOf typ, byteOf data.length] ++ beBytes 2 code ++ data

/-- Index and subindex of a request, its type code and its data. -/
def cabKey (d : ByteList) : Nat := ek (beAt d 1 2) (beAt d 3 1)
def cabData (d : ByteList) : ByteList := bytesAt d 8 (beAt d 5 1)

/-- Entries served without the steward: the identity and the power and thermal entries (R55, R106), and from phase 1 the
start-up phase (R58). -/
def State.standbyServes (s : State) (key : Nat) : Bool :=
  s.stewardUp || key / 256 == 0x1000 || decide (0x1800 ≤ key / 256 ∧ key / 256 ≤ 0x18FF) ||
    (key == ek 0xC000 1 && decide (1 ≤ s.boot.phase))

def State.client (s : State) (node : Nat) : CabClient :=
  (mapFind s.access.clients node).getD { toggle := false, request := [], response := [], transfer := none }

def State.setClient (s : State) (node : Nat) (x : CabClient) : State :=
  { s with access := { s.access with clients := mapPut node x s.access.clients } }

/-- What a request of the cabinet bus meets (R91, R102 to R106, R109), with its command of Table 4.7: `f` executes it and answers
code, type and data. -/
def State.cabinet (s : State) (cmd : Nat) (r : CabReq) (f : Requester → State → Nat × Nat × ByteList × State) : State :=
  let x := s.ctl r.ctrl
  let req : Requester := { role := s.cabinetRole r.src, who := 512 + r.src, cabinet := true }
  let known := mapFind s.access.clients r.src
  let toggle := (leAt r.data 0 1).testBit 3
  let send := fun (s : State) (c : Nat) => ((s.cabSend r.ctrl r.src (cabResponse r.data 0 c [])).answer c)
  let run := fun (s : State) =>
    let key := cabKey r.data
    let (c, typ, b, t) :=
      if !s.sec.provisioned && !(cmd == 0 && decide (0x1800 ≤ key / 256 ∧ key / 256 ≤ 0x18FF)) then (0x010F, 0, [], s)
      else if !s.standbyServes key then (0x0101, 0, [], s)
      else f req s
    let data := cabResponse r.data typ c b
    let t1 := t.setClient r.src { t.client r.src with toggle := toggle, request := byteOf r.ctrl :: r.data, response := data }
    (if c = 65536 then t1 else t1.cabSend r.ctrl r.src data).answer c b
  if r.dst ≠ s.ownNode r.ctrl ∨ ¬(x.state = 1 ∨ x.state = 2) then s
  else if s.inSequence then send s 0x0114
  else if !(s.stewardUp || s.standbyManaged) then s
  else if s.busy then (if 256 ≤ s.access.waiting.length then send s 0x0114 else s.defer (.cabinet cmd r))
  else if r.data.length < 8 ∨ 56 < beAt r.data 5 1 ∨ r.data.length < 8 + beAt r.data 5 1 then send s 0x010E
  else match known with
    | some k =>
      if k.request.isEmpty = true ∨ k.toggle ≠ toggle then run s
      else if k.request.drop 1 = r.data then
        (({ s with access := { s.access with repeats := wrap 32 (s.access.repeats + 1) } } :
          State).cabSend r.ctrl r.src k.response).answer (beAt k.response 6 2)
      else send s 0x0108
    | none => if 16 ≤ s.access.clients.length then send s 0x0111 else run s

def State.cabRead (s : State) (q : Requester) (r : CabReq) : Nat × Nat × ByteList × State :=
  let (c, typ, b, t) := s.dictRead q (cabKey r.data)
  if c ≠ 0 then (c, typ, [], t) else if 56 < b.length then (0x0113, typ, [], s) else (0, typ, b, t)

def State.cabWrite (s : State) (q : Requester) (r : CabReq) : Nat × Nat × ByteList × State :=
  let typ := beAt r.data 4 1
  let w := s.writeRaw q [{ key := cabKey r.data, typ := some typ, data := cabData r.data }]
  (w.code, typ, [], w.st)

/-- Transfers of the cabinet bus are limited to 64 KiB (R104). -/
def cabLimit : Nat := 65536

def State.cabInitDown (s : State) (q : Requester) (r : CabReq) : Nat × Nat × ByteList × State :=
  let total := beNat (cabData r.data)
  let key := cabKey r.data
  if beAt r.data 5 1 ≠ 4 then (0x010E, 0, [], s)
  else if cabLimit < total then (0x0113, 0, [], s)
  else
    let (c, t) := s.downBegin q key total (s.client r.src).transfer
    if c ≠ 0 then (c, 0, [], t)
    else (0, 0, [], t.setClient r.src { t.client r.src with transfer := some (Transfer.new true key total []) })

/-- Segment down. DESIGN CHOICE (log 23): R104 names no code for a segment of the wrong length (0x0112), one without a transfer
(0x010C) or for another entry (0x0117); a segment end is answered alike. -/
def State.cabDown (s : State) (q : Requester) (r : CabReq) : Nat × Nat × ByteList × State :=
  let x := s.client r.src
  match x.transfer with
  | none => (0x010C, 0, [], s)
  | some t =>
    let data := cabData r.data
    if !t.down ∨ t.key ≠ cabKey r.data then (0x0117, 0, [], s)
    else if data.length ≠ Nat.min 56 (t.total - t.data.length) then (0x0112, 0, [], s)
    else
      let (c, s1) := s.streamSegment q.who t.key data
      if c ≠ 0 then (c, 0, [], s1.setClient r.src { x with transfer := none })
      else (0, 0, [], s1.setClient r.src { x with transfer := some { t with next := t.next + 1, data := t.data ++ data } })

def State.cabEnd (s : State) (q : Requester) (r : CabReq) : Nat × Nat × ByteList × State :=
  let x := s.client r.src
  match x.transfer with
  | none => (0x010C, 0, [], s)
  | some t =>
    if !t.down ∨ t.key ≠ cabKey r.data then (0x0117, 0, [], s)
    else if t.data.length < t.total then (0x0113, 0, [], s)
    else
      let (c, u) := (s.setClient r.src { x with transfer := none }).downDone q t
      (c, 0, [], u)

def State.cabInitUp (s : State) (q : Requester) (r : CabReq) : Nat × Nat × ByteList × State :=
  let (c, b, t) := s.upBegin q (cabKey r.data) (s.client r.src).transfer
  if c ≠ 0 then (c, 0, [], t)
  else if cabLimit < b.length then (0x0113, 0, [], s)
  else (0, 7, beBytes 4 b.length,
    t.setClient r.src { t.client r.src with transfer := some (Transfer.new false (cabKey r.data) b.length b) })

/-- The next 56 bytes of an upload; its end ends the transfer. -/
def State.cabUp (s : State) (r : CabReq) : Nat × Nat × ByteList × State :=
  let x := s.client r.src
  match x.transfer with
  | none => (0x010C, 0, [], s)
  | some t =>
    if t.down ∨ t.key ≠ cabKey r.data then (0x0117, 0, [], s)
    else
      let b := (t.data.drop (56 * t.next)).take 56
      let done := decide (t.total ≤ 56 * (t.next + 1))
      let s1 := s.setClient r.src { x with transfer := if done then none else some { t with next := t.next + 1 } }
      (0, 0x0F, b, if done then (s1.sentUpTo t t.total).uploadEnded else s1)

/-- A client's transfer ends without completing. -/
def State.cabAbort (s : State) (node : Nat) : State :=
  match (mapFind s.access.clients node).bind (·.transfer) with
  | some t => (s.setClient node { s.client node with transfer := none }).dropTransfer t
  | none => s

/-- No request for 60 s: the node's state is released (R104). -/
def State.cabRelease (s : State) (node : Nat) : State :=
  let s1 := s.cabAbort node
  { s1 with access := { s1.access with clients := mapDel node s1.access.clients },
            log := { s1.log with cursors := mapDel (512 + node) s1.log.cursors } }

/-! ### One operation at a time (R91), and forwarded writes (R93) -/

/-- The identity record of a session; 32 for the debug port. -/
def State.sessionRecord (s : State) (n : Nat) : Nat := ((s.session n).map (·.record)).getD 32

/-- What the request of an opcode of Table 4.5 does. -/
def State.mapExec (s : State) (op : Nat) (q : Requester) (m : MapMsg) : State :=
  let own := (s.session m.sess).bind (·.transfer)
  match op with
  | 0x01 => s.mapRead q m
  | 0x02 => s.mapWrite q m
  | 0x03 => s.mapWriteSet q m
  | 0x04 => s.mapDescribe q m
  | 0x05 => s.mapLock q (s.sessionRecord m.sess) m
  | 0x06 => s.mapUnlock q (s.sessionRecord m.sess)
  | 0x07 => (s.endSession m.sess).answer 0
  | 0x10 => s.mapInitDown q own m
  | 0x12 => s.mapEndDown q own m
  | 0x13 => s.mapInitUp q own m
  | 0x1F => (s.abortTransfer m.sess).answer 0
  | _ => s

/-- A message that waited is executed. -/
def State.mapRequest (s : State) (op : Nat) (m : MapMsg) : State :=
  match op with
  | 0x11 => s.mapDown m
  | 0x14 => s.mapUp m
  | _ => s.request97 op m fun q s => s.mapExec op q m

/-- What the command of Table 4.7 in a cabinet request does: code, type, data and state. -/
def State.cabExec (s : State) (cmd : Nat) (q : Requester) (r : CabReq) : Nat × Nat × ByteList × State :=
  match cmd with
  | 0 => s.cabRead q r
  | 1 => s.cabWrite q r
  | 2 => s.cabInitDown q r
  | 3 => s.cabDown q r
  | 4 => s.cabEnd q r
  | 5 => s.cabInitUp q r
  | 6 => s.cabUp r
  | _ => (0, 0, [], s.cabAbort r.src)

/-- A segment of a download goes to its owner, and is answered. -/
def State.rowSegment (s : State) (sess key : Nat) (data : ByteList) : State :=
  let (c, t) := s.streamSegment sess key data
  t.answer c

/-- A read that a command names. -/
def State.rowRead (s : State) (q : Requester) (key : Nat) : State :=
  let (c, _, b, t) := s.dictRead q key
  t.answer c b

def State.runOne (s : State) (w : Waiting) : State :=
  match w with
  | .map op m => s.mapRequest op m
  | .cabinet cmd r => s.cabinet cmd r fun q s => s.cabExec cmd q r
  | .write q key v => s.writeOne q key v
  | .read q key => s.rowRead q key
  | .segment sess key data => s.rowSegment sess key data

/-- The operations that waited are executed in their order, until one is forwarded and so is in progress itself. -/
def State.runWaiting (s : State) : List Waiting → State
  | [] => s
  | w :: l => if s.busy then { s with access := { s.access with waiting := s.access.waiting ++ w :: l } } else (s.runOne w).runWaiting l

/-- A forwarded write is applied at the shared boundary and answered (R93), and the operations that waited for it follow. -/
def State.finishForward (s : State) (f : Forward) : State :=
  let s1 := { s with access := { s.access with pendingForwards := s.access.pendingForwards.filter fun g => g.count != f.count } }
  let (c, t) := s1.applyItems f.req f.items
  let u := (t.answer c).completeDue f.req.who c []
  if u.busy then u else ({ u with access := { u.access with waiting := [] } } : State).runWaiting u.access.waiting

end Sys2Proof.Machine
end

