-- ==== Sys2Proof/Machine/WindowUnit.lean ====
section
/-! DEFINITION. The facet window as a register map (R301, R135, R394): what a write at an offset does and what a read
at an offset returns. -/

namespace Sys2Proof.Machine

/-- The cursor of facet n (Table 15.3). -/
def State.facetCursor (s : State) (n : Nat) : Cursor := mapGet s.log.cursors n Cursor.fresh

/-- AG_NOTIFY: EN (R397). -/
def State.agNotify (s : State) (n v : Nat) : State :=
  { s with log := { s.log with cursors := mapPut n { s.facetCursor n with notify := v.testBit 0 } s.log.cursors } }

/-- A write in the time page (Table 5.3), of an output granted to the facet; else it is refused under R22. -/
def State.timePage (s : State) (n offset v : Nat) : State :=
  let k := (offset - 0x3100) / 32
  let i := tpoIndex k
  -- settings outside the limits of R127 are refused, and the result code shows it
  let settle := fun (t : State) => if t.tpoInLimits k then t.tpoSettings k else s.setTpo k { s.tpo k with result := 0x0302 }
  if (s.tpo k).owner ≠ n then s.accessFault n offset 1
  else match offset % 32 / 8 with
    | 0 =>
      let s1 := (((s.setReg i 1 (v % 4 : Nat)).setReg i 7 (bitsAt v 3 1)).setReg i 9 (bitsAt v 4 1)).setReg i 6 (bitsAt v 16 16)
      settle (s1.setReg i 5 (bitsAt v 32 32))
    | 1 => s.tpoStart k (v % 2 ^ 40)
    | 2 => settle ((s.setReg i 3 (bitsAt v 32 32)).setReg i 4 (bitsAt v 0 32))
    | _ => s

/-- The GOOSE staging registers and the submission (Table 12.7). -/
def State.goosePage (s : State) (n offset v : Nat) : State :=
  if offset = 0xC00 then s.mapFacet n fun f => { f with gooseBits := v }
  else if offset = 0xC08 then s.submit n (v % 512)
  else if 0xC40 ≤ offset ∧ offset < 0xCC0 then
    s.mapFacet n fun f => { f with gooseF := mapPut ((offset - 0xC40) / 8) v f.gooseF }
  else s

/-- The dispatch ports (Table 12.11); DONE comes from the core that runs the task. -/
def State.dispatchPage (s : State) (n offset v : Nat) : State :=
  match offset with
  | 0x1010 => s.mapFacet n fun f => { f with waitLimit := v % 2 ^ 32 }
  | 0x1018 => s.taskDone n (s.task (s.facetReg n 8 + opTask v)).core v
  | 0x1020 => s.taskPost n v
  | 0x1028 => s.taskWord n v
  | 0x1030 => s.mapFacet n fun f => { f with affinityReg := v }
  | 0x1040 => s.mapFacet n fun f => { f with taskQuery := v % 4096 }
  | _ => if 0x1100 ≤ offset ∧ offset < 0x1180 then s.bindWrite n ((offset - 0x1100) / 8) v else s

/-- A write of a whole word at an offset of the window of facet n; at an offset that no table lists, or of a read-only
register, it is ignored (R7, R301). -/
def State.windowWrite (s : State) (n offset v : Nat) : State :=
  if offset % 8 ≠ 0 then s
  else if offset = 8 then (if v.testBit 0 then (s.setReady n true).phase9 else s.setReady n false)
  else if offset = 0x58 then s.mirrorSet n false v
  else if offset = 0x60 then s.mirrorSet n true v
  else if 0x200 ≤ offset ∧ offset < 0x280 then s.outSlotWrite n ((offset - 0x200) / 8) v
  else if offset = 0x308 then s.inConsWrite n v
  else if offset = 0x310 then s.outProdWrite n v
  else if offset = 0x320 then s.mboxCtrlWrite n v
  else if offset = 0x328 then s.mboxStatusWrite n v
  else if offset = 0x600 then s.dmaSubmit n v
  else if 0x700 ≤ offset ∧ offset < 0x800 then
    let q := (offset - 0x700) / 32
    match offset % 32 / 8 with
    | 0 => s.nqRingWrite n q v
    | 1 => s.nqTxWrite n q v
    | 2 => s.nqRxWrite n q v
    | _ => s
  else if 0x800 ≤ offset ∧ offset < 0x860 then s.swbOp n ((offset - 0x800) % 32 / 8) ((offset - 0x800) / 32) v
  else if 0xC00 ≤ offset ∧ offset < 0xCC0 then s.goosePage n offset v
  else if 0x1000 ≤ offset ∧ offset < 0x1180 then s.dispatchPage n offset v
  else if offset = 0x2000 then s.fill n v
  else if offset = 0x2030 then s.agNotify n v
  else if 0x3100 ≤ offset ∧ offset < 0x3300 then s.timePage n offset v
  else s

/-- STATUS (Table 12.4). -/
def State.facetStatus (s : State) (n : Nat) : Nat :=
  let f := s.facet n
  s.pair.role * 4096 + boolNat f.mirrorErr * 2048 + boolNat f.overShare * 1024 + boolNat f.restored * 512 + f.state * 16 + boolNat f.ready

/-- The time page of an output granted to the facet; what is refused under R22 returns no data, 0. -/
def State.timeRead (s : State) (n offset : Nat) : Nat :=
  let k := (offset - 0x3100) / 32
  let i := tpoIndex k
  let x := s.tpo k
  if x.owner ≠ n then 0
  else match offset % 32 / 8 with
    | 0 => s.regN i 5 * 2 ^ 32 + s.regN i 6 * 2 ^ 16 + s.regN i 9 * 16 + s.regN i 7 * 8 + s.regN i 1
    | 1 => x.startReg
    | 2 => s.regN i 3 * 2 ^ 32 + s.regN i 4
    | _ => x.late % 2 ^ 16 * 2 ^ 32 + x.result * 2 ^ 16 + s.tpoState k

/-- What a read at an offset returns. Reads with an effect of their own are commands: TAKE, TAKE_WAIT, TIME_STATUS; a
read of STATUS clears [11:9] (`State.statusRead`). -/
def State.windowRead (s : State) (n offset : Nat) : Nat :=
  let f := s.facet n
  let b := f.mbox
  if offset % 8 ≠ 0 then 0
  else if 0x100 ≤ offset ∧ offset < 0x180 then mapGet b.inSlots ((offset - 0x100) / 8) 0
  else if 0x200 ≤ offset ∧ offset < 0x280 then mapGet b.outSlots ((offset - 0x200) / 8) 0
  else if 0x700 ≤ offset ∧ offset < 0x800 then
    let x := f.queue ((offset - 0x700) / 32)
    match offset % 32 / 8 with
    | 0 => x.ring
    | 1 => x.txTail
    | 2 => x.rxTail
    | _ => x.rxHead * 2 ^ 32 + x.txHead
  else if 0x800 ≤ offset ∧ offset < 0x820 then mapGet f.swb ((offset - 0x800) / 8) 0
  else if 0xC40 ≤ offset ∧ offset < 0xCC0 then mapGet f.gooseF ((offset - 0xC40) / 8) 0
  else if 0x1100 ≤ offset ∧ offset < 0x1180 then f.binding ((offset - 0x1100) / 8)
  else if 0x2100 ≤ offset ∧ offset < 0x2500 then leAt (s.facetCursor n).window (offset - 0x2100) 8
  else if 0x3100 ≤ offset ∧ offset < 0x3300 then s.timeRead n offset
  else match offset with
    | 0x0000 => boolNat s.power.slotB * 256 + n
    | 0x0008 => s.facetStatus n
    | 0x0010 => s.coreMask n
    | 0x0018 => f.units.length
    | 0x0020 => 0x1000000000
    | 0x0028 => f.plane % 2 ^ 64
    | 0x0030 => f.plane / 2 ^ 64
    | 0x0038 => (s.lens.newest.map (·.1)).getD 0
    | 0x0040 => (s.lens.newest.map (·.2)).getD 0
    | 0x0048 => s.nominal * 65536 + s.grid
    | 0x0050 => s.facetReg n 9 * 65536 + s.facetReg n 8
    | 0x0058 => f.mirrorBase
    | 0x0060 => f.mirrorSize
    | 0x0068 => s.facetReg n 0x0F
    | 0x0300 => b.inProd
    | 0x0308 => b.inCons
    | 0x0310 => b.outProd
    | 0x0318 => b.outCons
    | 0x0320 => b.ctrl
    | 0x0328 => b.status
    | 0x0400 => s.shareWord n 0
    | 0x0408 => s.shareWord n 1
    | 0x0410 => s.shareWord n 2
    | 0x0418 => s.shareWord n 3
    | 0x0420 => s.shareWord n 4
    | 0x0428 => s.shareWord n 5
    | 0x0608 => f.dmaResult
    | 0x0610 => f.dmaCompleted * 2 ^ 32 + f.dmaAccepted
    | 0x0C00 => f.gooseBits
    | 0x0C10 => f.gooseResult
    | 0x1010 => f.waitLimit
    | 0x1030 => f.affinityReg
    | 0x1038 => f.dispatchResult
    | 0x1040 => f.taskQuery
    | 0x1048 => let k := s.task (s.facetReg n 8 + f.taskQuery); k.flags * 2 ^ 32 + k.mask
    | 0x1050 => (s.task (s.facetReg n 8 + f.taskQuery)).info
    | 0x1058 => s.readyDepth n
    | 0x2000 => (s.facetCursor n).cursor
    | 0x2008 => (s.facetCursor n).status
    | 0x2010 => (s.facetCursor n).skipped
    | 0x2018 => (s.facetCursor n).resume
    | 0x2020 => s.log.oldest
    | 0x2028 => s.log.next
    | 0x2030 => boolNat (s.facetCursor n).notify
    | 0x3000 => s.now
    | 0x3008 => s.timeStatus n
    | 0x3010 => s.tpoGranted n
    | _ => 0

/-- A read of STATUS clears MIRROR_ERR, OVER_SHARE and RESTORED. -/
def State.statusRead (s : State) (n : Nat) : State :=
  s.mapFacet n fun f => { f with mirrorErr := false, overShare := false, restored := false }

/-- A read of a whole word at an offset of the window: its value is answered, a read of STATUS clears its flags, and one in
the time page of an output not granted to the facet is refused (R22, R301). -/
def State.readWindow (s : State) (n offset : Nat) : State :=
  let t := s.answer 0 (leBytes 8 (s.windowRead n offset))
  if offset = 8 then t.statusRead n
  else if 0x3100 ≤ offset ∧ offset < 0x3300 ∧ (s.tpo ((offset - 0x3100) / 32)).owner ≠ n then t.accessFault n offset 0
  else t

end Sys2Proof.Machine
end

