-- ==== Sys2Proof/Machine/Access.lean ====
section
/-! DEFINITION. The meanings of the commands of chapter 4: the requests of the Management Access Protocol and of cabinet
object access, sessions, locks, transfers, forwarded writes, the overlay, and register writes without a row of their
own. -/

namespace Sys2Proof.Machine

/-! ### The Management Access Protocol (Table 4.5) -/

def opRead (m : MapMsg) (s : State) : State := s.request97 0x01 m fun q s => s.mapRead q m

def execRead (m : MapMsg) (s : State) : Host.Outcome State Fault Refusal := checked (.read m) (opRead m s)

def opWrite (m : MapMsg) (s : State) : State := s.request97 0x02 m fun q s => s.mapWrite q m

def execWrite (m : MapMsg) (s : State) : Host.Outcome State Fault Refusal := checked (.write m) (opWrite m s)

def opWriteSet (m : MapMsg) (s : State) : State := s.request97 0x03 m fun q s => s.mapWriteSet q m

def execWriteSet (m : MapMsg) (s : State) : Host.Outcome State Fault Refusal := checked (.writeSet m) (opWriteSet m s)

def opDescribe (m : MapMsg) (s : State) : State := s.request97 0x04 m fun q s => s.mapDescribe q m

def execDescribe (m : MapMsg) (s : State) : Host.Outcome State Fault Refusal := checked (.describe m) (opDescribe m s)

def opLock (m : MapMsg) (s : State) : State := s.request97 0x05 m fun q s => s.mapLock q (s.sessionRecord m.sess) m

def execLock (m : MapMsg) (s : State) : Host.Outcome State Fault Refusal := checked (.lock m) (opLock m s)

def opUnlock (m : MapMsg) (s : State) : State := s.request97 0x06 m fun q s => s.mapUnlock q (s.sessionRecord m.sess)

def execUnlock (m : MapMsg) (s : State) : Host.Outcome State Fault Refusal := checked (.unlock m) (opUnlock m s)

/-- CLOSE is answered, and ends the session. -/
def opClose (m : MapMsg) (s : State) : State := s.request97 0x07 m fun _ s => (s.endSession m.sess).answer 0

def execClose (m : MapMsg) (s : State) : Host.Outcome State Fault Refusal := checked (.close m) (opClose m s)

def opSegInitDown (m : MapMsg) (s : State) : State :=
  s.request97 0x10 m fun q s => s.mapInitDown q ((s.session m.sess).bind (·.transfer)) m

def execSegInitDown (m : MapMsg) (s : State) : Host.Outcome State Fault Refusal := checked (.segInitDown m) (opSegInitDown m s)

def opSegDown (m : MapMsg) (s : State) : State := s.mapDown m

def execSegDown (m : MapMsg) (s : State) : Host.Outcome State Fault Refusal := checked (.segDown m) (opSegDown m s)

def opSegEndDown (m : MapMsg) (s : State) : State :=
  s.request97 0x12 m fun q s => s.mapEndDown q ((s.session m.sess).bind (·.transfer)) m

def execSegEndDown (m : MapMsg) (s : State) : Host.Outcome State Fault Refusal := checked (.segEndDown m) (opSegEndDown m s)

def opSegInitUp (m : MapMsg) (s : State) : State :=
  s.request97 0x13 m fun q s => s.mapInitUp q ((s.session m.sess).bind (·.transfer)) m

def execSegInitUp (m : MapMsg) (s : State) : Host.Outcome State Fault Refusal := checked (.segInitUp m) (opSegInitUp m s)

def opSegUp (m : MapMsg) (s : State) : State := s.mapUp m

def execSegUp (m : MapMsg) (s : State) : Host.Outcome State Fault Refusal := checked (.segUp m) (opSegUp m s)

/-- ABORT ends the transfer of its session (R101); with none it is answered with success (log 20). -/
def opAbort (m : MapMsg) (s : State) : State := s.request97 0x1F m fun _ s => (s.abortTransfer m.sess).answer 0

def execAbort (m : MapMsg) (s : State) : Host.Outcome State Fault Refusal := checked (.abort m) (opAbort m s)

def opDtlsHandshake (identity : ByteList) (offer : DtlsOffer) (s : State) : State :=
  s.when s.stewardUp fun s => s.handshake identity offer

def execDtlsHandshake (identity : ByteList) (offer : DtlsOffer) (s : State) : Host.Outcome State Fault Refusal :=
  checked (.dtlsHandshake identity offer) (opDtlsHandshake identity offer s)

def opCloseNotify (sess : Nat) (s : State) : State := s.when s.stewardUp fun s => s.endSession sess

def execCloseNotify (sess : Nat) (s : State) : Host.Outcome State Fault Refusal :=
  checked (.closeNotify sess) (opCloseNotify sess s)

def opSessionIdleTimeout (sess : Nat) (s : State) : State := s.when s.stewardUp fun s => s.endSession sess

def execSessionIdleTimeout (sess : Nat) (s : State) : Host.Outcome State Fault Refusal :=
  checked (.sessionIdleTimeout sess) (opSessionIdleTimeout sess s)

def opLockExpiry (first : Nat) (s : State) : State := s.when s.stewardUp fun s => s.lockExpires first

def execLockExpiry (first : Nat) (s : State) : Host.Outcome State Fault Refusal :=
  checked (.lockExpiry first) (opLockExpiry first s)

/-- 30 s without a segment (R101). -/
def opTransferTimeout (sess : Nat) (s : State) : State := s.when s.stewardUp fun s => s.abortTransfer sess

def execTransferTimeout (sess : Nat) (s : State) : Host.Outcome State Fault Refusal :=
  checked (.transferTimeout sess) (opTransferTimeout sess s)

/-! ### Forwarded writes (R93) -/

/-- A standby applies the next forward that it has not applied, counts and acknowledges it; a gap leaves OVERLAY set until the
copy of R371 closes it. A module that is LIT applies none. -/
def opForwardedWrite (tag : MirrorTag) (count : Nat) (items : ValList) (s : State) : State :=
  s.when s.stewardUp fun s => s.tagTakes 4 tag fun s =>
    let a := s.access
    if s.lit then s
    else if count = a.applied + 1 then
      let (_, t) := s.applyItems rowReq items
      ({ t with access := { t.access with applied := count } } : State).post 5 0 (wrap 32 count) 8 false
    else if a.applied + 1 < count then s.setElig 5 true
    else s

def execForwardedWrite (head : ForwardHead) (items : ValList) (s : State) : Host.Outcome State Fault Refusal :=
  checked (.forwardedWrite head items) (opForwardedWrite head.tag head.count items s)

/-- The partner has applied the oldest forward that waits, or answers that it could not (`ok` false): LIT applies it either way, as it does
when no acknowledgement comes. -/
def opForwardAcknowledgement (tag : MirrorTag) (count : Nat) (ok : Bool) (s : State) : State :=
  s.when s.stewardUp fun s => s.tagTakes 5 tag fun s =>
    match s.access.pendingForwards with
    | f :: _ =>
      if f.count = count then (if ok then s else s.setPair fun p => { p with overlayAsked := true }).finishForward f else s
    | [] => s

def execForwardAcknowledgement (head : ForwardHead) (ok : Bool) (s : State) : Host.Outcome State Fault Refusal :=
  checked (.forwardAcknowledgement head ok) (opForwardAcknowledgement head.tag head.count ok s)

/-- 10 ms without an acknowledgement: LIT applies the oldest forward and answers. -/
def opForwardAckTimeout (s : State) : State :=
  s.when s.stewardUp fun s =>
    match s.access.pendingForwards with
    | f :: _ => s.finishForward f
    | [] => s

def execForwardAckTimeout (s : State) : Host.Outcome State Fault Refusal := checked .forwardAckTimeout (opForwardAckTimeout s)

/-! ### Cabinet object access (Table 4.7) -/

def opCabinetRead (r : CabReq) (s : State) : State := s.when (s.domOn 1) fun s => s.cabinet 0 r fun q s => s.cabRead q r

def execCabinetRead (r : CabReq) (s : State) : Host.Outcome State Fault Refusal := checked (.cabinetRead r) (opCabinetRead r s)

def opCabinetWrite (r : CabReq) (s : State) : State := s.when (s.domOn 1) fun s => s.cabinet 1 r fun q s => s.cabWrite q r

def execCabinetWrite (r : CabReq) (s : State) : Host.Outcome State Fault Refusal := checked (.cabinetWrite r) (opCabinetWrite r s)

def opCabinetSegmentInitDown (r : CabReq) (s : State) : State :=
  s.when (s.domOn 1) fun s => s.cabinet 2 r fun q s => s.cabInitDown q r

def execCabinetSegmentInitDown (r : CabReq) (s : State) : Host.Outcome State Fault Refusal :=
  checked (.cabinetSegmentInitDown r) (opCabinetSegmentInitDown r s)

def opCabinetSegmentDown (r : CabReq) (s : State) : State :=
  s.when (s.domOn 1) fun s => s.cabinet 3 r fun q s => s.cabDown q r

def execCabinetSegmentDown (r : CabReq) (s : State) : Host.Outcome State Fault Refusal :=
  checked (.cabinetSegmentDown r) (opCabinetSegmentDown r s)

def opCabinetSegmentEnd (r : CabReq) (s : State) : State :=
  s.when (s.domOn 1) fun s => s.cabinet 4 r fun q s => s.cabEnd q r

def execCabinetSegmentEnd (r : CabReq) (s : State) : Host.Outcome State Fault Refusal :=
  checked (.cabinetSegmentEnd r) (opCabinetSegmentEnd r s)

def opCabinetSegmentInitUp (r : CabReq) (s : State) : State :=
  s.when (s.domOn 1) fun s => s.cabinet 5 r fun q s => s.cabInitUp q r

def execCabinetSegmentInitUp (r : CabReq) (s : State) : Host.Outcome State Fault Refusal :=
  checked (.cabinetSegmentInitUp r) (opCabinetSegmentInitUp r s)

def opCabinetSegmentUp (r : CabReq) (s : State) : State :=
  s.when (s.domOn 1) fun s => s.cabinet 6 r fun _ s => s.cabUp r

def execCabinetSegmentUp (r : CabReq) (s : State) : Host.Outcome State Fault Refusal :=
  checked (.cabinetSegmentUp r) (opCabinetSegmentUp r s)

def opCabinetAbort (r : CabReq) (s : State) : State :=
  s.when (s.domOn 1) fun s => s.cabinet 7 r fun _ s => (0, 0, [], s.cabAbort r.src)

def execCabinetAbort (r : CabReq) (s : State) : Host.Outcome State Fault Refusal := checked (.cabinetAbort r) (opCabinetAbort r s)

def opCabinetNodeStateRelease (node : Nat) (s : State) : State := s.when (s.domOn 1) fun s => s.cabRelease node

def execCabinetNodeStateRelease (node : Nat) (s : State) : Host.Outcome State Fault Refusal :=
  checked (.cabinetNodeStateRelease node) (opCabinetNodeStateRelease node s)

/-- 5 s without a segment (R104). -/
def opCabinetTransferTimeout (node : Nat) (s : State) : State := s.when (s.domOn 1) fun s => s.cabAbort node

def execCabinetTransferTimeout (node : Nat) (s : State) : Host.Outcome State Fault Refusal :=
  checked (.cabinetTransferTimeout node) (opCabinetTransferTimeout node s)

/-! ### The overlay (R86) -/

def opOverlaySave (s : State) : State := s.rowWrite rowReq (ek 0x1010 1) (.int 1)

def execOverlaySave (s : State) : Host.Outcome State Fault Refusal := checked .overlaySave (opOverlaySave s)

def opOverlayDiscard (s : State) : State := s.rowWrite rowReq (ek 0x1010 1) (.int 2)

def execOverlayDiscard (s : State) : Host.Outcome State Fault Refusal := checked .overlayDiscard (opOverlayDiscard s)

/-! ### Register writes (R89, R301, R135) -/

def opRegisterWrite (tgt : RegTarget) (s : State) : State :=
  match tgt with
  | .entry key v => s.rowWrite rowReq key v
  | .facet n offset v => s.when (s.guest n) fun s => s.windowWrite n offset v

def execRegisterWrite (tgt : RegTarget) (s : State) : Host.Outcome State Fault Refusal :=
  checked (.registerWrite tgt) (opRegisterWrite tgt s)

end Sys2Proof.Machine
end

