-- ==== Sys2Proof/Machine/LoadUnit.lean ====
section
/-! DEFINITION. Loading the configuration in phase 5, the role decision of phase 7 and the grid tick boundary
(R62 to R64, R74, R75, R85, R89, R173). -/

namespace Sys2Proof.Machine

/-! ### Configuration (R74, R75, R85) -/

/-- Static forwarding entries, stream identification entries and VLANs of an image. -/
def State.loadTables (s : State) (i : CfgImage) : State :=
  { s with fabric := { s.fabric with
      fdb := i.fdb.foldl (fun t e => (fdbWrite t (withBit e 126 true)).2.1) s.fabric.fdb,
      streamTab := i.streams.foldl (fun t e => (stWrite t e).2.1) s.fabric.streamTab,
      vlans := mapPutAll i.vlans s.fabric.vlans } }

/-- A program image of the running values: placed before the programs start. -/
def imageKey (key : Nat) : Bool := decide (0x5400 ≤ key / 256 ∧ key / 256 ≤ 0x57FF) && key % 256 == 2

/-- A value that the dictionary's type and range allow its entry. An image's other values do not come into force: the entry keeps
its default (R82, R197; log 23). -/
def entryAllows (key : Nat) (v : Val) : Bool :=
  match entryOf key with
  | some e => rangeCode e v == 0
  | none => false

/-- All engines are loaded with an image and with the running values. -/
def State.loadEngines (s : State) (i : CfgImage) (all : Map Val) : State :=
  let values := all.filter fun p => entryAllows p.1 p.2
  let s1 := applyAll (fun p s => s.loadImage p.1 p.2) (cfgPrograms i) (s.loadTables i)
  let s2 := (s1.place 255 (values.filter fun p => imageKey p.1)).place 255 (values.filter fun p => !imageKey p.1)
  ({ s2 with tickRegs := s2.regs } : State).latchClasses

/-- The tick mirror worst case of an image would exceed the budget (R367). -/
def imageOver (i : CfgImage) : Bool :=
  let t := State.reset.loadEngines i (mapPutAll i.entries [])
  decide (t.tickBudget < t.tickWorst)

/-- A saved overlay of another fingerprint is discarded and logged; no session does it (log 16). -/
def State.overlayLost (s : State) : State :=
  let f := fun (k : Nat) => Config.freeValue (s.freeCount + k)
  let s1 := { s with freeCount := s.freeCount + 3, access := { s.access with copyA := none, copyB := none, savedDiscarded := true } }
  s1.logRec 0x0102 0 noFacet 0 (f 0 % 65536) [byteOf 4, byteOf (f 1), byteOf (f 2)]

/-- The overlay that phase 5 starts from: the saved one where its fingerprint is the image's. -/
def Access.startOverlay (a : Access) (fp : ByteList) : Map Val :=
  match a.saved with
  | some (m, f) => if f = fp then m else []
  | none => []

def Access.otherSaved (a : Access) (fp : ByteList) : Bool :=
  match a.saved with
  | some (_, f) => decide (f ≠ fp)
  | none => false

/-- Phase 5: rotation, the running values, the engines. With an active image that fails the module stays here (R75). A
wait of 0 s does not wait (R62). DESIGN CHOICE (log 16): with a wait of 0 s and 0xC001:02 at 1, for which R62 says both "does
not wait at all" and "stays in phase 6 until lock", the module stays in phase 6. -/
def State.loadConfig (s : State) (activeOk markedOk : Bool) : State :=
  let turned := s.boot.current.marked != 0 && s.markedVerifies markedOk
  let s1 := s.rotate markedOk
  if (activeOk && s1.cfgSigned s1.boot.activeRaw) || turned then
    let i := s1.boot.active
    let fp := sha256 s1.boot.activeRaw
    let image := mapPutAll i.entries []
    let ov := s1.access.startOverlay fp
    let s2 := { s1 with access := { s1.access with image := image, overlay := ov, fingerprint := fp } }
    let s3 := if s1.access.otherSaved fp then s2.overlayLost else s2
    let s3 := (s3.loadEngines i (mapPutAll ov image)).setBoot fun b => { b with cfgBad := false }
    -- the port and VLAN of the protocol apply from a reset (R107)
    let s4 := ({ s3 with access := { s3.access with port := s3.regN 0x1100 1, vlan := s3.regN 0x1100 5 } } : State).endPhase 5
    if s4.regN 0xC001 1 = 0 ∧ s4.regN 0xC001 2 = 0 then s4.endPhase 6 else s4
  else s1.setBoot fun b => { b with cfgBad := true }

/-! ### The role decision (R63, R64) -/

/-- Phase 7 exits, and the Lens waits for the first grid tick of the next second. -/
def State.endRole (s : State) : State :=
  if s.boot.phase = 7 then
    let s1 := s.endPhase 7
    { s1 with lens := { s1.lens with state := 1, startAt := s1.time.sec + 1 } }
  else s

/-- A standby with its reasons: UNBOUND until an identity exchange is accepted (R436). -/
def State.becomeStandby (s : State) : State :=
  let s1 := s.setPair fun p => { p with req := false, elig := withBit p.elig 1 (s.sec.partnerState != 1) }
  ((s1.setRole 3).settle).endRole

/-- Phase 7: a request where the partner is absent or not owner, else the eligibility checks once the mirror link is
trained. An unprovisioned module comes up DIM and unbound (R61). -/
def State.decideRole (s0 : State) (lines : Lines) : State :=
  let s := s0.readLines lines
  if !s.sec.provisioned then s.becomeStandby
  else if s.power.peerPresentN || !linesOwner lines then
    let s1 := s.request 7
    if s1.lit then s1.endRole else s1
  else if s.pair.trained then s.becomeStandby
  else s

/-- The mirror link has not trained within 500 ms of phase 7. -/
def State.trainingTimeout (s : State) : State :=
  if s.pair.trained || s.lit then s
  else if s.pair.role = 0 then
    (if s.boot.phase = 7 ∧ s.pair.selfFenced = false ∧ linesOwner s.pair.lines = true then (s.setElig 6 true).becomeStandby else s)
  else s.setElig 6 true

/-- Phase 8 exits: outputs are enabled on a LIT, and the trial period starts. -/
def State.protectionRuns (s : State) : State :=
  let s1 := (s.endPhase 8).setBoot fun b =>
    { b with startTime := wrap 32 s.sinceStart, trialSince := if b.bootState = 1 then some s.mono else b.trialSince }
  if s1.lit then s1.activate.bmca else s1

/-! ### The grid tick boundary (R89, R173) -/

/-- The next grid tick: the one after the last row's, or after a step the first of the stepped time base. -/
def State.nextTick (s : State) : Nat :=
  if s.lens.state = 2 then
    match s.lens.lastTick with
    | some T => T + 1
    | none => tickFrom s.grid s.now
  else tickAt s.grid s.now + 1

/-- Channels that no enabled stream covers any more, as ranges of one. -/
def goneChannels (old new : Map Int) : List (Nat × Nat) :=
  let on := (enabledStreams new).map (strRange new)
  let was := (enabledStreams old).filter fun n => !(enabledStreams new).contains n
  ((channelsOf (was.map (strRange old))).filter fun c => !on.any fun p => decide (p.1 ≤ c ∧ c < p.1 + p.2)).map fun c => (c, 1)

/-- One grid tick boundary: what waits for it takes effect, and the Lens opens a row. -/
def State.gridTick (s0 : State) : State :=
  let T := s0.nextTick
  let inst := tickInstant s0.grid T
  let s := s0.advanceTo inst
  let gone := goneChannels s.tickRegs s.regs
  let s1 := { s with tickRegs := s.regs }
  let s2 := if s1.domOn 7 then (s1.tickStreams).markUnsubscribed gone else s1
  let s3 := if s2.domOn 7 && s2.lens.state == 2 then s2.openRow T else s2
  let s4 := (if s3.domOn 7 && s3.lens.state == 2 then s3.sealRows else s3).grantTick
  if s4.domOn 11 then s4.captureTick inst else s4

end Sys2Proof.Machine
end

