-- ==== Sys2Proof/Machine/AfterglowUnit.lean ====
section
/-! DEFINITION. Events of the afterglow log (chapter 15): suppression, export, failure of the log memory and remap;
partner reports; and what a tamper event does to a running module (R441). -/

namespace Sys2Proof.Machine

/-! ### The log (R387, R391, R400, R401) -/

/-- The end of a second: the suppressed records of each type, in ascending type. -/
def State.suppressionSecond (s : State) : State :=
  let excess := s.log.second.filter fun p => !logUnlimited p.1 && decide (256 < p.2)
  let s1 := { s with log := { s.log with second := [] } }
  (applyAll (fun (p : Nat × Nat) s => s.logRec 0x0B05 1 noFacet 0 p.1 (leBytes 4 (p.2 - 256))) excess s1).showDdr

/-- Every held record is in an exported segment. -/
def State.exportLog (s : State) : State :=
  { s with log := { s.log with exported := s.log.held,
                                exportedThrough := (s.log.held.head?.map (·.seq)).getD s.log.exportedThrough } }

/-- The log switches to the last-gasp bank. -/
def State.logFails (s : State) (addr : Nat) : State :=
  let l := s.log
  let s1 := { s with log := { l with memErrors := wrap 32 (l.memErrors + 1), failedAt := l.next, state := 1, held := [], bank := [],
                                     bankPtr := 0, pushedOut := none } }
  (s1.logRec 0x0B02 2 noFacet 0 0 (leBytes 8 addr)).setCause 8 true

/-- The spare region passes its march test: steps 1 to 5 of R401. -/
def State.remapLog (s : State) : State :=
  let l := s.log
  let base := (l.exported.head?.map (·.seq)).getD 0
  let copies := (l.bankRecords.filter fun r => decide (l.failedAt ≤ r.seq)).map fun r => { r with fromBank := true }
  let s1 := { s with log := { l with state := 2, held := addRecords copies l.exported } }
  let s2 := s1.logLost (base + 1) (l.failedAt - 1) 1
  let s3 := match l.pushedOut with
    | some (a, b) => s2.logLost a b 2
    | none => s2
  let s4 := s3.logRec 0x0B03 1 noFacet 0 0 ([byteOf 1] ++ List.replicate 7 (byteOf 0) ++ leBytes 8 s3.log.oldest)
  ({ s4 with log := { s4.log with bank := [], bankPtr := 0, pushedOut := none } } : State).setCause 8 false

/-! ### Dating a record (R390) -/

/-- Of records newest first, the nearest anchor with ROW_VALID; none where a step or a reset comes before it. -/
def anchorBefore : List LogRecord → Option LogRecord
  | [] => none
  | r :: l =>
    if r.typ = 0x0302 ∨ r.typ = 0x0E02 then none
    else if r.typ = 0x0301 ∧ r.row.isSome = true then some r
    else anchorBefore l

/-- The tick instant of the row after whose seal a held record was entered: that of the anchor before it, advanced by the rows
between them. -/
def State.dateOf (s : State) (r : LogRecord) : Option Nat :=
  match r.row, anchorBefore (s.log.held.filter fun x => decide (x.seq < r.seq)) with
  | some row, some a =>
    some (tickInstant s.grid (tickAt s.grid (leAt a.data 20 8) + (row - a.row.getD 0)))
  | _, _ => none

/-! ### Partner reports (R405) -/

/-- A report of epoch 0 is for display only; a failed tag and an old sequence are handled as R23 and R362 say. -/
def State.partnerReport (s : State) (tag : MirrorTag) (data : ByteList) : State :=
  let e := if s.epochKnown tag.epoch then tag.epoch else 0
  if tag.epoch ≠ 0 ∧ (tag.authentic = false ∨ (e = 0 ∧ s.sec.epoch ≠ 0)) then s.mirrorRefused
  else if !s.seqFresh 4 e tag.seq then s.mirrorCount 8 1
  else
    let s1 := (s.seqTaken 4 e tag.seq).keyUsed e
    { s1 with health := { s1.health with partner := padTo 256 data, partnerAt := some s.mono, partnerStatus := if e = 0 then 3 else 1 } }

/-! ### Tamper (R440, R441) -/

/-- A running module whose key store has been zeroised. -/
def State.zeroised (s : State) (sensors : Nat) : State :=
  let s1 := if s.pair.own then (s.release false 0).setPair fun p => { p with selfFenced := true } else s
  let s2 := ((s1.setElig 1 true).endSessions)
  s2.logSec 0 (sensors % 32) 0

end Sys2Proof.Machine
end

