-- ==== Sys2Proof/Machine/Afterglow.lean ====
section
/-! DEFINITION. Meanings of the commands of the log, the health report and the self-tests (chapter 15, R380), of the
security engine (chapter 17), and of access faults (R13, R22). -/

namespace Sys2Proof.Machine

/-! ### The log (R386 to R401) -/

/-- A record reaches the log engine. -/
def opLogRecord (r : LogReq) (s : State) : State := s.when (s.domOn 2 && s.supplied) fun s => s.logReq r

def execLogRecord (r : LogReq) (s : State) : Host.Outcome State Fault Refusal := checked (.logRecord r) (opLogRecord r s)

/-- The end of a second of the monotonic count. -/
def opSuppressionSecond (s : State) : State := s.when (s.domOn 2 && s.log.ready) State.suppressionSecond

def execSuppressionSecond (s : State) : Host.Outcome State Fault Refusal := checked .suppressionSecond (opSuppressionSecond s)

/-- A segment is exported; in bank mode there is none. -/
def opLogExport (s : State) : State := s.when (s.domOn 2 && s.log.ready && !s.log.bankMode) State.exportLog

def execLogExport (s : State) : Host.Outcome State Fault Refusal := checked .logExport (opLogExport s)

/-- A facet's cursor write fills its window (R395). -/
def opAgCursor (n v : Nat) (s : State) : State := s.when (s.guest n) fun s => s.fill n v

def execAgCursor (n : Nat) (v : Nat) (s : State) : Host.Outcome State Fault Refusal := checked (.agCursor n v) (opAgCursor n v s)

/-- A facet's write of EN (R397). -/
def opAgNotify (n v : Nat) (s : State) : State := s.when (s.guest n) fun s => s.agNotify n v

def execAgNotify (n : Nat) (v : Nat) (s : State) : Host.Outcome State Fault Refusal := checked (.agNotify n v) (opAgNotify n v s)

/-- A session's or cabinet client's cursor write (R398): c is 256 + session, or 512 + node. -/
def opSessionCursor (c v : Nat) (s : State) : State :=
  s.when (s.stewardUp && (decide (512 ≤ c) || c == 264 || (mapFind s.access.sessions (c - 256)).isSome)) fun s =>
    (s.fill c v).answer 0

def execSessionCursor (c : Nat) (v : Nat) (s : State) : Host.Outcome State Fault Refusal :=
  checked (.sessionCursor c v) (opSessionCursor c v s)

/-- An uncorrectable error in the log region in use (R400). -/
def opLogMemoryFailure (addr : Nat) (s : State) : State :=
  s.when (s.domOn 2 && s.log.ready && !s.log.bankMode) fun s => s.logFails addr

def execLogMemoryFailure (addr : Nat) (s : State) : Host.Outcome State Fault Refusal :=
  checked (.logMemoryFailure addr) (opLogMemoryFailure addr s)

/-- The march test of the spare region ends (R401). -/
def opLogRemap (ok : Bool) (s : State) : State :=
  s.when (s.domOn 2 && s.log.ready && s.log.state == 1) fun s =>
    if ok then s.remapLog else { s with log := { s.log with state := 3 } }

def execLogRemap (ok : Bool) (s : State) : Host.Outcome State Fault Refusal := checked (.logRemap ok) (opLogRemap ok s)

/-! ### Health reports (R405) -/

/-- The module sends its report to its partner in a control frame. -/
def opHealthReportTransmit (s : State) : State :=
  s.when (s.running && s.pair.trained) fun s =>
    let n := s.health.reportsSent + 1
    ({ s with health := { s.health with reportSent := s.healthReport, reportsSent := n } } : State).post 4 0 (wrap 32 n) 256 false

def execHealthReportTransmit (s : State) : Host.Outcome State Fault Refusal :=
  checked .healthReportTransmit (opHealthReportTransmit s)

def opHealthReportReceived (tag : MirrorTag) (data : ByteList) (s : State) : State :=
  s.when s.running fun s => s.partnerReport tag data

def execHealthReportReceived (authentic : Bool) (place : FramePlace) (data : ByteList) (s : State) :
    Host.Outcome State Fault Refusal :=
  checked (.healthReportReceived authentic place data)
    (opHealthReportReceived { authentic := authentic, epoch := place.epoch, seq := place.seq } data s)

/-- No report for 3 s: the held one is cleared. -/
def opPartnerReportTimeout (s : State) : State :=
  s.when s.stewardUp fun s => { s with health := { s.health with partner := [], partnerAt := none, partnerStatus := 0 } }

def execPartnerReportTimeout (s : State) : Host.Outcome State Fault Refusal :=
  checked .partnerReportTimeout (opPartnerReportTimeout s)

/-! ### Self-tests (R380, Table 14.11) -/

/-- Regions whose errors are other events: steward private, log and log spare. -/
def guardedDdr (addr : Nat) : Bool := decide (0x1000000000 ≤ addr ∧ addr ≤ 0x1087FFFFFF)

/-- A DDR error (Table 15.4, bits 11 and 12). -/
def opDdrEccError (correctable : Bool) (addr : Nat) (s : State) : State :=
  s.when (s.stewardUp && s.domOn 11 && !guardedDdr addr) fun s =>
    if correctable then
      let h := s.health
      let recent := s.mono :: h.ddrRecent.filter fun t => decide (s.mono < t + 3600000000000)
      ({ s with health := { h with ddrCorrectable := wrap 64 (h.ddrCorrectable + 1), ddrRecent := recent } } : State).showDdr
    else s.latchCause 11 true

def execDdrEccError (correctable : Bool) (addr : Nat) (s : State) : Host.Outcome State Fault Refusal :=
  checked (.ddrEccError correctable addr) (opDdrEccError correctable addr s)

/-- A pass without error ends the condition of DDR_UNCORRECTABLE. -/
def opDdrScrubPass (ok : Bool) (s : State) : State :=
  s.when (s.stewardUp && s.domOn 11) fun s =>
    if ok then ({ s with health := { s.health with present := withBit s.health.present 11 false } } : State).testRan 0 1 0xFFFF 0
    else s.testRan 0 3 0xFFFF 0

def execDdrScrubPass (ok : Bool) (s : State) : Host.Outcome State Fault Refusal :=
  checked (.ddrScrubPass ok) (opDdrScrubPass ok s)

def opSramScrub (ok : Bool) (addr : Nat) (s : State) : State :=
  s.when s.stewardUp fun s =>
    if ok then ({ s with health := { s.health with present := withBit s.health.present 13 false } } : State).testRan 1 1 0xFFFF 0
    else (s.latchCause 13 true).testRan 1 3 0xFFFF addr

def execSramScrub (ok : Bool) (addr : Nat) (s : State) : Host.Outcome State Fault Refusal :=
  checked (.sramScrub ok addr) (opSramScrub ok addr s)

/-- The module is SHADE or DIM. -/
def State.standby (s : State) : Bool := s.running && (s.pair.role == 2 || s.pair.role == 3)

def opCoreCrossCheck (core : Nat) (pass : Bool) (s : State) : State :=
  s.when (s.standby && s.domOn (3 + core / 16)) fun s => s.unitTest 2 14 core pass

def execCoreCrossCheck (core : Nat) (pass : Bool) (s : State) : Host.Outcome State Fault Refusal :=
  checked (.coreCrossCheck core pass) (opCoreCrossCheck core pass s)

def opLogicProcessorTest (lp : Nat) (pass : Bool) (s : State) : State :=
  s.when (s.standby && s.domOn 11) fun s => s.unitTest 3 15 lp pass

def execLogicProcessorTest (lp : Nat) (pass : Bool) (s : State) : Host.Outcome State Fault Refusal :=
  checked (.logicProcessorTest lp pass) (opLogicProcessorTest lp pass s)

/-- The error rate of a port (0 to 47) or mirror lane (48, 49) crosses 10^-12. -/
def opSerdesErrorRate (lane : Nat) (above : Bool) (s : State) : State :=
  s.when (s.stewardUp && s.domOn 9 && s.domOn 10) fun s =>
    let m := withBit s.health.serdes lane above
    let s1 := ({ s with health := { s.health with serdes := m } } : State).setCause 16 (m != 0)
    if above then s1.testRan 4 2 lane 0 else if m = 0 then s1.testRan 4 1 0xFFFF 0 else s1

def execSerdesErrorRate (lane : Nat) (above : Bool) (s : State) : Host.Outcome State Fault Refusal :=
  checked (.serdesErrorRate lane above) (opSerdesErrorRate lane above s)

/-! ### Accesses and access faults (R11, R13, R22) -/

/-- An access by the guest of facet n or, with n = 0xFFFF, by the steward: what the memory map, the plane grant and Table
1.10 list is served, the rest refused, counted and logged. -/
def opAccessFault (n : Nat) (access : AccessAt) (s : State) : State :=
  match access with
  | .memory addr kind =>
    if n = 0xFFFF then s.when s.stewardUp fun s => s.stewardAccess addr kind
    else s.when (s.guest n) fun s => s.guestAccess n addr kind
  | .window offset => s.when (s.guest n) fun s => s.readWindow n offset

def execAccessFault (n : Nat) (addr : Nat) (kind : Nat) (window : Bool) (s : State) : Host.Outcome State Fault Refusal :=
  checked (.accessFault n addr kind window) (opAccessFault n (accessAt addr kind window) s)

/-! ### The security engine (R432 to R443) -/

/-- A tamper sensor fires, with main power or without (R440). -/
def opTamperEvent (sensors : Nat) (s : State) : State :=
  s.when (s.domOn 0) fun s =>
    let s1 := { s with sec := s.sec.tamper sensors s.time.rtcNow }
    if s.sec.keyStoreEmpty || !(s.domOn 2 && s.supplied && !s.boot.held && decide (1 ≤ s.boot.phase)) then s1
    else ({ s1 with sec := { s1.sec with partnerState := 0 } } : State).zeroised sensors

def execTamperEvent (sensors : Nat) (s : State) : Host.Outcome State Fault Refusal :=
  checked (.tamperEvent sensors) (opTamperEvent sensors s)

/-- The next queued report is signed, and the request that waits for it answered (R432, R435). -/
def opReportSigned (s : State) : State :=
  s.when (s.stewardUp && decide (0 < s.sec.tokens) && !s.sec.seed.isEmpty) fun s =>
    match nextRequest s.sec.queue with
    | none => s
    | some (sess, _) =>
      let t := s.signNext
      if sess = partnerSlot then t else t.completeDue sess t.reply.code []

def execReportSigned (s : State) : Host.Outcome State Fault Refusal := checked .reportSigned (opReportSigned s)

/-- The signing bucket gains a token (R433). -/
def opTokenGain (s : State) : State :=
  s.when (s.domOn 2) fun s => { s with sec := { s.sec with tokens := Nat.min 16 (s.sec.tokens + 1) } }

def execTokenGain (s : State) : Host.Outcome State Fault Refusal := checked .tokenGain (opTokenGain s)

/-- 4 h without a request (R443). -/
def opDebugPortTimeout (s : State) : State := s.when (s.domOn 2) fun s => { s with sec := { s.sec with debugOpen := false } }

def execDebugPortTimeout (s : State) : Host.Outcome State Fault Refusal := checked .debugPortTimeout (opDebugPortTimeout s)

/-- A training of the mirror link, or a reset of either module (R436). -/
def opIdentityExchange (s : State) : State := s.when (s.running && s.pair.trained) fun s => s.startExchange true

def execIdentityExchange (s : State) : Host.Outcome State Fault Refusal := checked .identityExchange (opIdentityExchange s)

def opIdentityReportReceived (data : ByteList) (s : State) : State := s.when s.running fun s => s.takeReport data

def execIdentityReportReceived (data : ByteList) (s : State) : Host.Outcome State Fault Refusal :=
  checked (.identityReportReceived data) (opIdentityReportReceived data s)

end Sys2Proof.Machine
end

