-- ==== Sys2Proof/Machine/Boot.lean ====
section
/-! DEFINITION. Meanings of the commands of start-up, resets and verification (chapter 3), and of the grid tick. -/

namespace Sys2Proof.Machine

/-! ### Start-up phases (Table 3.1) -/

/-- The boot ROM self-test passes, and the PD0 tamper state and boot record have been read. -/
def opBootRom (s : State) : State := s.when (s.inPhase 1) fun s => s.endPhase 1

def execBootRom (s : State) : Host.Outcome State Fault Refusal := checked .bootRom (opBootRom s)

/-- Phase 2 (R59, R60); `sigA` and `sigB` tell whether the image of each slot reads back as it was written. -/
def opSecureBoot (sigA sigB : Bool) (s : State) : State :=
  s.when (s.inPhase 2 && !s.stuck) fun s => s.secureBoot sigA sigB

def execSecureBoot (sigA : Bool) (sigB : Bool) (s : State) : Host.Outcome State Fault Refusal :=
  checked (.secureBoot sigA sigB) (opSecureBoot sigA sigB s)

/-- The key store is unlocked, or found empty (R61). -/
def opKeyStoreUnlock (s : State) : State := s.when (s.inPhase 3) fun s => s.endPhase 3

def execKeyStoreUnlock (s : State) : Host.Outcome State Fault Refusal := checked .keyStoreUnlock (opKeyStoreUnlock s)

/-- Phase 4: the log is prepared, and the dictionary served; `crcOk` tells whether every held record passes its CRC. -/
def opStewardStart (crcOk : Bool) (s : State) : State :=
  s.when (s.inPhase 4) fun s => (s.startLog crcOk).endPhase 4

def execStewardStart (crcOk : Bool) (s : State) : Host.Outcome State Fault Refusal :=
  checked (.stewardStart crcOk) (opStewardStart crcOk s)

/-- Phase 5; `activeOk` and `markedOk` tell whether the active and the marked image read back as they were written and pass
the checks of their own format. -/
def opConfigurationLoad (activeOk markedOk : Bool) (s : State) : State :=
  s.when (s.inPhase 5 && !s.boot.cfgBad) fun s => s.loadConfig activeOk markedOk

def execConfigurationLoad (activeOk : Bool) (markedOk : Bool) (s : State) : Host.Outcome State Fault Refusal :=
  checked (.configurationLoad activeOk markedOk) (opConfigurationLoad activeOk markedOk s)

/-- The wait elapses before lock (R62): free-running, or a wait until lock, with a record each time it elapses again, whose
type and contents the spec does not give (log 16). -/
def opTimeAcquisitionWaitExpired (s : State) : State :=
  s.when (s.inPhase 6) fun s =>
    if s.regN 0xC001 2 = 0 then s.endPhase 6
    else if s.boot.waited then (s.logRec 0x0303 1 noFacet 0 0 [byteOf s.free]).nextFree
    else s.setBoot fun b => { b with waited := true }

def execTimeAcquisitionWaitExpired (s : State) : Host.Outcome State Fault Refusal :=
  checked .timeAcquisitionWaitExpired (opTimeAcquisitionWaitExpired s)

/-- Phase 7 reads PEER_PRESENT_N and the handshake lines, on a module whose role is undecided; after a self-fence it stays
undecided (R352). -/
def opRoleDecision (lines : Lines) (s : State) : State :=
  s.when (s.inPhase 7 && s.pair.role == 0 && !s.pair.selfFenced) fun s => s.decideRole lines

def execRoleDecision (lines : Lines) (s : State) : Host.Outcome State Fault Refusal :=
  checked (.roleDecision lines) (opRoleDecision lines s)

def opMirrorLinkTrainingTimeout (s : State) : State :=
  s.when (s.running && decide (7 ≤ s.boot.phase)) State.trainingTimeout

def execMirrorLinkTrainingTimeout (s : State) : Host.Outcome State Fault Refusal :=
  checked .mirrorLinkTrainingTimeout (opMirrorLinkTrainingTimeout s)

/-- The first grid tick of the next second (R64, R193). -/
def opLensStart (s : State) : State :=
  s.when (s.inPhase 8 && s.domOn 7 && s.lens.state == 1) fun s => (s.advanceTo (1000000000 * s.lens.startAt)).lensStart

def execLensStart (s : State) : Host.Outcome State Fault Refusal := checked .lensStart (opLensStart s)

/-- Phase 8 exits: the Lens seals rows and the units behind it run. -/
def opProtectionStart (s : State) : State := s.when (s.inPhase 8 && s.lens.state == 2) State.protectionRuns

def execProtectionStart (s : State) : Host.Outcome State Fault Refusal := checked .protectionStart (opProtectionStart s)

/-- The launches of phase 9 (R65). -/
def opFacetAutostart (s : State) : State :=
  s.when (s.inPhase 9 && !s.boot.launched) fun s => (s.autostart.setBoot fun b => { b with launched := true }).phase9

def execFacetAutostart (s : State) : Host.Outcome State Fault Refusal := checked .facetAutostart (opFacetAutostart s)

/-! ### Resets (R66) -/

/-- The steward runs code: phase 1 has begun and no reset holds it. -/
def State.executing (s : State) : Bool := s.domOn 2 && s.supplied && !s.boot.held && decide (1 ≤ s.boot.phase)

/-- The steward watchdog: a last-gasp record, and a reset of class 3. -/
def opStewardWatchdogExpiry (s : State) : State :=
  s.when s.executing fun s => (s.lastGasp 1 0).resetNow 3 false

def execStewardWatchdogExpiry (s : State) : Host.Outcome State Fault Refusal :=
  checked .stewardWatchdogExpiry (opStewardWatchdogExpiry s)

/-- An uncorrectable error in steward private memory, or a cross-check failure of a steward core: class 4. -/
def opFatalError (_crossCheck : Bool) (s : State) : State :=
  s.when s.executing fun s => (s.lastGasp 2 0).resetNow 4 false

def execFatalError (crossCheck : Bool) (s : State) : Host.Outcome State Fault Refusal :=
  checked (.fatalError crossCheck) (opFatalError crossCheck s)

/-! ### Verification and trial (R70, R72, R79) -/

/-- `result` is 0, 0x0E03 or 0x0E05 of the checks that read the image's own format; signature, digest and floor are checked
here (R59). -/
def opFirmwareVerificationDone (result : Nat) (hdr : FwHeader) (s : State) : State :=
  s.when (s.serves 8 && s.boot.inst == 2) fun s => s.instVerified result hdr

def execFirmwareVerificationDone (result : Nat) (hdr : FwHeader) (s : State) : Host.Outcome State Fault Refusal :=
  checked (.firmwareVerificationDone result hdr) (opFirmwareVerificationDone result hdr s)

/-- An image whose tick mirror worst case exceeds the budget fails with 0x0A01 (R367). -/
def opConfigurationVerificationDone (result : Nat) (img : CfgImage) (s : State) : State :=
  s.when (s.stewardUp && s.boot.pend == 2) fun s =>
    s.cfgVerified (if result = 0 ∧ imageOver img = true then 0x0A01 else result) img

def execConfigurationVerificationDone (result : Nat) (img : CfgImage) (s : State) : Host.Outcome State Fault Refusal :=
  checked (.configurationVerificationDone result img) (opConfigurationVerificationDone result img s)

/-- Protection has run for 0xC011:03; 0 s disables the automatic commit. -/
def opTrialPeriodExpired (s : State) : State :=
  s.when (s.stewardUp && s.boot.trialSince.isSome && s.regN 0xC011 3 != 0) State.commitTrial

def execTrialPeriodExpired (s : State) : Host.Outcome State Fault Refusal := checked .trialPeriodExpired (opTrialPeriodExpired s)

/-! ### The grid (R173) -/

def opGridTick (s : State) : State := s.when (s.running && s.domOn 8) State.gridTick

def execGridTick (s : State) : Host.Outcome State Fault Refusal := checked .gridTick (opGridTick s)

end Sys2Proof.Machine
end

