-- ==== Sys2Proof/Machine/Pair.lean ====
section
/-! DEFINITION. Meanings of the commands of the redundant pair (chapter 14). -/

namespace Sys2Proof.Machine

/-! ### Fitness, blinks and lines (R354 to R359) -/

/-- The mirror link engine runs. -/
def State.engineUp (s : State) : Bool := s.domOn 8 && s.supplied && decide (4 ≤ s.boot.phase)

/-- Every unit has answered one of the last two probes, which lie 10 µs apart: within 20 µs (R356). -/
def opLivenessProbe (answers : UnitBits) (s : State) : State :=
  s.when s.engineUp fun s =>
    let p := s.pair.probe
    let lps := (List.range 16).all fun k => answers.processors.getD k false || p.processors.getD k false
    let fit := (answers.lens || p.lens) && (answers.phasor || p.phasor) && (answers.summation || p.summation) &&
      (answers.lanes || p.lanes) && (answers.goose || p.goose) && lps
    s.setPair fun x => { x with fit := fit, probe := answers }

def execLivenessProbe (answers : UnitBits) (s : State) : Host.Outcome State Fault Refusal :=
  checked (.livenessProbe answers) (opLivenessProbe answers s)

/-- A fit module sends a blink (R356, R358). -/
def opBlinkTransmit (s : State) : State := s.when s.fitNow fun s => s.sendBlink false false

def execBlinkTransmit (s : State) : Host.Outcome State Fault Refusal := checked .blinkTransmit (opBlinkTransmit s)

/-- A swap made for an orderly reset ends with the reset once the partner is LIT (R69). -/
def State.resetAfterSwap (s : State) : State :=
  if s.boot.swapThenReset && !s.lit && s.pair.partnerRole == 1 then s.resetNow 5 false else s

/-- A blink arrives, stamped on the own time base (R358, R363), with the lines as read. -/
def opBlinkReceived (b : Blink) (lines : Lines) (s : State) : State :=
  s.when s.running fun s => ((s.advanceTo b.arrival).blinkIn b lines).resetAfterSwap

def execBlinkReceived (b : Blink) (lines : Lines) (s : State) : Host.Outcome State Fault Refusal :=
  checked (.blinkReceived b lines) (opBlinkReceived b lines s)

def opBlinkMissed (lines : Lines) (s : State) : State :=
  s.when (s.running && s.pair.partnerAt.isSome) fun s => s.blinkMissed lines

def execBlinkMissed (lines : Lines) (s : State) : Host.Outcome State Fault Refusal :=
  checked (.blinkMissed lines) (opBlinkMissed lines s)

/-- PEER_PRESENT_N changes: read in PD1. -/
def opPeerPresentChange (present : Bool) (lines : Lines) (s : State) : State :=
  s.when (s.domOn 1) fun s => s.peerChange present lines

def execPeerPresentChange (present : Bool) (lines : Lines) (s : State) : Host.Outcome State Fault Refusal :=
  checked (.peerPresentChange present lines) (opPeerPresentChange present lines s)

/-- The sets disagree for 3 cycles, or set `set` contradicts the blinks (R354). -/
def opHandshakeSetFault (_set : Nat) (s : State) : State := s.when s.running State.setFaulted

def execHandshakeSetFault (set : Nat) (s : State) : Host.Outcome State Fault Refusal :=
  checked (.handshakeSetFault set) (opHandshakeSetFault set s)

/-- No blink has left for 110 µs: the handshake logic in PD1 drops ownership, even with the steward stopped (R356). -/
def opSelfFence (s : State) : State :=
  s.when (s.domOn 1 && s.pair.own) fun s => (s.release false 0).setPair fun p => { p with selfFenced := true }

def execSelfFence (s : State) : Host.Outcome State Fault Refusal := checked .selfFence (opSelfFence s)

/-- 4 µs and 27 µs after a release (R357). -/
def opReleaseSwitchesOpen (s : State) : State := s.when (s.domOn 1) State.openSwitches

def execReleaseSwitchesOpen (s : State) : Host.Outcome State Fault Refusal :=
  checked .releaseSwitchesOpen (opReleaseSwitchesOpen s)

def opFence (s : State) : State := s.when (s.domOn 8) State.fence

def execFence (s : State) : Host.Outcome State Fault Refusal := checked .fence (opFence s)

/-- The steward sends a blink over the station network to the bound partner's address (R359). -/
def opStationBlinkTransmit (s : State) : State :=
  s.when (s.stewardUp && decide (7 ≤ s.boot.phase) && s.domOn 8) State.sendStationBlink

def execStationBlinkTransmit (s : State) : Host.Outcome State Fault Refusal :=
  checked .stationBlinkTransmit (opStationBlinkTransmit s)

def opStationBlinkReceived (b : Blink) (s : State) : State := s.when s.running fun s => s.stationBlinkIn b

def execStationBlinkReceived (b : Blink) (s : State) : Host.Outcome State Fault Refusal :=
  checked (.stationBlinkReceived b) (opStationBlinkReceived b s)

def opStationBlinkLost (s : State) : State := s.when s.running State.stationBlinkLost

def execStationBlinkLost (s : State) : Host.Outcome State Fault Refusal := checked .stationBlinkLost (opStationBlinkLost s)

/-! ### Mirror lanes (R360, R363) -/

/-- Block lock of the lanes as it stands now. -/
def opLaneMove (lane0 lane1 : Bool) (s : State) : State := s.when s.stewardUp fun s => s.lanesAre lane0 lane1

def execLaneMove (lane0 : Bool) (lane1 : Bool) (s : State) : Host.Outcome State Fault Refusal :=
  checked (.laneMove lane0 lane1) (opLaneMove lane0 lane1 s)

/-- The test frame of the spare lane, with its outcome. -/
def opSpareLaneTestFrame (ok : Bool) (s : State) : State :=
  s.when s.running fun s => (s.setCause 18 (!ok)).testRan 6 (if ok then 1 else 2) (if ok then 0xFFFF else 1 - s.pair.lane) 0

def execSpareLaneTestFrame (ok : Bool) (s : State) : Host.Outcome State Fault Refusal :=
  checked (.spareLaneTestFrame ok) (opSpareLaneTestFrame ok s)

/-- Half the round trip is the lane delay. -/
def opLinkMeasurement (lane roundTrip : Nat) (s : State) : State :=
  s.when s.running fun s => s.setPair fun p => { p with laneDelay := mapPut lane (roundTrip / 2) p.laneDelay }

def execLinkMeasurement (lane : Nat) (roundTrip : Nat) (s : State) : Host.Outcome State Fault Refusal :=
  checked (.linkMeasurement lane roundTrip) (opLinkMeasurement lane roundTrip s)

/-! ### Mirror and first synchronisation (R364 to R371) -/

/-- The tick mirror of the newest row. -/
def opTickMirror (s : State) : State := s.when (s.running && s.mirrorTo && s.lens.newest.isSome) State.sendTick

def execTickMirror (s : State) : Host.Outcome State Fault Refusal := checked .tickMirror (opTickMirror s)

/-- Checked on every module (R23); a LIT discards what it does not take (R22). -/
def opTickMirrorApplied (m : MirrorMsg) (s : State) : State := s.when s.running fun s => s.takeTick m

def execTickMirrorApplied (m : MirrorMsg) (s : State) : Host.Outcome State Fault Refusal :=
  checked (.tickMirrorApplied m) (opTickMirrorApplied m s)

def opLateMirrorExpiry (s : State) : State := s.setPair fun p => { p with lateMirror := false }

def execLateMirrorExpiry (s : State) : Host.Outcome State Fault Refusal := checked .lateMirrorExpiry (opLateMirrorExpiry s)

def opBulkMirror (s : State) : State := s.when (s.running && s.mirrorTo) fun s => s.sendBulk false

def execBulkMirror (s : State) : Host.Outcome State Fault Refusal := checked .bulkMirror (opBulkMirror s)

def opBulkMirrorReceived (m : MirrorMsg) (s : State) : State := s.when s.running fun s => s.takeBulk false m

def execBulkMirrorReceived (m : MirrorMsg) (s : State) : Host.Outcome State Fault Refusal :=
  checked (.bulkMirrorReceived m) (opBulkMirrorReceived m s)

/-- The LIT sends everything in bulk, or a standby applies `m`. -/
def opFirstSynchronisation (m : MirrorMsg) (s : State) : State :=
  s.when s.running fun s => if s.lit then (if s.mirrorTo then s.sendBulk true else s) else s.takeSync m

def execFirstSynchronisation (m : MirrorMsg) (s : State) : Host.Outcome State Fault Refusal :=
  checked (.firstSynchronisation m) (opFirstSynchronisation m s)

/-- OVERLAY stays set while the partner's digest or its forward count differs. -/
def State.overlayBehind (s : State) : Bool :=
  match s.pair.partner with
  | some b => (b.fingerprint == s.access.fingerprint && b.overlayDigest != overlayDigest s.access.overlay) ||
      decide (s.access.applied < b.forwardCount)
  | none => false

/-- The whole overlay of the LIT as one change: entries that it does not hold return to their image or default value. -/
def State.takeOverlay (s : State) (m : OverlayMsg) : State :=
  let gone := (s.access.overlay.filter fun p => !m.entries.any fun q => q.1 == p.1).map fun p => (p.1, s.baseValue p.1)
  let s1 := { s with access := { s.access with overlay := mapPutAll m.entries [] } }
  s1.place 255 ((gone ++ m.entries).filter fun p => !heldElsewhere p.1)

/-- A standby applies the overlay, in bulk class, or the missing forwards in their order, in control frames (R371,
Table 14.5). -/
def opOverlayCopy (m : OverlayMsg) (s : State) : State :=
  s.when s.running fun s => s.tagTakes (if m.full then 3 else 4) m.tag fun s =>
    if !((s.pair.role == 2 || s.pair.role == 3) && (s.pair.elig.testBit 5 || s.pair.overlayAsked)) then s
    else
      let s1 := if m.full then s.takeOverlay m else (s.applyItems rowReq m.entries).2
      let s2 := { s1 with access := { s1.access with applied := m.forwardCount }, pair := { s1.pair with overlayAsked := false } }
      s2.setElig 5 s2.overlayBehind

def execOverlayCopy (m : OverlayMsg) (s : State) : Host.Outcome State Fault Refusal :=
  checked (.overlayCopy m) (opOverlayCopy m s)

/-! ### Takeover check and planned swap (R374, R377, R378) -/

/-- OSEL_FB is not high within 0x8001:04. -/
def opTakeoverCheck (s : State) : State :=
  s.when (s.running && s.lit && s.pair.checking && !s.power.oselFb) State.takeoverFails

def execTakeoverCheck (s : State) : Host.Outcome State Fault Refusal := checked .takeoverCheck (opTakeoverCheck s)

def opSwapAcknowledgement (tag : MirrorTag) (unit : Nat) (s : State) : State :=
  s.when s.running fun s => s.tagTakes 5 tag fun s => s.swapAcked unit

def execSwapAcknowledgement (ack : SwapAck) (s : State) : Host.Outcome State Fault Refusal :=
  checked (.swapAcknowledgement ack) (opSwapAcknowledgement ack.tag ack.unit s)

def opSwapTimeout (s : State) : State := s.when s.running State.swapAbandoned

def execSwapTimeout (s : State) : Host.Outcome State Fault Refusal := checked .swapTimeout (opSwapTimeout s)

end Sys2Proof.Machine
end

