-- ==== Sys2Proof/Machine/Writes.lean ====
section
/-! DEFINITION. The meanings of the commands that name one dictionary write each: the write of that entry, with the
checks and the effect of its owning function, by a requester whose role and path suffice. -/

namespace Sys2Proof.Machine

/-- The requester of a command that names a session. -/
def sessReq (sess : Nat) : Requester := { role := 6, who := sess, cabinet := false }

/-- A write that standby management serves too, and the module before the steward serves (R55, R106). -/
def State.rowWriteIO (s : State) (key : Nat) (v : Val) : State :=
  if s.inSequence then s.answer 0x0114
  else s.when (s.stewardUp || s.standbyManaged) fun s => s.inTurn (.write rowReq key v) fun s => s.writeOne rowReq key v

/-! ### Power and start-up (R41, R45, R69 to R79) -/

def opClusterPairOff (d : Nat) (s : State) : State := s.rowWriteIO (ek 0x1802 (d - 2)) (.int 0)

def execClusterPairOff (d : Nat) (s : State) : Host.Outcome State Fault Refusal :=
  checked (.clusterPairOff d) (opClusterPairOff d s)

def opClusterPairOn (d : Nat) (s : State) : State := s.rowWriteIO (ek 0x1802 (d - 2)) (.int 1)

def execClusterPairOn (d : Nat) (s : State) : Host.Outcome State Fault Refusal := checked (.clusterPairOn d) (opClusterPairOn d s)

def opOrderlyReset (s : State) : State := s.rowWrite rowReq (ek 0xC002 1) (.int 1)

def execOrderlyReset (s : State) : Host.Outcome State Fault Refusal := checked .orderlyReset (opOrderlyReset s)

def opForcedReset (s : State) : State := s.rowWrite rowReq (ek 0xC002 2) (.int 1)

def execForcedReset (s : State) : Host.Outcome State Fault Refusal := checked .forcedReset (opForcedReset s)

def opInstallationBegin (sess : Nat) (s : State) : State := s.rowWrite (sessReq sess) (ek 0xC010 1) (.int 1)

def execInstallationBegin (sess : Nat) (s : State) : Host.Outcome State Fault Refusal :=
  checked (.installationBegin sess) (opInstallationBegin sess s)

def opInstallationAbort (sess : Nat) (s : State) : State := s.rowWrite (sessReq sess) (ek 0xC010 1) (.int 0)

def execInstallationAbort (sess : Nat) (s : State) : Host.Outcome State Fault Refusal :=
  checked (.installationAbort sess) (opInstallationAbort sess s)

def opInstallationVerify (sess : Nat) (s : State) : State := s.rowWrite (sessReq sess) (ek 0xC010 1) (.int 2)

def execInstallationVerify (sess : Nat) (s : State) : Host.Outcome State Fault Refusal :=
  checked (.installationVerify sess) (opInstallationVerify sess s)

def opTrialSlot (n : Nat) (s : State) : State := s.rowWrite rowReq (ek 0xC011 1) (.int n)

def execTrialSlot (n : Nat) (s : State) : Host.Outcome State Fault Refusal := checked (.trialSlot n) (opTrialSlot n s)

def opCommit (s : State) : State := s.rowWrite rowReq (ek 0xC011 2) (.int 1)

def execCommit (s : State) : Host.Outcome State Fault Refusal := checked .commit (opCommit s)

def opConfigurationBegin (sess : Nat) (s : State) : State := s.rowWrite (sessReq sess) (ek 0xC030 1) (.int 1)

def execConfigurationBegin (sess : Nat) (s : State) : Host.Outcome State Fault Refusal :=
  checked (.configurationBegin sess) (opConfigurationBegin sess s)

def opConfigurationAbort (sess : Nat) (s : State) : State := s.rowWrite (sessReq sess) (ek 0xC030 1) (.int 0)

def execConfigurationAbort (sess : Nat) (s : State) : Host.Outcome State Fault Refusal :=
  checked (.configurationAbort sess) (opConfigurationAbort sess s)

def opConfigurationVerify (sess : Nat) (s : State) : State := s.rowWrite (sessReq sess) (ek 0xC030 1) (.int 2)

def execConfigurationVerify (sess : Nat) (s : State) : Host.Outcome State Fault Refusal :=
  checked (.configurationVerify sess) (opConfigurationVerify sess s)

def opActivatePending (s : State) : State := s.rowWrite rowReq (ek 0xC030 1) (.int 3)

def execActivatePending (s : State) : Host.Outcome State Fault Refusal := checked .activatePending (opActivatePending s)

def opActivatePrevious (s : State) : State := s.rowWrite rowReq (ek 0xC030 1) (.int 4)

def execActivatePrevious (s : State) : Host.Outcome State Fault Refusal := checked .activatePrevious (opActivatePrevious s)

/-! ### Lens, summation groups, trip lanes, GOOSE (chapters 7 to 9) -/

def opStreamEnable (n : Nat) (s : State) : State := s.rowWrite rowReq (ek (0x4000 + n) 1) (.int 1)

def execStreamEnable (n : Nat) (s : State) : Host.Outcome State Fault Refusal := checked (.streamEnable n) (opStreamEnable n s)

def opStreamDisable (n : Nat) (s : State) : State := s.rowWrite rowReq (ek (0x4000 + n) 1) (.int 0)

def execStreamDisable (n : Nat) (s : State) : Host.Outcome State Fault Refusal := checked (.streamDisable n) (opStreamDisable n s)

def opStreamClearCounters (n : Nat) (s : State) : State := s.rowWrite rowReq (ek (0x4000 + n) 0x23) (.int 1)

def execStreamClearCounters (n : Nat) (s : State) : Host.Outcome State Fault Refusal :=
  checked (.streamClearCounters n) (opStreamClearCounters n s)

def opLensClearTotals (s : State) : State := s.rowWrite rowReq (ek 0x47F0 0x11) (.int 1)

def execLensClearTotals (s : State) : Host.Outcome State Fault Refusal := checked .lensClearTotals (opLensClearTotals s)

def opSummationGroupEnable (g : Nat) (s : State) : State := s.rowWrite rowReq (ek (0x4400 + g) 1) (.int 1)

def execSummationGroupEnable (g : Nat) (s : State) : Host.Outcome State Fault Refusal :=
  checked (.summationGroupEnable g) (opSummationGroupEnable g s)

def opSummationGroupDisable (g : Nat) (s : State) : State := s.rowWrite rowReq (ek (0x4400 + g) 1) (.int 0)

def execSummationGroupDisable (g : Nat) (s : State) : Host.Outcome State Fault Refusal :=
  checked (.summationGroupDisable g) (opSummationGroupDisable g s)

def opGroupClear (g : Nat) (s : State) : State := s.rowWrite rowReq (ek (0x4400 + g) 0x0C) (.int 1)

def execGroupClear (g : Nat) (s : State) : Host.Outcome State Fault Refusal := checked (.groupClear g) (opGroupClear g s)

def opLaneEnable (l : Nat) (s : State) : State := s.rowWrite rowReq (ek (0x4800 + l) 1) (.int 1)

def execLaneEnable (l : Nat) (s : State) : Host.Outcome State Fault Refusal := checked (.laneEnable l) (opLaneEnable l s)

def opLaneDisable (l : Nat) (s : State) : State := s.rowWrite rowReq (ek (0x4800 + l) 1) (.int 0)

def execLaneDisable (l : Nat) (s : State) : Host.Outcome State Fault Refusal := checked (.laneDisable l) (opLaneDisable l s)

def opResetLatch (l : Nat) (s : State) : State := s.rowWrite rowReq (ek (0x4800 + l) 0x11) (.int 1)

def execResetLatch (l : Nat) (s : State) : Host.Outcome State Fault Refusal := checked (.resetLatch l) (opResetLatch l s)

def opPublisherEnable (p : Nat) (s : State) : State := s.rowWrite rowReq (ek (0x5800 + p) 1) (.int 1)

def execPublisherEnable (p : Nat) (s : State) : Host.Outcome State Fault Refusal :=
  checked (.publisherEnable p) (opPublisherEnable p s)

def opPublisherDisable (p : Nat) (s : State) : State := s.rowWrite rowReq (ek (0x5800 + p) 1) (.int 0)

def execPublisherDisable (p : Nat) (s : State) : Host.Outcome State Fault Refusal :=
  checked (.publisherDisable p) (opPublisherDisable p s)

def opSubscriptionEnable (n : Nat) (s : State) : State := s.rowWrite rowReq (ek (0x6000 + n) 1) (.int 1)

def execSubscriptionEnable (n : Nat) (s : State) : Host.Outcome State Fault Refusal :=
  checked (.subscriptionEnable n) (opSubscriptionEnable n s)

def opSubscriptionDisable (n : Nat) (s : State) : State := s.rowWrite rowReq (ek (0x6000 + n) 1) (.int 0)

def execSubscriptionDisable (n : Nat) (s : State) : Host.Outcome State Fault Refusal :=
  checked (.subscriptionDisable n) (opSubscriptionDisable n s)

def opSubscriptionClearCounters (n : Nat) (s : State) : State := s.rowWrite rowReq (ek (0x6000 + n) 0x2C) (.int 1)

def execSubscriptionClearCounters (n : Nat) (s : State) : Host.Outcome State Fault Refusal :=
  checked (.subscriptionClearCounters n) (opSubscriptionClearCounters n s)

/-! ### Scheme logic and stations (chapters 10 and 11) -/

def opProgramStart (p : Nat) (s : State) : State := s.rowWrite rowReq (ek (0x5400 + p) 1) (.int 1)

def execProgramStart (p : Nat) (s : State) : Host.Outcome State Fault Refusal := checked (.programStart p) (opProgramStart p s)

def opProgramStop (p : Nat) (s : State) : State := s.rowWrite rowReq (ek (0x5400 + p) 1) (.int 0)

def execProgramStop (p : Nat) (s : State) : Host.Outcome State Fault Refusal := checked (.programStop p) (opProgramStop p s)

def opProgramClear (p : Nat) (s : State) : State := s.rowWrite rowReq (ek (0x5400 + p) 0x2F) (.int 1)

def execProgramClear (p : Nat) (s : State) : Host.Outcome State Fault Refusal := checked (.programClear p) (opProgramClear p s)

def opExchangeSwitch (p : Nat) (s : State) : State := s.rowWrite rowReq (ek (0x5400 + p) 0x23) (.int 1)

def execExchangeSwitch (p : Nat) (s : State) : Host.Outcome State Fault Refusal :=
  checked (.exchangeSwitch p) (opExchangeSwitch p s)

def opExchangeDiscard (p : Nat) (s : State) : State := s.rowWrite rowReq (ek (0x5400 + p) 0x23) (.int 2)

def execExchangeDiscard (p : Nat) (s : State) : Host.Outcome State Fault Refusal :=
  checked (.exchangeDiscard p) (opExchangeDiscard p s)

def opStationEnable (n : Nat) (s : State) : State := s.rowWrite rowReq (ek (0xB040 + n) 1) (.int 1)

def execStationEnable (n : Nat) (s : State) : Host.Outcome State Fault Refusal := checked (.stationEnable n) (opStationEnable n s)

def opStationDisable (n : Nat) (s : State) : State := s.rowWrite rowReq (ek (0xB040 + n) 1) (.int 0)

def execStationDisable (n : Nat) (s : State) : Host.Outcome State Fault Refusal :=
  checked (.stationDisable n) (opStationDisable n s)

def opStationClear (n : Nat) (s : State) : State := s.rowWrite rowReq (ek (0xB040 + n) 0x11) (.int 1)

def execStationClear (n : Nat) (s : State) : Host.Outcome State Fault Refusal := checked (.stationClear n) (opStationClear n s)

/-! ### Facets (chapter 12) -/

def opFacetDefine (n : Nat) (s : State) : State := s.rowWrite rowReq (ek (0x5000 + n) 1) (.int 1)

def execFacetDefine (n : Nat) (s : State) : Host.Outcome State Fault Refusal := checked (.facetDefine n) (opFacetDefine n s)

def opFacetDelete (n : Nat) (s : State) : State := s.rowWrite rowReq (ek (0x5000 + n) 1) (.int 0)

def execFacetDelete (n : Nat) (s : State) : Host.Outcome State Fault Refusal := checked (.facetDelete n) (opFacetDelete n s)

def opLaunch (n : Nat) (s : State) : State := s.rowWrite rowReq (ek (0x5000 + n) 2) (.int 1)

def execLaunch (n : Nat) (s : State) : Host.Outcome State Fault Refusal := checked (.launch n) (opLaunch n s)

def opFreeze (n : Nat) (s : State) : State := s.rowWrite rowReq (ek (0x5000 + n) 2) (.int 2)

def execFreeze (n : Nat) (s : State) : Host.Outcome State Fault Refusal := checked (.freeze n) (opFreeze n s)

def opThaw (n : Nat) (s : State) : State := s.rowWrite rowReq (ek (0x5000 + n) 2) (.int 3)

def execThaw (n : Nat) (s : State) : Host.Outcome State Fault Refusal := checked (.thaw n) (opThaw n s)

def opSave (n : Nat) (s : State) : State := s.rowWrite rowReq (ek (0x5000 + n) 2) (.int 4)

def execSave (n : Nat) (s : State) : Host.Outcome State Fault Refusal := checked (.save n) (opSave n s)

def opRestore (n : Nat) (s : State) : State := s.rowWrite rowReq (ek (0x5000 + n) 2) (.int 5)

def execRestore (n : Nat) (s : State) : Host.Outcome State Fault Refusal := checked (.restore n) (opRestore n s)

def opFacetReset (n : Nat) (s : State) : State := s.rowWrite rowReq (ek (0x5000 + n) 2) (.int 6)

def execFacetReset (n : Nat) (s : State) : Host.Outcome State Fault Refusal := checked (.facetReset n) (opFacetReset n s)

def opFacetClear (n : Nat) (s : State) : State := s.rowWrite rowReq (ek (0x5000 + n) 0x23) (.int 1)

def execFacetClear (n : Nat) (s : State) : Host.Outcome State Fault Refusal := checked (.facetClear n) (opFacetClear n s)

def opShareChange (n sub v : Nat) (s : State) : State := s.rowWrite rowReq (ek (0x5000 + n) sub) (.int v)

def execShareChange (n : Nat) (sub : Nat) (v : Nat) (s : State) : Host.Outcome State Fault Refusal :=
  checked (.shareChange n sub v) (opShareChange n sub v s)

/-! ### Disturbance capture (chapter 13) -/

def opArm (r : Nat) (s : State) : State := s.rowWrite rowReq (ek (0x7000 + r) 1) (.int 1)

def execArm (r : Nat) (s : State) : Host.Outcome State Fault Refusal := checked (.arm r) (opArm r s)

def opDisarm (r : Nat) (s : State) : State := s.rowWrite rowReq (ek (0x7000 + r) 1) (.int 0)

def execDisarm (r : Nat) (s : State) : Host.Outcome State Fault Refusal := checked (.disarm r) (opDisarm r s)

def opManualTrigger (r : Nat) (s : State) : State := s.rowWrite rowReq (ek (0x7000 + r) 0x14) (.int 1)

def execManualTrigger (r : Nat) (s : State) : Host.Outcome State Fault Refusal := checked (.manualTrigger r) (opManualTrigger r s)

def opDeleteSelected (s : State) : State := s.rowWrite rowReq (ek 0x7000 0x89) (.int 1)

def execDeleteSelected (s : State) : Host.Outcome State Fault Refusal := checked .deleteSelected (opDeleteSelected s)

def opDeleteExported (s : State) : State := s.rowWrite rowReq (ek 0x7000 0x89) (.int 2)

def execDeleteExported (s : State) : Host.Outcome State Fault Refusal := checked .deleteExported (opDeleteExported s)

/-! ### The pair (chapter 14) -/

def opPlannedSwap (s : State) : State := s.rowWrite rowReq (ek 0x8002 1) (.int 1)

def execPlannedSwap (s : State) : Host.Outcome State Fault Refusal := checked .plannedSwap (opPlannedSwap s)

def opClearTakeoverFault (s : State) : State := s.rowWrite rowReq (ek 0x8002 2) (.int 1)

def execClearTakeoverFault (s : State) : Host.Outcome State Fault Refusal := checked .clearTakeoverFault (opClearTakeoverFault s)

def opLeaveSafeHold (s : State) : State := s.rowWrite rowReq (ek 0x8002 3) (.int 1)

def execLeaveSafeHold (s : State) : Host.Outcome State Fault Refusal := checked .leaveSafeHold (opLeaveSafeHold s)

def opResynchronise (s : State) : State := s.rowWrite rowReq (ek 0x8002 5) (.int 1)

def execResynchronise (s : State) : Host.Outcome State Fault Refusal := checked .resynchronise (opResynchronise s)

def opPairClear (s : State) : State := s.rowWrite rowReq (ek 0x8000 0x0D) (.int 1)

def execPairClear (s : State) : Host.Outcome State Fault Refusal := checked .pairClear (opPairClear s)

/-! ### Log and health (chapter 15) -/

def opClearLog (sess : Nat) (s : State) : State := s.rowWrite (sessReq sess) (ek 0x9000 0x0A) (.int 1)

def execClearLog (sess : Nat) (s : State) : Host.Outcome State Fault Refusal := checked (.clearLog sess) (opClearLog sess s)

def opHealthAcknowledge (mask : Nat) (s : State) : State := s.rowWrite rowReq (ek 0x9010 5) (.int mask)

def execHealthAcknowledge (mask : Nat) (s : State) : Host.Outcome State Fault Refusal :=
  checked (.healthAcknowledge mask) (opHealthAcknowledge mask s)

/-! ### The cabinet bus (chapter 16) -/

def opRecoverFromBusOff (c : Nat) (s : State) : State := s.rowWrite rowReq (ek (0xB000 + c) 0x10) (.int 1)

def execRecoverFromBusOff (c : Nat) (s : State) : Host.Outcome State Fault Refusal :=
  checked (.recoverFromBusOff c) (opRecoverFromBusOff c s)

def opRestrictedOperationOn (c : Nat) (s : State) : State := s.rowWrite rowReq (ek (0xB000 + c) 0x0E) (.int 1)

def execRestrictedOperationOn (c : Nat) (s : State) : Host.Outcome State Fault Refusal :=
  checked (.restrictedOperationOn c) (opRestrictedOperationOn c s)

def opRestrictedOperationOff (c : Nat) (s : State) : State := s.rowWrite rowReq (ek (0xB000 + c) 0x0E) (.int 0)

def execRestrictedOperationOff (c : Nat) (s : State) : Host.Outcome State Fault Refusal :=
  checked (.restrictedOperationOff c) (opRestrictedOperationOff c s)

def opControllerEnable (c : Nat) (s : State) : State := s.rowWrite rowReq (ek (0xB000 + c) 1) (.int 1)

def execControllerEnable (c : Nat) (s : State) : Host.Outcome State Fault Refusal :=
  checked (.controllerEnable c) (opControllerEnable c s)

def opControllerDisable (c : Nat) (s : State) : State := s.rowWrite rowReq (ek (0xB000 + c) 1) (.int 0)

def execControllerDisable (c : Nat) (s : State) : Host.Outcome State Fault Refusal :=
  checked (.controllerDisable c) (opControllerDisable c s)

def opControllerClear (c : Nat) (s : State) : State := s.rowWrite rowReq (ek (0xB000 + c) 0x1F) (.int 1)

def execControllerClear (c : Nat) (s : State) : Host.Outcome State Fault Refusal :=
  checked (.controllerClear c) (opControllerClear c s)

/-! ### Identity, attestation and tamper response (chapter 17) -/

def opAttestationNonce (sess : Nat) (nonce : ByteList) (s : State) : State :=
  s.rowWrite (sessReq sess) (ek 0xA010 1) (.bytes nonce)

def execAttestationNonce (sess : Nat) (nonce : ByteList) (s : State) : Host.Outcome State Fault Refusal :=
  checked (.attestationNonce sess nonce) (opAttestationNonce sess nonce s)

def opUnlockResponse (data : ByteList) (s : State) : State := s.rowWrite (sessReq 8) (ek 0xA040 2) (.bytes data)

def execUnlockResponse (data : ByteList) (s : State) : Host.Outcome State Fault Refusal :=
  checked (.unlockResponse data) (opUnlockResponse data s)

def opLockDebugPort (s : State) : State := s.rowWrite (sessReq 8) (ek 0xA040 4) (.int 1)

def execLockDebugPort (s : State) : Host.Outcome State Fault Refusal := checked .lockDebugPort (opLockDebugPort s)

def opGenerateIdentity (s : State) : State := s.rowWrite (sessReq 8) (ek 0xA050 1) (.int 1)

def execGenerateIdentity (s : State) : Host.Outcome State Fault Refusal := checked .generateIdentity (opGenerateIdentity s)

def opBindReceived (s : State) : State := s.rowWrite rowReq (ek 0xA020 4) (.int 1)

def execBindReceived (s : State) : Host.Outcome State Fault Refusal := checked .bindReceived (opBindReceived s)

def opUnbind (s : State) : State := s.rowWrite rowReq (ek 0xA020 4) (.int 2)

def execUnbind (s : State) : Host.Outcome State Fault Refusal := checked .unbind (opUnbind s)

def opActivatePendingMirrorKey (s : State) : State := s.rowWrite rowReq (ek 0xA020 4) (.int 3)

def execActivatePendingMirrorKey (s : State) : Host.Outcome State Fault Refusal :=
  checked .activatePendingMirrorKey (opActivatePendingMirrorKey s)

def opMirrorKey (data : ByteList) (s : State) : State := s.rowWrite rowReq (ek 0xA020 5) (.bytes data)

def execMirrorKey (data : ByteList) (s : State) : Host.Outcome State Fault Refusal :=
  checked (.mirrorKey data) (opMirrorKey data s)

def opMigrationKey (data : ByteList) (s : State) : State := s.rowWrite rowReq (ek 0xA020 8) (.bytes data)

def execMigrationKey (data : ByteList) (s : State) : Host.Outcome State Fault Refusal :=
  checked (.migrationKey data) (opMigrationKey data s)

def opConfigurationRoot (i : Nat) (data : ByteList) (s : State) : State :=
  s.rowWrite rowReq (ek 0xA001 i) (.bytes data)

def execConfigurationRoot (i : Nat) (data : ByteList) (s : State) : Host.Outcome State Fault Refusal :=
  checked (.configurationRoot i data) (opConfigurationRoot i data s)

/-! ### Commands with measured operands or data -/

/-- A write of 1 to 0x1803:08 with the junction as it reads (R45). -/
def opThermalRestart (junction : Int) (s : State) : State :=
  (s.setPower fun p => { p with junction := junction }).rowWriteIO (ek 0x1803 8) (.int 1)

def execThermalRestart (junction : Int) (s : State) : Host.Outcome State Fault Refusal :=
  checked (.thermalRestart junction) (opThermalRestart junction s)

/-- A segment of a firmware image in RECEIVING (R70). -/
def opFirmwareSegment (sess : Nat) (data : ByteList) (s : State) : State :=
  s.when (s.serves sess) fun s => s.inTurn (.segment sess (ek 0xC010 2) data) fun s => s.rowSegment sess (ek 0xC010 2) data

def execFirmwareSegment (sess : Nat) (data : ByteList) (s : State) : Host.Outcome State Fault Refusal :=
  checked (.firmwareSegment sess data) (opFirmwareSegment sess data s)

/-- A segment of a configuration image (R79). -/
def opConfigurationSegment (sess : Nat) (data : ByteList) (s : State) : State :=
  s.when s.stewardUp fun s => s.inTurn (.segment sess (ek 0xC030 2) data) fun s => s.rowSegment sess (ek 0xC030 2) data

def execConfigurationSegment (sess : Nat) (data : ByteList) (s : State) : Host.Outcome State Fault Refusal :=
  checked (.configurationSegment sess data) (opConfigurationSegment sess data s)

/-- Force ownership, with the handshake lines as read (R353). -/
def opForceOwnership (lines : Lines) (s : State) : State := (s.readLines lines).rowWrite rowReq (ek 0x8002 4) (.int 1)

def execForceOwnership (lines : Lines) (s : State) : Host.Outcome State Fault Refusal :=
  checked (.forceOwnership lines) (opForceOwnership lines s)

/-- A read of the unlock challenge (R443). -/
def opUnlockChallenge (s : State) : State :=
  s.when (s.serves 8) fun s => s.inTurn (.read (sessReq 8) (ek 0xA040 1)) fun s => s.rowRead (sessReq 8) (ek 0xA040 1)

def execUnlockChallenge (s : State) : Host.Outcome State Fault Refusal := checked .unlockChallenge (opUnlockChallenge s)

end Sys2Proof.Machine
end

