-- ==== Sys2Proof/Machine/Dispatch.lean ====
section
/-! DEFINITION. One arm per command: each calls its meaning. -/

namespace Sys2Proof.Machine

def exec (i : Instr) (s : State) : Host.Outcome State Fault Refusal :=
  match i with
  | .slotStrapConflict level => Sys2Proof.Machine.execSlotStrapConflict level s
  | .vinMainUndervoltage mv => Sys2Proof.Machine.execVinMainUndervoltage mv s
  | .vinMainOvervoltageWarning mv => Sys2Proof.Machine.execVinMainOvervoltageWarning mv s
  | .vinMainOvervoltage mv => Sys2Proof.Machine.execVinMainOvervoltage mv s
  | .vinAnaUndervoltage mv => Sys2Proof.Machine.execVinAnaUndervoltage mv s
  | .vinIoLost mv => Sys2Proof.Machine.execVinIoLost mv s
  | .vbatLow mv => Sys2Proof.Machine.execVbatLow mv s
  | .vbatAbsent mv => Sys2Proof.Machine.execVbatAbsent mv s
  | .pwrEnRise junction => Sys2Proof.Machine.execPwrEnRise junction s
  | .thermalWarning junction => Sys2Proof.Machine.execThermalWarning junction s
  | .thermalShutdown junction => Sys2Proof.Machine.execThermalShutdown junction s
  | .thermalRestart junction => Sys2Proof.Machine.execThermalRestart junction s
  | .clusterPairOff d => Sys2Proof.Machine.execClusterPairOff d s
  | .clusterPairOn d => Sys2Proof.Machine.execClusterPairOn d s
  | .domainRampingDone d => Sys2Proof.Machine.execDomainRampingDone d s
  | .domainTestingDone d pass => Sys2Proof.Machine.execDomainTestingDone d pass s
  | .fdoPulseTest driver pass => Sys2Proof.Machine.execFdoPulseTest driver pass s
  | .secureBoot sigA sigB => Sys2Proof.Machine.execSecureBoot sigA sigB s
  | .stewardStart crcOk => Sys2Proof.Machine.execStewardStart crcOk s
  | .configurationLoad activeOk markedOk => Sys2Proof.Machine.execConfigurationLoad activeOk markedOk s
  | .roleDecision lines => Sys2Proof.Machine.execRoleDecision lines s
  | .facetLaunchDeadline n => Sys2Proof.Machine.execFacetLaunchDeadline n s
  | .fatalError crossCheck => Sys2Proof.Machine.execFatalError crossCheck s
  | .installationBegin sess => Sys2Proof.Machine.execInstallationBegin sess s
  | .installationAbort sess => Sys2Proof.Machine.execInstallationAbort sess s
  | .installationVerify sess => Sys2Proof.Machine.execInstallationVerify sess s
  | .firmwareSegment sess data => Sys2Proof.Machine.execFirmwareSegment sess data s
  | .firmwareVerificationDone result hdr => Sys2Proof.Machine.execFirmwareVerificationDone result hdr s
  | .trialSlot n => Sys2Proof.Machine.execTrialSlot n s
  | .configurationBegin sess => Sys2Proof.Machine.execConfigurationBegin sess s
  | .configurationAbort sess => Sys2Proof.Machine.execConfigurationAbort sess s
  | .configurationVerify sess => Sys2Proof.Machine.execConfigurationVerify sess s
  | .configurationSegment sess data => Sys2Proof.Machine.execConfigurationSegment sess data s
  | .configurationVerificationDone result img => Sys2Proof.Machine.execConfigurationVerificationDone result img s
  | .registerWrite tgt => Sys2Proof.Machine.execRegisterWrite tgt s
  | .read m => Sys2Proof.Machine.execRead m s
  | .write m => Sys2Proof.Machine.execWrite m s
  | .writeSet m => Sys2Proof.Machine.execWriteSet m s
  | .describe m => Sys2Proof.Machine.execDescribe m s
  | .lock m => Sys2Proof.Machine.execLock m s
  | .unlock m => Sys2Proof.Machine.execUnlock m s
  | .close m => Sys2Proof.Machine.execClose m s
  | .segInitDown m => Sys2Proof.Machine.execSegInitDown m s
  | .segDown m => Sys2Proof.Machine.execSegDown m s
  | .segEndDown m => Sys2Proof.Machine.execSegEndDown m s
  | .segInitUp m => Sys2Proof.Machine.execSegInitUp m s
  | .segUp m => Sys2Proof.Machine.execSegUp m s
  | .abort m => Sys2Proof.Machine.execAbort m s
  | .dtlsHandshake identity offer => Sys2Proof.Machine.execDtlsHandshake identity offer s
  | .closeNotify sess => Sys2Proof.Machine.execCloseNotify sess s
  | .sessionIdleTimeout sess => Sys2Proof.Machine.execSessionIdleTimeout sess s
  | .lockExpiry first => Sys2Proof.Machine.execLockExpiry first s
  | .transferTimeout sess => Sys2Proof.Machine.execTransferTimeout sess s
  | .forwardedWrite head items => Sys2Proof.Machine.execForwardedWrite head items s
  | .cabinetRead r => Sys2Proof.Machine.execCabinetRead r s
  | .cabinetWrite r => Sys2Proof.Machine.execCabinetWrite r s
  | .cabinetSegmentInitDown r => Sys2Proof.Machine.execCabinetSegmentInitDown r s
  | .cabinetSegmentDown r => Sys2Proof.Machine.execCabinetSegmentDown r s
  | .cabinetSegmentEnd r => Sys2Proof.Machine.execCabinetSegmentEnd r s
  | .cabinetSegmentInitUp r => Sys2Proof.Machine.execCabinetSegmentInitUp r s
  | .cabinetSegmentUp r => Sys2Proof.Machine.execCabinetSegmentUp r s
  | .cabinetAbort r => Sys2Proof.Machine.execCabinetAbort r s
  | .cabinetNodeStateRelease node => Sys2Proof.Machine.execCabinetNodeStateRelease node s
  | .cabinetTransferTimeout node => Sys2Proof.Machine.execCabinetTransferTimeout node s
  | .sync port m => Sys2Proof.Machine.execSync port m s
  | .followUp port m => Sys2Proof.Machine.execFollowUp port m s
  | .announce port m => Sys2Proof.Machine.execAnnounce port m s
  | .pdelayReq port m => Sys2Proof.Machine.execPdelayReq port m s
  | .pdelayResp port m => Sys2Proof.Machine.execPdelayResp port m s
  | .syncTransmit port => Sys2Proof.Machine.execSyncTransmit port s
  | .announceTransmit port => Sys2Proof.Machine.execAnnounceTransmit port s
  | .pdelayReqTransmit port => Sys2Proof.Machine.execPdelayReqTransmit port s
  | .setTime sec ns => Sys2Proof.Machine.execSetTime sec ns s
  | .tpoStart n v => Sys2Proof.Machine.execTpoStart n v s
  | .tpoEdge n => Sys2Proof.Machine.execTpoEdge n s
  | .tpoPulseEnd n => Sys2Proof.Machine.execTpoPulseEnd n s
  | .tpoGrant n owner => Sys2Proof.Machine.execTpoGrant n owner s
  | .captureEdge n => Sys2Proof.Machine.execCaptureEdge n s
  | .oldestStampRead n => Sys2Proof.Machine.execOldestStampRead n s
  | .timeStatusRead f => Sys2Proof.Machine.execTimeStatusRead f s
  | .frameHead h => Sys2Proof.Machine.execFrameHead h s
  | .frameTail port t => Sys2Proof.Machine.execFrameTail port t s
  | .linkDown port => Sys2Proof.Machine.execLinkDown port s
  | .linkDownHoldExpiry port => Sys2Proof.Machine.execLinkDownHoldExpiry port s
  | .linkUp port => Sys2Proof.Machine.execLinkUp port s
  | .portEnable port => Sys2Proof.Machine.execPortEnable port s
  | .portDisable port => Sys2Proof.Machine.execPortDisable port s
  | .auditPass unreferenced => Sys2Proof.Machine.execAuditPass unreferenced s
  | .portClearCounters port => Sys2Proof.Machine.execPortClearCounters port s
  | .supervisionFrame pair => Sys2Proof.Machine.execSupervisionFrame pair s
  | .nodeForget pair mac remove => Sys2Proof.Machine.execNodeForget pair mac remove s
  | .sampledValueFrame fr => Sys2Proof.Machine.execSampledValueFrame fr s
  | .streamEnable n => Sys2Proof.Machine.execStreamEnable n s
  | .streamDisable n => Sys2Proof.Machine.execStreamDisable n s
  | .streamClearCounters n => Sys2Proof.Machine.execStreamClearCounters n s
  | .instantBatch lp => Sys2Proof.Machine.execInstantBatch lp s
  | .summationGroupEnable g => Sys2Proof.Machine.execSummationGroupEnable g s
  | .summationGroupDisable g => Sys2Proof.Machine.execSummationGroupDisable g s
  | .groupClear g => Sys2Proof.Machine.execGroupClear g s
  | .laneEnable l => Sys2Proof.Machine.execLaneEnable l s
  | .laneDisable l => Sys2Proof.Machine.execLaneDisable l s
  | .resetLatch l => Sys2Proof.Machine.execResetLatch l s
  | .publisherEnable p => Sys2Proof.Machine.execPublisherEnable p s
  | .publisherDisable p => Sys2Proof.Machine.execPublisherDisable p s
  | .retransmission p => Sys2Proof.Machine.execRetransmission p s
  | .gooseSubmit f v => Sys2Proof.Machine.execGooseSubmit f v s
  | .gooseFrame fr => Sys2Proof.Machine.execGooseFrame fr s
  | .subscriptionTimeout n => Sys2Proof.Machine.execSubscriptionTimeout n s
  | .subscriptionEnable n => Sys2Proof.Machine.execSubscriptionEnable n s
  | .subscriptionDisable n => Sys2Proof.Machine.execSubscriptionDisable n s
  | .subscriptionClearCounters n => Sys2Proof.Machine.execSubscriptionClearCounters n s
  | .programStart p => Sys2Proof.Machine.execProgramStart p s
  | .programStop p => Sys2Proof.Machine.execProgramStop p s
  | .fastCycle p => Sys2Proof.Machine.execFastCycle p s
  | .normalCycle p => Sys2Proof.Machine.execNormalCycle p s
  | .slowCycle p => Sys2Proof.Machine.execSlowCycle p s
  | .programClear p => Sys2Proof.Machine.execProgramClear p s
  | .fdiEdge pin level => Sys2Proof.Machine.execFdiEdge pin level s
  | .fdiFilterExpiry pin => Sys2Proof.Machine.execFdiFilterExpiry pin s
  | .exchangeSwitch p => Sys2Proof.Machine.execExchangeSwitch p s
  | .exchangeDiscard p => Sys2Proof.Machine.execExchangeDiscard p s
  | .exchangeSwitchAtBoundary p => Sys2Proof.Machine.execExchangeSwitchAtBoundary p s
  | .stationEnable n => Sys2Proof.Machine.execStationEnable n s
  | .stationDisable n => Sys2Proof.Machine.execStationDisable n s
  | .stationExchange n => Sys2Proof.Machine.execStationExchange n s
  | .stationResponse n segs => Sys2Proof.Machine.execStationResponse n segs s
  | .responseTimeout n => Sys2Proof.Machine.execResponseTimeout n s
  | .stationClear n => Sys2Proof.Machine.execStationClear n s
  | .facetDefine n => Sys2Proof.Machine.execFacetDefine n s
  | .facetDelete n => Sys2Proof.Machine.execFacetDelete n s
  | .launch n => Sys2Proof.Machine.execLaunch n s
  | .freeze n => Sys2Proof.Machine.execFreeze n s
  | .thaw n => Sys2Proof.Machine.execThaw n s
  | .save n => Sys2Proof.Machine.execSave n s
  | .saveComplete n ok => Sys2Proof.Machine.execSaveComplete n ok s
  | .restore n => Sys2Proof.Machine.execRestore n s
  | .restoreComplete n result => Sys2Proof.Machine.execRestoreComplete n result s
  | .facetReset n => Sys2Proof.Machine.execFacetReset n s
  | .facetResetComplete n => Sys2Proof.Machine.execFacetResetComplete n s
  | .readyReported n => Sys2Proof.Machine.execReadyReported n s
  | .readyWithdrawn n => Sys2Proof.Machine.execReadyWithdrawn n s
  | .guestCoreFault n core => Sys2Proof.Machine.execGuestCoreFault n core s
  | .facetClear n => Sys2Proof.Machine.execFacetClear n s
  | .shareChange n sub v => Sys2Proof.Machine.execShareChange n sub v s
  | .mirrorBase n isSize v => Sys2Proof.Machine.execMirrorBase n isSize v s
  | .outProd n v => Sys2Proof.Machine.execOutProd n v s
  | .inCons n v => Sys2Proof.Machine.execInCons n v s
  | .mboxStatus n v => Sys2Proof.Machine.execMboxStatus n v s
  | .outboundMessage n => Sys2Proof.Machine.execOutboundMessage n s
  | .echo n => Sys2Proof.Machine.execEcho n s
  | .persistentRead n => Sys2Proof.Machine.execPersistentRead n s
  | .persistentWrite n => Sys2Proof.Machine.execPersistentWrite n s
  | .persistentSize n => Sys2Proof.Machine.execPersistentSize n s
  | .swbWrite n w v => Sys2Proof.Machine.execSwbWrite n w v s
  | .swbSet n w v => Sys2Proof.Machine.execSwbSet n w v s
  | .swbClr n w v => Sys2Proof.Machine.execSwbClr n w v s
  | .dmaSubmit n gpa => Sys2Proof.Machine.execDmaSubmit n gpa s
  | .dmaCompletion n => Sys2Proof.Machine.execDmaCompletion n s
  | .nqRing n q v => Sys2Proof.Machine.execNqRing n q v s
  | .nqTxTail n q v => Sys2Proof.Machine.execNqTxTail n q v s
  | .nqRxTail n q v => Sys2Proof.Machine.execNqRxTail n q v s
  | .nicTransmit n q => Sys2Proof.Machine.execNicTransmit n q s
  | .nicReceive nic vid tci data => Sys2Proof.Machine.execNicReceive nic vid tci data s
  | .take n core => Sys2Proof.Machine.execTake n core s
  | .takeWait n core irq => Sys2Proof.Machine.execTakeWait n core irq s
  | .waitLimitExpiry n core => Sys2Proof.Machine.execWaitLimitExpiry n core s
  | .done n core v => Sys2Proof.Machine.execDone n core v s
  | .post n v => Sys2Proof.Machine.execPost n v s
  | .create n v => Sys2Proof.Machine.execCreate n v s
  | .cancel n v => Sys2Proof.Machine.execCancel n v s
  | .restart n v => Sys2Proof.Machine.execRestart n v s
  | .delete n v => Sys2Proof.Machine.execDelete n v s
  | .setPriorityAndAffinity n v => Sys2Proof.Machine.execSetPriorityAndAffinity n v s
  | .eventBind n k v => Sys2Proof.Machine.execEventBind n k v s
  | .arm r => Sys2Proof.Machine.execArm r s
  | .disarm r => Sys2Proof.Machine.execDisarm r s
  | .manualTrigger r => Sys2Proof.Machine.execManualTrigger r s
  | .recordStored r => Sys2Proof.Machine.execRecordStored r s
  | .autoReArm r => Sys2Proof.Machine.execAutoReArm r s
  | .captureDefine n => Sys2Proof.Machine.execCaptureDefine n s
  | .captureArm n => Sys2Proof.Machine.execCaptureArm n s
  | .captureDisarm n => Sys2Proof.Machine.execCaptureDisarm n s
  | .captureTrigger n => Sys2Proof.Machine.execCaptureTrigger n s
  | .captureStatus n => Sys2Proof.Machine.execCaptureStatus n s
  | .captureExport n => Sys2Proof.Machine.execCaptureExport n s
  | .blinkReceived b lines => Sys2Proof.Machine.execBlinkReceived b lines s
  | .blinkMissed lines => Sys2Proof.Machine.execBlinkMissed lines s
  | .peerPresentChange present lines => Sys2Proof.Machine.execPeerPresentChange present lines s
  | .handshakeSetFault set => Sys2Proof.Machine.execHandshakeSetFault set s
  | .livenessProbe answers => Sys2Proof.Machine.execLivenessProbe answers s
  | .stationBlinkReceived b => Sys2Proof.Machine.execStationBlinkReceived b s
  | .laneMove lane0 lane1 => Sys2Proof.Machine.execLaneMove lane0 lane1 s
  | .spareLaneTestFrame ok => Sys2Proof.Machine.execSpareLaneTestFrame ok s
  | .linkMeasurement lane roundTrip => Sys2Proof.Machine.execLinkMeasurement lane roundTrip s
  | .tickMirrorApplied m => Sys2Proof.Machine.execTickMirrorApplied m s
  | .swapAcknowledgement ack => Sys2Proof.Machine.execSwapAcknowledgement ack s
  | .forceOwnership lines => Sys2Proof.Machine.execForceOwnership lines s
  | .firstSynchronisation m => Sys2Proof.Machine.execFirstSynchronisation m s
  | .overlayCopy m => Sys2Proof.Machine.execOverlayCopy m s
  | .healthReportReceived authentic place data => Sys2Proof.Machine.execHealthReportReceived authentic place data s
  | .identityReportReceived data => Sys2Proof.Machine.execIdentityReportReceived data s
  | .logRecord r => Sys2Proof.Machine.execLogRecord r s
  | .agCursor n v => Sys2Proof.Machine.execAgCursor n v s
  | .agNotify n v => Sys2Proof.Machine.execAgNotify n v s
  | .sessionCursor c v => Sys2Proof.Machine.execSessionCursor c v s
  | .clearLog sess => Sys2Proof.Machine.execClearLog sess s
  | .logMemoryFailure addr => Sys2Proof.Machine.execLogMemoryFailure addr s
  | .logRemap ok => Sys2Proof.Machine.execLogRemap ok s
  | .healthAcknowledge mask => Sys2Proof.Machine.execHealthAcknowledge mask s
  | .canFrameReceived c fr => Sys2Proof.Machine.execCanFrameReceived c fr s
  | .fifoHeadRead c fifo => Sys2Proof.Machine.execFifoHeadRead c fifo s
  | .transmitOffer c => Sys2Proof.Machine.execTransmitOffer c s
  | .frameSent c => Sys2Proof.Machine.execFrameSent c s
  | .busError c e => Sys2Proof.Machine.execBusError c e s
  | .recoverFromBusOff c => Sys2Proof.Machine.execRecoverFromBusOff c s
  | .recoveryComplete c => Sys2Proof.Machine.execRecoveryComplete c s
  | .restrictedOperationOn c => Sys2Proof.Machine.execRestrictedOperationOn c s
  | .restrictedOperationOff c => Sys2Proof.Machine.execRestrictedOperationOff c s
  | .controllerEnable c => Sys2Proof.Machine.execControllerEnable c s
  | .controllerDisable c => Sys2Proof.Machine.execControllerDisable c s
  | .controllerClear c => Sys2Proof.Machine.execControllerClear c s
  | .tamperEvent sensors => Sys2Proof.Machine.execTamperEvent sensors s
  | .attestationNonce sess nonce => Sys2Proof.Machine.execAttestationNonce sess nonce s
  | .unlockResponse data => Sys2Proof.Machine.execUnlockResponse data s
  | .mirrorKey data => Sys2Proof.Machine.execMirrorKey data s
  | .migrationKey data => Sys2Proof.Machine.execMigrationKey data s
  | .configurationRoot k data => Sys2Proof.Machine.execConfigurationRoot k data s
  | .accessFault n addr kind window => Sys2Proof.Machine.execAccessFault n addr kind window s
  | .oselFbChange high => Sys2Proof.Machine.execOselFbChange high s
  | .inletOutsideRating inlet => Sys2Proof.Machine.execInletOutsideRating inlet s
  | .ddrEccError correctable addr => Sys2Proof.Machine.execDdrEccError correctable addr s
  | .ddrScrubPass ok => Sys2Proof.Machine.execDdrScrubPass ok s
  | .sramScrub ok addr => Sys2Proof.Machine.execSramScrub ok addr s
  | .coreCrossCheck core pass => Sys2Proof.Machine.execCoreCrossCheck core pass s
  | .logicProcessorTest lp pass => Sys2Proof.Machine.execLogicProcessorTest lp pass s
  | .serdesErrorRate lane above => Sys2Proof.Machine.execSerdesErrorRate lane above s
  | .forwardAcknowledgement head ok => Sys2Proof.Machine.execForwardAcknowledgement head ok s
  | .bulkMirrorReceived m => Sys2Proof.Machine.execBulkMirrorReceived m s
  | .vinIoQualified => Sys2Proof.Machine.execVinIoQualified s
  | .hotSwapTurnOn => Sys2Proof.Machine.execHotSwapTurnOn s
  | .powerGood => Sys2Proof.Machine.execPowerGood s
  | .orderingViolation => Sys2Proof.Machine.execOrderingViolation s
  | .pd0RetentionLoss => Sys2Proof.Machine.execPd0RetentionLoss s
  | .pwrEnFall => Sys2Proof.Machine.execPwrEnFall s
  | .supplyEventQualified => Sys2Proof.Machine.execSupplyEventQualified s
  | .pfailFdoSwitchesOpen => Sys2Proof.Machine.execPfailFdoSwitchesOpen s
  | .pfailFrameStop => Sys2Proof.Machine.execPfailFrameStop s
  | .lastGaspRecord => Sys2Proof.Machine.execLastGaspRecord s
  | .pfailDomainsOff => Sys2Proof.Machine.execPfailDomainsOff s
  | .pfailFlush => Sys2Proof.Machine.execPfailFlush s
  | .pfailPd2Off => Sys2Proof.Machine.execPfailPd2Off s
  | .oselFbStuck => Sys2Proof.Machine.execOselFbStuck s
  | .chassisReset => Sys2Proof.Machine.execChassisReset s
  | .chassisResetRelease => Sys2Proof.Machine.execChassisResetRelease s
  | .bootRom => Sys2Proof.Machine.execBootRom s
  | .keyStoreUnlock => Sys2Proof.Machine.execKeyStoreUnlock s
  | .timeAcquisitionWaitExpired => Sys2Proof.Machine.execTimeAcquisitionWaitExpired s
  | .mirrorLinkTrainingTimeout => Sys2Proof.Machine.execMirrorLinkTrainingTimeout s
  | .lensStart => Sys2Proof.Machine.execLensStart s
  | .protectionStart => Sys2Proof.Machine.execProtectionStart s
  | .facetAutostart => Sys2Proof.Machine.execFacetAutostart s
  | .stewardWatchdogExpiry => Sys2Proof.Machine.execStewardWatchdogExpiry s
  | .orderlyReset => Sys2Proof.Machine.execOrderlyReset s
  | .forcedReset => Sys2Proof.Machine.execForcedReset s
  | .commit => Sys2Proof.Machine.execCommit s
  | .trialPeriodExpired => Sys2Proof.Machine.execTrialPeriodExpired s
  | .activatePending => Sys2Proof.Machine.execActivatePending s
  | .activatePrevious => Sys2Proof.Machine.execActivatePrevious s
  | .overlaySave => Sys2Proof.Machine.execOverlaySave s
  | .overlayDiscard => Sys2Proof.Machine.execOverlayDiscard s
  | .forwardAckTimeout => Sys2Proof.Machine.execForwardAckTimeout s
  | .masterLost => Sys2Proof.Machine.execMasterLost s
  | .holdoverLimitExpired => Sys2Proof.Machine.execHoldoverLimitExpired s
  | .acceptJump => Sys2Proof.Machine.execAcceptJump s
  | .jumpStep => Sys2Proof.Machine.execJumpStep s
  | .rtcCopy => Sys2Proof.Machine.execRtcCopy s
  | .timeAnchor => Sys2Proof.Machine.execTimeAnchor s
  | .cellTime => Sys2Proof.Machine.execCellTime s
  | .learningAgeingStep => Sys2Proof.Machine.execLearningAgeingStep s
  | .databaseWrite => Sys2Proof.Machine.execDatabaseWrite s
  | .databaseDeleteByKey => Sys2Proof.Machine.execDatabaseDeleteByKey s
  | .databaseReadByKey => Sys2Proof.Machine.execDatabaseReadByKey s
  | .databaseReadByPosition => Sys2Proof.Machine.execDatabaseReadByPosition s
  | .streamTableWrite => Sys2Proof.Machine.execStreamTableWrite s
  | .streamTableDeleteByKey => Sys2Proof.Machine.execStreamTableDeleteByKey s
  | .streamTableReadByKey => Sys2Proof.Machine.execStreamTableReadByKey s
  | .streamTableReadByPosition => Sys2Proof.Machine.execStreamTableReadByPosition s
  | .vlanWrite => Sys2Proof.Machine.execVlanWrite s
  | .vlanRead => Sys2Proof.Machine.execVlanRead s
  | .vlanInvalidate => Sys2Proof.Machine.execVlanInvalidate s
  | .flushLearned => Sys2Proof.Machine.execFlushLearned s
  | .gridTick => Sys2Proof.Machine.execGridTick s
  | .alignmentWaitExpiry => Sys2Proof.Machine.execAlignmentWaitExpiry s
  | .lensClearTotals => Sys2Proof.Machine.execLensClearTotals s
  | .rowEvaluation => Sys2Proof.Machine.execRowEvaluation s
  | .rowSealed => Sys2Proof.Machine.execRowSealed s
  | .rowCapture => Sys2Proof.Machine.execRowCapture s
  | .binaryCapture => Sys2Proof.Machine.execBinaryCapture s
  | .deleteSelected => Sys2Proof.Machine.execDeleteSelected s
  | .deleteExported => Sys2Proof.Machine.execDeleteExported s
  | .blinkTransmit => Sys2Proof.Machine.execBlinkTransmit s
  | .selfFence => Sys2Proof.Machine.execSelfFence s
  | .releaseSwitchesOpen => Sys2Proof.Machine.execReleaseSwitchesOpen s
  | .fence => Sys2Proof.Machine.execFence s
  | .stationBlinkTransmit => Sys2Proof.Machine.execStationBlinkTransmit s
  | .stationBlinkLost => Sys2Proof.Machine.execStationBlinkLost s
  | .tickMirror => Sys2Proof.Machine.execTickMirror s
  | .bulkMirror => Sys2Proof.Machine.execBulkMirror s
  | .takeoverCheck => Sys2Proof.Machine.execTakeoverCheck s
  | .plannedSwap => Sys2Proof.Machine.execPlannedSwap s
  | .swapTimeout => Sys2Proof.Machine.execSwapTimeout s
  | .clearTakeoverFault => Sys2Proof.Machine.execClearTakeoverFault s
  | .leaveSafeHold => Sys2Proof.Machine.execLeaveSafeHold s
  | .resynchronise => Sys2Proof.Machine.execResynchronise s
  | .pairClear => Sys2Proof.Machine.execPairClear s
  | .healthReportTransmit => Sys2Proof.Machine.execHealthReportTransmit s
  | .partnerReportTimeout => Sys2Proof.Machine.execPartnerReportTimeout s
  | .identityExchange => Sys2Proof.Machine.execIdentityExchange s
  | .suppressionSecond => Sys2Proof.Machine.execSuppressionSecond s
  | .logExport => Sys2Proof.Machine.execLogExport s
  | .reportSigned => Sys2Proof.Machine.execReportSigned s
  | .tokenGain => Sys2Proof.Machine.execTokenGain s
  | .unlockChallenge => Sys2Proof.Machine.execUnlockChallenge s
  | .lockDebugPort => Sys2Proof.Machine.execLockDebugPort s
  | .debugPortTimeout => Sys2Proof.Machine.execDebugPortTimeout s
  | .generateIdentity => Sys2Proof.Machine.execGenerateIdentity s
  | .bindReceived => Sys2Proof.Machine.execBindReceived s
  | .unbind => Sys2Proof.Machine.execUnbind s
  | .activatePendingMirrorKey => Sys2Proof.Machine.execActivatePendingMirrorKey s
  | .ocxoWarmUp => Sys2Proof.Machine.execOcxoWarmUp s
  | .lateMirrorExpiry => Sys2Proof.Machine.execLateMirrorExpiry s

end Sys2Proof.Machine
end

