-- ==== Sys2Proof/Machine/Idle.lean ====
section
/-! DEFINITION. What the module does while no command waits (log 21). -/

namespace Sys2Proof.Machine

/-- What happens while no command waits (log 21): in the power-on order the next step of Table 2.5 completes; else the time base
advances by one cycle of CLK_TIME, and the mirror lane in use sends (R366), where the time unit has power; without it the
real-time counter advances by one cycle of CLK_AON. -/
def State.idle (s : State) : State :=
  if s.rising then s.riseNext
  else if s.domOn 8 then ({ s with time := s.time.cycle } : State).laneStep
  else { s with time := s.time.rtcCount 1953125 }

end Sys2Proof.Machine
end

