-- ==== Sys2Proof/Safety.lean ====
section
/-! DEFINITION. What counts as a safe state and a safe run, in the terms that claims use. -/

namespace Sys2Proof.Machine

/-- No step of the run from s, of n steps, ends in a fault or a refusal. -/
def Safe : Nat → State → Bool
  | 0, _ => true
  | n + 1, s =>
    match step s with
    | .next t => Safe n t
    | _ => false

/-- The memory has its canonical form (R11). -/
def State.memOk (s : State) : Prop := Memory.wf s.mem = true

/-- OSEL_OWN is high only while the module holds ownership, and LIT is the role that holds it (R352, R353, R355). -/
def State.ownership (s : State) : Prop :=
  (s.power.oselOwn = true → s.pair.own = true) ∧ (s.pair.own = true ↔ s.pair.role = 1)

/-- The parts of the state, one for each field of State but the queue. -/
inductive Part where
  | reply | freeCount | regs | blobs | tickRegs | mem | power | boot | access | time | fabric | lens | phasor | goose
  | logic | facets | capture | pair | log | health | can | sec
  deriving DecidableEq, Repr

/-- A part is the same in two states. -/
def State.same (s t : State) : Part → Prop
  | .reply => t.reply = s.reply
  | .freeCount => t.freeCount = s.freeCount
  | .regs => t.regs = s.regs
  | .blobs => t.blobs = s.blobs
  | .tickRegs => t.tickRegs = s.tickRegs
  | .mem => t.mem = s.mem
  | .power => t.power = s.power
  | .boot => t.boot = s.boot
  | .access => t.access = s.access
  | .time => t.time = s.time
  | .fabric => t.fabric = s.fabric
  | .lens => t.lens = s.lens
  | .phasor => t.phasor = s.phasor
  | .goose => t.goose = s.goose
  | .logic => t.logic = s.logic
  | .facets => t.facets = s.facets
  | .capture => t.capture = s.capture
  | .pair => t.pair = s.pair
  | .log => t.log = s.log
  | .health => t.health = s.health
  | .can => t.can = s.can
  | .sec => t.sec = s.sec

/-- What every effect of the module keeps: the queue, the canonical form of the memory, the rule of ownership, and every
part that F does not name. -/
structure Within (F : List Part) (s t : State) : Prop where
  queue : t.pending = s.pending
  mem : s.memOk → t.memOk
  owner : s.ownership → t.ownership
  rest : ∀ p, p ∉ F → s.same t p

/-- A write of v to the entry `key` passes every check and takes effect at once: the module serves the requester, and no
operation is in progress (R91); the entry exists, may be written, and its owning function is not running where that matters
(R82 to R84, R92, R93); the value has the entry's form and range (R82); the owning function refuses nothing (R83); the tick
mirror still fits its budget (R367) and the overlay its size (R86); and the write is not one that a LIT forwards to a SHADE
first (R93). -/
structure Accepted (s : State) (q : Requester) (key : Nat) (v : Val) : Prop where
  serves : s.serves q.who = true
  idle : s.access.pendingForwards = []
  entry : s.writeCode q key = 0
  value : valueCode key v = 0
  owner : configEntry key = true → s.ownerCode (s.putVal key v) key v = 0
  budget : overBudget s (s.applyItems q [(key, v)]).2 = false
  room : overlayFull (s.applyItems q [(key, v)]).2.access.overlay = false
  here : s.lit = true → s.pair.partnerRole = 2 → forwardedItem key v = false

/-- What a reset of class c leaves (R66, R67, Table 3.2): the class and the count of resets; the steward in phase 1, or
halted where `hold` is set; no role, no ownership, the switches open; no session, no running overlay, empty memory; and
kept: the saved overlay, the stored records, the active configuration image, the commands that wait. -/
structure ResetDone (c : Nat) (hold : Bool) (s t : State) : Prop where
  cls : t.boot.lastClass = c
  count : t.boot.resetCount = (s.boot.resetCount + 1) % 2 ^ 32
  held : t.boot.held = hold
  phase : t.boot.phase = if hold then 0 else 1
  role : t.pair.role = 0
  own : t.pair.own = false
  osel : t.power.oselOwn = false
  switches : t.power.fdoSwitches = false
  sessions : t.access.sessions = []
  overlay : t.access.overlay = []
  mem : t.mem = []
  saved : t.access.saved = s.access.saved
  store : t.capture.store = s.capture.store
  active : t.boot.active = s.boot.active
  pending : t.pending = s.pending

/-- A trial ends with its commit (R72): the running slot is the committed one, no trial is named, the floor is raised to
that of the running image. -/
structure Committed (s t : State) : Prop where
  state : t.boot.bootState = 0
  record : t.boot.current = { s.boot.current with
    committed := s.boot.booted, trial := none, attempts := 0, seq := s.boot.current.seq + 1, good := true }
  floor : t.boot.floor = Nat.max s.boot.floor (((s.boot.slot s.boot.booted).hdr.map (·.secFloor)).getD 0)
  ended : t.boot.trialSince = none

/-- The channels that the Lens writes lie in the sample plane (R12, R175): those of stream n, those of the streams of the
open rows, and those in use. -/
structure InPlane (s : State) (n : Nat) : Prop where
  own : (strRange s.tickRegs n).1 + (strRange s.tickRegs n).2 ≤ 8192
  rows : ∀ r ∈ s.lens.opened, ∀ k ∈ enabledStreams r.cfg, (strRange r.cfg k).1 + (strRange r.cfg k).2 ≤ 8192
  inUse : ∀ p ∈ s.lens.inUse, p.1 + p.2 ≤ 8192

/-- A GOOSE frame that holds the message g passes every check of an enabled subscription (Table 9.8, R239). -/
structure GooseTaken (s : State) (n : Nat) (fr : GooseFrame) (g : GooseMsg) : Prop where
  on : (s.sub n).state ≠ 0
  formed : pduLengthOk fr.pdu = true ∧ gooseRead fr.pdu = some g
  gocb : g.gocbRef = s.blob (subIndex n) 2
  goId : s.blob (subIndex n) 3 = [] ∨ s.blob (subIndex n) 3 = g.goId
  datSet : s.blob (subIndex n) 4 = [] ∨ s.blob (subIndex n) 4 = g.datSet
  conf : g.confRev = s.subReg n 5
  commissioned : g.ndsCom = false
  entries : g.numEntries = s.subReg n 6
  simulated : g.simulation = true → s.regN 0x47F0 5 ≠ 0
  real : g.simulation = false → s.regN 0x47F0 5 = 0 ∨ (s.sub n).usingSim = false
  tail : fr.tailGood = true

/-- Byte a holds the bit or word w (space and index) of scheme logic (Tables 10.1 and 10.2). -/
def ownsByte (w : Nat × Nat) (a : Nat) : Prop :=
  if w.1 = 16 then wordAddr 0 w.2 ≤ a ∧ a < wordAddr 0 w.2 + 4
  else if w.1 = 17 then wordAddr 1 w.2 ≤ a ∧ a < wordAddr 1 w.2 + 4
  else a = areaByte w.1 w.2

/-- A request of an open session is executed (R38, R91, R94 to R99, R109): no operation is in progress, the message is
well-formed, its transaction ID is new and not stale, and it does not break off an upload of the same entry. -/
structure Served (s : State) (m : MapMsg) (x : Session) : Prop where
  range : m.sess ≤ 8
  opened : s.session m.sess = some x
  power : s.inSequence = false
  serves : s.serves m.sess = true
  busy : s.access.pendingForwards = []
  formed : malformed m = false
  tid : m.tid ≠ 0
  fresh : (x.window.find? fun e => e.tid == m.tid) = none
  later : ∀ n, x.lastId = some n → 0 < (m.tid + 4294967296 - n % 4294967296) % 4294967296 ∧
    (m.tid + 4294967296 - n % 4294967296) % 4294967296 < 2147483648
  idle : ∀ y, x.transfer = some y → y.down = true ∨ y.key ≠ ek m.index m.sub

/-- A message of an open session reaches its operation (R38, R91, R94, R96). -/
structure Heard (s : State) (m : MapMsg) (x : Session) : Prop where
  range : m.sess ≤ 8
  opened : s.session m.sess = some x
  power : s.inSequence = false
  serves : s.serves m.sess = true
  busy : s.access.pendingForwards = []
  formed : malformed m = false

/-- A download of `total` bytes to the entry `key` may start (R98, R100): the entry may be written and is a DOMAIN, nobody else
transfers it, the length is one that it takes, and its owning function is ready for it: an installation or a load of the
requester in RECEIVING (R70, R79), a program not running and not being exchanged (R287, R288), a defined facet (R316), a module
being provisioned (R444). -/
structure Downloadable (s : State) (q : Requester) (key total : Nat) : Prop where
  entry : s.writeCode q key = 0
  domain : entryType key = 0x0F
  free : s.transferring q.who key = false
  size : key ≠ ek 0xC010 2 → key ≠ ek 0xC030 2 → ∀ e, entryOf key = some e → (total : Int) ≤ e.max
  firmware : key = ek 0xC010 2 →
    s.boot.inst = 1 ∧ s.boot.instOwner = q.who ∧ s.boot.instBytes ≤ 1610612736 ∧ total ≤ 1610612736
  config : key = ek 0xC030 2 →
    s.boot.pend = 1 ∧ s.boot.pendOwner = q.who ∧ s.boot.pendingRaw.length ≤ 268435456 ∧ total ≤ 268435456
  program : 0x5400 ≤ key / 256 → key / 256 ≤ 0x57FF → key % 256 = 2 →
    (s.prog (key / 256 - 0x5400)).state ≠ 2 ∧ (s.prog (key / 256 - 0x5400)).state ≠ 3 ∧
      (s.prog (key / 256 - 0x5400)).exState ≠ 1 ∧ (s.prog (key / 256 - 0x5400)).exState ≠ 2
  facet : 0x5000 ≤ key / 256 → key / 256 ≤ 0x50FF → key % 256 = 0x14 → (s.facet (key / 256 - 0x5000)).state = 1
  bundle : key = ek 0xA050 2 → s.sec.state = 1

/-- The entry `key` is that of the image of an on-line exchange (R288). -/
def exchangeEntry (key : Nat) : Prop := 0x5400 ≤ key / 256 ∧ key / 256 ≤ 0x57FF ∧ key % 256 = 0x22

/-- A frame of the mirror link passes the checks of its tag and its sequence (R23, R362). -/
structure TagTaken (s : State) (kind : Nat) (g : MirrorTag) : Prop where
  authentic : g.authentic = true
  epoch : s.epochKnown g.epoch = true
  fresh : s.seqFresh kind g.epoch g.seq = true

/-- A request of the cabinet bus is executed (R91, R102 to R106, R109): it is addressed to a running controller of a provisioned
module with no operation in progress, well-formed, and of a new client for which there is room. -/
structure CabinetServed (s : State) (r : CabReq) : Prop where
  range : r.ctrl < 2 ∧ r.dst < 256 ∧ r.src < 256 ∧ r.data.length ≤ 64
  awake : s.domOn 1 = true
  dst : r.dst = s.ownNode r.ctrl
  ctl : (s.ctl r.ctrl).state = 1
  up : s.stewardUp = true
  provisioned : s.sec.provisioned = true
  busy : s.access.pendingForwards = []
  formed : 8 ≤ r.data.length ∧ beAt r.data 5 1 ≤ 56 ∧ 8 + beAt r.data 5 1 ≤ r.data.length
  client : mapFind s.access.clients r.src = none ∧ s.access.clients.length < 16

/-- The same with a client known to the module, whose request toggles (R103). -/
structure CabinetGoesOn (s : State) (r : CabReq) (k : CabClient) : Prop where
  range : r.ctrl < 2 ∧ r.dst < 256 ∧ r.src < 256 ∧ r.data.length ≤ 64
  awake : s.domOn 1 = true
  dst : r.dst = s.ownNode r.ctrl
  ctl : (s.ctl r.ctrl).state = 1
  up : s.stewardUp = true
  provisioned : s.sec.provisioned = true
  busy : s.access.pendingForwards = []
  formed : 8 ≤ r.data.length ∧ beAt r.data 5 1 ≤ 56 ∧ 8 + beAt r.data 5 1 ≤ r.data.length
  client : mapFind s.access.clients r.src = some k
  toggle : k.toggle ≠ (leAt r.data 0 1).testBit 3

/-- The requester that a cabinet request stands for (R105). -/
def State.cabinetRequester (s : State) (r : CabReq) : Requester :=
  { role := s.cabinetRole r.src, who := 512 + r.src, cabinet := true }

/-- A guest address of facet n is not the image of `a`: byte a lies outside the facet's guest memory (R298). -/
def outsideGuest (f : Facet) (a : Nat) : Prop :=
  ∀ u ∈ f.units, a < guestBase + u * unitBytes ∨ guestBase + (u + 1) * unitBytes ≤ a

/-- The image of a range of guest memory. -/
def inGuest (f : Facet) (g n a : Nat) : Prop := ∃ k, k < n ∧ a = f.phys (g + k)

/-- An outbound message of some code and payload waits at the head of facet n's ring, whole; the steward may take it and
the inbound ring has room for a reply of k words (R302 to R304, R307). -/
structure MessageWaits (s : State) (n code : Nat) (payload : List Nat) (k : Nat) : Prop where
  range : n < 256
  up : s.stewardUp = true
  launched : (s.facet n).launched = true
  header : (s.facet n).mbox.headCode = code ∧ (s.facet n).mbox.head % 65536 = 0 ∧
    bitsAt (s.facet n).mbox.head 28 4 = payload.length
  words : ∀ i, i < payload.length →
    mapGet (s.facet n).mbox.outSlots (((s.facet n).mbox.outCons + 1 + i) % 16) 0 = payload.getD i 0
  whole : 1 + payload.length ≤ sub32 (s.facet n).mbox.outProd (s.facet n).mbox.outCons
  held : (s.facet n).mbox.held = []
  room : sub32 (s.facet n).mbox.inProd (s.facet n).mbox.inCons + k ≤ 16

/-- The steward has taken the message at the head of the ring and written one reply: the tag of the message, its code with
bit 15 set, the result, the payload (R304, R307); the doorbell has rung (R303). -/
structure Replied (s t : State) (n result : Nat) (payload : List Nat) : Prop where
  taken : (t.facet n).taken = ((s.facet n).taken + 1) % 2 ^ 64
  cons : (t.facet n).mbox.outCons = ((s.facet n).mbox.outCons + 1 + bitsAt (s.facet n).mbox.head 28 4) % 2 ^ 32
  prod : (t.facet n).mbox.inProd = ((s.facet n).mbox.inProd + 1 + payload.length) % 2 ^ 32
  words : ∀ i, i ≤ payload.length → mapGet (t.facet n).mbox.inSlots (((s.facet n).mbox.inProd + i) % 16) 0 =
    (msgHeader ((s.facet n).mbox.head / 2 ^ 48) ((s.facet n).mbox.headCode % 32768 + 32768) payload.length result ::
      payload).getD i 0
  doorbell : (t.facet n).mbox.status.testBit 0 = true ∧ (t.facet n).mbox.status.testBit 2 = true
  others : ∀ m, m ≠ n → t.facet m = s.facet m

/-- A dispatch operation of the guest of facet n on its local task, which lies in the facet's range (R320). -/
structure OnTask (s : State) (n v g : Nat) (k : Task) : Prop where
  range : n < 256 ∧ v < 2 ^ 64
  guest : s.guest n = true
  own : opTask v < s.facetReg n 9
  number : g = s.facetReg n 8 + opTask v
  task : s.task g = k

/-- The module has gained ownership for a cause of 0x8000:06 (R353, R355, R372): LIT, counted, the request ended; OSEL_OWN is
high and the switches closed where phase 8 has ended (R64). -/
structure Gained (s t : State) (cause : Nat) : Prop where
  own : t.pair.own = true
  role : t.pair.role = 1
  req : t.pair.req = false
  why : t.pair.cause = cause
  count : t.pair.takeovers = (s.pair.takeovers + 1) % 2 ^ 32
  outputs : 9 ≤ s.boot.phase → t.power.oselOwn = true ∧ t.power.fdoSwitches = true

/-- The module has released ownership and has a role (R357): OSEL_OWN is low at once; the switches and the fence are due. -/
structure Released (s t : State) (role : Nat) : Prop where
  own : t.pair.own = false
  role : t.pair.role = role
  osel : t.power.oselOwn = false
  req : t.pair.req = false
  swap : t.pair.swapArmed = false
  hold : t.pair.safeHold = none
  fence : t.pair.fenceDue = true
  switches : t.pair.switchesDue = s.power.fdoSwitches

/-- A mirror frame passes the checks of its tag and its sequence (R23, R362). -/
structure MirrorTaken (s : State) (m : MirrorMsg) : Prop where
  running : s.running = true
  standby : s.lit = false
  tag : m.authentic = true
  epoch : s.epochKnown m.epoch = true
  fresh : s.seqFresh m.kind m.epoch m.seq = true

/-- A reader's window is filled from number v (R394, R395): its cursor, the flags of a fill, at most 16 records, each held, in
view and not before the start; and where at most 4,096 records are read and at most 16 are in view, exactly those. -/
structure Filled (s t : State) (reader v : Nat) (k : Cursor) : Prop where
  kept : mapFind t.log.cursors reader = some k
  cursor : k.cursor = v
  flags : k.newEntered = false ∧ k.bank = s.log.bankMode
  overrun : k.overrun = true ↔ v ≠ 0 ∧ v < s.log.oldest
  skipped : k.skipped = if v ≠ 0 ∧ v < s.log.oldest then s.log.oldest - v else 0
  count : k.slots.length ≤ 16
  held : ∀ r ∈ k.slots, r ∈ s.log.readable ∧ inView reader r = true ∧
    (if v < s.log.oldest then s.log.oldest else Nat.min v s.log.next) ≤ r.seq
  whole : ∀ l, l = s.log.readable.filter (fun r => decide
      ((if v < s.log.oldest then s.log.oldest else Nat.min v s.log.next) ≤ r.seq)) →
    l.length ≤ 4096 → (l.filter (inView reader)).length ≤ 16 → k.slots = l.filter (inView reader)
  others : ∀ c, c ≠ reader → mapFind t.log.cursors c = mapFind s.log.cursors c

end Sys2Proof.Machine
end

