-- ==== Sys2Proof/Certificates/Slice0/Obligations.lean ====
section
/-! DEFINITION. The statements for the provers. Where a statement rests on a choice of the model, its docstring names the
assumption log's entries, marked "log". -/

section

open Sys2Proof Sys2Proof.Machine

/-! ### The machine as a whole -/

/-- A step takes the command at the front of the queue and executes it with the queue's rest. -/
def Obligations.StepRunsFront : Prop :=
  ∀ (c : Instr) (rest : List Instr) (s : State),
    step { s with pending := c :: rest } = exec c { s with pending := rest }

/-- On an empty queue a step is the model's choice (log 21). In the power-on order the next step of Table 2.5 completes:
its domains are on. Otherwise it is one CLK_TIME cycle while PD8 is up: the monotonic count and the time base advance by 4 ns
and the servo's correction, in units of 2^-32 ns, and a mirror lane in use sends what one cycle carries; and one cycle of
CLK_AON while PD8 is down, which advances the real-time counter by 1/32,768 s, in units of 2^-6 ns. -/
def Obligations.EmptyQueueIsOneCycle : Prop :=
  ∀ s : State, s.pending = [] →
    (s.rising = true → s.power.riseStep < riseOrder.length →
      ∃ t, step s = .next t ∧ t.power.riseStep = s.power.riseStep + 1 ∧
        (∀ d ∈ riseOrder.getD s.power.riseStep [], t.domOn d = true) ∧ Within [.power] s t) ∧
    (s.rising = false → 0 ≤ 17179869184 + s.time.corr → s.domOn 8 = true →
      ∃ t, step s = .next t ∧
        (t.time.mono * 4294967296 + t.time.monoFrac : Int) =
          s.time.mono * 4294967296 + s.time.monoFrac + 17179869184 + s.time.corr ∧
        ((t.time.sec * 1000000000 + t.time.ns) * 4294967296 + t.time.frac : Int) =
          (s.time.sec * 1000000000 + s.time.ns) * 4294967296 + s.time.frac + 17179869184 + s.time.corr ∧
        t.pair = (if s.domOn 10 && s.pair.laneOk then s.pair.laneCycle else s.pair) ∧ Within [.time, .pair] s t) ∧
    (s.rising = false → s.domOn 8 = false →
      ∃ t, step s = .next t ∧
        t.time.rtc * 64000000000 + t.time.rtcPhase = s.time.rtc * 64000000000 + s.time.rtcPhase + 1953125 ∧
        t.time = { s.time with rtc := t.time.rtc, rtcPhase := t.time.rtcPhase } ∧ Within [.time] s t)

/-- No command stops the module: every well-formed command has a next state from every state, which keeps the queue; a
command that names a unit the module does not have is a fault with no effect. -/
def Obligations.EveryCommandCompletes : Prop :=
  ∀ (c : Instr) (s : State),
    (c.wf = true → ∃ t, exec c s = .next t ∧ t.pending = s.pending) ∧
    (c.wf = false → exec c s = .fault .illFormed)

/-- Every step keeps the canonical form of the memory: addresses strictly rising, no byte listed that holds what an
unlisted address reads as. -/
def Obligations.MemoryStaysCanonical : Prop :=
  ∀ s t : State, s.memOk → step s = .next t → t.memOk

/-- Every step keeps the rule of ownership: OSEL_OWN is high only while the module holds ownership, and exactly the
holder is LIT (R352, R353). -/
def Obligations.OwnershipStaysWithLit : Prop :=
  ∀ s t : State, s.ownership → step s = .next t → t.ownership

/-- Both invariants hold in the module after manufacture, and no command waits in it. -/
def Obligations.InvariantsAtReset : Prop :=
  State.reset.memOk ∧ State.reset.ownership ∧ State.reset.pending = []

/-- The values that the spec gives the module before its first supply: the servo in FREERUN with grandmaster class and
priority 255 (Tables 5.2, 5.7), no role and no ownership, SYNC_PENDING (Table 14.12), OSEL_OWN low and the direct output
switches open (R48, R64), the first record number 1 (R384), record IDs from 1 (R341), no identity (R440), and entries at
the defaults of their tables. -/
def Obligations.ValuesAtReset : Prop :=
  State.reset.time.servo = 0 ∧ State.reset.time.gmClass = 255 ∧ State.reset.time.gmPriority1 = 255 ∧
  State.reset.pair.role = 0 ∧ State.reset.pair.own = false ∧ State.reset.pair.req = false ∧ State.reset.pair.elig = 0x10 ∧
  State.reset.power.oselOwn = false ∧ State.reset.power.fdoSwitches = false ∧
  State.reset.log.next = 1 ∧ State.reset.log.held = [] ∧ State.reset.capture.nextId = 1 ∧ State.reset.capture.store = [] ∧
  State.reset.sec.provisioned = false ∧ State.reset.access.sessions = [] ∧ State.reset.access.overlay = [] ∧
  State.reset.boot.phase = 0 ∧
  State.reset.grid = 4800 ∧ State.reset.reg 0x47F0 3 = 600 ∧ State.reset.reg 0x8001 4 = 100 ∧
  State.reset.reg 0xC001 1 = 20 ∧ State.reset.reg 0x3001 2 = 20 ∧ State.reset.reg 0x1100 2 = 8

/-! ### Supplies, power domains, thermal protection (chapter 2) -/

/-- The supplies come up and the inputs of the power controller follow what they read: VIN_IO brings up PD0 and PD1 (R32),
the hot-swap controller starts PD2 to PD11, and step 8 of Table 2.5 ends with PGOOD, a reset of class 1 and a time base that
starts from the real-time counter. Each command names what it changes; everything else of the module stays. The level that
an event does not carry is free within its tolerance (log 3).
Choices of the model that it rests on: log 1, log 16. -/
def Obligations.SuppliesComeUp : Prop :=
  ∀ s : State,
    (s.power.stage = .off →
      ∃ t, exec .vinIoQualified s = .next t ∧ t.power.stage = .standby ∧ t.dom 0 = .on ∧ t.dom 1 = .on ∧
        (∀ d, 2 ≤ d → t.dom d = s.dom d) ∧ t.power.ioLost = false ∧ 3135 ≤ t.power.io ∧ t.power.io ≤ 3465 ∧
        t.health.causes.testBit 1 = (s.power.mainOv || s.power.batLow || s.power.batAbsent) ∧
        Within [.freeCount, .regs, .power, .facets, .pair, .log, .health, .can] s t) ∧
    (s.power.stage = .standby → s.power.pwrEn = true →
      s.power.thermal ≠ 2 ∨ (s.power.restartAsked = true ∧ s.power.junction < 900) →
      ∃ t, exec .hotSwapTurnOn s = .next t ∧ t.power.stage = .rising ∧ t.power.riseStep = 0 ∧ (∀ d, t.dom d = s.dom d) ∧
        t.power.pfailN = true ∧ t.power.cause = 0 ∧ t.power.crossing = [] ∧ t.power.strapConflict = false ∧
        Within [.freeCount, .power, .time, .log, .sec] s t) ∧
    (s.power.stage = .rising →
      ∃ t, exec .powerGood s = .next t ∧ t.power.stage = .up ∧ t.power.pgood = true ∧
        (∀ n, s.power.riseStep ≤ n → ∀ d, d ∈ riseOrder.getD n [] → t.dom d = .on) ∧
        (∀ d, (∀ n, n < riseOrder.length → s.power.riseStep ≤ n → d ∉ riseOrder.getD n []) → t.dom d = s.dom d) ∧
        t.boot.lastClass = 1 ∧ t.boot.resetCount = (s.boot.resetCount + 1) % 2 ^ 32 ∧
        t.boot.phase = (if s.boot.held then 0 else 1) ∧ t.time.sec = s.time.rtcNow ∧ t.time.ns = 0 ∧ t.time.mono = 0 ∧
        Within [.freeCount, .power, .boot, .time, .facets, .log] s t) ∧
    (s.supplied = false → s.power.failing = false →
      ∃ t, exec .orderingViolation s = .next t ∧
        t.power = { s.power with violations := (s.power.violations + 1) % 2 ^ 32, violationPending := true } ∧
        Within [.power] s t) ∧
    (s.domOn 1 = true →
      (∀ level, ∃ t, exec (.slotStrapConflict level) s = .next t ∧
        t.power = { s.power with strapConflict := true, strapLevel := some level } ∧ Within [.power] s t) ∧
      (∃ t, exec .ocxoWarmUp s = .next t ∧ t.power = { s.power with ocxoWarm := true } ∧ Within [.power] s t) ∧
      (∀ inlet : Int, ∃ t, exec (.inletOutsideRating inlet) s = .next t ∧
        t.power = { s.power with inlet := some inlet, inletRange :=
          if Config.orderingCodeX then decide (inlet < -400 ∨ 700 < inlet) else decide (inlet < -250 ∨ 600 < inlet) } ∧
        Within [.power] s t)) ∧
    (∀ j : Int, s.power.pwrEn = false → s.power.thermal ≠ 2 →
      ∃ t, exec (.pwrEnRise j) s = .next t ∧
        t.power = { s.power with pwrEn := true, junction := j, crossing := s.power.crossing.filter (· != 8) } ∧
        Within [.power] s t) ∧
    (∀ j : Int, s.power.pwrEn = false → s.power.thermal = 2 → j < 900 →
      ∃ t, exec (.pwrEnRise j) s = .next t ∧
        t.power = { s.power with pwrEn := true, junction := j, crossing := s.power.crossing.filter (· != 8), thermal := 0,
                                 restartAsked := true, thermAlertN := true } ∧ Within [.power] s t)

/-- The thresholds of Table 2.6 and R45: each reading is held, and its flag and cause follow it. With the hot-swap controller
on, a threshold that begins the power-fail sequence is crossed, and one within which the reading lies is not (R36); the other
thresholds stay as they are. In standby management the inputs are only read, and VIN_IO's loss takes PD1 away.
Choices of the model that it rests on: log 3, log 16. -/
def Obligations.SupplyThresholds : Prop :=
  ∀ (s : State) (mv : Nat), mv < 2 ^ 16 →
    (s.supplied = true → s.domOn 1 = true →
      (mv < 10200 → ∃ t, exec (.vinMainUndervoltage mv) s = .next t ∧ 1 ∈ t.power.crossing ∧ 3 ∉ t.power.crossing ∧
        (∀ r, r ≠ 1 → r ≠ 3 → (r ∈ t.power.crossing ↔ r ∈ s.power.crossing)) ∧
        t.power = { s.power with mains := mv, mainOv := false, crossing := t.power.crossing } ∧
        Within [.power, .facets, .pair, .log, .health] s t) ∧
      (10200 ≤ mv → mv ≤ 13200 → ∃ t, exec (.vinMainUndervoltage mv) s = .next t ∧ 1 ∉ t.power.crossing ∧
        3 ∉ t.power.crossing ∧ (∀ r, r ≠ 1 → r ≠ 3 → (r ∈ t.power.crossing ↔ r ∈ s.power.crossing)) ∧
        t.power = { s.power with mains := mv, mainOv := false, crossing := t.power.crossing } ∧
        Within [.power, .facets, .pair, .log, .health] s t) ∧
      (13200 < mv → mv ≤ 14000 → ∃ t, exec (.vinMainOvervoltageWarning mv) s = .next t ∧ 1 ∉ t.power.crossing ∧
        3 ∉ t.power.crossing ∧ (∀ r, r ≠ 1 → r ≠ 3 → (r ∈ t.power.crossing ↔ r ∈ s.power.crossing)) ∧
        t.power = { s.power with mains := mv, mainOv := true, crossing := t.power.crossing } ∧
        t.health.causes.testBit 1 = true ∧ Within [.power, .facets, .pair, .log, .health] s t) ∧
      (14000 < mv → ∃ t, exec (.vinMainOvervoltage mv) s = .next t ∧ 1 ∉ t.power.crossing ∧ 3 ∈ t.power.crossing ∧
        (∀ r, r ≠ 1 → r ≠ 3 → (r ∈ t.power.crossing ↔ r ∈ s.power.crossing)) ∧
        t.power = { s.power with mains := mv, mainOv := false, crossing := t.power.crossing } ∧
        Within [.power, .facets, .pair, .log, .health] s t) ∧
      (∃ t, exec (.vinAnaUndervoltage mv) s = .next t ∧ (4 ∈ t.power.crossing ↔ mv < 4600) ∧
        (∀ r, r ≠ 4 → (r ∈ t.power.crossing ↔ r ∈ s.power.crossing)) ∧
        t.power = { s.power with ana := mv, crossing := t.power.crossing } ∧ Within [.power] s t) ∧
      (∃ t, exec (.vinIoLost mv) s = .next t ∧ t.power = { s.power with io := mv, ioLost := decide (mv < 3000) } ∧
        t.health.causes.testBit 1 = (decide (mv < 3000) || s.power.mainOv || s.power.batLow || s.power.batAbsent) ∧
        Within [.power, .facets, .pair, .log, .health] s t) ∧
      (∃ t, exec .pwrEnFall s = .next t ∧ 8 ∈ t.power.crossing ∧
        (∀ r, r ≠ 8 → (r ∈ t.power.crossing ↔ r ∈ s.power.crossing)) ∧
        t.power = { s.power with pwrEn := false, crossing := t.power.crossing } ∧ Within [.power] s t) ∧
      (∀ j : Int, 1100 ≤ j → ∃ t, exec (.thermalShutdown j) s = .next t ∧ 9 ∈ t.power.crossing ∧
        (∀ r, r ≠ 9 → (r ∈ t.power.crossing ↔ r ∈ s.power.crossing)) ∧
        t.power = { s.power with junction := j, thermal := 2, thermAlertN := false, restartAsked := false,
                                 crossing := t.power.crossing } ∧
        Within [.power, .facets, .log] s t)) ∧
    (s.power.stage = .standby → s.domOn 1 = true →
      (∃ t, exec (.vinMainUndervoltage mv) s = .next t ∧ t.power = { s.power with mains := mv } ∧ Within [.power] s t) ∧
      (mv < 4600 → ∃ t, exec (.vinAnaUndervoltage mv) s = .next t ∧
        t.power = { s.power with ana := mv, anaOk := false, ocxoWarm := false } ∧ Within [.power] s t) ∧
      (3000 ≤ mv → ∃ t, exec (.vinIoLost mv) s = .next t ∧ t.power = { s.power with io := mv } ∧ Within [.power] s t) ∧
      (mv < 3000 → ∃ t, exec (.vinIoLost mv) s = .next t ∧ t.power.stage = .off ∧ t.power.io = mv ∧
        (∀ d, t.dom d = if d = 1 then .off else s.dom d) ∧ (s.power.batAbsent = true → t.sec.keyStoreEmpty = true) ∧
        (s.power.batAbsent = false → t.sec = s.sec) ∧ Within [.power, .access, .can, .sec] s t)) ∧
    (s.domOn 1 = true →
      (mv < 2600 → ∃ t, exec (.vbatLow mv) s = .next t ∧
        t.power = { s.power with bat := mv, batLow := true, batAbsent := decide (mv < 1000) } ∧
        t.health.causes.testBit 1 = true ∧ Within [.power, .facets, .pair, .log, .health] s t) ∧
      (mv < 1000 → ∃ t, exec (.vbatAbsent mv) s = .next t ∧
        t.power = { s.power with bat := mv, batLow := true, batAbsent := true } ∧
        t.health.causes.testBit 1 = true ∧ Within [.power, .facets, .pair, .log, .health] s t) ∧
      (∀ j : Int, s.power.thermal ≠ 2 → ∃ t, exec (.thermalWarning j) s = .next t ∧
        t.power = { s.power with junction := j, thermal := if s.reg 0x1803 7 ≤ j then 1 else 0,
                                 thermAlertN := decide (j < s.reg 0x1803 7) } ∧
        t.health.causes.testBit 0 = decide (s.reg 0x1803 7 ≤ j) ∧
        Within [.power, .facets, .pair, .log, .health] s t))

/-- The power-fail sequence of Table 2.7, in its order: qualification of the oldest threshold that stayed crossed (the class-1
reset takes hold and ownership is gone),
the switches, the frame stop, the last-gasp record in the bank, the domains, the flush, and standby management; and the
loss of PD0 without any supply.
Choices of the model that it rests on: log 16. -/
def Obligations.PowerFailSequence : Prop :=
  ∀ s : State,
    (∀ c l, s.supplied = true → s.power.crossing = c :: l →
      ∃ t, exec .supplyEventQualified s = .next t ∧ t.power.stage = .failing ∧ t.power.cause = c ∧ t.power.crossing = [] ∧
        t.power.pfailN = false ∧ t.power.pgood = false ∧ t.power.oselOwn = false ∧ t.pair.own = false ∧ t.pair.role = 0 ∧
        t.capture.slots = [] ∧ t.boot.phase = s.boot.phase ∧
        t.power.powerFails = (s.power.powerFails + 1) % 2 ^ 32 ∧
        Within [.power, .boot, .access, .time, .logic, .facets, .capture, .pair, .log, .can, .sec] s t) ∧
    (s.power.stage = .failing →
      (s.pair.switchesDue = true → ∃ t, exec .pfailFdoSwitchesOpen s = .next t ∧
        t.power = { s.power with fdoSwitches := false } ∧ t.pair = { s.pair with switchesDue := false } ∧
        Within [.power, .pair] s t) ∧
      (∃ t, exec .pfailFrameStop s = .next t ∧ t.power = { s.power with framesStopped := true } ∧ Within [.power] s t) ∧
      (s.power.gasped = false → s.log.bankMode = false → ∃ t, exec .lastGaspRecord s = .next t ∧
        t.power = { s.power with gasped := true } ∧ t.log.next = s.log.next + 1 ∧
        (∃ r, mapFind t.log.bank (8 + s.log.bankPtr % 8) = some r ∧ r.seq = s.log.next ∧ r.typ = 0x0E03 ∧ r.severity = 2) ∧
        (∀ e, e ≠ 8 + s.log.bankPtr % 8 → mapFind t.log.bank e = mapFind s.log.bank e) ∧ Within [.power, .log] s t) ∧
      (∃ t, exec .pfailDomainsOff s = .next t ∧
        (∀ d, t.dom d = if d ∈ [3, 4, 5, 6, 7, 9, 10] then .off else s.dom d) ∧ t.lens = default ∧ t.phasor = default ∧
        t.goose = default ∧ Within [.power, .lens, .phasor, .goose, .facets] s t) ∧
      (∃ t, exec .pfailFlush s = .next t ∧ (∀ d, t.dom d = if d ∈ [8, 11] then .off else s.dom d) ∧ t.mem = [] ∧
        t.logic = default ∧ t.fabric = default ∧ t.capture.slots = [] ∧ t.capture.store = s.capture.store ∧ t.log.held = [] ∧
        t.time.sec = s.time.rtcNow ∧ Within [.mem, .power, .time, .fabric, .logic, .capture, .log] s t) ∧
      (s.power.ioLost = true → s.power.cause = 1 ∨ s.power.cause = 3 → ∃ t, exec .pfailPd2Off s = .next t ∧
        t.power.stage = .off ∧ (∀ d, t.dom d = if d = 1 ∨ d = 2 then .off else s.dom d) ∧ t.boot.phase = 0 ∧
        t.pair.role = 0 ∧ t.mem = [] ∧ t.pending = s.pending) ∧
      (s.power.ioLost = false ∨ (s.power.cause ≠ 1 ∧ s.power.cause ≠ 3) →
        ∃ t, exec .pfailPd2Off s = .next t ∧ t.power.stage = .standby ∧ t.dom 2 = .off ∧ (∀ d, d ≠ 2 → t.dom d = s.dom d) ∧ t.boot.phase = 0 ∧ t.pair.role = 0 ∧ t.time.sec = s.time.rtcNow ∧ t.mem = [] ∧
        t.pending = s.pending)) ∧
    (s.power.stage = .off → s.sec.keyStoreEmpty = true →
      ∃ t, exec .pd0RetentionLoss s = .next t ∧ t.power = { s.power with latch := true } ∧ Within [.power] s t) ∧
    (s.power.stage = .off → s.sec.keyStoreEmpty = false →
      ∃ t, exec .pd0RetentionLoss s = .next t ∧ t.power = { s.power with latch := true } ∧ t.sec.keyStoreEmpty = true ∧
        Within [.power, .sec] s t)

/-- Cluster-pair domains, thermal restart and the checks of the output drivers and the selector (R41, R42, R45, R48, R54):
an accepted command moves its domain, and no other; a test that passes lets it serve; the selector's reading follows the
pin.
Choices of the model that it rests on: log 16. -/
def Obligations.DomainsAndOutputs : Prop :=
  ∀ s : State,
    (∀ d, 3 ≤ d → d ≤ 6 →
      (Accepted s rowReq (ek 0x1802 (d - 2)) (.int 0) → s.power.stage = .up → s.power.thermal ≠ 2 → s.dom d = .on →
        s.domainInUse d = false → 1 < ([3, 4, 5, 6].filter fun k => s.dom k == .on).length →
        ∃ t, exec (.clusterPairOff d) s = .next t ∧ t.reply.code = 0 ∧ t.dom d = .off ∧ (∀ e, e ≠ d → t.dom e = s.dom e) ∧
          t.boot = { s.boot with lastClass := 7 } ∧ Within [.reply, .regs, .power, .boot, .facets, .pair, .log, .health] s t) ∧
      (Accepted s rowReq (ek 0x1802 (d - 2)) (.int 1) → s.power.stage = .up → s.power.thermal ≠ 2 →
        s.dom d = .off ∨ s.dom d = .failed →
        ∃ t, exec (.clusterPairOn d) s = .next t ∧ t.reply.code = 0 ∧ t.dom d = .ramping ∧ (∀ e, e ≠ d → t.dom e = s.dom e) ∧
          t.boot = { s.boot with lastClass := 7 } ∧ Within [.reply, .regs, .power, .boot, .facets, .pair, .log, .health] s t) ∧
      (s.supplied = true → s.dom d = .ramping → s.boot.phase ≠ 0 →
        ∃ t, exec (.domainRampingDone d) s = .next t ∧ t.dom d = .testing ∧ (∀ e, e ≠ d → t.dom e = s.dom e) ∧
          Within [.power, .facets, .pair, .log, .health] s t) ∧
      (s.supplied = true → s.dom d = .testing → ∀ pass,
        ∃ t, exec (.domainTestingDone d pass) s = .next t ∧ t.dom d = (if pass then .on else .failed) ∧
          (∀ e, e ≠ d → t.dom e = s.dom e) ∧
          t.health.causes.testBit 2 = ([3, 4, 5, 6].any fun k => t.dom k == .failed) ∧
          Within [.power, .facets, .pair, .log, .health] s t)) ∧
    (∀ j : Int, s.power.stage = .standby → s.domOn 1 = true → s.power.thermal = 2 → j < 900 →
      ∃ t, exec (.thermalRestart j) s = .next t ∧ t.reply.code = 0 ∧
        t.power = { s.power with junction := j, thermal := 0, restartAsked := true, thermAlertN := true } ∧
        Within [.reply, .power] s t) ∧
    (s.stewardUp = true → s.lit = false → s.power.oselFb = true →
      ∃ t, exec .oselFbStuck s = .next t ∧ t.health.causes.testBit 20 = true ∧ (t.testEntry 8).result = 3 ∧
        (t.testEntry 8).failures = ((s.testEntry 8).failures + 1) % 2 ^ 32 ∧ Within [.facets, .pair, .log, .health] s t) ∧
    (s.domOn 1 = true →
      (∃ t, exec (.oselFbChange false) s = .next t ∧ t.power = { s.power with oselFb := false } ∧
        t.health.causes.testBit 20 = false ∧ Within [.power, .facets, .pair, .log, .health] s t) ∧
      (∃ t, exec (.oselFbChange true) s = .next t ∧ t.power = { s.power with oselFb := true } ∧
        (s.lit = true → s.pair.checking = true → t.pair.checking = false ∧ t.pair.gain = none) ∧
        Within [.power, .pair] s t)) ∧
    (∀ driver, driver < 32 → s.running = true → s.pair.role = 2 ∨ s.pair.role = 3 →
      (∃ t, exec (.fdoPulseTest driver false) s = .next t ∧ t.power = { s.power with pulses := s.power.pulses + 1 } ∧
        t.health.causes.testBit 17 = true ∧ (t.testEntry 5).result = 3 ∧ (t.testEntry 5).unit = driver ∧
        Within [.power, .facets, .pair, .log, .health] s t) ∧
      ((s.testEntry 5).result ≠ 3 ∨ (s.testEntry 5).unit = driver →
        ∃ t, exec (.fdoPulseTest driver true) s = .next t ∧ t.power = { s.power with pulses := s.power.pulses + 1 } ∧
          t.health.causes = s.health.causes ∧ (t.testEntry 5).result = 1 ∧ (t.testEntry 5).lastPass = some s.mono ∧
          Within [.power, .health] s t))

/-! ### Start-up, resets, firmware and configuration (chapter 3) -/

/-- Resets of classes 2 to 5 (R66 to R69, Table 3.2): each clears what its class clears, gives up ownership, opens the
switches, counts itself and begins phase 1, or holds the steward where CH_RST_N is held.
Choices of the model that it rests on: log 4, log 16. -/
def Obligations.Resets : Prop :=
  ∀ s : State,
    (s.domOn 2 = true → s.supplied = true →
      ∃ t, exec .chassisReset s = .next t ∧ ResetDone 2 true s t) ∧
    (s.boot.held = true →
      ∃ t, exec .chassisResetRelease s = .next t ∧ t.boot = { s.boot with held := false, phase := 1 } ∧ Within [.boot] s t) ∧
    (Accepted s rowReq (ek 0xC002 1) (.int 1) → s.lit = false →
      ∃ t, exec .orderlyReset s = .next t ∧ t.reply.code = 0 ∧ ResetDone 5 false s t) ∧
    (Accepted s rowReq (ek 0xC002 1) (.int 1) → s.lit = true → s.pair.partnerRole = 2 →
      ∃ t, exec .orderlyReset s = .next t ∧ t.reply.code = 0 ∧ t.pair.swapArmed = true ∧ t.boot.swapThenReset = true ∧
        t.pair.role = 1 ∧ Within [.reply, .pair, .boot] s t) ∧
    (Accepted s rowReq (ek 0xC002 2) (.int 1) →
      ∃ t, exec .forcedReset s = .next t ∧ t.reply.code = 0 ∧ ResetDone 5 false s t) ∧
    (s.executing = true →
      (∃ t, exec .stewardWatchdogExpiry s = .next t ∧ ResetDone 3 false s t) ∧
      (∀ x, ∃ t, exec (.fatalError x) s = .next t ∧ ResetDone 4 false s t))

/-- The start-up phases of Table 3.1, in their order: what ends each of them, and what each leaves (R58 to R65).
Choices of the model that it rests on: log 16, log 23. -/
def Obligations.StartUpPhases : Prop :=
  ∀ s : State,
    (s.inPhase 1 = true → ∃ t, exec .bootRom s = .next t ∧ t.boot = { s.boot with phase := 2 } ∧ Within [.boot, .facets, .log] s t) ∧
    (s.inPhase 2 = true → s.stuck = false → ∀ sigA sigB n st b, s.boot.choose = (n, st, b) →
      b.slotOk n (if n = 0 then sigA else sigB) = true →
      ∃ t, exec (.secureBoot sigA sigB) s = .next t ∧
        t.boot = { b with booted := n, bootState := st, failedSlots := [], phase := 3 } ∧ Within [.boot, .facets, .log] s t) ∧
    (s.inPhase 2 = true → s.stuck = false → ∀ sigA sigB n st b, s.boot.choose = (n, st, b) →
      b.slotOk n (if n = 0 then sigA else sigB) = false → b.slotOk (1 - n) (if 1 - n = 0 then sigA else sigB) = false →
      ∃ t, exec (.secureBoot sigA sigB) s = .next t ∧ t.boot = { b with failedSlots := [n, 1 - n] } ∧
        Within [.boot, .facets, .log] s t) ∧
    (s.inPhase 3 = true → ∃ t, exec .keyStoreUnlock s = .next t ∧ t.boot = { s.boot with phase := 4 } ∧
      Within [.boot, .facets, .log] s t) ∧
    (s.inPhase 4 = true → ∀ crcOk, ∃ t, exec (.stewardStart crcOk) s = .next t ∧ t.boot = { s.boot with phase := 5 } ∧
      t.log.ready = true ∧ t.power = { s.power with violationPending := false, latch := false } ∧
      Within [.freeCount, .power, .boot, .facets, .pair, .log, .health] s t) ∧
    (s.inPhase 5 = true → s.boot.cfgBad = false → s.boot.current.marked = 0 → ∀ m,
      (∃ t, exec (.configurationLoad false m) s = .next t ∧ t.boot = { s.boot with cfgBad := true } ∧ Within [.boot] s t) ∧
      (s.cfgSigned s.boot.activeRaw = false → ∃ t, exec (.configurationLoad true m) s = .next t ∧
        t.boot = { s.boot with cfgBad := true } ∧ Within [.boot] s t) ∧
      (s.cfgSigned s.boot.activeRaw = true → ∃ t, exec (.configurationLoad true m) s = .next t ∧ 6 ≤ t.boot.phase ∧ t.boot.cfgBad = false ∧
        t.boot.active = s.boot.active ∧
        Within [.reply, .freeCount, .regs, .blobs, .tickRegs, .mem, .boot, .access, .time, .fabric, .phasor, .goose, .logic,
          .facets, .capture, .pair, .log, .can, .sec] s t)) ∧
    (s.inPhase 6 = true →
      (s.regN 0xC001 2 = 0 → ∃ t, exec .timeAcquisitionWaitExpired s = .next t ∧ t.boot = { s.boot with phase := 7 } ∧
        Within [.boot, .facets, .log] s t) ∧
      (s.regN 0xC001 2 ≠ 0 → ∃ t, exec .timeAcquisitionWaitExpired s = .next t ∧ t.boot = { s.boot with waited := true } ∧
        (s.boot.waited = false → t.log = s.log) ∧ Within [.freeCount, .boot, .facets, .log] s t)) ∧
    (s.inPhase 7 = true → s.pair.role = 0 → s.pair.selfFenced = false → ∀ lines : Lines,
      (s.sec.provisioned = true → s.power.peerPresentN = true → s.pair.takeoverFault = false → linesOwner lines = false →
        linesRequest lines = false →
        ∃ t, exec (.roleDecision lines) s = .next t ∧ t.pair.role = 1 ∧ t.pair.own = true ∧ t.pair.cause = 7 ∧
          t.boot.phase = 8 ∧ t.lens.state = 1 ∧ t.power.oselOwn = s.power.oselOwn) ∧
      (s.sec.provisioned = false →
        ∃ t, exec (.roleDecision lines) s = .next t ∧ t.pair.role = 3 ∧ t.pair.own = s.pair.own ∧ t.boot.phase = 8 ∧
          t.lens.state = 1)) ∧
    (s.running = true → 7 ≤ s.boot.phase → s.pair.trained = false → s.pair.role = 2 ∨ s.pair.role = 3 →
      ∃ t, exec .mirrorLinkTrainingTimeout s = .next t ∧ t.pair.elig.testBit 6 = true ∧ t.pair.role = 3 ∧
        Within [.facets, .pair, .log] s t) ∧
    (s.inPhase 8 = true → s.domOn 7 = true → s.lens.state = 1 →
      ∃ t, exec .lensStart s = .next t ∧ t.lens.state = 2 ∧ t.lens.opened = [] ∧ t.lens.newest = none ∧
        1000000000 * s.lens.startAt ≤ t.now ∧ Within [.mem, .time, .lens] s t) ∧
    (s.inPhase 8 = true → s.lens.state = 2 →
      ∃ t, exec .protectionStart s = .next t ∧ t.boot.phase = 9 ∧
        (s.lit = true → t.power.oselOwn = true ∧ t.power.fdoSwitches = true) ∧ (s.lit = false → t.power = s.power) ∧
        Within [.regs, .mem, .power, .boot, .time, .goose, .logic, .facets, .pair, .log, .can] s t) ∧
    (s.inPhase 9 = true → s.boot.launched = false →
      ∃ t, exec .facetAutostart s = .next t ∧ t.boot.launched = true ∧
        Within [.regs, .mem, .boot, .time, .goose, .facets, .capture, .log, .health] s t)

/-- Firmware installation, trial and commit (R70 to R73): an accepted begin erases the header of the inactive slot, segments
go to it in order, a verification of signature, digest and security version ends it ready or failed, a trial names its slot with three attempts, and a commit makes the running
slot the committed one and raises the floor.
Choices of the model that it rests on: log 16, log 20, log 23. -/
def Obligations.FirmwareUpdate : Prop :=
  ∀ s : State,
    (∀ sess, sess ≤ 8 →
      (Accepted s (sessReq sess) (ek 0xC010 1) (.int 1) → s.boot.bootState ≠ 1 → s.boot.inst ≠ 1 → s.boot.inst ≠ 2 →
        ∃ t, exec (.installationBegin sess) s = .next t ∧ t.reply.code = 0 ∧
          t.boot = { s.boot.setSlot s.boot.target { hdr := none, image := [] } with instOwner := sess, instBytes := 0, inst := 1 } ∧
          Within [.reply, .boot, .facets, .log] s t) ∧
      (Accepted s (sessReq sess) (ek 0xC010 1) (.int 0) → s.boot.inst = 1 ∨ s.boot.inst = 2 → s.boot.instOwner = sess →
        ∃ t, exec (.installationAbort sess) s = .next t ∧ t.reply.code = 0 ∧ t.boot = { s.boot with inst := 0 } ∧
          Within [.reply, .boot, .facets, .log] s t) ∧
      (Accepted s (sessReq sess) (ek 0xC010 1) (.int 2) → s.boot.inst = 1 → s.boot.instOwner = sess →
        ∃ t, exec (.installationVerify sess) s = .next t ∧ t.reply.code = 0 ∧ t.boot = { s.boot with inst := 2 } ∧
          Within [.reply, .boot, .facets, .log] s t) ∧
      (∀ data : ByteList, s.serves sess = true → s.boot.inst = 1 → s.boot.instOwner = sess →
        s.boot.instBytes + data.length ≤ 1610612736 →
        ∃ t, exec (.firmwareSegment sess data) s = .next t ∧ t.reply.code = 0 ∧
          t.boot = { s.boot.setSlot s.boot.target
            { s.boot.slot s.boot.target with image := (s.boot.slot s.boot.target).image ++ data } with
            instBytes := s.boot.instBytes + data.length } ∧ Within [.reply, .boot] s t)) ∧
    (∀ (result : Nat) (hdr : FwHeader), s.serves 8 = true → s.boot.inst = 2 →
      (result = 0 → ∃ t, exec (.firmwareVerificationDone result hdr) s = .next t ∧
        ((s.boot.slot s.boot.target).image = [] ∨ (s.boot.slot s.boot.target).verified hdr = false →
          t.boot = { s.boot with instResult := 0x0E03, inst := 4 }) ∧
        ((s.boot.slot s.boot.target).image ≠ [] → (s.boot.slot s.boot.target).verified hdr = true →
          (hdr.secVersion < s.boot.floor → t.boot = { s.boot with instResult := 0x0E04, inst := 4 }) ∧
          (s.boot.floor ≤ hdr.secVersion →
            t.boot = { s.boot.setSlot s.boot.target { s.boot.slot s.boot.target with hdr := some hdr } with
              instResult := 0, inst := 3 })) ∧
        Within [.boot, .facets, .log] s t) ∧
      (result ≠ 0 →
        ∃ t, exec (.firmwareVerificationDone result hdr) s = .next t ∧
          t.boot = { s.boot with instResult := result, inst := 4 } ∧ Within [.boot, .facets, .log] s t)) ∧
    (∀ n : Nat, n < 2 → Accepted s rowReq (ek 0xC011 1) (.int n) → (s.boot.slot n).hdr.isSome = true →
      ∃ t, exec (.trialSlot n) s = .next t ∧ t.reply.code = 0 ∧
        t.boot.current = { s.boot.current with trial := some n, attempts := 3, seq := s.boot.current.seq + 1, good := true } ∧
        Within [.reply, .boot] s t) ∧
    (s.boot.bootState = 1 →
      (Accepted s rowReq (ek 0xC011 2) (.int 1) →
        ∃ t, exec .commit s = .next t ∧ t.reply.code = 0 ∧ Committed s t ∧ Within [.reply, .boot, .facets, .log] s t) ∧
      (s.stewardUp = true → s.boot.trialSince.isSome = true → s.regN 0xC011 3 ≠ 0 →
        ∃ t, exec .trialPeriodExpired s = .next t ∧ Committed s t ∧ Within [.boot, .facets, .log] s t))

/-- The configuration store (R74, R79): an accepted load collects the image of its session, a check makes it pending and
checked, or drops it, and an activation marks an image for the next start.
Choices of the model that it rests on: log 16, log 17, log 23. -/
def Obligations.ConfigurationStore : Prop :=
  ∀ s : State,
    (∀ sess, sess ≤ 8 →
      (Accepted s (sessReq sess) (ek 0xC030 1) (.int 1) → s.boot.pend ≠ 1 → s.boot.pend ≠ 2 → s.boot.pend ≠ 5 →
        ∃ t, exec (.configurationBegin sess) s = .next t ∧ t.reply.code = 0 ∧
          t.boot = { s.boot with pend := 1, pendOwner := sess, pending := none, pendingRaw := [] } ∧ Within [.reply, .boot] s t) ∧
      (Accepted s (sessReq sess) (ek 0xC030 1) (.int 0) → s.boot.pend = 1 ∨ s.boot.pend = 2 → s.boot.pendOwner = sess →
        ∃ t, exec (.configurationAbort sess) s = .next t ∧ t.reply.code = 0 ∧
          t.boot = { s.boot with pend := 0, pending := none, pendingRaw := [] } ∧ Within [.reply, .boot] s t) ∧
      (Accepted s (sessReq sess) (ek 0xC030 1) (.int 2) → s.boot.pend = 1 → s.boot.pendOwner = sess →
        ∃ t, exec (.configurationVerify sess) s = .next t ∧ t.reply.code = 0 ∧ t.boot = { s.boot with pend := 2 } ∧
          Within [.reply, .boot] s t) ∧
      (∀ data : ByteList, s.stewardUp = true → s.boot.pend = 1 → s.boot.pendOwner = sess →
        s.boot.pendingRaw.length + data.length ≤ 268435456 →
        ∃ t, exec (.configurationSegment sess data) s = .next t ∧ t.reply.code = 0 ∧
          t.boot = { s.boot with pendingRaw := s.boot.pendingRaw ++ data } ∧ Within [.reply, .boot] s t)) ∧
    (∀ (result : Nat) (img : CfgImage), s.stewardUp = true → s.boot.pend = 2 →
      (result = 0 → ∃ t, exec (.configurationVerificationDone result img) s = .next t ∧
        (imageOver img = false → signedImage 1 s.sec.rootOk s.boot.pendingRaw = true →
          t.boot = { s.boot with cfgResult := 0, pend := 3, pending := some img }) ∧
        (imageOver img = false → signedImage 1 s.sec.rootOk s.boot.pendingRaw = false →
          t.boot = { s.boot with cfgResult := 0x0E03, pend := 4, pending := none, pendingRaw := [] }) ∧
        (imageOver img = true →
          t.boot = { s.boot with cfgResult := 0x0A01, pend := 4, pending := none, pendingRaw := [] }) ∧ Within [.boot] s t) ∧
      (result ≠ 0 →
        ∃ t, exec (.configurationVerificationDone result img) s = .next t ∧
          t.boot = { s.boot with cfgResult := result, pend := 4, pending := none, pendingRaw := [] } ∧ Within [.boot] s t)) ∧
    (∀ img, Accepted s rowReq (ek 0xC030 1) (.int 3) → s.boot.current.marked = 0 → s.boot.pend = 3 →
      s.boot.pending = some img → cfgTripCode img = 0 →
      ∃ t, exec .activatePending s = .next t ∧ t.reply.code = 0 ∧ t.boot.pend = 5 ∧ t.boot.current.marked = 1 ∧
        t.boot.pending = some img ∧ t.boot.active = s.boot.active ∧ Within [.reply, .boot] s t) ∧
    (Accepted s rowReq (ek 0xC030 1) (.int 4) → s.boot.current.marked = 0 → s.boot.previous.isSome = true →
      ∃ t, exec .activatePrevious s = .next t ∧ t.reply.code = 0 ∧ t.boot.current.marked = 2 ∧ t.boot.active = s.boot.active ∧
        Within [.reply, .boot] s t)

/-! ### Management access (chapter 4) -/

/-- The requests of the Management Access Protocol (R81 to R92, R96, R97): a READ answers the entry's value, a WRITE and a
WRITE_SET apply their values, DESCRIBE answers the attributes, LOCK and UNLOCK change the lock table, CLOSE ends the
session and ABORT its transfer.
Choices of the model that it rests on: log 2, log 20. -/
def Obligations.MapRequests : Prop :=
  ∀ (s : State) (m : MapMsg) (x : Session), Served s m x →
    (∀ e, m.sub ≠ 0 → m.sub < 256 → entryOf (ek m.index m.sub) = some e → e.acc ≠ 2 →
      roleOk (s.requester m.sess x).role e.rd = true → s.pathOk (s.requester m.sess x) (ek m.index m.sub) false = true →
      ¬(0x3120 ≤ m.index ∧ m.index ≤ 0x3123) → ek m.index m.sub ≠ ek 0xA040 1 →
      (valBytes e.typ (s.readEntry m.sess (ek m.index m.sub))).length ≤ 1024 →
      ∃ t, exec (.read m) s = .next t ∧ t.reply.code = 0 ∧
        t.reply.payload = valBytes e.typ (s.readEntry m.sess (ek m.index m.sub)) ∧
        t.reply.msgs = [mapMessage (mapHead 1 m.tid m.index m.sub e.typ) 0
          (valBytes e.typ (s.readEntry m.sess (ek m.index m.sub)))] ∧ Within [.reply, .freeCount, .access] s t) ∧
    (∀ v, m.typ = entryType (ek m.index m.sub) → decodeVal m.typ m.payload = some v →
      Accepted s (s.requester m.sess x) (ek m.index m.sub) v → overlaid (ek m.index m.sub) = true →
      ∃ t, exec (.write m) s = .next t ∧ t.reply.code = 0 ∧ mapFind t.access.overlay (ek m.index m.sub) = some v) ∧
    (∀ l : List RawItem, writeGroups m.index 18 m.payload = some l → l ≠ [] → l.length ≤ 16 →
      (∀ i ∈ l, s.rawCode (s.requester m.sess x) i = 0) →
      ∀ items : ValList, items = (l.filterMap fun i => (decodeVal (entryType i.key) i.data).map fun v => (i.key, v)) →
      (∀ p ∈ items, configEntry p.1 = true ∧ s.ownerCode (s.putVals items) p.1 p.2 = 0) →
      overBudget s (s.applyItems (s.requester m.sess x) items).2 = false →
      overlayFull (s.applyItems (s.requester m.sess x) items).2.access.overlay = false →
      (s.lit = true → s.pair.partnerRole = 2 → ∀ p ∈ items, forwardedItem p.1 p.2 = false) →
      ∃ t, exec (.writeSet m) s = .next t ∧ t.reply.code = 0 ∧ t.reply.payload = [] ∧
        t.access.overlay = (s.applyItems (s.requester m.sess x) items).2.access.overlay ∧
        t.regs = (s.applyItems (s.requester m.sess x) items).2.regs) ∧
    (∀ e, m.sub ≠ 0 → entryOf (ek m.index m.sub) = some e → m.sess ≠ 8 ∨ s.sec.debugOpen = true →
      ∃ t, exec (.describe m) s = .next t ∧ t.reply.code = 0 ∧ t.reply.payload = describeBytes (ek m.index m.sub) e ∧
        Within [.reply, .access] s t) ∧
    (∀ n, m.sub = 0 → topSub m.index = some n → m.sess ≠ 8 ∨ s.sec.debugOpen = true →
      ∃ t, exec (.describe m) s = .next t ∧ t.reply.code = 0 ∧
        t.reply.payload = [byteOf 5, byteOf 0, byteOf 1, byteOf 0, byteOf n, byteOf n, byteOf n] ∧
        Within [.reply, .access] s t) ∧
    (m.payload.length = 2 → (s.requester m.sess x).role = 3 ∨ (s.requester m.sess x).role = 5 → m.index ≤ beNat m.payload →
      (∀ l ∈ s.access.locks, l.last < m.index ∨ beNat m.payload < l.first) → s.access.locks.length < 8 →
      ∃ t, exec (.lock m) s = .next t ∧ t.reply.code = 0 ∧
        t.access.locks = s.access.locks ++ [{ sess := m.sess, first := m.index, last := beNat m.payload }] ∧
        t.access.overlay = s.access.overlay ∧ Within [.reply, .access, .facets, .log] s t) ∧
    (∃ t, exec (.unlock m) s = .next t ∧ t.reply.code = 0 ∧
      t.access.locks = s.access.locks.filter (fun l => l.sess != m.sess) ∧ t.access.overlay = s.access.overlay ∧
      Within [.reply, .access, .facets, .log] s t) ∧
    (m.sess < 8 → x.transfer = none →
      ∃ t, exec (.close m) s = .next t ∧ t.reply.code = 0 ∧ t.access.sessions = mapDel m.sess s.access.sessions ∧
        t.access.locks = s.access.locks.filter (fun l => l.sess != m.sess) ∧
        Within [.reply, .access, .facets, .log, .sec] s t) ∧
    (x.transfer = none → ∃ t, exec (.abort m) s = .next t ∧ t.reply.code = 0 ∧ Within [.reply, .access] s t) ∧
    (∀ t0 : Transfer, x.transfer = some t0 → t0.down = true → t0.key = ek 0xC030 2 →
      ∃ t, exec (.abort m) s = .next t ∧ t.reply.code = 0 ∧
        (∃ y, mapFind t.access.sessions m.sess = some y ∧ y.transfer = none) ∧
        t.boot = { s.boot with pend := 4, cfgResult := 0x010C } ∧ Within [.reply, .boot, .access] s t)

/-- Segmented transfers of a session (R98 to R101). An initiation of a download that its entry and its owner allow opens the
transfer, and that of an exchange image discards a ready exchange (R288); a segment in order is taken, into the slot or the
image where the entry's owner takes it as it comes (R70, R79), and every sixteenth is acknowledged; any other is discarded and
counted. The end of a complete transfer closes it, and hands data whose digest agrees to the owner. An upload answers the length
of its snapshot, and each request for segments those that exist. A transfer without segments for 30 s is aborted, and its owner
told.
Choices of the model that it rests on: log 2, log 20, log 23. -/
def Obligations.MapTransfers : Prop :=
  ∀ s : State,
    (∀ (m : MapMsg) (x : Session), Served s m x →
      (m.payload.length = 4 → x.transfer = none →
        (Downloadable s (s.requester m.sess x) (ek m.index m.sub) (beNat m.payload) → ¬exchangeEntry (ek m.index m.sub) →
          ∃ t, exec (.segInitDown m) s = .next t ∧ t.reply.code = 0 ∧
            (∃ y, mapFind t.access.sessions m.sess = some y ∧
              y.transfer = some (Transfer.new true (ek m.index m.sub) (beNat m.payload) [])) ∧
            Within [.reply, .access] s t) ∧
        (∀ p, Downloadable s (s.requester m.sess x) (ek m.index m.sub) (beNat m.payload) → p < 1024 →
          m.index = 0x5400 + p → m.sub = 0x22 → (s.prog p).exState = 0 ∨ (s.prog p).exState = 3 ∨ (s.prog p).exState = 5 →
          ∃ t, exec (.segInitDown m) s = .next t ∧ t.reply.code = 0 ∧
            t.prog p = { s.prog p with exState := 1, exImage := none, report := [] } ∧ (∀ k, k ≠ p → t.prog k = s.prog k) ∧
            (∃ y, mapFind t.access.sessions m.sess = some y ∧
              y.transfer = some (Transfer.new true (ek m.index m.sub) (beNat m.payload) [])) ∧
            Within [.reply, .access, .logic] s t)) ∧
      (∀ t0 : Transfer, x.transfer = some t0 → t0.down = true → t0.key = ek m.index m.sub →
        m.payload.length = 32 →
        (segments1024 t0.total ≤ t0.next → sha256 t0.data = m.payload → t0.key = ek 0xC010 2 ∨ t0.key = ek 0xC030 2 →
          ∃ t, exec (.segEndDown m) s = .next t ∧ t.reply.code = 0 ∧
            (∃ y, mapFind t.access.sessions m.sess = some y ∧ y.transfer = none) ∧ Within [.reply, .access] s t) ∧
        (segments1024 t0.total ≤ t0.next → sha256 t0.data = m.payload → overlaid t0.key = true →
          Accepted (s.setSession m.sess { x with transfer := none }) (s.requester m.sess x) t0.key (.bytes t0.data) →
          ∃ t, exec (.segEndDown m) s = .next t ∧ t.reply.code = 0 ∧
            (∃ y, mapFind t.access.sessions m.sess = some y ∧ y.transfer = none) ∧
            mapFind t.access.overlay t0.key = some (.bytes t0.data)) ∧
        (t0.next < segments1024 t0.total →
          ∃ t, exec (.segEndDown m) s = .next t ∧ t.reply.code = 0x0113 ∧
            (∃ y, mapFind t.access.sessions m.sess = some y ∧ y.transfer = some t0) ∧ Within [.reply, .access] s t) ∧
        (segments1024 t0.total ≤ t0.next → sha256 t0.data ≠ m.payload →
          ∃ t, exec (.segEndDown m) s = .next t ∧ t.reply.code = 0x0116 ∧
            (∃ y, mapFind t.access.sessions m.sess = some y ∧ y.transfer = none) ∧
            Within [.reply, .boot, .access, .logic] s t)) ∧
      (∀ e, x.transfer = none → m.sub ≠ 0 → m.sub < 256 → entryOf (ek m.index m.sub) = some e → e.typ = 0x0F →
        e.acc ≠ 2 → roleOk (s.requester m.sess x).role e.rd = true →
        s.pathOk (s.requester m.sess x) (ek m.index m.sub) false = true → ek m.index m.sub ≠ ek 0xA040 1 →
        ∃ t, exec (.segInitUp m) s = .next t ∧ t.reply.code = 0 ∧
          t.reply.payload = beBytes 4 (valBytes 0x0F (s.readEntry m.sess (ek m.index m.sub))).length ∧
          (∃ y, mapFind t.access.sessions m.sess = some y ∧
            y.transfer = some (Transfer.new false (ek m.index m.sub) (valBytes 0x0F (s.readEntry m.sess (ek m.index m.sub))).length
              (valBytes 0x0F (s.readEntry m.sess (ek m.index m.sub))))) ∧
          Within [.reply, .freeCount, .access] s t)) ∧
    (∀ (m : MapMsg) (x : Session), Heard s m x → m.tid = 0 →
      (∀ t0 : Transfer, 4 ≤ m.payload.length → x.transfer = some t0 → t0.down = true →
        t0.key = ek m.index m.sub →
        (beAt m.payload 0 4 = t0.next → t0.next < segments1024 t0.total →
          (m.payload.drop 4).length = Nat.min 1024 (t0.total - 1024 * t0.next) →
          (t0.key ≠ ek 0xC010 2 → t0.key ≠ ek 0xC030 2 →
            ∃ t, exec (.segDown m) s = .next t ∧
              mapFind t.access.sessions m.sess =
                some { x with transfer := some { t0 with next := t0.next + 1, data := t0.data ++ m.payload.drop 4 } } ∧
              ((t0.next + 1) % 16 = 0 → t.reply.code = 0 ∧ t.reply.msgs = [segAck { t0 with next := t0.next + 1 }]) ∧
              Within [.reply, .access] s t) ∧
          (t0.key = ek 0xC010 2 → s.boot.inst = 1 → s.boot.instOwner = m.sess →
            s.boot.instBytes + (m.payload.drop 4).length ≤ 1610612736 →
            ∃ t, exec (.segDown m) s = .next t ∧
              mapFind t.access.sessions m.sess =
                some { x with transfer := some { t0 with next := t0.next + 1, data := t0.data ++ m.payload.drop 4 } } ∧
              (t.boot.slot s.boot.target).image = (s.boot.slot s.boot.target).image ++ m.payload.drop 4 ∧
              t.boot.instBytes = s.boot.instBytes + (m.payload.drop 4).length ∧ Within [.reply, .boot, .access] s t) ∧
          (t0.key = ek 0xC030 2 → s.boot.pend = 1 → s.boot.pendOwner = m.sess →
            s.boot.pendingRaw.length + (m.payload.drop 4).length ≤ 268435456 →
            ∃ t, exec (.segDown m) s = .next t ∧
              mapFind t.access.sessions m.sess =
                some { x with transfer := some { t0 with next := t0.next + 1, data := t0.data ++ m.payload.drop 4 } } ∧
              t.boot = { s.boot with pendingRaw := s.boot.pendingRaw ++ m.payload.drop 4 } ∧
              Within [.reply, .boot, .access] s t)) ∧
        (beAt m.payload 0 4 ≠ t0.next →
          ∃ t, exec (.segDown m) s = .next t ∧
            mapFind t.access.sessions m.sess = some { x with transfer := some { t0 with discarded := t0.discarded + 1 } } ∧
            t.reply.code = 0 ∧ t.reply.msgs = [segAck t0] ∧ Within [.reply, .access] s t)) ∧
      (∀ t0 : Transfer, m.payload.length = 5 → x.transfer = some t0 → t0.down = false →
        t0.key = ek m.index m.sub → 0 < beAt m.payload 4 1 → beAt m.payload 4 1 ≤ 64 →
        beAt m.payload 0 4 + beAt m.payload 4 1 ≤ segments1024 t0.total →
        ∃ t, exec (.segUp m) s = .next t ∧ t.reply.code = 0 ∧
          t.reply.msgs = (List.range (beAt m.payload 4 1)).map (fun k => segData t0 (beAt m.payload 0 4 + k)) ∧
          (t0.key ≠ ek 0x7000 0x87 → t.capture = s.capture) ∧ t.access = s.access ∧ Within [.reply, .capture] s t)) ∧
    (∀ (n : Nat) (x : Session) (t0 : Transfer), n ≤ 8 → s.stewardUp = true → mapFind s.access.sessions n = some x →
      x.transfer = some t0 →
      (t0.down = true → t0.key = ek 0xC010 2 →
        ∃ t, exec (.transferTimeout n) s = .next t ∧ mapFind t.access.sessions n = some { x with transfer := none } ∧
          t.boot = { s.boot with inst := 4, instResult := 0x010C } ∧ Within [.boot, .access] s t) ∧
      (t0.down = true → t0.key = ek 0xC030 2 →
        ∃ t, exec (.transferTimeout n) s = .next t ∧ mapFind t.access.sessions n = some { x with transfer := none } ∧
          t.boot = { s.boot with pend := 4, cfgResult := 0x010C } ∧ Within [.boot, .access] s t) ∧
      (t0.down = true → t0.key ≠ ek 0xC010 2 → t0.key ≠ ek 0xC030 2 →
        ∃ t, exec (.transferTimeout n) s = .next t ∧ mapFind t.access.sessions n = some { x with transfer := none } ∧
          (¬exchangeEntry t0.key → t.logic = s.logic) ∧ Within [.access, .logic] s t) ∧
      (t0.down = false →
        ∃ t, exec (.transferTimeout n) s = .next t ∧ mapFind t.access.sessions n = some { x with transfer := none } ∧
          Within [.access, .capture] s t))

/-- Sessions, locks and the overlay (R86, R92 to R95, R101): a handshake of an enabled identity opens the lowest free
session, an offer that is not supported or names an unknown identity ends with its alert and is counted, the end of a session
removes its locks and its report, a lock runs out, the overlay is saved or discarded, and a forwarded write is applied in its
order and answered at its acknowledgement.
Choices of the model that it rests on: log 2, log 20. -/
def Obligations.SessionsAndOverlay : Prop :=
  ∀ s : State, s.stewardUp = true →
    (∀ (name : ByteList) (o : DtlsOffer), s.reached o = true →
      (offerSupported o = false →
        ∃ t, exec (.dtlsHandshake name o) s = .next t ∧ t.reply.code = 65537 ∧ t.reply.payload = [byteOf 40] ∧
          t.access = { s.access with failedHandshakes := (s.access.failedHandshakes + 1) % 2 ^ 32 } ∧
          Within [.reply, .access, .facets, .log] s t) ∧
      (offerSupported o = true → o.cookie = false →
        ∃ t, exec (.dtlsHandshake name o) s = .next t ∧ t.reply.code = 65538 ∧ Within [.reply] s t) ∧
      (offerSupported o = true → o.cookie = true → s.sec.provisioned = false ∨ s.identityRecord name = none →
        ∃ t, exec (.dtlsHandshake name o) s = .next t ∧ t.reply.code = 65537 ∧ t.reply.payload = [byteOf 115] ∧
          t.access = { s.access with failedHandshakes := (s.access.failedHandshakes + 1) % 2 ^ 32 } ∧
          Within [.reply, .access, .facets, .log] s t) ∧
      (∀ r : Nat, offerSupported o = true → o.cookie = true → s.sec.provisioned = true → s.identityRecord name = some r →
        o.binder = true → s.regN 0x1100 2 ≤ (s.access.sessions.filter fun p => p.1 != 8).length →
        ∃ t, exec (.dtlsHandshake name o) s = .next t ∧ t.reply.code = 65537 ∧ t.reply.payload = [byteOf 80] ∧
          t.access = { s.access with failedHandshakes := (s.access.failedHandshakes + 1) % 2 ^ 32 } ∧
          Within [.reply, .access, .facets, .log] s t) ∧
      (∀ r n : Nat, offerSupported o = true → o.cookie = true → s.sec.provisioned = true →
        s.identityRecord name = some r → o.binder = true →
        (s.access.sessions.filter fun p => p.1 != 8).length < s.regN 0x1100 2 → n < 8 →
        mapFind s.access.sessions n = none → (∀ k, k < n → (mapFind s.access.sessions k).isSome = true) →
        ∃ t, exec (.dtlsHandshake name o) s = .next t ∧ t.reply.code = 0 ∧ t.reply.payload = [byteOf n] ∧
          t.access = { s.access with sessions := mapPut n (Session.fresh r (s.identity r).2.1) s.access.sessions } ∧
          Within [.reply, .access, .facets, .log] s t)) ∧
    (∀ (n : Nat) (x : Session), n < 8 → mapFind s.access.sessions n = some x → x.transfer = none →
      (∃ t, exec (.closeNotify n) s = .next t ∧
        t.access = { s.access with sessions := mapDel n s.access.sessions,
                                   locks := s.access.locks.filter (fun l => l.sess != n) } ∧
        mapFind t.sec.reports n = none ∧ Within [.access, .facets, .log, .sec] s t) ∧
      (∃ t, exec (.sessionIdleTimeout n) s = .next t ∧
        t.access = { s.access with sessions := mapDel n s.access.sessions,
                                   locks := s.access.locks.filter (fun l => l.sess != n) } ∧
        mapFind t.sec.reports n = none ∧ Within [.access, .facets, .log, .sec] s t)) ∧
    (∀ (first : Nat) (l : Lock), first < 65536 → l ∈ s.access.locks → l.first = first →
      ∃ t, exec (.lockExpiry first) s = .next t ∧
        t.access = { s.access with locks := s.access.locks.filter (fun k => k.first != first) } ∧
        Within [.access, .facets, .log] s t) ∧
    (Accepted s rowReq (ek 0x1010 1) (.int 1) → (∀ c, s.access.savedCopy = some c → c.seq + 1 < 2 ^ 32) →
      ∃ t, exec .overlaySave s = .next t ∧ t.reply.code = 0 ∧ t.access.saved = some (s.access.overlay, s.access.fingerprint) ∧
        t.access.overlay = s.access.overlay ∧ t.access.savedDiscarded = false ∧
        Within [.reply, .access, .facets, .log, .can] s t) ∧
    (Accepted s rowReq (ek 0x1010 1) (.int 2) → (∀ p ∈ s.access.overlay, p.1 / 256 < 0x2000 ∧ p.1 / 256 ≠ 0x1140) →
      ∃ t, exec .overlayDiscard s = .next t ∧ t.reply.code = 0 ∧ t.access.overlay = [] ∧ t.access.saved = s.access.saved ∧
        Within [.reply, .regs, .blobs, .access] s t) ∧
    (∀ (g : MirrorTag) (n : Nat) (items : ValList), TagTaken s 4 g → s.lit = false → n = s.access.applied + 1 →
      ∃ t, exec (.forwardedWrite ⟨g, n⟩ items) s = .next t ∧ t.access.applied = n ∧
        t.regs = (((s.seqTaken 4 g.epoch g.seq).keyUsed g.epoch).applyItems rowReq items).2.regs ∧
        t.access.overlay = (((s.seqTaken 4 g.epoch g.seq).keyUsed g.epoch).applyItems rowReq items).2.access.overlay) ∧
    (∀ (f : Forward) (l : List Forward), s.access.pendingForwards = f :: l →
      (∀ g : MirrorTag, TagTaken s 5 g →
        ∃ t, exec (.forwardAcknowledgement ⟨g, f.count⟩ true) s = .next t ∧
          t = ((s.seqTaken 5 g.epoch g.seq).keyUsed g.epoch).finishForward f) ∧
      (∃ t, exec .forwardAckTimeout s = .next t ∧ t = s.finishForward f)) ∧
    (∀ (f : Forward), s.access.pendingForwards = [f] → s.access.waiting = [] → f.req.who = 255 →
      ∃ t, exec .forwardAckTimeout s = .next t ∧
        t.reply.code = ({ s with access := { s.access with pendingForwards := [] } }.applyItems f.req f.items).1 ∧
        t.regs = ({ s with access := { s.access with pendingForwards := [] } }.applyItems f.req f.items).2.regs) ∧
    (∀ (key : Nat) (v : Val), key < 2 ^ 24 → Accepted s rowReq key v → overlaid key = true →
      ∃ t, exec (.registerWrite (.entry key v)) s = .next t ∧ t.reply.code = 0 ∧ mapFind t.access.overlay key = some v) ∧
    (∀ n v, n < 256 → v < 2 ^ 64 → s.guest n = true →
      ∃ t, exec (.registerWrite (.facet n 0x1010 v)) s = .next t ∧
        t.facet n = { s.facet n with waitLimit := v % 2 ^ 32 } ∧ (∀ k, k ≠ n → t.facet k = s.facet k) ∧ Within [.facets] s t)

/-- Cabinet object access (R102 to R106): a request that is executed is answered with its code and data, its client is kept
with its request and response, transfers open, go on and end, and a client that is silent is released.
Choices of the model that it rests on: log 2, log 20, log 23. -/
def Obligations.CabinetAccess : Prop :=
  ∀ (s : State) (r : CabReq),
    (CabinetServed s r →
      (∀ e, (cabKey r.data) % 256 ≠ 0 → entryOf (cabKey r.data) = some e → e.acc ≠ 2 →
        roleOk (s.cabinetRequester r).role e.rd = true → s.pathOk (s.cabinetRequester r) (cabKey r.data) false = true →
        ¬(0x3120 ≤ cabKey r.data / 256 ∧ cabKey r.data / 256 ≤ 0x3123) → cabKey r.data ≠ ek 0xA040 1 →
        (valBytes e.typ (s.readEntry (512 + r.src) (cabKey r.data))).length ≤ 56 →
        ∃ t, exec (.cabinetRead r) s = .next t ∧ t.reply.code = 0 ∧
          t.reply.payload = valBytes e.typ (s.readEntry (512 + r.src) (cabKey r.data)) ∧
          Within [.reply, .freeCount, .access, .can] s t) ∧
      (∀ v, beAt r.data 4 1 = entryType (cabKey r.data) → decodeVal (beAt r.data 4 1) (cabData r.data) = some v →
        Accepted s (s.cabinetRequester r) (cabKey r.data) v → overlaid (cabKey r.data) = true →
        ∃ t, exec (.cabinetWrite r) s = .next t ∧ t.reply.code = 0 ∧ mapFind t.access.overlay (cabKey r.data) = some v) ∧
      (beAt r.data 5 1 = 4 → beNat (cabData r.data) ≤ 65536 →
        s.downBegin (s.cabinetRequester r) (cabKey r.data) (beNat (cabData r.data)) none = (0, s) →
        ∃ t, exec (.cabinetSegmentInitDown r) s = .next t ∧ t.reply.code = 0 ∧
          (t.client r.src).transfer = some (Transfer.new true (cabKey r.data) (beNat (cabData r.data)) []) ∧
          Within [.reply, .access, .can] s t) ∧
      (∀ b, s.upBegin (s.cabinetRequester r) (cabKey r.data) none = (0, b, s) → b.length ≤ 65536 →
        ∃ t, exec (.cabinetSegmentInitUp r) s = .next t ∧ t.reply.code = 0 ∧ t.reply.payload = beBytes 4 b.length ∧
          (t.client r.src).transfer = some (Transfer.new false (cabKey r.data) b.length b) ∧
          Within [.reply, .access, .can] s t)) ∧
    (∀ (k : CabClient) (t0 : Transfer), CabinetGoesOn s r k → k.transfer = some t0 → t0.key = cabKey r.data →
      (t0.down = true → t0.key ≠ ek 0xC010 2 → t0.key ≠ ek 0xC030 2 →
        (cabData r.data).length = Nat.min 56 (t0.total - t0.data.length) →
        ∃ t, exec (.cabinetSegmentDown r) s = .next t ∧ t.reply.code = 0 ∧
          (t.client r.src).transfer = some { t0 with next := t0.next + 1, data := t0.data ++ cabData r.data } ∧
          Within [.reply, .access, .can] s t) ∧
      (t0.down = true → t0.key = ek 0xC010 2 → t0.total ≤ t0.data.length →
        ∃ t, exec (.cabinetSegmentEnd r) s = .next t ∧ t.reply.code = 0 ∧ (t.client r.src).transfer = none ∧
          Within [.reply, .access, .can] s t) ∧
      (t0.down = false → t0.key ≠ ek 0x7000 0x87 → 56 * (t0.next + 1) < t0.total →
        ∃ t, exec (.cabinetSegmentUp r) s = .next t ∧ t.reply.code = 0 ∧
          t.reply.payload = (t0.data.drop (56 * t0.next)).take 56 ∧
          (t.client r.src).transfer = some { t0 with next := t0.next + 1 } ∧ Within [.reply, .access, .can] s t) ∧
      (t0.down = true → t0.key = ek 0xC030 2 →
        ∃ t, exec (.cabinetAbort r) s = .next t ∧ t.reply.code = 0 ∧ (t.client r.src).transfer = none ∧
          t.boot = { s.boot with pend := 4, cfgResult := 0x010C } ∧ Within [.reply, .boot, .access, .can] s t)) ∧
    (∀ (node : Nat) (k : CabClient), node < 256 → s.domOn 1 = true → mapFind s.access.clients node = some k →
      k.transfer = none →
      ∃ t, exec (.cabinetNodeStateRelease node) s = .next t ∧
        t.access = { s.access with clients := mapDel node s.access.clients } ∧ Within [.access, .log] s t) ∧
    (∀ (node : Nat) (k : CabClient) (t0 : Transfer), node < 256 → s.domOn 1 = true → mapFind s.access.clients node = some k →
      k.transfer = some t0 → t0.down = true → t0.key = ek 0xC030 2 →
      ∃ t, exec (.cabinetTransferTimeout node) s = .next t ∧ (t.client node).transfer = none ∧
        t.boot = { s.boot with pend := 4, cfgResult := 0x010C } ∧ Within [.boot, .access] s t)

/-! ### Time (chapter 5) -/

/-- PTP messages (R115 to R117, R123, R448): a Sync of the selected master, or its Follow_Up, gives a raw offset that a locked
servo takes into its filter when it lies within the jump threshold; an Announce that is better than the own clock where no
other foreign master is known makes its port SLAVE; peer delay messages are answered and measured; a message that the
module does not take is counted and changes nothing else; a MASTER port transmits in sequence.
Choices of the model that it rests on: log 7. -/
def Obligations.PtpMessages : Prop :=
  ∀ (s : State) (port : Nat), port < 48 → s.timeUp = true →
    (∀ m : SyncMsg, s.ptpTakes port m.supported m.domain = true → s.fromParent port m.source = true →
      (m.twoStep = true →
        ∃ t, exec (.sync port m) s = .next t ∧ t = s.setPort port { s.port port with pending := some (m, (s.quarterStamp : Int)) }) ∧
      (∀ o : Int, m.twoStep = false → s.time.servo = 2 →
        o = ((s.quarterStamp : Int) - m.correction) / 4 - m.origin - (s.port port).delay - s.reg (0x3040 + port) 8 →
        o.natAbs ≤ s.regN 0x3001 1 →
        ∃ t, exec (.sync port m) s = .next t ∧ t.time.filter = (o :: s.time.filter).take 4 ∧ t.time.servo = 2 ∧
          t.time.corr.natAbs ≤ maxCorr ∧ t.now = s.now ∧ Within [.freeCount, .time] s t)) ∧
    (∀ (m : FollowUpMsg) (y : SyncMsg) (rx o : Int), s.ptpTakes port m.supported m.domain = true →
      (s.port port).pending = some (y, rx) → y.seq = m.seq → y.source = m.source → s.time.servo = 2 →
      o = (rx - (y.correction + m.correction)) / 4 - m.origin - (s.port port).delay - s.reg (0x3040 + port) 8 →
      o.natAbs ≤ s.regN 0x3001 1 →
      ∃ t, exec (.followUp port m) s = .next t ∧ t.time.filter = (o :: s.time.filter).take 4 ∧ t.time.servo = 2 ∧
        (t.port port).pending = none ∧ t.now = s.now ∧ Within [.freeCount, .time] s t) ∧
    (∀ m : AnnounceMsg,
      (s.ptpTakes port m.supported m.domain = true → (∀ p ∈ s.time.ports, p.2.foreign = []) →
        lexLess (announceKey m) s.ownKey = true →
        ∃ t, exec (.announce port m) s = .next t ∧ (t.port port).state = 9 ∧ (t.port port).foreign = [m] ∧
          t.time.slavePort = some port ∧ t.time.parent = some (m.sourceClock, m.sourcePort) ∧ t.time.gm = m.gmIdentity ∧
          t.time.gmClass = m.clockClass ∧ t.time.utc = m.utcOffset ∧ t.now = s.now ∧ Within [.time, .facets, .log] s t) ∧
      (s.ptpTakes port m.supported m.domain = false →
        ∃ t, exec (.announce port m) s = .next t ∧
          t = s.setPort port { s.port port with discarded := ((s.port port).discarded + 1) % 2 ^ 32 })) ∧
    (∀ m : PdelayReqMsg, s.ptpTakes port m.supported m.domain = true →
      ∃ t, exec (.pdelayReq port m) s = .next t ∧
        t = s.setPort port { s.port port with
          responses := (s.port port).responses + 1,
          lastResponse := some { supported := true, domain := m.domain, seq := m.seq, t1 := 0, t2 := s.quarterStamp,
                                 t3 := s.quarterStamp, t4 := 0 } }) ∧
    (∀ m : PdelayRespMsg, s.ptpTakes port m.supported m.domain = true →
      ∃ t, exec (.pdelayResp port m) s = .next t ∧
        t = s.setPort port { s.port port with delay := (((m.t4 - m.t1) - (m.t3 - m.t2)) / 8).toNat % 2 ^ 32 }) ∧
    ((s.port port).state = 6 →
      (∃ t y, exec (.syncTransmit port) s = .next t ∧ (t.port port).lastSync = some y ∧
        y.seq = ((s.port port).seqSync + 1) % 2 ^ 16 ∧ (t.port port).seqSync = y.seq ∧ y.source = Config.clockIdentity ∧
        y.domain = s.regN 0x3010 3 ∧ y.twoStep = !s.flag (0x3040 + port) 3 ∧
        (t.port port).sent = (s.port port).sent + (if y.twoStep then 2 else 1) ∧
        (y.twoStep = false → y.origin = s.now) ∧
        (y.twoStep = true → ∃ f, (t.port port).lastFollowUp = some f ∧ f.seq = y.seq ∧ f.source = y.source ∧ f.origin = s.now) ∧
        (∀ q, q ≠ port → t.port q = s.port q) ∧ Within [.time] s t) ∧
      (∃ t, exec (.announceTransmit port) s = .next t ∧
        t = s.setPort port { s.port port with
          seqAnnounce := ((s.port port).seqAnnounce + 1) % 2 ^ 16, sent := (s.port port).sent + 1,
          lastAnnounce := some (s.ownAnnounce port) })) ∧
    (s.ptpOn port = true →
      ∃ t, exec (.pdelayReqTransmit port) s = .next t ∧
        t = s.setPort port { s.port port with
          seqPdelay := ((s.port port).seqPdelay + 1) % 2 ^ 16, sent := (s.port port).sent + 1 })

/-- The servo and steps of the time base (R112, R118 to R122, R134, R136, Table 5.2): loss of the master in LOCKED freezes the
mean frequency and begins HOLDOVER, whose limit ends it; an accepted jump steps the time base at a grid tick boundary; the
time is set in FREERUN and holdover; the real-time counter takes the whole second; anchors fall on multiples of their
interval.
Choices of the model that it rests on: log 3, log 17. -/
def Obligations.ServoAndSteps : Prop :=
  ∀ s : State, s.timeUp = true →
    (s.time.servo = 2 → s.time.frozenAt = none → ({ s with time := s.time.dropMaster } : State).selected = none →
      ∃ t, exec .masterLost s = .next t ∧ t.time.servo = 3 ∧ t.time.frozenAt = some s.mono ∧ t.time.corr = s.time.meanCorr ∧
        t.time.freq = s.time.meanCorr ∧ t.time.slavePort = none ∧
        t.now = s.now ∧ Within [.time, .facets, .pair, .log, .health] s t) ∧
    (∀ q m, ({ s with time := s.time.dropMaster } : State).selected = some (q, m) →
      ∃ t, exec .masterLost s = .next t ∧ t.time.servo = s.time.servo ∧ t.time.slavePort = some q ∧
        t.time.parent = some (m.sourceClock, m.sourcePort) ∧ t.time.gm = m.gmIdentity ∧ t.now = s.now ∧
        Within [.time, .facets, .log] s t) ∧
    (∀ f, s.time.servo = 3 → s.time.frozenAt = some f →
      ∃ t, exec .holdoverLimitExpired s = .next t ∧ t.time.servo = 4 ∧
        t.mono = Nat.max s.mono (f + 1000000000 * s.regN 0x3001 3) ∧
        Within [.time, .facets, .pair, .log, .health] s t) ∧
    (s.time.servo = 5 →
      ∃ t, exec .acceptJump s = .next t ∧ t.reply.code = 0 ∧ t.time.servo = 1 ∧
        t.time.accepted = some s.time.pendingOffset ∧ t.now = s.now ∧
        Within [.reply, .time, .facets, .pair, .log, .health] s t) ∧
    (s.time.servo ≠ 5 → ∃ t, exec .acceptJump s = .next t ∧ t = s.answer 0x0304) ∧
    (∀ o : Int, s.time.accepted = some o →
      ∃ t, exec .jumpStep s = .next t ∧ t.time.accepted = none ∧ t.time.steps = (s.time.steps + 1) % 2 ^ 32 ∧
        (t.now : Int) = max 0 (((Nat.max s.now (tickInstant s.grid (tickFrom s.grid s.now)) : Nat) : Int) - o) ∧
        (∀ k x, mapFind t.facets.facet k = some x → x.stepped = true) ∧
        Within [.mem, .time, .lens, .facets, .log] s t) ∧
    (∀ sec ns, sec < 2 ^ 48 → ns < 1000000000 →
      (s.time.servo = 0 ∨ s.time.servo = 3 ∨ s.time.servo = 4 →
        ∃ t, exec (.setTime sec ns) s = .next t ∧ t.reply.code = 0 ∧ t.time.sec = sec ∧ t.time.ns = ns ∧ t.time.frac = 0 ∧
          t.time.steps = (s.time.steps + 1) % 2 ^ 32 ∧ t.mono = s.mono ∧ t.time.servo = s.time.servo ∧
          Within [.reply, .mem, .time, .lens, .facets, .log] s t) ∧
      (s.time.servo = 1 ∨ s.time.servo = 2 ∨ s.time.servo = 5 →
        ∃ t, exec (.setTime sec ns) s = .next t ∧ t = s.answer 0x0305)) ∧
    (∀ sec ns, sec < 2 ^ 48 → 1000000000 ≤ ns → ns < 2 ^ 32 →
      ∃ t, exec (.setTime sec ns) s = .next t ∧ t = s.answer 0x0109) ∧
    (s.time.servo = 2 → s.time.ns < 1000000000 →
      ∃ t, exec .rtcCopy s = .next t ∧ t.time.ns = 0 ∧ t.time.sec = (if s.time.ns = 0 then s.time.sec else s.time.sec + 1) ∧
        t.time.rtc = t.time.sec ∧ t.time.rtcPhase = 0 ∧ t.time.rtcSet = true ∧ Within [.time] s t) ∧
    (s.regN 0x3001 7 ≠ 0 →
      ∃ t, exec .timeAnchor s = .next t ∧ s.now ≤ t.now ∧ t.now < s.now + 1000000000 * s.regN 0x3001 7 ∧
        t.now % (1000000000 * s.regN 0x3001 7) = 0 ∧
        (s.log.ready = true → s.log.bankMode = false → t.log.next = s.log.next + 1 ∧
          ∃ r l, t.log.held = r :: l ∧ r.typ = 0x0301) ∧
        Within [.time, .facets, .log] s t)

/-- Pulse outputs and capture inputs (R125 to R131, Table 5.4): a start time within the limits arms the output, an edge
begins a pulse and counts it, its end leads to the next pulse or to DONE, a new owner takes an idle output at once and a
pulsing one at the end of its pulse; a stamp is queued at an edge and taken at a read; a facet's read of TIME_STATUS clears
STEPPED. No other output or input changes.
Choices of the model that it rests on: log 2, log 23. -/
def Obligations.PulsesAndStamps : Prop :=
  ∀ s : State, s.timeUp = true →
    (∀ n, n < 16 →
      (∀ v t0 r, v < 2 ^ 40 → schedule s.now v = some t0 → s.tpoRun n t0 = some r → r.mode ≠ 0 → (s.tpo n).pulse = false →
        ∃ t, exec (.tpoStart n v) s = .next t ∧ t.reply.code = 0 ∧ (t.tpo n).run = some r ∧
          (t.tpo n).next = s.firstPulse r ∧ (t.tpo n).done = 0 ∧ (t.tpo n).result = 0 ∧ (t.tpo n).startReg = v ∧
          (∀ k, k ≠ n → t.tpo k = s.tpo k) ∧ Within [.reply, .time] s t) ∧
      (∀ v, v < 2 ^ 40 → schedule s.now v = none →
        ∃ t, exec (.tpoStart n v) s = .next t ∧ t.reply.code = 0x0301 ∧
          t.tpo n = { s.tpo n with result := 0x0301 } ∧ (∀ k, k ≠ n → t.tpo k = s.tpo k) ∧ Within [.reply, .time] s t) ∧
      (∀ r, (s.tpo n).run = some r → (s.tpo n).pulse = false → (s.tpo n).finished = false → (s.tpo n).passed = false →
        s.flag (tpoIndex n) 9 = false →
        ∃ t, exec (.tpoEdge n) s = .next t ∧ (t.tpo n).pulse = true ∧ (t.tpo n).muted = false ∧
          (t.tpo n).done = (s.tpo n).done + 1 ∧ (t.tpo n).next = (s.tpo n).next ∧ (t.tpo n).late = (s.tpo n).late % 2 ^ 32 ∧
          (t.tpo n).run = some r ∧ t.now = Nat.max s.now (s.tpo n).next ∧ (∀ k, k ≠ n → t.tpo k = s.tpo k) ∧
          Within [.time] s t) ∧
      (∀ r, (s.tpo n).run = some r → (s.tpo n).pulse = false → (s.tpo n).finished = false → (s.tpo n).passed = true →
        r.mode = 2 → r.period ≠ 0 → (s.tpo n).next ≤ s.now →
        ∃ t, exec (.tpoEdge n) s = .next t ∧ (t.tpo n).pulse = true ∧ (t.tpo n).passed = false ∧
          (t.tpo n).late = ((s.tpo n).late + 1 + (s.now - (s.tpo n).next) / r.period) % 2 ^ 32 ∧
          (t.tpo n).next ≤ s.now ∧ s.now < (t.tpo n).next + r.period ∧
          (∀ k, k ≠ n → t.tpo k = s.tpo k) ∧ Within [.time] s t) ∧
      (∀ r, (s.tpo n).run = some r → (s.tpo n).pulse = true → (s.tpo n).newOwner = none → (s.tpo n).change = none →
        ∃ t, exec (.tpoPulseEnd n) s = .next t ∧ (t.tpo n).pulse = false ∧
          (r.expired (s.tpo n).done = true → (t.tpo n).run = none ∧ (t.tpo n).finished = true) ∧
          (r.expired (s.tpo n).done = false → r.mode = 2 →
            (t.tpo n).run = some r ∧ (t.tpo n).next = (s.tpo n).next + r.period) ∧
          (∀ k, k ≠ n → t.tpo k = s.tpo k) ∧ Within [.time, .facets] s t) ∧
      (∀ owner, owner < 256 ∨ owner = 0xFFFF →
        ((s.tpo n).pulse = false →
          ∃ t, exec (.tpoGrant n owner) s = .next t ∧ t.reply.code = 0 ∧ (t.tpo n).owner = owner ∧ (t.tpo n).run = none ∧
            t.regN (tpoIndex n) 0x0A = owner ∧ t.regN (tpoIndex n) 1 = 0 ∧ (∀ k, k ≠ n → t.tpo k = s.tpo k) ∧
            Within [.reply, .regs, .time, .facets] s t) ∧
        ((s.tpo n).pulse = true →
          ∃ t, exec (.tpoGrant n owner) s = .next t ∧ t.reply.code = 0 ∧
            t.tpo n = { s.tpo n with newOwner := some owner } ∧ t.regN (tpoIndex n) 0x0A = owner ∧
            (∀ k, k ≠ n → t.tpo k = s.tpo k) ∧ Within [.reply, .regs, .time] s t)) ∧
      (∀ owner, 256 ≤ owner → owner < 0xFFFF →
        ∃ t, exec (.tpoGrant n owner) s = .next t ∧ t = s.answer 0x0109)) ∧
    (∀ n, n < 4 →
      (s.flag (0x3120 + n) 1 = true → (∀ l, (s.tci n).last = some l → l + 128 ≤ s.monoStamp) →
        (s.tci n).queue.length < 16 → s.regN (0x3120 + n) 5 = 0 →
        ∃ t, exec (.captureEdge n) s = .next t ∧
          t.tci n = { s.tci n with queue := (s.tci n).queue ++ [s.quarterStamp], last := some s.monoStamp } ∧
          (∀ k, k ≠ n → t.tci k = s.tci k) ∧ Within [.time] s t) ∧
      (s.flag (0x3120 + n) 1 = true → (s.tci n).queue.length = 16 →
        ∃ t, exec (.captureEdge n) s = .next t ∧ (t.tci n).queue = (s.tci n).queue ∧
          (t.tci n).overflow = ((s.tci n).overflow + 1) % 2 ^ 32 ∧ (∀ k, k ≠ n → t.tci k = s.tci k) ∧ Within [.time] s t) ∧
      (∀ a l, (s.tci n).queue = a :: l →
        ∃ t, exec (.oldestStampRead n) s = .next t ∧ t.reply.code = 0 ∧ t.reply.payload = beBytes 8 a ∧
          t.tci n = { s.tci n with queue := l } ∧ (∀ k, k ≠ n → t.tci k = s.tci k) ∧ Within [.reply, .time] s t)) ∧
    (∀ f, f < 256 → (s.facet f).live = true →
      ∃ t, exec (.timeStatusRead f) s = .next t ∧ t.reply.payload = leBytes 8 (s.timeStatus f) ∧
        t.facet f = { s.facet f with stepped := false } ∧ (∀ k, k ≠ f → t.facet k = s.facet k) ∧ Within [.reply, .facets] s t)

/-! ### The switch fabric (chapter 6) -/

/-- Frames (R141, R144, R146, R148, R153): a head is discarded and counted where its length, a pause
frame or its VLAN forbid it; a head of a unicast frame that its one output admits is queued for it, and one that admission
refuses is discarded and counted; a tail ends the reception and is counted; in a cell time the crossbar carries the cell that
waits alone.
Choices of the model that it rests on: log 17, log 23. -/
def Obligations.FabricFrames : Prop :=
  ∀ s : State, s.fabricUp = true →
    (∀ h : FrameHead, h.port < 48 → s.portTakes h.port = true → mapFind s.fabric.rx h.port = none →
      (h.length < 64 ∨ 1536 < h.length →
        ∃ t, exec (.frameHead h) s = .next t ∧ t.portReg h.port 0x15 = (s.portReg h.port 0x15 + 1) % 2 ^ 64 ∧
          t.fabric.copies = s.fabric.copies ∧ mapFind t.fabric.rx h.port = some s.fabric.nextFrame ∧
          Within [.regs, .fabric] s t) ∧
      (64 ≤ h.length → h.length ≤ 1536 → h.pause = true →
        ∃ t, exec (.frameHead h) s = .next t ∧ t.portReg h.port 0x1D = (s.portReg h.port 0x1D + 1) % 2 ^ 64 ∧
          t.fabric.copies = s.fabric.copies ∧ Within [.regs, .fabric] s t) ∧
      (64 ≤ h.length → h.length ≤ 1536 → h.pause = false → s.vlanAccepts h = false →
        ∃ t, exec (.frameHead h) s = .next t ∧ t.portReg h.port 0x16 = (s.portReg h.port 0x16 + 1) % 2 ^ 64 ∧
          t.fabric.copies = s.fabric.copies ∧ Within [.regs, .fabric] s t) ∧
      (∀ (o c : Nat) (f : Frame), 64 ≤ h.length → h.length ≤ 1536 → h.pause = false → s.vlanAccepts h = true →
        h.etherType ≠ 0x88BA → h.etherType ≠ 0x88B8 → h.ptp = none → (∀ k, k < 8 → s.pairMode k = 0) →
        s.portReg h.port 0x0D = 0 → s.portReg h.port 9 = 0 → s.fdbFind (s.frameVid h) h.dst = none →
        s.forwardSet h none = [o] → c = s.frameClass h none → s.portReg o 1 ≠ 0 → s.portReg o 0x0A = 0 →
        s.inFanout o = true →
        f = { s.ingressFrame h with cls := c, outs := [o] } →
        ((s.newFrame f).2.admits c [o] = true →
          ∃ t, exec (.frameHead h) s = .next t ∧
            t.fabric.copies = s.fabric.copies ++ [{ fr := s.fabric.nextFrame, out := o, sent := 0, crossed := 0 }] ∧
            (t.fabricFrame s.fabric.nextFrame).head = h ∧ (t.fabricFrame s.fabric.nextFrame).cls = c ∧
            (t.fabricFrame s.fabric.nextFrame).cells = [((s.newFrame f).2.cellSource c).getD 2] ∧
            mapFind t.fabric.rx h.port = some s.fabric.nextFrame ∧ t.fabric.nextFrame = s.fabric.nextFrame + 1 ∧
            Within [.fabric] s t) ∧
        ((s.newFrame f).2.admits c [o] = false →
          ∃ t, exec (.frameHead h) s = .next t ∧ t.fabric.copies = s.fabric.copies ∧
            t.portReg h.port 0x17 = (s.portReg h.port 0x17 + 1) % 2 ^ 64 ∧
            t.regN (0x2400 + c) 8 = (s.regN (0x2400 + c) 8 + 1) % 2 ^ 64 ∧
            (t.block o c).discarded = ((s.block o c).discarded + 1) % 2 ^ 64 ∧ Within [.regs, .fabric] s t))) ∧
    (∀ (port k : Nat) (tail : FrameTail), port < 52 → mapFind s.fabric.rx port = some k → s.pairOf port = none →
      64 ≤ (s.fabricFrame k).head.length → (s.fabricFrame k).head.length ≤ 1536 → (s.fabricFrame k).head.pause = false →
      ∃ t, exec (.frameTail port tail) s = .next t ∧ mapFind t.fabric.rx port = none ∧
        (tail.fcsGood = true →
          t.portReg port 0x10 = (s.portReg port 0x10 + 1) % 2 ^ 64 ∧
          t.portReg port 0x11 = (s.portReg port 0x11 + (s.fabricFrame k).head.length) % 2 ^ 64 ∧
          t.portReg port 0x14 = s.portReg port 0x14) ∧
        (tail.fcsGood = false →
          t.portReg port 0x14 = (s.portReg port 0x14 + 1) % 2 ^ 64 ∧ t.portReg port 0x10 = s.portReg port 0x10 ∧
          t.portReg port 0x11 = s.portReg port 0x11) ∧
        (mapFind t.fabric.frames k = none ∨ (t.fabricFrame k).tail = true) ∧ Within [.regs, .fabric] s t) ∧
    (∀ (k : Copy) (f : Frame), s.fabric.copies = [k] → s.fabricFrame k.fr = f → s.fabric.flight = [] → s.fabric.rx = [] →
      s.fabric.held = [] → s.fabric.setups = [] → s.fabric.joins = [] → s.fabric.closing = [] → s.fabric.egress = [] →
      k.out < 52 → f.head.port < 52 → f.cls < 8 → f.multi = false → k.sent < f.arrived →
      (48 ≤ k.out ∨ s.linkState k.out = 2) →
      (s.regN (0x2400 + f.cls) 4 = 0 ∨ s.monoStamp - f.stamp ≤ 4000 * s.regN (0x2400 + f.cls) 4) →
      ∃ t, exec .cellTime s = .next t ∧ t.fabric.flight = [(k.fr, f.head.port, k.out)] ∧
        t.fabric.copies = [{ k with sent := k.sent + 1 }] ∧ t.fabric.frames = s.fabric.frames ∧ Within [.regs, .fabric] s t)

/-- Links and the audit (R157 to R160): links go down, end their hold and come up; ports are enabled and disabled, but not
those of the module itself (0x0206); the audit frees what it finds unreferenced on two passes.
Choices of the model that it rests on: log 17, log 23. -/
def Obligations.LinksAndAudit : Prop :=
  ∀ s : State, s.fabricUp = true →
    (∀ port, port < 48 →
      (s.linkState port = 2 →
        ∃ t, exec (.linkDown port) s = .next t ∧ t.linkState port = (if s.portReg port 0x0C = 0 then 0 else 3) ∧
          (∀ p, p ≠ port → t.linkState p = s.linkState p) ∧ (t.egressOf port).current = none ∧
          (∀ j ∈ t.fabric.joins, j.2.2 ≠ port) ∧
          (∀ k ∈ t.fabric.copies, k.out = port → s.portReg port 0x0C ≠ 0 ∧ (s.egressOf port).current ≠ some k.fr) ∧ Within [.regs, .fabric, .facets, .log] s t) ∧
      (s.linkState port = 3 → (s.egressOf port).current = none →
        ∃ t, exec (.linkDownHoldExpiry port) s = .next t ∧ t.linkState port = 0 ∧
          (∀ p, p ≠ port → t.linkState p = s.linkState p) ∧
          t.fabric.copies = s.fabric.copies.filter (fun k => k.out != port) ∧ (t.egressOf port).fifo = [] ∧ Within [.regs, .fabric] s t) ∧
      (s.linkState port ≠ 2 → s.portReg port 1 ≠ 0 →
        ∃ t, exec (.linkUp port) s = .next t ∧ t.linkState port = 2 ∧ (∀ p, p ≠ port → t.linkState p = s.linkState p) ∧
          Within [.fabric, .facets, .log] s t) ∧
      (s.portReg port 1 = 0 →
        ∃ t, exec (.portEnable port) s = .next t ∧ t.reply.code = 0 ∧ t.portReg port 1 = 1 ∧
          (∀ k, k ≠ ek (0x2000 + port) 1 → regIn t.regs k = regIn s.regs k) ∧
          t.linkState port = (if s.fabric.closing.contains port then s.linkState port else 1) ∧
          (∀ p, p ≠ port → t.linkState p = s.linkState p) ∧ t.fabric.closing.contains port = false ∧
          Within [.reply, .regs, .fabric] s t) ∧
      (s.portReg port 1 ≠ 0 →
        ∃ t, exec (.portDisable port) s = .next t ∧ t.reply.code = 0 ∧ t.portReg port 1 = 0 ∧
          ((s.egressOf port).current = none → mapFind s.fabric.rx port = none → (∀ j ∈ s.fabric.joins, j.2.2 ≠ port) →
            t.linkState port = 0 ∧ (∀ k ∈ t.fabric.copies, k.out ≠ port) ∧ t.fabric.closing.contains port = false) ∧
          ((s.egressOf port).current ≠ none ∨ mapFind s.fabric.rx port ≠ none ∨ (∃ j ∈ s.fabric.joins, j.2.2 = port) →
            t.fabric = { s.fabric with closing := s.fabric.closing ++ [port] }) ∧
          (∀ p, p ≠ port → t.linkState p = s.linkState p) ∧ Within [.reply, .regs, .fabric] s t)) ∧
    (∀ port, 48 ≤ port → port < 52 →
      (∃ t, exec (.portEnable port) s = .next t ∧ t = s.answer 0x0206) ∧
      (∃ t, exec (.portDisable port) s = .next t ∧ t = s.answer 0x0206)) ∧
    (∀ cells : PairList, (∀ x ∈ cells, x.1 < 65536) →
      ((∀ x ∈ cells, x ∉ s.fabric.suspects) →
        ∃ t, exec (.auditPass cells) s = .next t ∧ t.fabric = { s.fabric with suspects := cells } ∧
          t.regN 0x2700 2 = (s.regN 0x2700 2 + 1) % 2 ^ 32 ∧ t.regN 0x2700 3 = s.regN 0x2700 3 ∧
          Within [.regs, .fabric] s t) ∧
      (cells ≠ [] → (∀ x ∈ cells, x ∈ s.fabric.suspects) →
        ∃ t, exec (.auditPass cells) s = .next t ∧ t.fabric = { s.fabric with suspects := [] } ∧
          t.regN 0x2700 2 = (s.regN 0x2700 2 + 1) % 2 ^ 32 ∧
          t.regN 0x2700 3 = (s.regN 0x2700 3 + cells.length) % 2 ^ 32 ∧ t.health.causes.testBit 5 = true ∧
          Within [.regs, .fabric, .facets, .pair, .log, .health] s t))

/-- The tables of the fabric and their counters (R148, R161, R162, R164 to R166, R168 to R170, Table 6.8): a write puts the
held entry where its key is found; deletes, reads by key and by position act on the entry found and answer 0x0202 where there
is none; VLAN entries are written, read and invalidated; learned entries are flushed; a port's counters are cleared together.
Choices of the model that it rests on: log 2, log 17, log 23. -/
def Obligations.FabricTables : Prop :=
  ∀ s : State,
    (s.stewardUp = true →
      (∀ e, e = beNat (s.blob 0x2421 2) →
        (fdbWordOk e = true → fdbRepl e ≠ 3 →
          (s.fdbFind (fdbVid e) (fdbMac e) ≠ none ∨ bucketFree s.fabric.fdb (fdbBucket (fdbVid e) (fdbMac e)) ≠ none ∨
            (fdbStatic e = true ∧ oldestLearned s.fabric.fdb (fdbBucket (fdbVid e) (fdbMac e)) ≠ none)) →
          ∃ t, exec .databaseWrite s = .next t ∧ t.reply.code = 0 ∧ t.regN 0x2421 4 = 0 ∧
            (∃ p x, t.fdbFind (fdbVid e) (fdbMac e) = some p ∧ mapFind t.fabric.fdb p = some x ∧
              fdbStatic x = fdbStatic e ∧
              fdbPorts x = fdbPorts e ∧ fdbRepl x = fdbRepl e ∧ fdbAge x = 0 ∧
              ∀ q, q ≠ p → mapFind t.fabric.fdb q = mapFind s.fabric.fdb q) ∧
            Within [.reply, .regs, .fabric] s t) ∧
        (fdbWordOk e = true → fdbRepl e ≠ 3 → s.fdbFind (fdbVid e) (fdbMac e) = none →
          bucketFree s.fabric.fdb (fdbBucket (fdbVid e) (fdbMac e)) = none →
          oldestLearned s.fabric.fdb (fdbBucket (fdbVid e) (fdbMac e)) = none →
          ∃ t, exec .databaseWrite s = .next t ∧ t.reply.code = 0x0201 ∧ t.regN 0x2421 4 = 0x0201 ∧ t.fabric = s.fabric) ∧
        (fdbWordOk e = true → fdbRepl e = 3 →
          ∃ t, exec .databaseWrite s = .next t ∧ t.reply.code = 0x010A ∧ t.regN 0x2421 4 = 0x010A ∧ t.fabric = s.fabric) ∧
        (fdbWordOk e = false →
          ∃ t, exec .databaseWrite s = .next t ∧ t.reply.code = 0x0203 ∧ t.regN 0x2421 4 = 0x0203 ∧ t.fabric = s.fabric) ∧
        (∀ p x, s.fdbFind (fdbVid e) (fdbMac e) = some p → mapFind s.fabric.fdb p = some x →
          (∃ t, exec .databaseDeleteByKey s = .next t ∧ t.reply.code = 0 ∧ mapFind t.fabric.fdb p = none ∧
            (∀ q, q ≠ p → mapFind t.fabric.fdb q = mapFind s.fabric.fdb q) ∧ Within [.reply, .regs, .fabric] s t) ∧
          (∃ t, exec .databaseReadByKey s = .next t ∧ t.reply.code = 0 ∧ t.blob 0x2421 2 = beBytes 16 x ∧
            t.regN 0x2421 3 = p ∧ Within [.reply, .regs, .blobs] s t)) ∧
        (s.fdbFind (fdbVid e) (fdbMac e) = none →
          (∃ t, exec .databaseDeleteByKey s = .next t ∧ t.reply.code = 0x0202 ∧ t.fabric = s.fabric) ∧
          (∃ t, exec .databaseReadByKey s = .next t ∧ t.reply.code = 0x0202 ∧ t.blobs = s.blobs))) ∧
      (∀ x, mapFind s.fabric.fdb (s.regN 0x2421 3) = some x →
        ∃ t, exec .databaseReadByPosition s = .next t ∧ t.reply.code = 0 ∧ t.blob 0x2421 2 = beBytes 16 x ∧
          Within [.reply, .regs, .blobs] s t) ∧
      (∀ e, e = beNat (s.blob 0x2430 2) →
        (stWordOk e = true → s.streamFind (stVid e) (stAppid e) (stMac e) = none →
          bucketFree s.fabric.streamTab (stBucket (stVid e) (stAppid e) (stMac e)) ≠ none →
          ∃ t, exec .streamTableWrite s = .next t ∧ t.reply.code = 0 ∧
            (∃ p x, t.streamFind (stVid e) (stAppid e) (stMac e) = some p ∧ mapFind t.fabric.streamTab p = some x ∧
              stKind x = stKind e ∧ stHandle x = stHandle e ∧ stClass x = stClass e ∧
              ∀ q, q ≠ p → mapFind t.fabric.streamTab q = mapFind s.fabric.streamTab q) ∧
            Within [.reply, .regs, .fabric] s t) ∧
        (∀ p x, s.streamFind (stVid e) (stAppid e) (stMac e) = some p → mapFind s.fabric.streamTab p = some x →
          (∃ t, exec .streamTableWrite s = .next t ∧ t.reply.code = 0x0203 ∧ t.fabric = s.fabric) ∧
          (∃ t, exec .streamTableDeleteByKey s = .next t ∧ t.reply.code = 0 ∧ mapFind t.fabric.streamTab p = none ∧
            (∀ q, q ≠ p → mapFind t.fabric.streamTab q = mapFind s.fabric.streamTab q) ∧
            Within [.reply, .regs, .fabric] s t) ∧
          (∃ t, exec .streamTableReadByKey s = .next t ∧ t.reply.code = 0 ∧ t.blob 0x2430 2 = beBytes 16 x ∧
            t.regN 0x2430 3 = p ∧ Within [.reply, .regs, .blobs] s t))) ∧
      (∀ x, mapFind s.fabric.streamTab (s.regN 0x2430 3) = some x →
        ∃ t, exec .streamTableReadByPosition s = .next t ∧ t.reply.code = 0 ∧ t.blob 0x2430 2 = beBytes 16 x ∧
          Within [.reply, .regs, .blobs] s t) ∧
      (∀ vid e, vid = s.regN 0x2440 2 → e = beNat (s.blob 0x2440 3) →
        (vlanValid e = true →
          ∃ t, exec .vlanWrite s = .next t ∧ t.reply.code = 0 ∧ vlanValid (t.vlan vid) = true ∧
            (∀ p, p < 52 → vlanMember (t.vlan vid) p = vlanMember e p) ∧ bitsAt (t.vlan vid) 104 21 = 0 ∧
            (∀ v, v ≠ vid → t.vlan v = s.vlan v) ∧ Within [.reply, .regs, .fabric] s t) ∧
        (vlanValid e = false → ∃ t, exec .vlanWrite s = .next t ∧ t.reply.code = 0x0203 ∧ t.fabric = s.fabric) ∧
        (vlanValid (s.vlan vid) = true →
          (∃ t, exec .vlanRead s = .next t ∧ t.reply.code = 0 ∧ t.blob 0x2440 3 = beBytes 16 (s.vlan vid) ∧
            Within [.reply, .regs, .blobs] s t) ∧
          (∃ t, exec .vlanInvalidate s = .next t ∧ t.reply.code = 0 ∧ vlanValid (t.vlan vid) = false ∧
            (∀ v, v ≠ vid → t.vlan v = s.vlan v) ∧ Within [.reply, .regs, .fabric] s t)) ∧
        (vlanValid (s.vlan vid) = false →
          (∃ t, exec .vlanRead s = .next t ∧ t.reply.code = 0x0208 ∧ t.blobs = s.blobs) ∧
          (∃ t, exec .vlanInvalidate s = .next t ∧ t.reply.code = 0x0208 ∧ t.fabric = s.fabric))) ∧
      (∃ t, exec .flushLearned s = .next t ∧ t.reply.code = 0 ∧
        t.fabric = { s.fabric with fdb := s.fabric.fdb.filter fun p => fdbStatic p.2 } ∧ Within [.reply, .fabric] s t) ∧
      (∀ port, port < 52 →
        ∃ t, exec (.portClearCounters port) s = .next t ∧ t.reply.code = 0 ∧
          (∀ j, 0x10 ≤ j → j ≤ 0x20 → t.portReg port j = 0) ∧
          (∀ k, (k < ek (0x2000 + port) 0x10 ∨ ek (0x2000 + port) 0x20 < k) → regIn t.regs k = regIn s.regs k) ∧
          (∀ c, c < 8 → t.block port c = ClassBlock.zero) ∧ Within [.reply, .regs, .fabric] s t))

/-- What the fabric does with its tables by itself (R162, R166, R168): learned entries age; supervision frames of
the module go to both ports of their pair whose links are up, and a node that is not refreshed is forgotten.
Choices of the model that it rests on: log 17. -/
def Obligations.FabricAgeing : Prop :=
  ∀ s : State,
    (s.fabricUp = true →
      (∃ t, exec .learningAgeingStep s = .next t ∧
        (∀ x ∈ s.fabric.fdb, fdbStatic x.2 = true → x ∈ t.fabric.fdb) ∧
        (∀ x ∈ s.fabric.fdb, fdbStatic x.2 = false → fdbAge x.2 < 14 →
          (x.1, fdbWithAge x.2 (fdbAge x.2 + 1)) ∈ t.fabric.fdb) ∧
        (∀ x ∈ t.fabric.fdb, x ∈ s.fabric.fdb ∨
          ∃ y ∈ s.fabric.fdb, fdbStatic y.2 = false ∧ fdbAge y.2 < 14 ∧ x = (y.1, fdbWithAge y.2 (fdbAge y.2 + 1))) ∧
        t.fabric = { s.fabric with fdb := t.fabric.fdb } ∧ Within [.fabric] s t) ∧
      (∀ pair, pair < 8 → s.pairMode pair ≠ 0 →
        ∃ t, exec (.supervisionFrame pair) s = .next t ∧
          t.fabric.nextFrame = s.fabric.nextFrame + (s.supervised pair).length ∧
          (redBox (s.pairMode pair) = false → s.pairA pair ≠ s.pairB pair →
            ∀ o, (o = s.pairA pair ∨ o = s.pairB pair) → s.linkState o = 2 →
              ∃ f, mapFind t.fabric.frames s.fabric.nextFrame = some f ∧ f.head.src = Config.ownMac ∧
                f.head.dst = 0x01154E000100 + s.regN (0x2460 + pair) 4 ∧ f.head.etherType = 0x88FB ∧
                (t.egressOf o).fifo = (s.egressOf o).fifo ++ [(s.fabric.nextFrame, 4 * t.lengthOut o f, true)]) ∧
          (∀ o, o ≠ s.pairA pair → o ≠ s.pairB pair → t.egressOf o = s.egressOf o) ∧ Within [.fabric] s t) ∧
      (∀ pair mac n, pair < 8 → mac < 2 ^ 48 → mapFind s.fabric.nodes (nodeKey pair mac) = some n →
        (∃ t, exec (.nodeForget pair mac true) s = .next t ∧ mapFind t.fabric.nodes (nodeKey pair mac) = none ∧
          (∀ k, k ≠ nodeKey pair mac → mapFind t.fabric.nodes k = mapFind s.fabric.nodes k) ∧ Within [.fabric] s t) ∧
        (∃ t, exec (.nodeForget pair mac false) s = .next t ∧
          mapFind t.fabric.nodes (nodeKey pair mac) = some { n with window := [] } ∧
          (∀ k, k ≠ nodeKey pair mac → mapFind t.fabric.nodes k = mapFind s.fabric.nodes k) ∧ Within [.fabric] s t)))

/-! ### The Lens, phasors and summation (chapters 7 and 8) -/

/-- Switches and clears of streams, summation groups and trip lanes (R89, R176, R194, R215, R224, R226): an accepted enable or
disable changes its own register and the overlay and nothing else until the next grid tick, but for the mark that clears an
enabled lane's state; a clear zeroes its counters; a reset of a latch waits for the next row.
Choices of the model that it rests on: log 17. -/
def Obligations.StreamGroupLaneSwitches : Prop :=
  ∀ s : State,
    (∀ (i : Instr) (index : Nat) (v : Int),
      (∃ n, n < 1024 ∧ index = 0x4000 + n ∧ (i = .streamEnable n ∧ v = 1 ∨ i = .streamDisable n ∧ v = 0)) ∨
      (∃ g, g < 512 ∧ index = 0x4400 + g ∧ (i = .summationGroupEnable g ∧ v = 1 ∨ i = .summationGroupDisable g ∧ v = 0)) ∨
      (∃ l, l < 1024 ∧ index = 0x4800 + l ∧ (i = .laneEnable l ∧ v = 1 ∨ i = .laneDisable l ∧ v = 0)) →
      Accepted s rowReq (ek index 1) (.int v) →
      ∃ t, exec i s = .next t ∧ t.reply.code = 0 ∧ t.reg index 1 = v ∧
        (∀ k, k ≠ ek index 1 → regIn t.regs k = regIn s.regs k) ∧ mapFind t.access.overlay (ek index 1) = some (.int v) ∧
        t.tickRegs = s.tickRegs ∧
        (∀ l, t.lane l = if i = .laneEnable l ∧ s.flag (0x4800 + l) 1 = false then { s.lane l with fresh := some s.lens.next }
          else s.lane l) ∧
        t.goose = { s.goose with lanes := t.goose.lanes } ∧ Within [.reply, .regs, .access, .goose] s t) ∧
    (∀ n, n < 1024 → Accepted s rowReq (ek (0x4000 + n) 0x23) (.int 1) →
      ∃ t, exec (.streamClearCounters n) s = .next t ∧ t.reply.code = 0 ∧ t.stream n = { s.stream n with cnt := [] } ∧
        (∀ k, k ≠ n → t.stream k = s.stream k) ∧ Within [.reply, .lens] s t) ∧
    (Accepted s rowReq (ek 0x47F0 0x11) (.int 1) →
      ∃ t, exec .lensClearTotals s = .next t ∧ t.reply.code = 0 ∧
        t.lens = { s.lens with sealedRows := 0, expiryRows := 0, highestOpen := 0, heldRows := 0, discs := 0, highestDelay := 0 } ∧
        Within [.reply, .lens] s t) ∧
    (∀ g, g < 512 → Accepted s rowReq (ek (0x4400 + g) 0x0C) (.int 1) →
      ∃ t, exec (.groupClear g) s = .next t ∧ t.reply.code = 0 ∧ t.sumGroup g = { s.sumGroup g with unsub := false } ∧
        (∀ k, k ≠ g → t.sumGroup k = s.sumGroup k) ∧ t.reg (0x4400 + g) 0x0A = 0 ∧ t.reg (0x4400 + g) 0x0B = 0 ∧
        (∀ k, k ≠ ek (0x4400 + g) 0x0A → k ≠ ek (0x4400 + g) 0x0B → regIn t.regs k = regIn s.regs k) ∧
        Within [.reply, .regs, .phasor] s t) ∧
    (∀ l, l < 1024 → Accepted s rowReq (ek (0x4800 + l) 0x11) (.int 1) →
      ∃ t, exec (.resetLatch l) s = .next t ∧ t.reply.code = 0 ∧ t.lane l = { s.lane l with reset := true } ∧
        (∀ k, k ≠ l → t.lane k = s.lane k) ∧ Within [.reply, .goose] s t)

/-- The sample path (R16, R17, R89, R173, R177, R183, R188, R194, R199, R220): a grid tick puts the settings in force, lets
streams start and stop, opens a row and seals those that are complete; a sampled-value frame is counted, refused by its first failing check, or placed; the
end of a row's wait seals it; the oldest sealed row enters stage 8 when it is free; the row sealed event runs the trip lanes
and writes their image. Memory outside the sample plane, the phasor ring or the image is untouched.
Choices of the model that it rests on: log 6, log 23. -/
def Obligations.SamplePath : Prop :=
  ∀ s : State,
    (s.running = true → s.domOn 8 = true →
      ∃ t, exec .gridTick s = .next t ∧ t.tickRegs = s.regs ∧
        t.now = Nat.max s.now (tickInstant s.grid s.nextTick) ∧
        (s.domOn 7 = true →
          (∀ n, n < 1024 → s.flag (0x4000 + n) 1 = true → (s.stream n).state = 0 →
            t.lens.sealedQueue = s.lens.sealedQueue → (t.stream n).state = 1) ∧
          (∀ n, n < 1024 → s.flag (0x4000 + n) 1 = false → (t.stream n).state = 0) ∧
          (s.lens.state = 2 →
            t.lens.next = s.lens.next + 1 ∧ t.lens.disc = false ∧ t.lens.lastTick = some s.nextTick ∧
            (∃ k, t.lens.opened.map (·.num) = (s.lens.opened.map (·.num) ++ [s.lens.next]).drop k ∧
              t.lens.sealedQueue.length = s.lens.sealedQueue.length + k) ∧
            (t.lens.sealedQueue = s.lens.sealedQueue →
              t.lens.opened.getLast? = some
                { num := s.lens.next, inst := tickInstant s.grid s.nextTick, tick := s.nextTick,
                  deadline := tickInstant s.grid s.nextTick + 1000 * s.regN 0x47F0 3, disc := s.lens.disc, oos := false,
                  cfg := s.regs, delivered := [], off := [], freqs := [] }) ∧
            ((∀ p ∈ s.lens.streams, p.2.state ≠ 2 ∧ p.2.state ≠ 4) → (∀ r ∈ s.lens.opened, t.now < r.deadline) →
              t.now < tickInstant s.grid s.nextTick + 1000 * s.regN 0x47F0 3 →
              t.lens.sealedQueue = s.lens.sealedQueue))) ∧
        (s.lens.state ≠ 2 → t.lens.opened.map (·.num) = s.lens.opened.map (·.num) ∧ t.mem = s.mem) ∧
        ((∀ p ∈ s.lens.inUse, p.1 + p.2 ≤ 8192) →
          (∀ n ∈ enabledStreams s.regs, (strRange s.regs n).1 + (strRange s.regs n).2 ≤ 8192) →
          (∀ r ∈ s.lens.opened, ∀ n ∈ enabledStreams r.cfg, (strRange r.cfg n).1 + (strRange r.cfg n).2 ≤ 8192) →
          ∀ a, a < sampleBase ∨ phasorBase ≤ a → memRead t.mem a = memRead s.mem a) ∧
        Within [.regs, .tickRegs, .mem, .time, .lens, .phasor, .facets, .log, .capture] s t) ∧
    (s.domOn 7 = true →
      (∀ (fr : SvFrame) (e n : Nat), fr.entry < 16384 → mapFind s.fabric.streamTab fr.entry = some e → stKind e = 0 →
        stHandle e = n → n < 1024 → s.lens.state = 2 → (s.stream n).state ≠ 0 →
        (∀ c, s.frameCheck n fr.pdu = some c →
          ∃ t, exec (.sampledValueFrame fr) s = .next t ∧ t.stream n = (s.stream n).count c 1 ∧
            (∀ k, k ≠ n → t.stream k = s.stream k) ∧ t.now = Nat.max s.now fr.arrival ∧ Within [.time, .lens] s t) ∧
        (s.frameCheck n fr.pdu = none → fr.tailGood = false →
          ∃ t, exec (.sampledValueFrame fr) s = .next t ∧
            t.stream n = ({ s.stream n with usingSim := (s.stream n).usingSim || pduSimulation fr.pdu } : Stream).count 0x1A 1 ∧
            (∀ k, k ≠ n → t.stream k = s.stream k) ∧ Within [.time, .lens] s t) ∧
        (s.frameCheck n fr.pdu = none → fr.tailGood = true → InPlane s n →
          ∃ t, exec (.sampledValueFrame fr) s = .next t ∧
            mapGet (t.stream n).cnt 0x10 0 = (mapGet (s.stream n).cnt 0x10 0 + 1) % 2 ^ 64 ∧
            (∀ (a : Asdu) (r : Row), svAsdus fr.pdu = some [a] → strReg s.tickRegs n 4 = s.grid → a.smpCnt < s.grid →
              synchOk (strReg s.tickRegs n 9) a.smpSynch a.gmIdentity s.time.gm = true →
              findRow ((fr.arrival - 1000000000 * a.smpCnt / s.grid) / 1000000000 * s.grid + a.smpCnt) s.lens.opened = some r →
              n ∉ r.delivered →
              (t.stream n).lastPlaced = a.smpCnt ∧ (t.stream n).lastSynch = a.smpSynch ∧
              mapGet (t.stream n).cnt 0x11 0 = (mapGet (s.stream n).cnt 0x11 0 + 1) % 2 ^ 64) ∧
            (∀ a, a < sampleBase ∨ phasorBase ≤ a → memRead t.mem a = memRead s.mem a) ∧
            Within [.mem, .time, .lens, .facets, .log] s t)) ∧
      (∀ r l n, s.lens.state = 2 → s.lens.opened = r :: l → InPlane s n →
        ∃ t, exec .alignmentWaitExpiry s = .next t ∧ t.now = Nat.max s.now r.deadline ∧
          t.lens.opened.length < s.lens.opened.length ∧
          (∃ rest, t.lens.sealedQueue = s.lens.sealedQueue ++ { r with oos := !t.inSpec, freqs := s.freqsNow } :: rest) ∧
          (l = [] → t.lens.opened = [] ∧ t.lens.newest = some (r.num, r.inst) ∧
            t.lens.sealedQueue.length = s.lens.sealedQueue.length + 1) ∧
          (∀ a, a < sampleBase ∨ phasorBase ≤ a → memRead t.mem a = memRead s.mem a) ∧
          Within [.mem, .time, .lens, .facets, .log] s t) ∧
      (∀ r l, s.phasor.row = none → s.lens.sealedQueue = r :: l → (∀ p ∈ s.lens.inUse, p.1 + p.2 ≤ 8192) →
        ∃ t, exec .rowEvaluation s = .next t ∧ t.phasor.row = some r ∧ t.phasor.newest = some r ∧ t.phasor.posted = false ∧
          t.phasor.batches = [] ∧ t.lens = { s.lens with sealedQueue := l } ∧
          (∀ a, a < phasorBase ∨ phasorBase + 0x800000 ≤ a → memRead t.mem a = memRead s.mem a) ∧
          Within [.freeCount, .regs, .mem, .lens, .phasor] s t) ∧
      (∀ r, s.phasor.row = some r → s.phasor.posted = false →
        ∃ t, exec .rowSealed s = .next t ∧ t.phasor = { s.phasor with posted := true } ∧
          (s.memOk → memReadList t.mem (logicBase + areaOffset 0) 256 = laneImage t.goose.lanes) ∧
          (∀ a, a < logicBase + areaOffset 0 ∨ logicBase + areaOffset 0 + 256 ≤ a → memRead t.mem a = memRead s.mem a) ∧
          Within [.regs, .mem, .phasor, .goose, .facets] s t))

/-! ### GOOSE (chapter 9) -/

/-- Publishers (R230 to R236): an enable starts with a frame of sqNum 0, a disable discards what is queued, a retransmission
advances sqNum along the curve, and a facet's submission is queued for a publisher that is off and makes a new state of one
that is on when a value changes.
Choices of the model that it rests on: log 8. -/
def Obligations.Publishers : Prop :=
  ∀ s : State,
    (∀ p, p < 512 →
      (Accepted s rowReq (ek (0x5800 + p) 1) (.int 1) → s.flag (0x5800 + p) 1 = false → (s.pub p).queue = [] →
        ∃ t, exec (.publisherEnable p) s = .next t ∧ t.reply.code = 0 ∧ (t.pub p).on = true ∧
          (t.pub p).stNum = (if (s.pub p).started then nextNum (s.pub p).stNum else 1) ∧ (t.pub p).sqNum = 0 ∧
          (t.pub p).t = s.now ∧ (t.pub p).values = s.startValues p ∧ t.reg (0x5800 + p) 1 = 1 ∧
          (∀ q, q ≠ p → t.pub q = s.pub q) ∧ Within [.reply, .regs, .access, .goose] s t) ∧
      (Accepted s rowReq (ek (0x5800 + p) 1) (.int 0) → s.flag (0x5800 + p) 1 = true →
        ∃ t, exec (.publisherDisable p) s = .next t ∧ t.reply.code = 0 ∧
          t.pub p = { s.pub p with on := false, queue := [] } ∧ t.reg (0x5800 + p) 1 = 0 ∧
          t.pubReg p 0x19 = (if (s.pub p).queue = [] then s.pubReg p 0x19
            else (s.pubReg p 0x19 + (s.pub p).queue.length) % 2 ^ 64) ∧
          (∀ q, q ≠ p → t.pub q = s.pub q) ∧ Within [.reply, .regs, .access, .goose] s t) ∧
      (s.domOn 7 = true → (s.pub p).on = true → (s.pub p).modeChange = false →
        ∃ t, exec (.retransmission p) s = .next t ∧ (t.pub p).sqNum = nextNum (s.pub p).sqNum ∧
          (t.pub p).stNum = (s.pub p).stNum ∧ (t.pub p).values = (s.pub p).values ∧ (t.pub p).k = (s.pub p).k + 1 ∧
          (t.pub p).next = t.mono + 1000000 * s.curve p ((s.pub p).k + 1) ∧
          (s.driven = true → t.pubReg p 0x16 = (s.pubReg p 0x16 + 1) % 2 ^ 64) ∧
          (s.driven = false → t.pubReg p 0x18 = (s.pubReg p 0x18 + 1) % 2 ^ 64 ∧ (t.pub p).frame = (s.pub p).frame) ∧
          (∀ q, q ≠ p → t.pub q = s.pub q) ∧ Within [.regs, .time, .goose] s t)) ∧
    (∀ f v p vals, f < 256 → v < 2 ^ 64 → p = v % 512 → s.domOn 7 = true → (s.facet f).live = true → s.pubOwner p = f →
      vals = ((enumFrom' 0 (s.pubDescs p)).map fun d => (s.facet f).staged (pmKind d.1) d.2) →
      ((s.pub p).on = false → (s.pub p).queue.length < 4 →
        ∃ t, exec (.gooseSubmit f v) s = .next t ∧ t.pub p = { s.pub p with queue := (s.pub p).queue ++ [(s.now, vals)] } ∧
          (t.facet f).gooseResult = p * 2 ^ 32 ∧ (∀ k, k ≠ f → t.facet k = s.facet k) ∧ Within [.goose, .facets] s t) ∧
      ((s.pub p).on = true → (s.pub p).queue = [] → vals ≠ (s.pub p).values →
        ∃ t, exec (.gooseSubmit f v) s = .next t ∧ (t.pub p).values = vals ∧ (t.pub p).submitted = true ∧
          (t.pub p).stNum = nextNum (s.pub p).stNum ∧ (t.pub p).sqNum = 0 ∧ (t.pub p).t = s.now ∧
          (t.facet f).gooseResult = p * 2 ^ 32 ∧ (∀ q, q ≠ p → t.pub q = s.pub q) ∧ Within [.regs, .goose, .facets] s t))

/-- Subscriptions (R238 to R242, Table 9.8): an enable waits with every VALID at 0, a frame of a new state is applied with one
store to the subscription's word and sets its deadline, a retransmission only moves the deadline, and the deadline's end or a
disable clears VALID. Memory outside the subscription's word is untouched.
Choices of the model that it rests on: log 8. -/
def Obligations.Subscriptions : Prop :=
  ∀ (s : State) (n : Nat), n < 4096 → s.memOk →
    (Accepted s rowReq (ek (0x6000 + n) 1) (.int 1) → s.flag (0x6000 + n) 1 = false →
      ∃ t, exec (.subscriptionEnable n) s = .next t ∧ t.reply.code = 0 ∧
        t.sub n = { s.sub n with state := 1, usingSim := false } ∧ (∀ m, m < 16 → (t.ginWord n).testBit (4 * m + 2) = false) ∧
        (∀ k, k ≠ n → t.sub k = s.sub k) ∧ (∀ a, a < ginAddr n ∨ ginAddr n + 8 ≤ a → memRead t.mem a = memRead s.mem a) ∧
        Within [.reply, .regs, .mem, .access, .goose] s t) ∧
    (Accepted s rowReq (ek (0x6000 + n) 1) (.int 0) → s.flag (0x6000 + n) 1 = true → (s.sub n).state ≠ 0 →
      ∃ t, exec (.subscriptionDisable n) s = .next t ∧ t.reply.code = 0 ∧ t.sub n = { s.sub n with state := 0 } ∧
        (∀ m, m < 16 → (t.ginWord n).testBit (4 * m + 2) = false) ∧ (∀ k, k ≠ n → t.sub k = s.sub k) ∧
        (∀ a, a < ginAddr n ∨ ginAddr n + 8 ≤ a → memRead t.mem a = memRead s.mem a) ∧
        Within [.reply, .regs, .mem, .access, .goose] s t) ∧
    (Accepted s rowReq (ek (0x6000 + n) 0x2C) (.int 1) →
      ∃ t, exec (.subscriptionClearCounters n) s = .next t ∧ t.reply.code = 0 ∧
        (∀ j, 0x23 ≤ j → j ≤ 0x2B → t.reg (0x6000 + n) j = 0) ∧
        (∀ k, (k < ek (0x6000 + n) 0x23 ∨ ek (0x6000 + n) 0x2B < k) → regIn t.regs k = regIn s.regs k) ∧
        Within [.reply, .regs] s t) ∧
    (∀ (fr : GooseFrame) (g : GooseMsg) (e : Nat), s.domOn 7 = true → fr.entry < 16384 →
      mapFind s.fabric.streamTab fr.entry = some e → stKind e = 1 → stHandle e = n → GooseTaken s n fr g →
      ((s.sub n).state = 1 ∨ (s.sub n).state = 3 →
        ∃ t, exec (.gooseFrame fr) s = .next t ∧ (t.sub n).state = 2 ∧ (t.sub n).lastSt = g.stNum ∧
          (t.sub n).lastSq = g.sqNum ∧ (t.sub n).deadline = s.mono + 1000000 * (g.tal + s.subReg n 9) ∧
          (∀ m, m < 16 → bitsAt (t.ginWord n) (4 * m) 4 =
            (if m < s.subReg n 7 ∧ smUsed (s.subDesc n m) = true then
              (memberNibble (s.subDesc n m) (bitsAt (s.ginWord n) (4 * m) 4) (s.subReg n 8 != 0) g.data).1 else 0)) ∧
          t.subReg n 0x23 = (s.subReg n 0x23 + 1) % 2 ^ 64 ∧ t.subReg n 0x24 = (s.subReg n 0x24 + 1) % 2 ^ 64 ∧
          (∀ k, k ≠ n → t.sub k = s.sub k) ∧ (∀ a, a < ginAddr n ∨ ginAddr n + 8 ≤ a → memRead t.mem a = memRead s.mem a) ∧
          Within [.regs, .mem, .goose] s t) ∧
      ((s.sub n).state = 2 → g.stNum = (s.sub n).lastSt → g.sqNum = (s.sub n).lastSq + 1 → g.sqNum < 2 ^ 32 →
        ∃ t, exec (.gooseFrame fr) s = .next t ∧ (t.sub n).state = 2 ∧ (t.sub n).lastSq = g.sqNum ∧
          (t.sub n).deadline = s.mono + 1000000 * (g.tal + s.subReg n 9) ∧
          t.subReg n 0x23 = (s.subReg n 0x23 + 1) % 2 ^ 64 ∧ (∀ k, k ≠ n → t.sub k = s.sub k) ∧ Within [.regs, .goose] s t)) ∧
    (s.domOn 7 = true → (s.sub n).state = 2 →
      ∃ t, exec (.subscriptionTimeout n) s = .next t ∧ t.sub n = { s.sub n with state := 3 } ∧
        (∀ m, m < 16 → (t.ginWord n).testBit (4 * m + 2) = false) ∧ t.mono = Nat.max s.mono (s.sub n).deadline ∧
        t.subReg n 0x2B = (s.subReg n 0x2B + 1) % 2 ^ 64 ∧ (∀ k, k ≠ n → t.sub k = s.sub k) ∧
        (∀ a, a < ginAddr n ∨ ginAddr n + 8 ≤ a → memRead t.mem a = memRead s.mem a) ∧
        Within [.regs, .mem, .time, .goose, .facets, .log] s t)

/-! ### Scheme logic, exchange and stations (chapters 10 and 11) -/

/-- Programs. A start waits for the program's next trigger, a stop acts at once, after an exchange that waits for the same
boundary, and clears what the program owns where :0D is 1 (R270, R289); a clear resets OVERRUN and the cycle counts (R280). A
trigger of a program's class, while its last cycle has ended, runs one cycle: its error task first when one is due, and at its
end the bits and words it wrote are committed to memory and the FDO image reaches the pins of the driven module, while no other
program changes but in the time its processor is taken (R272, R278, R285). A trigger before the last cycle has ended is
skipped, counted and marked OVERRUN (R280). An instant batch runs each instant program of the processor once, and lets the row
leave stage 8 once the last processor has ended its batch (R273, R275).
Choices of the model that it rests on: log 9, log 10. -/
def Obligations.Programs : Prop :=
  ∀ s : State,
    (∀ p, p < 1024 →
      (Accepted s rowReq (ek (0x5400 + p) 1) (.int 1) →
        ∃ t, exec (.programStart p) s = .next t ∧ t.reply.code = 0 ∧
          t.prog p = { s.prog p with startDue := (s.prog p).startDue || (s.prog p).state == 1 } ∧
          (∀ q, q ≠ p → t.prog q = s.prog q) ∧ t.reg (0x5400 + p) 1 = 1 ∧ Within [.reply, .regs, .access, .logic] s t) ∧
      (Accepted s rowReq (ek (0x5400 + p) 1) (.int 0) → (s.prog p).exState ≠ 4 →
        ∃ t, exec (.programStop p) s = .next t ∧ t.reply.code = 0 ∧
          t.prog p = { s.prog p with state := if (s.prog p).state = 2 then 1 else (s.prog p).state, startDue := false } ∧
          (∀ q, q ≠ p → t.prog q = s.prog q) ∧ t.reg (0x5400 + p) 1 = 0 ∧
          ((s.prog p).state ≠ 2 ∨ s.progReg p 0x0D ≠ 1 → t.mem = s.mem) ∧
          (∀ i, (s.prog p).image = some i →
            ((s.prog p).state = 2 → s.progReg p 0x0D = 1 → t.mem = clearClaims i (fun _ => true) s.mem) ∧
            (∀ a, (∀ w ∈ claimed i.claims, ¬ownsByte w a) → memRead t.mem a = memRead s.mem a)) ∧
          Within [.reply, .regs, .mem, .access, .logic, .facets, .log] s t) ∧
      (∀ old new, Accepted s rowReq (ek (0x5400 + p) 1) (.int 0) → (s.prog p).exState = 4 → (s.prog p).state = 2 →
        (s.prog p).image = some old → (s.prog p).exImage = some new →
        ∃ t, exec (.programStop p) s = .next t ∧ t.reply.code = 0 ∧
          t.prog p = { s.prog p with state := 1, startDue := false, image := some new, exState := 0, exImage := none,
                                     data := exchangeData old new (s.prog p).data } ∧
          (∀ q, q ≠ p → t.prog q = s.prog q) ∧ t.progReg p 0x27 = (s.progReg p 0x27 + 1) % 2 ^ 64 ∧
          (∀ a, (∀ w ∈ claimed new.claims, ¬ownsByte w a) → memRead t.mem a = memRead s.mem a) ∧
          Within [.reply, .regs, .mem, .access, .logic, .facets, .log] s t) ∧
      (Accepted s rowReq (ek (0x5400 + p) 0x2F) (.int 1) →
        ∃ t, exec (.programClear p) s = .next t ∧ t.reply.code = 0 ∧ t.prog p = { s.prog p with overrun := false } ∧
          (∀ q, q ≠ p → t.prog q = s.prog q) ∧ (∀ j, 0x28 ≤ j → j ≤ 0x2D → t.progReg p j = 0) ∧
          t.health.causes.testBit 7 = (t.logic.progs.any fun q => q.2.overrun) ∧
          Within [.reply, .regs, .logic, .facets, .pair, .log, .health] s t)) ∧
    (∀ (c : Instr) (p cls : Nat) (i : ProgImage), p < 1024 → s.domOn 11 = true →
      (c = .fastCycle p ∧ cls = 1 ∨ c = .normalCycle p ∧ cls = 2 ∨ c = .slowCycle p ∧ cls = 3) →
      (s.prog p).image = some i → i.cls = cls →
      ((s.prog p).state = 2 ∧ (s.prog p).endsAt ≤ s.mono * 4 ∨ (s.prog p).state = 1 ∧ (s.prog p).startDue = true →
        ∃ t, exec c s = .next t ∧
          let s1 := (s.setProg p { s.prog p with skippedLast := false }).begin p
          let r := s1.cycleOn p i s.phasor.newest s1.mem
          t.mem = putAll r.writes
            (if (s.prog p).state = 1 then clearClaims i (fun a => a == 6 || a == 16) s.mem else s.mem) ∧
          (∀ a, (∀ w ∈ r.writes, ¬ownsByte (w.1, w.2.1) a) → (∀ w ∈ claimed i.claims, ¬ownsByte w a) →
            memRead t.mem a = memRead s.mem a) ∧
          t.prog p = { r.s.prog p with state := 2, first := false, errDue := false, image := some i, skippedLast := false } ∧
          t.progReg p 0x28 = (s.progReg p 0x28 + 1) % 2 ^ 64 ∧ t.progReg p 0x29 = s.progReg p 0x29 ∧
          t.progReg p 0x2A = r.cost ∧
          ((s1.taskOf p).isSome = true → t.progReg p 0x2D = (s.progReg p 0x2D + 1) % 2 ^ 64) ∧
          ((s1.taskOf p).isNone = true → t.progReg p 0x2D = s.progReg p 0x2D) ∧
          (∀ q, q ≠ p → (∀ k, s1.taskOf p = some k → q ≠ k.1) → t.prog q = { s.prog q with endsAt := (t.prog q).endsAt }) ∧
          t.power = { s.power with fdo := if s.driven && s.pair.safeHold.isNone
                                          then leNat (memReadList t.mem (areaByte 11 0) 4) else s.power.fdo } ∧
          Within [.freeCount, .regs, .mem, .power, .goose, .logic, .facets, .log] s t) ∧
      ((s.prog p).state = 2 → s.mono * 4 < (s.prog p).endsAt →
        ∃ t, exec c s = .next t ∧ t.prog p = { s.prog p with overrun := true, skippedLast := true } ∧
          t.progReg p 0x29 = (s.progReg p 0x29 + 1) % 2 ^ 64 ∧ t.progReg p 0x28 = s.progReg p 0x28 ∧
          t.health.causes.testBit 7 = true ∧ (∀ q, q ≠ p → t.prog q = s.prog q) ∧
          Within [.regs, .logic, .facets, .pair, .log, .health] s t)) ∧
    (∀ lp row, lp < 16 → s.domOn 11 = true → s.phasor.row = some row → s.phasor.posted = true → lp ∉ s.phasor.batches →
      ∃ t, exec (.instantBatch lp) s = .next t ∧
        (t.batchLps.all (lp :: s.phasor.batches).contains = true →
          t.phasor = { s.phasor with row := none, posted := false, batches := [] } ∧ t.capture.ready = true ∧
          t.logic.batch = none) ∧
        (t.batchLps.all (lp :: s.phasor.batches).contains = false →
          t.phasor = { s.phasor with batches := lp :: s.phasor.batches } ∧ t.capture = s.capture) ∧
        (∀ p ∈ s.instantOrder lp, (s.prog p).image.isSome = true →
          t.progReg p 0x28 = (s.progReg p 0x28 + (s.instantOrder lp).count p) % 2 ^ 64 ∧ (t.prog p).image = (s.prog p).image) ∧
        (∀ q, q ∉ s.instantOrder lp → (∀ p ∈ s.instantOrder lp, s.progReg p 0x21 ≠ q) →
          t.prog q = { s.prog q with endsAt := (t.prog q).endsAt }) ∧
        (s.instantOrder lp = [] → t.mem = s.mem ∧ t.regs = s.regs ∧ t.power = s.power ∧ t.goose = s.goose) ∧
        (∀ p i, s.instantOrder lp = [p] → (s.prog p).image = some i → (s.prog p).state = 2 → (s.prog p).startDue = false →
          t.mem = putAll (({ s with logic := { s.logic with batch := some (s.logic.batch.getD s.mem) } } : State).cycleOn p i
            (some row) (s.logic.batch.getD s.mem)).writes s.mem) ∧
        (∀ a, a < logicBase → memRead t.mem a = memRead s.mem a) ∧
        Within [.freeCount, .regs, .mem, .power, .phasor, .goose, .logic, .facets, .capture, .log] s t)

/-- Fast direct inputs and on-line exchange (R279, R287 to R291): an edge without a filter reaches the image at once, one with
a filter after it has held; a switch is made at once while the program is stopped, and at the cycle boundary while it runs; a
discard drops the new image. An exchange touches no byte but those of what the new image claims.
Choices of the model that it rests on: log 9. -/
def Obligations.InputsAndExchange : Prop :=
  ∀ s : State,
    (∀ pin level, pin < 32 → s.domOn 11 = true →
      (s.memOk → s.regN 0x5400 (0x80 + pin) = 0 →
        ∃ t, exec (.fdiEdge pin level) s = .next t ∧ areaBit t.mem 3 pin = level ∧ mapFind t.logic.fdiWait pin = none ∧
          t.power = { s.power with fdi := withBit s.power.fdi pin level } ∧
          (∀ a, a ≠ areaByte 3 pin → memRead t.mem a = memRead s.mem a) ∧
          (∀ k, k < 32 → k ≠ pin → areaBit t.mem 3 k = areaBit s.mem 3 k) ∧ Within [.mem, .power, .logic] s t) ∧
      (s.regN 0x5400 (0x80 + pin) ≠ 0 → areaBit s.mem 3 pin ≠ level →
        ∃ t, exec (.fdiEdge pin level) s = .next t ∧ mapFind t.logic.fdiWait pin = some (level, s.mono) ∧
          t.power = { s.power with fdi := withBit s.power.fdi pin level } ∧ Within [.power, .logic] s t) ∧
      (∀ since, s.memOk → mapFind s.logic.fdiWait pin = some (level, since) →
        ∃ t, exec (.fdiFilterExpiry pin) s = .next t ∧ areaBit t.mem 3 pin = level ∧ mapFind t.logic.fdiWait pin = none ∧
          t.mono = Nat.max s.mono (since + 1000 * s.regN 0x5400 (0x80 + pin)) ∧
          (∀ a, a ≠ areaByte 3 pin → memRead t.mem a = memRead s.mem a) ∧ Within [.mem, .time, .logic] s t)) ∧
    (∀ p old new, p < 1024 → (s.prog p).image = some old → (s.prog p).exImage = some new →
      (Accepted s rowReq (ek (0x5400 + p) 0x23) (.int 1) → (s.prog p).exState = 3 → (s.prog p).state ≠ 2 →
        ∃ t, exec (.exchangeSwitch p) s = .next t ∧ t.reply.code = 0 ∧ (t.prog p).image = some new ∧
          (t.prog p).data = exchangeData old new (s.prog p).data ∧ (t.prog p).exState = 0 ∧ (t.prog p).exImage = none ∧
          (t.prog p).state = (s.prog p).state ∧ mapFind t.access.overlay (ek (0x5400 + p) 2) = some (.bytes new.raw) ∧
          t.progReg p 0x27 = (s.progReg p 0x27 + 1) % 2 ^ 64 ∧
          (∀ a, (∀ w ∈ claimed new.claims, ¬ownsByte w a) → memRead t.mem a = memRead s.mem a) ∧
          Within [.reply, .regs, .mem, .access, .logic, .facets, .log] s t) ∧
      (Accepted s rowReq (ek (0x5400 + p) 0x23) (.int 1) → (s.prog p).exState = 3 → (s.prog p).state = 2 →
        ∃ t, exec (.exchangeSwitch p) s = .next t ∧ t.reply.code = 0 ∧ t.prog p = { s.prog p with exState := 4 } ∧
          (∀ q, q ≠ p → t.prog q = s.prog q) ∧ Within [.reply, .logic] s t) ∧
      (Accepted s rowReq (ek (0x5400 + p) 0x23) (.int 2) → (s.prog p).exState = 3 ∨ (s.prog p).exState = 4 →
        ∃ t, exec (.exchangeDiscard p) s = .next t ∧ t.reply.code = 0 ∧
          t.prog p = { s.prog p with exState := 0, exImage := none } ∧ (∀ q, q ≠ p → t.prog q = s.prog q) ∧
          Within [.reply, .logic] s t) ∧
      (s.domOn 11 = true → (s.prog p).exState = 4 →
        ∃ t, exec (.exchangeSwitchAtBoundary p) s = .next t ∧ (t.prog p).image = some new ∧
          (t.prog p).data = exchangeData old new (s.prog p).data ∧ (t.prog p).exState = 0 ∧ (t.prog p).exImage = none ∧
          (t.prog p).state = (s.prog p).state ∧ t.progReg p 0x27 = (s.progReg p 0x27 + 1) % 2 ^ 64 ∧
          (∀ q, q ≠ p → t.prog q = s.prog q) ∧
          (∀ a, (∀ w ∈ claimed new.claims, ¬ownsByte w a) → memRead t.mem a = memRead s.mem a) ∧
          Within [.regs, .mem, .access, .logic, .facets, .log] s t))

/-- Remote stations (R281 to R286, R423 to R426): an enable takes transmit objects and waits with the health bit at 0, a
disable gives them up; an exchange sends the outputs under the next count; a complete response of an operational station
writes its inputs with the health bit at 1; a missing one is counted, and the last that the limit allows drops the station.
Choices of the model that it rests on: log 11. -/
def Obligations.Stations : Prop :=
  ∀ (s : State) (n : Nat), n < 64 →
    (s.memOk → Accepted s rowReq (ek (0xB040 + n) 1) (.int 1) → s.flag (0xB040 + n) 1 = false → (s.station n).state = 0 →
      ∃ t, exec (.stationEnable n) s = .next t ∧ t.reply.code = 0 ∧
        t.station n = { s.station n with state := 1, misses := 0, goods := 0, awaiting := false, segs := [] } ∧
        t.objectsOf n = (s.freeObjects (s.stationCtl n)).take (segments (s.outputCount n)) ∧
        areaBit t.mem 4 (1024 * n) = false ∧ (∀ k, k ≠ n → t.station k = s.station k) ∧
        (∀ a, a < areaByte 4 (1024 * n) ∨ areaByte 4 (1024 * n) + 128 ≤ a → memRead t.mem a = memRead s.mem a) ∧
        Within [.reply, .regs, .mem, .access, .logic, .can] s t) ∧
    (s.memOk → Accepted s rowReq (ek (0xB040 + n) 1) (.int 0) → s.flag (0xB040 + n) 1 = true → (s.station n).state ≠ 0 →
      ∃ t, exec (.stationDisable n) s = .next t ∧ t.reply.code = 0 ∧
        t.station n = { s.station n with state := 0, awaiting := false, segs := [] } ∧ t.objectsOf n = [] ∧
        areaBit t.mem 4 (1024 * n) = false ∧ (∀ k, k ≠ n → t.station k = s.station k) ∧
        (∀ a, a < areaByte 4 (1024 * n) ∨ areaByte 4 (1024 * n) + 128 ≤ a → memRead t.mem a = memRead s.mem a) ∧
        Within [.reply, .regs, .mem, .access, .logic, .can] s t) ∧
    (Accepted s rowReq (ek (0xB040 + n) 0x11) (.int 1) →
      ∃ t, exec (.stationClear n) s = .next t ∧ t.reply.code = 0 ∧
        (∀ j, 0x0E ≤ j → j ≤ 0x10 → t.stationReg n j = 0) ∧
        (∀ k, (k < ek (0xB040 + n) 0x0E ∨ ek (0xB040 + n) 0x10 < k) → regIn t.regs k = regIn s.regs k) ∧
        Within [.reply, .regs] s t) ∧
    (s.stewardUp = true → s.driven = true → (s.station n).state ≠ 0 → (s.station n).awaiting = false →
      ∃ t, exec (.stationExchange n) s = .next t ∧
        t.station n = { s.station n with count := ((s.station n).count + 1) % 16, awaiting := true,
                                         sending := s.stationOutputs n, segs := [] } ∧
        t.stationReg n 0x0E = (s.stationReg n 0x0E + 1) % 2 ^ 64 ∧ (∀ k, k ≠ n → t.station k = s.station k) ∧
        Within [.regs, .logic, .can] s t) ∧
    (∀ g : RespSeg, s.memOk → s.stewardUp = true → (s.station n).state = 2 → (s.station n).awaiting = true →
      (s.station n).segs = [] → segments (s.inputCount n) = 1 → g.count = (s.station n).count → g.seg = 0 →
      g.data.length = segmentLength (s.inputCount n) 0 →
      ∃ t, exec (.stationResponse n [g]) s = .next t ∧ (t.station n).state = 2 ∧ (t.station n).awaiting = false ∧
        (t.station n).misses = 0 ∧ (t.station n).goods = (s.station n).goods + 1 ∧
        (t.station n).inputs = leNat (padTo 64 g.data) % 2 ^ s.inputCount n ∧
        memReadList t.mem (areaByte 4 (1024 * n)) 128 =
          leBytes 128 (1 + 2 * (leNat (padTo 64 g.data) % 2 ^ s.inputCount n)) ∧
        (∀ k, k ≠ n → t.station k = s.station k) ∧
        (∀ a, a < areaByte 4 (1024 * n) ∨ areaByte 4 (1024 * n) + 128 ≤ a → memRead t.mem a = memRead s.mem a) ∧
        Within [.mem, .logic] s t) ∧
    (s.stewardUp = true → s.driven = true → (s.station n).state ≠ 0 → (s.station n).awaiting = true →
      ((s.station n).state ≠ 2 ∨ (s.station n).misses + 1 < s.stationReg n 8 →
        ∃ t, exec (.responseTimeout n) s = .next t ∧
          t.station n = { s.station n with misses := (s.station n).misses + 1, goods := 0, awaiting := false, segs := [] } ∧
          t.stationReg n 0x0F = (s.stationReg n 0x0F + 1) % 2 ^ 64 ∧ (∀ k, k ≠ n → t.station k = s.station k) ∧
          Within [.regs, .logic] s t) ∧
      (s.memOk → (s.station n).state = 2 → s.stationReg n 8 ≤ (s.station n).misses + 1 →
        ∃ t, exec (.responseTimeout n) s = .next t ∧ (t.station n).state = 3 ∧ (t.station n).awaiting = false ∧
          areaBit t.mem 4 (1024 * n) = false ∧ t.stationReg n 0x0F = (s.stationReg n 0x0F + 1) % 2 ^ 64 ∧
          t.stationReg n 0x10 = (s.stationReg n 0x10 + 1) % 2 ^ 64 ∧ (∀ p ∈ s.users n, (t.prog p).errDue = true) ∧
          (∀ k, k ≠ n → t.station k = s.station k) ∧
          (∀ a, a < areaByte 4 (1024 * n) ∨ areaByte 4 (1024 * n) + 128 ≤ a → memRead t.mem a = memRead s.mem a) ∧
          Within [.regs, .mem, .logic, .facets, .log] s t))

/-! ### Facets and the dispatch unit (chapter 12) -/

/-- The commands of a facet (R299, R312 to R318): a definition takes its units and leaves it EMPTY, a deletion releases all;
launch copies the boot image into zeroed guest memory, freeze, thaw, save, restore and reset lead to the states of Table
12.13; a clear zeroes the counters; a new share takes effect with a notice.
Choices of the model that it rests on: log 14, log 23. -/
def Obligations.FacetCommands : Prop :=
  ∀ (s : State) (n : Nat), n < 256 →
    (Accepted s rowReq (ek (0x5000 + n) 1) (.int 1) → (s.facet n).state = 0 →
      ∃ t, exec (.facetDefine n) s = .next t ∧ t.reply.code = 0 ∧
        t.facet n = { Facet.none with state := 1, units := s.takeUnits (s.facetReg n 6), boot := (s.facet n).boot,
                                      plane := leNat (s.blob (0x5000 + n) 7) } ∧
        t.reg (0x5000 + n) 1 = 1 ∧ (∀ k, k ≠ n → t.facet k = s.facet k) ∧ Within [.reply, .regs, .access, .facets] s t) ∧
    (Accepted s rowReq (ek (0x5000 + n) 1) (.int 0) → (s.facet n).state = 1 →
      ∃ t, exec (.facetDelete n) s = .next t ∧ t.reply.code = 0 ∧ t.facet n = Facet.none ∧ t.reg (0x5000 + n) 1 = 0 ∧
        (∀ g, s.facetReg n 8 ≤ g → g < s.facetReg n 8 + s.facetReg n 9 → t.task g = Task.free) ∧
        (∀ p, s.pubOwner p = n → (t.pub p).on = false) ∧
        (∀ k, k < 16 → (s.tpo k).owner = n → (s.tpo k).pulse = false → (t.tpo k).owner = 0xFFFF) ∧
        (∀ k, k ≠ n → (t.facet k).state = (s.facet k).state) ∧
        Within [.reply, .regs, .access, .time, .goose, .facets] s t) ∧
    (s.memOk → (s.facet n).units.Nodup → Accepted s rowReq (ek (0x5000 + n) 2) (.int 1) → (s.facet n).state = 1 →
      s.launchCode n = 0 →
      ∃ t, exec (.launch n) s = .next t ∧ t.reply.code = 0 ∧ (t.facet n).state = 2 ∧ (t.facet n).ready = false ∧
        (t.facet n).result = 0 ∧ (t.facet n).units = (s.facet n).units ∧ (t.facet n).swb = [] ∧ (t.facet n).nic = [] ∧
        (∀ a, a < (s.facet n).guestBytes → memRead t.mem ((s.facet n).phys a) = (s.facet n).boot.getD a (byteOf 0)) ∧
        (∀ a, outsideGuest (s.facet n) a → memRead t.mem a = memRead s.mem a) ∧
        (∀ k, k ≠ n → (t.facet k).state = (s.facet k).state) ∧ Within [.reply, .mem, .facets, .log] s t) ∧
    (Accepted s rowReq (ek (0x5000 + n) 2) (.int 2) → (s.facet n).live = true →
      ∃ t, exec (.freeze n) s = .next t ∧ t.reply.code = 0 ∧ (t.facet n).state = 4 ∧ (t.facet n).result = 0 ∧
        (t.facet n).waiters = [] ∧
        (∀ c ∈ (s.facet n).waiters, mapFind (t.facet n).answers c = some (takeWord 0 0 3 0 0)) ∧
        (∀ k, k ≠ n → (t.facet k).state = (s.facet k).state) ∧ Within [.reply, .facets, .log] s t) ∧
    (Accepted s rowReq (ek (0x5000 + n) 2) (.int 3) → (s.facet n).state = 4 →
      ∃ t, exec (.thaw n) s = .next t ∧ t.reply.code = 0 ∧ (t.facet n).state = (if (s.facet n).ready then 3 else 2) ∧
        (t.facet n).result = 0 ∧ (∀ k, k ≠ n → (t.facet k).state = (s.facet k).state) ∧
        (s.facets.facet = [(n, s.facet n)] → t.health.present.testBit 6 = false) ∧
        t.health.causes = s.health.causes ∧ Within [.reply, .facets, .health, .log] s t) ∧
    (Accepted s rowReq (ek (0x5000 + n) 2) (.int 4) → (s.facet n).state = 4 → s.saveCode n = 0 →
      ∃ t, exec (.save n) s = .next t ∧ t.reply.code = 0 ∧ t.facet n = { s.facet n with state := 5, result := 0 } ∧
        t.blobOf (s.facetReg n 0x16) =
          { Blob.empty with state := 1, size := blobLength (s.facet n).units.length, source := n } ∧
        (∀ k, k ≠ n → t.facet k = s.facet k) ∧ (∀ b, b ≠ s.facetReg n 0x16 → t.blobOf b = s.blobOf b) ∧
        Within [.reply, .facets] s t) ∧
    (Accepted s rowReq (ek (0x5000 + n) 2) (.int 5) → (s.facet n).state = 1 ∨ (s.facet n).state = 8 →
      ∃ t, exec (.restore n) s = .next t ∧ t.reply.code = 0 ∧ t.facet n = { s.facet n with state := 6, result := 0 } ∧
        (∀ k, k ≠ n → t.facet k = s.facet k) ∧ Within [.reply, .facets] s t) ∧
    (Accepted s rowReq (ek (0x5000 + n) 2) (.int 6) → (s.facet n).state ≠ 0 → (s.facet n).state ≠ 7 →
      ∃ t, exec (.facetReset n) s = .next t ∧ t.reply.code = 0 ∧ (t.facet n).state = 7 ∧ (t.facet n).ready = false ∧
        (t.facet n).mbox = Mailbox.empty ∧ (t.facet n).dma = [] ∧ (t.facet n).nic = [] ∧ (t.facet n).bindings = [] ∧
        (t.facet n).swb = [] ∧ (t.facet n).waiters = [] ∧ (t.facet n).units = (s.facet n).units ∧
        (∀ b, (s.facet n).state = 5 → s.writingBlob n = some b → (t.blobOf b).state = 3) ∧
        (∀ k, k ≠ n → (t.facet k).state = (s.facet k).state) ∧ t.boot.lastClass = 6 ∧
        Within [.reply, .regs, .boot, .time, .goose, .facets, .capture, .log] s t) ∧
    (Accepted s rowReq (ek (0x5000 + n) 0x23) (.int 1) →
      ∃ t, exec (.facetClear n) s = .next t ∧ t.reply.code = 0 ∧
        t.facet n = { s.facet n with planeFaults := 0, accessFaults := 0, overRefusals := 0, mboxErrors := 0, taken := 0,
                                     lostPosts := 0, nicDiscards := 0, dispatches := 0, longest := [] } ∧
        (∀ k, k ≠ n → t.facet k = s.facet k) ∧ Within [.reply, .facets] s t) ∧
    (∀ sub v : Nat, 11 ≤ sub → sub ≤ 14 → v < 2 ^ 64 → Accepted s rowReq (ek (0x5000 + n) sub) (.int v) →
      ∃ t, exec (.shareChange n sub v) s = .next t ∧ t.reply.code = 0 ∧ t.facetReg n sub = v ∧
        (∀ k, k ≠ ek (0x5000 + n) sub → regIn t.regs k = regIn s.regs k) ∧
        ((s.facet n).launched = true → (s.facet n).mbox.held = [] →
          sub32 (s.facet n).mbox.inProd (s.facet n).mbox.inCons + 4 ≤ 16 →
          (t.facet n).mbox.inProd = ((s.facet n).mbox.inProd + 4) % 2 ^ 32 ∧
          mapGet (t.facet n).mbox.inSlots ((s.facet n).mbox.inProd % 16) 0 =
            msgHeader (s.facet n).mbox.noticeTag 0x0083 3 0) ∧
        (∀ k, k ≠ n → t.facet k = s.facet k) ∧ Within [.reply, .regs, .access, .facets] s t)

/-- The events of a facet (R65, R314 to R318, Tables 12.3 and 12.13): the ends of a save, of a restore and of a reset, READY,
a fault of a core and the launch deadline.
Choices of the model that it rests on: log 13, log 14. -/
def Obligations.FacetEvents : Prop :=
  ∀ (s : State) (n : Nat), n < 256 →
    (s.stewardUp = true →
      (∀ b, (s.facet n).state = 5 → s.writingBlob n = some b →
        (∃ t, exec (.saveComplete n true) s = .next t ∧ (t.facet n).state = 4 ∧ (t.facet n).result = 0 ∧
          t.blobOf b = { s.blobOf b with state := 2, snap := some (s.snapshot n), key := s.sec.migration,
                                         savedAt := (s.time.sec, s.time.ns) } ∧
          (∀ k, k ≠ b → t.blobOf k = s.blobOf k) ∧ Within [.facets, .log] s t) ∧
        ∃ t, exec (.saveComplete n false) s = .next t ∧ (t.facet n).state = 4 ∧ (t.facet n).result = 0x0907 ∧
          t.blobOf b = { s.blobOf b with state := 3 } ∧ (∀ k, k ≠ b → t.blobOf k = s.blobOf k) ∧
          Within [.facets, .log] s t) ∧
      (∀ r, (s.facet n).state = 6 → s.blobSnap (s.facetReg n 0x16) = none →
        ∃ t, exec (.restoreComplete n r) s = .next t ∧ (t.facet n).state = 8 ∧ (t.facet n).result = 0x0908 ∧
          Within [.facets, .log] s t) ∧
      (∀ r sn, (s.facet n).state = 6 → s.blobSnap (s.facetReg n 0x16) = some sn →
        (sn.cores ≠ popCount (s.coreMask n) 64 ∨ sn.units ≠ (s.facet n).units.length ∨ sn.taskCount ≠ s.facetReg n 9 →
          ∃ t, exec (.restoreComplete n r) s = .next t ∧ (t.facet n).state = 8 ∧ (t.facet n).result = 0x0909 ∧
            Within [.facets, .log] s t) ∧
        (sn.cores = popCount (s.coreMask n) 64 → sn.units = (s.facet n).units.length → sn.taskCount = s.facetReg n 9 → r ≠ 0 →
          ∃ t, exec (.restoreComplete n r) s = .next t ∧ (t.facet n).state = 8 ∧ (t.facet n).result = r ∧
            Within [.facets, .log] s t)) ∧
      (∀ sn, s.memOk → (s.facet n).state = 6 → s.blobSnap (s.facetReg n 0x16) = some sn →
        sn.cores = popCount (s.coreMask n) 64 → sn.units = (s.facet n).units.length → sn.taskCount = s.facetReg n 9 →
        ∃ t, exec (.restoreComplete n 0) s = .next t ∧ (t.facet n).state = 4 ∧ (t.facet n).result = 0 ∧
          (t.facet n).restored = true ∧ (t.facet n).ready = sn.ready ∧ (t.facet n).swb = sn.swb ∧ (t.facet n).dma = sn.dma ∧
          (t.facet n).nic = sn.nic ∧ (t.facet n).bindings = sn.bindings ∧
          ((s.facet n).units.Nodup → (sn.memory.map (·.1)).Nodup → (∀ c ∈ sn.memory, c.1 < (s.facet n).guestBytes) →
            ∀ c ∈ sn.memory, memRead t.mem ((s.facet n).phys c.1) = c.2) ∧
          ((∀ c ∈ sn.memory, c.1 < (s.facet n).guestBytes) →
            ∀ a, outsideGuest (s.facet n) a → memRead t.mem a = memRead s.mem a) ∧
          Within [.mem, .facets, .log] s t) ∧
      ((s.facet n).state = 7 →
        ∃ t, exec (.facetResetComplete n) s = .next t ∧ (t.facet n).state = 1 ∧
          (t.facet n).resets = ((s.facet n).resets + 1) % 2 ^ 32 ∧ (t.facet n).units = (s.facet n).units ∧
          Within [.facets, .log, .health] s t) ∧
      ((s.facet n).state = 2 →
        ∃ t, exec (.facetLaunchDeadline n) s = .next t ∧ (t.facet n).state = 4 ∧ (t.facet n).waiters = [] ∧
          t.health.causes.testBit 6 = true ∧ t.health.present.testBit 6 = true ∧
          (∀ k, k ≠ n → (t.facet k).state = (s.facet k).state) ∧
          Within [.boot, .facets, .pair, .log, .health] s t)) ∧
    (s.guest n = true →
      (∃ t, exec (.readyReported n) s = .next t ∧ (t.facet n).state = 3 ∧ (t.facet n).ready = true ∧
        (s.boot.launched = true → s.boot.phase = 9 → s.facets.facet = [(n, s.facet n)] → t.boot.phase = 10) ∧
        (s.boot.launched = false → t.boot = s.boot) ∧ (∀ k, k ≠ n → (t.facet k).state = (s.facet k).state) ∧
        Within [.boot, .facets, .log] s t) ∧
      (∃ t, exec (.readyWithdrawn n) s = .next t ∧ t.facet n = { s.facet n with ready := false, state := 2 } ∧
        (∀ k, k ≠ n → t.facet k = s.facet k) ∧ Within [.facets] s t) ∧
      ∀ core, core < 64 → (s.coreMask n).testBit core = true →
        ∃ t, exec (.guestCoreFault n core) s = .next t ∧ (t.facet n).state = 4 ∧ (t.facet n).waiters = [] ∧
          t.health.causes.testBit 6 = true ∧ t.health.present.testBit 6 = true ∧
          (∀ k, k ≠ n → (t.facet k).state = (s.facet k).state) ∧ Within [.facets, .pair, .log, .health] s t)

/-- Writes of the guest to its window (R302, R303, R308, R310, Tables 12.3, 12.5, 12.6 and 12.9): a mirror base or size that the
checks allow is taken, another sets MIRROR_ERR; an index that moves within its ring is taken, another is counted and sets ERR;
status bits are cleared by 1; software bits are written, set or cleared; a ring of a NIC queue starts with every count 0. No
write of these changes anything but the facet.
Choices of the model that it rests on: log 14. -/
def Obligations.WindowWrites : Prop :=
  ∀ (s : State) (n v : Nat), n < 256 → v < 2 ^ 64 → s.guest n = true →
    (∃ t, exec (.mirrorBase n false v) s = .next t ∧
      t.facet n = (if ((s.facet n).mirrorSize = 0 ∨ (s.facet n).inside (4096 * bitsAt v 12 36) (s.facet n).mirrorSize = true) ∧
          (s.facet n).mirrorSize ≤ s.facetReg n 0x0F ∧ (s.facet n).mirrorSize % 64 = 0
        then { s.facet n with mirrorBase := 4096 * bitsAt v 12 36 } else { s.facet n with mirrorErr := true }) ∧
      (∀ k, k ≠ n → t.facet k = s.facet k) ∧ Within [.facets] s t) ∧
    (∃ t, exec (.mirrorBase n true v) s = .next t ∧
      t.facet n = (if (v % 2 ^ 17 = 0 ∨ (s.facet n).inside (s.facet n).mirrorBase (v % 2 ^ 17) = true) ∧
          v % 2 ^ 17 ≤ s.facetReg n 0x0F ∧ v % 2 ^ 17 % 64 = 0
        then { s.facet n with mirrorSize := v % 2 ^ 17 } else { s.facet n with mirrorErr := true }) ∧
      (∀ k, k ≠ n → t.facet k = s.facet k) ∧ Within [.facets] s t) ∧
    (∃ t, exec (.outProd n v) s = .next t ∧
      t.facet n = (if 1 ≤ sub32 (v % 2 ^ 32) (s.facet n).mbox.outProd ∧ sub32 (v % 2 ^ 32) (s.facet n).mbox.outCons ≤ 16
        then { s.facet n with mbox := { (s.facet n).mbox with outProd := v % 2 ^ 32 } } else (s.facet n).mboxError) ∧
      (∀ k, k ≠ n → t.facet k = s.facet k) ∧ Within [.facets] s t) ∧
    (sub32 (v % 2 ^ 32) (s.facet n).mbox.inCons ≤ sub32 (s.facet n).mbox.inProd (s.facet n).mbox.inCons →
      ∃ t, exec (.inCons n v) s = .next t ∧ (t.facet n).mbox.inCons = v % 2 ^ 32 ∧
        ((s.facet n).mbox.held = [] →
          t.facet n = { s.facet n with mbox := { (s.facet n).mbox with inCons := v % 2 ^ 32 } }) ∧
        (∀ w l, (s.facet n).mbox.held = w :: l → sub32 (s.facet n).mbox.inProd (v % 2 ^ 32) + w.length ≤ 16 →
          w.length ≤ 16 → (t.facet n).mbox.held.length ≤ l.length ∧
          (∀ i, i < w.length → l = [] →
            mapGet (t.facet n).mbox.inSlots (((s.facet n).mbox.inProd + i) % 16) 0 = w.getD i 0)) ∧
        (∀ k, k ≠ n → t.facet k = s.facet k) ∧ Within [.facets] s t) ∧
    (sub32 (s.facet n).mbox.inProd (s.facet n).mbox.inCons < sub32 (v % 2 ^ 32) (s.facet n).mbox.inCons →
      ∃ t, exec (.inCons n v) s = .next t ∧ t.facet n = (s.facet n).mboxError ∧
        (∀ k, k ≠ n → t.facet k = s.facet k) ∧ Within [.facets] s t) ∧
    (∃ t, exec (.mboxStatus n v) s = .next t ∧
      (∀ i, (t.facet n).mbox.status.testBit i =
        (if i < 3 ∧ v.testBit i = true then false else (s.facet n).mbox.status.testBit i)) ∧
      (t.facet n).irq = (if v.testBit 0 then 0 else (s.facet n).irq) ∧
      t.facet n = { s.facet n with irq := (t.facet n).irq,
                                   mbox := { (s.facet n).mbox with status := (t.facet n).mbox.status } } ∧
      (∀ k, k ≠ n → t.facet k = s.facet k) ∧ Within [.facets] s t) ∧
    (∀ w, w < 4 → ∀ (c : Instr) (op : Bool → Bool → Bool),
      (c = .swbWrite n w v ∧ op = (fun _ b => b) ∨ c = .swbSet n w v ∧ op = (fun a b => a || b) ∨
        c = .swbClr n w v ∧ op = (fun a b => a && !b)) →
      ∃ t, exec c s = .next t ∧
        (∀ i, (mapGet (t.facet n).swb w 0).testBit i = op ((mapGet (s.facet n).swb w 0).testBit i) (v.testBit i)) ∧
        (∀ k, k ≠ w → mapFind (t.facet n).swb k = mapFind (s.facet n).swb k) ∧
        t.facet n = { s.facet n with swb := (t.facet n).swb } ∧ (∀ k, k ≠ n → t.facet k = s.facet k) ∧
        Within [.facets] s t) ∧
    (∀ q, q < 8 →
      (∃ t, exec (.nqRing n q v) s = .next t ∧
        (t.facet n).queue q = { NicQueue.none with ring := 4096 * bitsAt v 12 36 + v % 16 } ∧
        (∀ k, k ≠ q → (t.facet n).queue k = (s.facet n).queue k) ∧ t.facet n = { s.facet n with nic := (t.facet n).nic } ∧
        (∀ k, k ≠ n → t.facet k = s.facet k) ∧ Within [.facets] s t) ∧
      (∃ t, exec (.nqTxTail n q v) s = .next t ∧ ((t.facet n).queue q).txTail = v % 2 ^ 32 ∧
        ((t.facet n).queue q).txHead = ((s.facet n).queue q).txHead ∧
        (∀ k, ((t.facet n).queue k).rxTail = ((s.facet n).queue k).rxTail ∧
          ((t.facet n).queue k).rxHead = ((s.facet n).queue k).rxHead) ∧
        ((s.facet n).nic = [(q, (s.facet n).queue q)] → ((s.facet n).queue q).txHead < 2 ^ 32 →
          ((s.facet n).queue q).taken = ((s.facet n).queue q).txHead →
          ((t.facet n).queue q).outstanding =
            Nat.min (sub32 (v % 2 ^ 32) ((s.facet n).queue q).txHead) (s.facetReg n 0x0C)) ∧
        t.facet n = { s.facet n with nic := (t.facet n).nic } ∧ (∀ k, k ≠ n → t.facet k = s.facet k) ∧
        Within [.facets] s t) ∧
      ∃ t, exec (.nqRxTail n q v) s = .next t ∧
        (t.facet n).queue q = { (s.facet n).queue q with rxTail := v % 2 ^ 32 } ∧
        (∀ k, k ≠ q → (t.facet n).queue k = (s.facet n).queue k) ∧ t.facet n = { s.facet n with nic := (t.facet n).nic } ∧
        (∀ k, k ≠ n → t.facet k = s.facet k) ∧ Within [.facets] s t)

/-- DMA and the core NICs (R309, R310, Tables 12.8 and 12.9): a good descriptor is accepted while the share has room and refused
with 0x0905 when it has none; its data lands with the whole source read first; a transmit descriptor is completed with its
status, a received frame fills the next posted buffer of the queue whose filter it matches, or is discarded and counted, and
goes to the steward where no filter matches it.
Memory outside the named bytes is untouched.
Choices of the model that it rests on: log 14, log 23. -/
def Obligations.DmaAndNics : Prop :=
  ∀ s : State,
    (∀ n a (d : DmaDesc), n < 256 → a < 2 ^ 64 → s.guest n = true → (s.facet n).inside a 32 = true → a % 32 = 0 →
      d.src < 2 ^ 64 → d.dst < 2 ^ 64 → 0 < d.len → d.len ≤ 16777216 → d.tag < 65536 → d.completion < 2 ^ 32 →
      bitsAt d.completion 29 2 = 0 → bitsAt d.completion 12 12 = 0 →
      guestRead s.mem (s.facet n) a 32 = leBytes 8 d.src ++ leBytes 8 d.dst ++ leBytes 4 d.len ++ leBytes 4 d.tag ++
        leBytes 8 d.completion →
      (s.facet n).inside d.src d.len = true → (s.facet n).inside d.dst d.len = true →
      ((s.facet n).dma.length < s.facetReg n 0x0B →
        ∃ t, exec (.dmaSubmit n a) s = .next t ∧
          t.facet n = { s.facet n with dma := (s.facet n).dma ++ [d],
                                       dmaAccepted := ((s.facet n).dmaAccepted + 1) % 2 ^ 32 } ∧
          (∀ k, k ≠ n → t.facet k = s.facet k) ∧ Within [.facets] s t) ∧
      (s.facetReg n 0x0B ≤ (s.facet n).dma.length →
        ∃ t, exec (.dmaSubmit n a) s = .next t ∧ (t.facet n).dma = (s.facet n).dma ∧
          (t.facet n).dmaResult = d.tag * 2 ^ 32 + 0x0905 ∧ (t.facet n).overShare = true ∧
          (t.facet n).refusals = ((s.facet n).refusals + 1) % 2 ^ 64 ∧ (∀ k, k ≠ n → t.facet k = s.facet k) ∧
          Within [.facets] s t)) ∧
    (∀ n d l, n < 256 → s.memOk → s.domOn 2 = true → s.domOn 11 = true → (s.facet n).launched = true →
      (s.facet n).dma = d :: l → (s.facet n).units.Nodup → (s.facet n).inside d.src d.len = true →
      (s.facet n).inside d.dst d.len = true →
      ∃ t, exec (.dmaCompletion n) s = .next t ∧ (t.facet n).dma = l ∧
        (t.facet n).dmaCompleted = ((s.facet n).dmaCompleted + 1) % 2 ^ 32 ∧
        (∀ k, k < d.len → memRead t.mem ((s.facet n).phys (d.dst + k)) = memRead s.mem ((s.facet n).phys (d.src + k))) ∧
        (∀ a, ¬inGuest (s.facet n) d.dst d.len a → memRead t.mem a = memRead s.mem a) ∧
        (∀ k, k ≠ n → t.facet k = s.facet k) ∧ Within [.mem, .facets] s t) ∧
    (∀ n q x a, n < 256 → q < 8 → s.memOk → s.domOn 8 = true → (s.facet n).launched = true →
      s.power.framesStopped = false → (s.facet n).queue q = x → x.outstanding ≠ 0 → (s.facet n).units.Nodup →
      a = x.base + 16 * (x.txHead % x.entries) → (s.facet n).inside a 16 = true →
      ∃ t, exec (.nicTransmit n q) s = .next t ∧ ((t.facet n).queue q).txHead = (x.txHead + 1) % 2 ^ 32 ∧
        (∀ d, d = guestRead s.mem (s.facet n) a 16 →
          guestRead t.mem (s.facet n) (a + 14) 2 = leBytes 2
            (if (s.facet n).inside (leAt d 0 8) (leAt d 8 2) = false then 0xC001
             else if leAt d 8 2 < 60 ∨ 1532 < leAt d 8 2 then 0xC002 else if 5 < leAt d 12 1 then 0xC003 else 0x8000)) ∧
        (∀ c, ¬inGuest (s.facet n) (a + 14) 2 c → memRead t.mem c = memRead s.mem c) ∧
        (∀ k, k ≠ n → t.facet k = s.facet k) ∧ Within [.mem, .facets] s t) ∧
    (∀ nic vid tci data, nic < 2 → vid < 4096 → tci < 65536 → s.domOn 8 = true →
      (s.matchQueue nic vid (beAt data 0 6) = none → s.facets.steward.length < 1024 →
        exec (.nicReceive nic vid tci data) s = .next { s with facets := { s.facets with
          steward := s.facets.steward ++ [{ nic := nic, vid := vid, tci := tci, data := data }] } }) ∧
      (∀ n q, s.matchQueue nic vid (beAt data 0 6) = some (n, q) →
        ((s.facet n).live = false ∨ ((s.facet n).queue q).rxTail = ((s.facet n).queue q).rxHead →
          ∃ t, exec (.nicReceive nic vid tci data) s = .next t ∧
            t.facet n = { s.facet n with nicDiscards := ((s.facet n).nicDiscards + 1) % 2 ^ 64 } ∧
            (∀ k, k ≠ n → t.facet k = s.facet k) ∧ Within [.facets] s t) ∧
        (∀ x a b len, s.memOk → (s.facet n).units.Nodup → (s.facet n).live = true → (s.facet n).queue q = x →
          x.rxTail ≠ x.rxHead → a = x.base + 16 * x.entries + 16 * (x.rxHead % x.entries) →
          (s.facet n).inside a 16 = true → guestRead s.mem (s.facet n) a 10 = leBytes 8 b ++ leBytes 2 len →
          b < 2 ^ 64 → len < 65536 → (s.facet n).inside b len = true → data.length ≤ len → (b + len ≤ a ∨ a + 16 ≤ b) →
          ∃ t, exec (.nicReceive nic vid tci data) s = .next t ∧
            ((t.facet n).queue q).rxHead = (x.rxHead + 1) % 2 ^ 32 ∧
            guestRead t.mem (s.facet n) b data.length = data ∧
            guestRead t.mem (s.facet n) (a + 8) 4 = leBytes 2 data.length ++ leBytes 2 tci ∧
            guestRead t.mem (s.facet n) (a + 14) 2 = leBytes 2 0x8000 ∧
            (∀ c, ¬inGuest (s.facet n) b data.length c → ¬inGuest (s.facet n) (a + 8) 4 c →
              ¬inGuest (s.facet n) (a + 14) 2 c → memRead t.mem c = memRead s.mem c) ∧
            (∀ k, k ≠ n → t.facet k = s.facet k) ∧ Within [.mem, .facets] s t)))

/-- Mailbox messages (R304, R307, R311, R348): the steward takes one whole message, executes it once and writes one reply. Echo
answers its payload; the persistent area is read and written through guest memory. An unknown code is answered 0x0910, a payload of another length
0x0912 (the latter is the model's choice, log 14). -/
def Obligations.MailboxMessages : Prop :=
  ∀ (s : State) (n : Nat),
    (∀ p, MessageWaits s n 1 p (1 + p.length) →
      exec (.outboundMessage n) s = exec (.echo n) s ∧
      ∃ t, exec (.echo n) s = .next t ∧ Replied s t n 0 p ∧ Within [.facets] s t) ∧
    (∀ code p, MessageWaits s n code p 1 → code ≠ 1 →
      (messageLength code = none →
        ∃ t, exec (.outboundMessage n) s = .next t ∧ Replied s t n 0x0910 [] ∧ Within [.facets] s t) ∧
      (∀ k, messageLength code = some k → p.length ≠ k →
        ∃ t, exec (.outboundMessage n) s = .next t ∧ Replied s t n 0x0912 [] ∧ Within [.facets] s t)) ∧
    (∀ off len a, MessageWaits s n 0x0920 [off, len, a] 2 →
      exec (.outboundMessage n) s = exec (.persistentRead n) s ∧
      (s.memOk → (s.facet n).units.Nodup → 1 ≤ len → len ≤ 16777216 → off + len ≤ s.persistSize n →
        (s.facet n).inside a len = true →
        ∃ t, exec (.persistentRead n) s = .next t ∧ Replied s t n 0 [len] ∧
          (∀ k, k < len → memRead t.mem ((s.facet n).phys (a + k)) = memRead (s.facet n).persist (guestBase + off + k)) ∧
          (∀ b, ¬inGuest (s.facet n) a len b → memRead t.mem b = memRead s.mem b) ∧ Within [.mem, .facets] s t) ∧
      (1 ≤ len → len ≤ 16777216 → s.persistSize n < off + len →
        ∃ t, exec (.persistentRead n) s = .next t ∧ Replied s t n 0x0914 [] ∧ Within [.facets] s t)) ∧
    (∀ off len a, MessageWaits s n 0x0921 [off, len, a] 2 →
      exec (.outboundMessage n) s = exec (.persistentWrite n) s ∧
      (Memory.wf (s.facet n).persist = true → 1 ≤ len → len ≤ 16777216 → off + len ≤ s.persistSize n →
        (s.facet n).inside a len = true →
        ∃ t, exec (.persistentWrite n) s = .next t ∧ Replied s t n 0 [len] ∧
          (∀ k, k < len → memRead (t.facet n).persist (guestBase + off + k) = memRead s.mem ((s.facet n).phys (a + k))) ∧
          (∀ b, b < guestBase + off ∨ guestBase + off + len ≤ b →
            memRead (t.facet n).persist b = memRead (s.facet n).persist b) ∧ Within [.facets] s t)) ∧
    (MessageWaits s n 0x0922 [] 2 →
      exec (.outboundMessage n) s = exec (.persistentSize n) s ∧
      ∃ t, exec (.persistentSize n) s = .next t ∧ Replied s t n 0 [s.persistSize n] ∧ Within [.facets] s t)

/-- The capture messages of a mailbox (R304, R307, R348, Table 13.5) define, arm, disarm, trigger, report and export a record
that the facet owns; another's is answered 0x0806.
Choices of the model that it rests on: log 12, log 14. -/
def Obligations.CaptureMessages : Prop :=
  ∀ (s : State) (n : Nat),
    (∀ r a vals, MessageWaits s n 0x0801 [r, a] 1 → r < 32 →
      vals = headerValues capHeaderFields (guestRead s.mem (s.facet n) a 64) →
      exec (.outboundMessage n) s = exec (.captureDefine n) s ∧
      (∀ na nb nc, (0x0A, na) ∈ vals → (0x0B, nb) ∈ vals → (0x0C, nc) ∈ vals →
        s.capReg r 2 = n → (s.slot r).state = 0 → headerOk vals = true →
        (s.facet n).inside a (64 + 8 * na + 4 * nb + 16 * nc + 16 * (na + nb)) = true →
        ∃ t, exec (.captureDefine n) s = .next t ∧ Replied s t n 0 [] ∧ (∀ p ∈ vals, t.capReg r p.1 = p.2) ∧
          t.blob (capIndex r) 0x10 = guestRead s.mem (s.facet n) (a + 64) (8 * na) ∧
          t.blob (capIndex r) 0x11 = guestRead s.mem (s.facet n) (a + 64 + 8 * na) (4 * nb) ∧
          t.blob (capIndex r) 0x12 = guestRead s.mem (s.facet n) (a + 64 + (8 * na + 4 * nb)) (16 * nc) ∧
          t.blob (capIndex r) 0x13 =
            guestRead s.mem (s.facet n) (a + 64 + (8 * na + 4 * nb + 16 * nc)) (16 * (na + nb)) ∧
          t.slot r = s.slot r ∧ Within [.regs, .blobs, .facets] s t) ∧
      (s.capReg r 2 ≠ n → ∃ t, exec (.captureDefine n) s = .next t ∧ Replied s t n 0x0806 [] ∧ Within [.facets] s t) ∧
      (s.capReg r 2 = n → (s.slot r).state ≠ 0 →
        ∃ t, exec (.captureDefine n) s = .next t ∧ Replied s t n 0x0805 [] ∧ Within [.facets] s t)) ∧
    (∀ r, r < 32 → s.capReg r 2 = n →
      (MessageWaits s n 0x0802 [r] 1 →
        exec (.outboundMessage n) s = exec (.captureArm n) s ∧
        (s.armCode r = 0 → (s.slot r).state = 0 →
          ∃ t, exec (.captureArm n) s = .next t ∧ Replied s t n 0 [] ∧
            t.slot r = { CapSlot.idle with state := if s.capReg r 3 = 1 then 2 else 1,
                                           data := some (CapRec.fresh (s.capDef r)) } ∧
            t.capReg r 0x21 = 0 ∧ t.capReg r 1 = 1 ∧ (∀ q, q ≠ r → t.slot q = s.slot q) ∧
            Within [.regs, .facets, .capture] s t) ∧
        (s.armCode r ≠ 0 →
          ∃ t, exec (.captureArm n) s = .next t ∧ Replied s t n (s.armCode r) [] ∧ t.capReg r 0x21 = s.armCode r ∧
            Within [.regs, .facets] s t)) ∧
      (MessageWaits s n 0x0803 [r] 1 → (s.slot r).state = 1 ∨ (s.slot r).state = 2 →
        exec (.outboundMessage n) s = exec (.captureDisarm n) s ∧
        ∃ t, exec (.captureDisarm n) s = .next t ∧ Replied s t n 0 [] ∧ t.slot r = { s.slot r with disarm := true } ∧
          (∀ q, q ≠ r → t.slot q = s.slot q) ∧ Within [.facets, .capture] s t) ∧
      (MessageWaits s n 0x0804 [r] 1 →
        exec (.outboundMessage n) s = exec (.captureTrigger n) s ∧
        (((s.slot r).state = 1 ∨ (s.slot r).state = 2) → s.capReg r 3 ≠ 1 →
          ∃ t, exec (.captureTrigger n) s = .next t ∧ Replied s t n 0 [] ∧ t.slot r = { s.slot r with manual := true } ∧
            (∀ q, q ≠ r → t.slot q = s.slot q) ∧ Within [.facets, .capture] s t) ∧
        ((s.slot r).state = 0 ∨ (s.slot r).state = 3 ∨ s.capReg r 3 = 1 →
          ∃ t, exec (.captureTrigger n) s = .next t ∧ Replied s t n 0x0807 [] ∧ Within [.facets] s t)) ∧
      (MessageWaits s n 0x0805 [r] 3 →
        exec (.outboundMessage n) s = exec (.captureStatus n) s ∧
        ∃ t, exec (.captureStatus n) s = .next t ∧
          Replied s t n 0 [(s.slot r).state + 256 * s.slotFlags r + 2 ^ 32 * s.slotCount r, s.capReg r 0x1F] ∧
          Within [.facets] s t)) ∧
    (∀ id file off len a x, MessageWaits s n 0x0806 [id, file, off, len * 2 ^ 36 + a] 2 → a < 2 ^ 36 →
      s.stored id = some x →
      exec (.outboundMessage n) s = exec (.captureExport n) s ∧
      (s.memOk → (s.facet n).units.Nodup → x.record.defn.owner = n → file ≤ 2 → 1 ≤ len → len ≤ 16777216 →
        (s.facet n).inside a len = true →
        ∃ t, exec (.captureExport n) s = .next t ∧
          Replied s t n 0 [(((s.exportFile x file).drop off).take len).length] ∧
          (∀ k, k < len → off + k < (s.exportFile x file).length →
            memRead t.mem ((s.facet n).phys (a + k)) = (s.exportFile x file).getD (off + k) (byteOf 0)) ∧
          (∀ b, ¬inGuest (s.facet n) a len b → memRead t.mem b = memRead s.mem b) ∧ Within [.mem, .facets] s t) ∧
      (x.record.defn.owner ≠ n →
        ∃ t, exec (.captureExport n) s = .next t ∧ Replied s t n 0x0806 [] ∧ Within [.facets] s t))

/-- The dispatch unit (R320 to R322, Tables 12.15 to 12.17): TAKE and TAKE_WAIT hand over the best ready task of the core; a
core that finds none gets REASON 0, or waits.
Choices of the model that it rests on: log 2, log 14. -/
def Obligations.TakingTasks : Prop :=
  ∀ s : State,
    (∀ n core, n < 256 → core < 64 → s.guest n = true → (s.coreMask n).testBit core = true →
      (∀ c ∈ s.candidates n core, (∀ d ∈ s.candidates n core, d = c ∨ Task.better c d = true) →
        ∀ i, (i = .take n core ∨ ∃ irq, i = .takeWait n core irq) →
        ∃ t, exec i s = .next t ∧
          t.task c.1 = { c.2 with flags := c.2.flags - Nat.land c.2.flags c.2.mask, state := 3, core := core } ∧
          t.reply = { code := 0, payload := leBytes 8 (takeWord 1 c.2.priority 0 (c.1 - s.facetReg n 8)
                                                        (Nat.land c.2.flags c.2.mask)), msgs := [] } ∧
          (t.facet n).dispatches = ((s.facet n).dispatches + 1) % 2 ^ 64 ∧ (∀ g, g ≠ c.1 → t.task g = s.task g) ∧
          (∀ m, m ≠ n → t.facet m = s.facet m) ∧ Within [.reply, .facets] s t) ∧
      (s.candidates n core = [] →
        (∃ t, exec (.take n core) s = .next t ∧ t.reply = { code := 0, payload := leBytes 8 0, msgs := [] } ∧
          t.facets.tasks = s.facets.tasks ∧ (∀ m, m ≠ n → t.facet m = s.facet m) ∧ Within [.reply, .facets] s t) ∧
        (∀ irq, irq = true ∨ (s.facet n).irq.testBit core = true →
          ∃ t, exec (.takeWait n core irq) s = .next t ∧
            t.reply = { code := 0, payload := leBytes 8 (takeWord 0 0 1 0 0), msgs := [] } ∧
            t.facets.tasks = s.facets.tasks ∧ core ∉ (t.facet n).waiters ∧ Within [.reply, .facets] s t) ∧
        ((s.facet n).irq.testBit core = false →
          ∃ t, exec (.takeWait n core false) s = .next t ∧
            t.facet n = { s.facet n with waiters := (s.facet n).waiters.filter (· != core) ++ [core] } ∧
            t.facets.tasks = s.facets.tasks ∧ (∀ m, m ≠ n → t.facet m = s.facet m) ∧ Within [.facets] s t))) ∧
    (∀ n core, n < 256 → core < 64 → s.guest n = true → core ∈ (s.facet n).waiters → (s.facet n).waitLimit ≠ 0 →
      ∃ t, exec (.waitLimitExpiry n core) s = .next t ∧
        t.reply = { code := 0, payload := leBytes 8 (takeWord 0 0 2 0 0), msgs := [] } ∧ core ∉ (t.facet n).waiters ∧
        t.facets.tasks = s.facets.tasks ∧ Within [.reply, .facets] s t)

/-- The operations on a task (R320 to R322, Tables 12.15 to 12.17): DONE, POST, CREATE, CANCEL, RESTART, DELETE and the
priority operation act on one task of the facet; a task outside its range is refused with 0x090D; a binding is set, or refused
with 0x090F.
Choices of the model that it rests on: log 14. -/
def Obligations.TaskOperations : Prop :=
  ∀ s : State,
    (∀ n v g k, OnTask s n v g k →
      (k.state = 0 →
        ∃ t, exec (.post n v) s = .next t ∧ (t.facet n).lostPosts = ((s.facet n).lostPosts + 1) % 2 ^ 64 ∧
          t.facets.tasks = s.facets.tasks ∧ Within [.facets] s t) ∧
      ((s.facet n).waiters = [] → k.state ≠ 0 →
        ∃ t, exec (.post n v) s = .next t ∧
          (∀ k1, k1 = { k with flags := Nat.lor k.flags (v % 2 ^ 32) } →
            t.task g = if k.state = 1 ∧ k1.satisfied = true
              then { k1 with state := 2, stamp := s.facets.stamp, since := s.mono } else k1) ∧
          (t.facet n).dispatchResult = 0 ∧ (∀ h, h ≠ g → t.task h = s.task h) ∧
          (∀ m, m ≠ n → t.facet m = s.facet m) ∧ Within [.facets] s t) ∧
      (∀ core k1, (s.facet n).waiters = [core] → s.candidates n core = [] → k.state = 1 →
        k.affinity = 0 ∨ k.affinity.testBit core = true → k1 = { k with flags := Nat.lor k.flags (v % 2 ^ 32) } →
        k1.satisfied = true →
        ∃ t, exec (.post n v) s = .next t ∧ (t.task g).state = 3 ∧ (t.task g).core = core ∧
          (t.task g).flags = k1.flags - Nat.land k1.flags k1.mask ∧ (t.facet n).waiters = [] ∧
          mapFind (t.facet n).answers core =
            some (takeWord 1 k.priority 0 (opTask v) (Nat.land k1.flags k1.mask)) ∧ Within [.facets] s t) ∧
      (∀ core k1, core < 64 → (s.facet n).waiters = [] → k.state = 3 → k.core = core →
        k1 = (if v.testBit 63 then k else { k with mask := v % 2 ^ 32, all := v.testBit 62 }) →
        ∃ t, exec (.done n core v) s = .next t ∧
          t.task g = (if k.cancelPending = true then { k1 with state := 4, cancelPending := false }
            else if v.testBit 61 = true ∨ k1.satisfied = true
            then { k1 with state := 2, stamp := s.facets.stamp, since := s.mono } else { k1 with state := 1 }) ∧
          (t.facet n).dispatchResult = 0 ∧ (∀ h, h ≠ g → t.task h = s.task h) ∧ Within [.facets] s t) ∧
      ((s.facet n).waiters = [] → k.state = 0 → s.affinityOk n = true →
        ∃ t, exec (.create n v) s = .next t ∧
          t.task g = { Task.free with state := 1, mask := v % 2 ^ 32, all := v.testBit 56, priority := bitsAt v 57 3,
                                      affinity := (s.facet n).affinityReg } ∧
          (t.facet n).dispatchResult = 0 ∧ (∀ h, h ≠ g → t.task h = s.task h) ∧ Within [.facets] s t) ∧
      ((s.facet n).waiters = [] → k.state = 1 ∨ k.state = 2 ∨ k.state = 3 →
        ∃ t, exec (.cancel n v) s = .next t ∧
          t.task g = (if k.state = 3 then { k with cancelPending := true } else { k with state := 4 }) ∧
          (t.facet n).dispatchResult = 0 ∧ (∀ h, h ≠ g → t.task h = s.task h) ∧ Within [.facets] s t) ∧
      ((s.facet n).waiters = [] → k.state = 4 →
        ∃ t, exec (.restart n v) s = .next t ∧
          t.task g = (if k.satisfied = true then { k with state := 2, stamp := s.facets.stamp, since := s.mono }
            else { k with state := 1 }) ∧
          (t.facet n).dispatchResult = 0 ∧ (∀ h, h ≠ g → t.task h = s.task h) ∧ Within [.facets] s t) ∧
      ((s.facet n).waiters = [] → k.state = 1 ∨ k.state = 2 ∨ k.state = 4 →
        ∃ t, exec (.delete n v) s = .next t ∧ t.task g = Task.free ∧ (t.facet n).dispatchResult = 0 ∧
          (∀ h, h ≠ g → t.task h = s.task h) ∧ Within [.facets] s t) ∧
      ((s.facet n).waiters = [] → k.state ≠ 0 → s.affinityOk n = true →
        ∃ t, exec (.setPriorityAndAffinity n v) s = .next t ∧
          (∀ k1, k1 = { k with priority := bitsAt v 57 3, affinity := (s.facet n).affinityReg } →
            t.task g = if k.state = 2 then { k1 with stamp := s.facets.stamp, since := s.mono } else k1) ∧
          (t.facet n).dispatchResult = 0 ∧ (∀ h, h ≠ g → t.task h = s.task h) ∧ Within [.facets] s t)) ∧
    (∀ n v, n < 256 → v < 2 ^ 64 → s.guest n = true → s.facetReg n 9 ≤ opTask v →
      (∃ t, exec (.post n v) s = .next t ∧ (t.facet n).dispatchResult = 0x090D ∧
        (t.facet n).lostPosts = ((s.facet n).lostPosts + 1) % 2 ^ 64 ∧ t.facets.tasks = s.facets.tasks ∧
        Within [.facets] s t) ∧
      ∀ i, (i = .cancel n v ∨ i = .restart n v ∨ i = .delete n v ∨ (∃ core, core < 64 ∧ i = .done n core v) ∨
          s.affinityOk n = true ∧ (i = .create n v ∨ i = .setPriorityAndAffinity n v)) →
        ∃ t, exec i s = .next t ∧ t.facet n = { s.facet n with dispatchResult := 0x090D } ∧
          t.facets.tasks = s.facets.tasks ∧ (∀ m, m ≠ n → t.facet m = s.facet m) ∧ Within [.facets] s t) ∧
    (∀ n i v, n < 256 → i < 16 → v < 2 ^ 64 → s.guest n = true →
      (v.testBit 63 = false ∨ s.sourceOk n (v % 256) = true ∧ bitsAt v 36 12 < s.facetReg n 9 →
        ∃ t, exec (.eventBind n i v) s = .next t ∧
          (bitsAt ((t.facet n).binding i) 0 8 = v % 256 ∧ bitsAt ((t.facet n).binding i) 16 16 = bitsAt v 16 16 ∧
            bitsAt ((t.facet n).binding i) 36 12 = bitsAt v 36 12 ∧ bitsAt ((t.facet n).binding i) 48 5 = bitsAt v 48 5 ∧
            ((t.facet n).binding i).testBit 63 = v.testBit 63) ∧
          (∀ j, j ≠ i → (t.facet n).binding j = (s.facet n).binding j) ∧
          t.facet n = { s.facet n with bindings := (t.facet n).bindings } ∧ (∀ m, m ≠ n → t.facet m = s.facet m) ∧
          Within [.facets] s t) ∧
      (v.testBit 63 = true → s.sourceOk n (v % 256) = false ∨ s.facetReg n 9 ≤ bitsAt v 36 12 →
        ∃ t, exec (.eventBind n i v) s = .next t ∧ t.facet n = { s.facet n with dispatchResult := 0x090F } ∧
          (∀ m, m ≠ n → t.facet m = s.facet m) ∧ Within [.facets] s t))

/-! ### Disturbance capture (chapter 13) -/

/-- Records (R325 to R342, R350): arming allocates a record, or a disarm, a manual trigger or a deletion waits or acts as said;
the analogue part of the row in stage 8 is read for every slot; its binary part ends the row, adds an interval to a
continuous record and triggers an armed one; a complete record moves to the store under the next ID and its slot is idle or
re-arms.
Choices of the model that it rests on: log 12. -/
def Obligations.Records : Prop :=
  ∀ s : State,
    (∀ r, r < 32 →
      (Accepted s rowReq (ek (0x7000 + r) 1) (.int 1) → (s.slot r).state = 0 →
        ∃ t, exec (.arm r) s = .next t ∧ t.reply.code = 0 ∧
          t.slot r = { CapSlot.idle with state := if s.capReg r 3 = 1 then 2 else 1,
                                         data := some (CapRec.fresh (s.capDef r)) } ∧
          t.capReg r 0x21 = 0 ∧ t.capReg r 1 = 1 ∧ (∀ q, q ≠ r → t.slot q = s.slot q) ∧
          Within [.reply, .regs, .access, .capture] s t) ∧
      (Accepted s rowReq (ek (0x7000 + r) 1) (.int 0) → (s.slot r).state = 1 ∨ (s.slot r).state = 2 →
        ∃ t, exec (.disarm r) s = .next t ∧ t.reply.code = 0 ∧ t.slot r = { s.slot r with disarm := true } ∧
          t.capReg r 1 = 0 ∧ (∀ q, q ≠ r → t.slot q = s.slot q) ∧ Within [.reply, .regs, .access, .capture] s t) ∧
      (Accepted s rowReq (ek (0x7000 + r) 0x14) (.int 1) →
        ((s.slot r).state = 1 ∨ (s.slot r).state = 2) ∧ s.capReg r 3 ≠ 1 →
        ∃ t, exec (.manualTrigger r) s = .next t ∧ t.reply.code = 0 ∧ t.slot r = { s.slot r with manual := true } ∧
          (∀ q, q ≠ r → t.slot q = s.slot q) ∧ Within [.reply, .capture] s t) ∧
      (Accepted s rowReq (ek (0x7000 + r) 0x14) (.int 1) →
        (s.slot r).state = 0 ∨ (s.slot r).state = 3 ∨ s.capReg r 3 = 1 →
        ∃ t, exec (.manualTrigger r) s = .next t ∧ t.reply.code = 0x0807 ∧ Within [.reply] s t) ∧
      (∀ d, s.stewardUp = true → (s.slot r).state = 3 → (s.slot r).data = some d → d.bytes ≤ s.storeFree →
        ∃ t, exec (.recordStored r) s = .next t ∧
          t.capture.store = s.capture.store ++ [{ id := s.capture.nextId, slot := r, exported := false, record := d }] ∧
          t.capture.nextId = s.capture.nextId + 1 ∧ t.capReg r 0x1F = s.capture.nextId ∧
          t.capReg r 0x20 = (s.capReg r 0x20 + 1) % 2 ^ 64 ∧
          t.slot r = (if s.capReg r 9 = 0 then CapSlot.idle else { CapSlot.idle with rearm := true }) ∧
          (s.capReg r 9 = 0 → t.capReg r 1 = 0) ∧ (∀ q, q ≠ r → t.slot q = s.slot q) ∧
          Within [.regs, .facets, .capture, .log] s t) ∧
      (s.stewardUp = true → (s.slot r).rearm = true → (s.slot r).state = 0 →
        (s.armCode r = 0 →
          ∃ t, exec (.autoReArm r) s = .next t ∧
            t.slot r = { CapSlot.idle with state := if s.capReg r 3 = 1 then 2 else 1,
                                           data := some (CapRec.fresh (s.capDef r)) } ∧
            t.capReg r 0x21 = 0 ∧ (∀ q, q ≠ r → t.slot q = s.slot q) ∧ Within [.regs, .capture] s t) ∧
        (s.armCode r ≠ 0 →
          ∃ t, exec (.autoReArm r) s = .next t ∧ t.slot r = CapSlot.idle ∧ t.capReg r 0x21 = s.armCode r ∧
            t.capReg r 1 = 0 ∧ (∀ q, q ≠ r → t.slot q = s.slot q) ∧ Within [.regs, .capture] s t))) ∧
    (∀ x, Accepted s rowReq (ek 0x7000 0x89) (.int 1) → s.stored (s.regN 0x7000 0x85) = some x →
      ∃ t, exec .deleteSelected s = .next t ∧ t.reply.code = 0 ∧
        t.capture = (if s.uploading = true
          then { s.capture with deleteDue := s.regN 0x7000 0x85 :: s.capture.deleteDue }
          else { s.capture with store := s.capture.store.filter fun y => y.id != s.regN 0x7000 0x85 }) ∧
        Within [.reply, .capture] s t) ∧
    (Accepted s rowReq (ek 0x7000 0x89) (.int 1) → s.stored (s.regN 0x7000 0x85) = none →
      ∃ t, exec .deleteSelected s = .next t ∧ t.reply.code = 0x0808 ∧ Within [.reply] s t) ∧
    (Accepted s rowReq (ek 0x7000 0x89) (.int 2) → s.uploading = false →
      ∃ t, exec .deleteExported s = .next t ∧ t.reply.code = 0 ∧
        t.capture = { s.capture with store := s.capture.store.filter fun y => !y.exported } ∧
        Within [.reply, .capture] s t) ∧
    (∀ row, s.domOn 11 = true → s.capture.row = none → s.phasor.row = some row → s.phasor.posted = true →
      ∃ t, exec .rowCapture s = .next t ∧ t.capture.row = some row ∧ t.capture.ready = false ∧
        (∀ r, t.slot r = match (s.slot r).data with
          | some d => { s.slot r with vals := d.defn.analog.map (s.analogEntry row) }
          | none => s.slot r) ∧
        t.capture.store = s.capture.store ∧ Within [.capture] s t) ∧
    (∀ row, s.domOn 11 = true → s.capture.ready = true → s.capture.row = some row →
      ∃ t, exec .binaryCapture s = .next t ∧ t.capture.row = none ∧ t.capture.ready = false ∧
        t.capture.store = s.capture.store ∧
        (∀ r, (s.slot r).data = none ∨ (s.slot r).startAt = none ∨ 32 ≤ r → t.slot r = s.slot r) ∧
        (∀ r d at0, r < 32 → (s.slot r).data = some d → (s.slot r).startAt = some at0 → at0 ≤ row.inst → row.disc = false →
          (s.slot r).closing = false → d.defn.k = 0 → (s.slot r).gather = none → d.count + 1 < d.capacity →
          (∀ last, (s.slot r).state = 2 → d.defn.mode = 1 → d.last = some last → d.count < last →
            (t.slot r).state = 2 ∧ ∃ e iv, (t.slot r).data = some e ∧ e.ivs = iv :: d.ivs ∧ e.count = d.count + 1 ∧
              e.last = d.last ∧ iv.row = row.num ∧ iv.inst = row.inst ∧ iv.vals = (s.slot r).vals) ∧
          ((s.slot r).state = 1 → d.defn.mode ≠ 1 → d.defn.conds = [] → (s.slot r).manual = true → 1 < d.defn.post →
            (t.slot r).state = 2 ∧ ∃ e, (t.slot r).data = some e ∧ e.primary = 256 ∧ e.trigRow = row.num ∧
              e.trigInst = row.inst ∧ e.count = d.count + 1 ∧ e.last = some (d.count + d.defn.post - 1)) ∧
          ((s.slot r).state = 1 → d.defn.mode ≠ 1 → d.defn.conds = [] → (s.slot r).manual = false →
            (t.slot r).state = 1 ∧ ∃ e, (t.slot r).data = some e ∧ e.last = d.last ∧ e.ivs.length ≤ d.defn.pre)) ∧
        Within [.regs, .capture] s t)

/-! ### The redundant pair (chapter 14) -/

/-- Fitness and blinks (R354, R356, R358, R359, R362): a probe judges the units; a fit module sends blinks of rising sequence;
a received blink is refused by its tag or its sequence, counts as missed under epoch 0 where the module holds a mirror key
(R441), or makes its sender the partner; a release seen by a SHADE, and a second claim, decide ownership. That a unit is judged
over two probes, and that such a blink shows the partner's presence, are the model's readings (log 15). -/
def Obligations.Blinks : Prop :=
  ∀ s : State,
    (∀ a : UnitBits, a.processors.length = 16 → s.engineUp = true →
      ∃ t, exec (.livenessProbe a) s = .next t ∧ t.pair = { s.pair with probe := a, fit := t.pair.fit } ∧
        (t.pair.fit = true ↔
          (a.lens = true ∨ s.pair.probe.lens = true) ∧ (a.phasor = true ∨ s.pair.probe.phasor = true) ∧
          (a.summation = true ∨ s.pair.probe.summation = true) ∧ (a.lanes = true ∨ s.pair.probe.lanes = true) ∧
          (a.goose = true ∨ s.pair.probe.goose = true) ∧
          ∀ k, k < 16 → a.processors.getD k false = true ∨ s.pair.probe.processors.getD k false = true) ∧
        Within [.pair] s t) ∧
    (s.fitNow = true →
      ∃ t, exec .blinkTransmit s = .next t ∧ t.pair.blinkSeq = s.pair.blinkSeq + 1 ∧ t.pair.blinking = true ∧
        (∃ b, t.pair.lastBlink = some b ∧ b.seq = s.pair.blinkSeq + 1 ∧ b.role = s.pair.role ∧ b.release = false ∧
          b.time = s.now ∧ b.epoch = s.sec.sendEpoch ∧ b.eligibility = s.eligNow ∧ b.fingerprint = s.access.fingerprint ∧
          b.linesDriven = boolNat s.pair.own + 2 * boolNat s.pair.req) ∧
        mapGet t.pair.counters 1 0 = (mapGet s.pair.counters 1 0 + 1) % 2 ^ 64 ∧ t.pair.own = s.pair.own ∧
        t.pair.role = s.pair.role ∧ Within [.pair] s t) ∧
    (s.stewardUp = true → 7 ≤ s.boot.phase → s.domOn 8 = true →
      ∃ t, exec .stationBlinkTransmit s = .next t ∧
        t.pair = { s.pair with stationSeq := s.pair.stationSeq + 1,
                               lastStation := some (s.blinkNow (s.pair.stationSeq + 1) false false),
                               stationTag := (6, s.regN 0x8001 2, s.stationVlan) } ∧
        Within [.pair] s t) ∧
    (∀ b lines, s.running = true → s.boot.swapThenReset = false →
      (b.epoch ≠ 0 → b.authentic = false → s.pair.missed < 2 →
        ∃ t, exec (.blinkReceived b lines) s = .next t ∧ mapGet t.pair.counters 7 0 = (mapGet s.pair.counters 7 0 + 1) % 2 ^ 64 ∧
          mapGet t.pair.counters 2 0 = (mapGet s.pair.counters 2 0 + 1) % 2 ^ 64 ∧ t.pair.missed = s.pair.missed + 1 ∧
          t.pair.partner = s.pair.partner ∧ t.pair.role = s.pair.role ∧ t.pair.own = s.pair.own ∧
          t.now = Nat.max s.now b.arrival ∧ Within [.time, .facets, .pair, .log] s t) ∧
      (b.epoch = 0 ∨ b.authentic = true ∧ s.epochKnown b.epoch = true →
        (s.seqFresh 1 b.epoch b.seq = false →
          ∃ t, exec (.blinkReceived b lines) s = .next t ∧
            t.pair = { s.pair with lines := lines, counters := mapAdd 64 8 1 s.pair.counters } ∧
            t.now = Nat.max s.now b.arrival ∧ Within [.time, .pair] s t) ∧
        (s.seqFresh 1 b.epoch b.seq = true → b.epoch = 0 → s.sec.epoch ≠ 0 → s.pair.missed < 2 →
          s.power.peerPresentN = false →
          ∃ t, exec (.blinkReceived b lines) s = .next t ∧ t.pair.missed = s.pair.missed + 1 ∧ t.pair.partnerRole = b.role ∧
            t.pair.partner = s.pair.partner ∧ mapGet t.pair.counters 7 0 = (mapGet s.pair.counters 7 0 + 1) % 2 ^ 64 ∧
            Within [.power, .boot, .access, .time, .logic, .facets, .pair, .log, .health, .can] s t) ∧
        (s.seqFresh 1 b.epoch b.seq = true → b.epoch ≠ 0 ∨ s.sec.epoch = 0 →
          (∃ t, exec (.blinkReceived b lines) s = .next t ∧ t.pair.partner = some b ∧ t.pair.partnerRole = b.role ∧
            t.pair.missed = 0 ∧ mapFind t.pair.lastSeq (b.epoch * 8 + 1) = some b.seq ∧ Within
              [.regs, .mem, .power, .boot, .access, .time, .lens, .goose, .logic, .facets, .pair, .log, .health, .can, .sec] s t) ∧
          (b.release = true → b.handBack = false → b.role = 1 → b.epoch ≠ 0 → s.pair.role = 2 → s.pair.elig = 0 →
            s.sec.provisioned = true → s.health.fault = false → s.pair.takeoverFault = false → s.pair.setFault = false →
            s.pair.contradict0 < 2 → s.pair.contradict1 < 2 → b.major = 1 → b.fingerprint = s.access.fingerprint →
            b.overlayDigest = overlayDigest s.access.overlay → b.forwardCount ≤ s.access.applied →
            linesOwner lines = false → linesRequest lines = false ∨ s.slotA = true →
            ∃ t, exec (.blinkReceived b lines) s = .next t ∧
              Gained s t (if s.pair.handover.isSome = true then 4 else 2)) ∧
          (b.release = false → b.role = 1 → s.pair.role = 1 → s.pair.req = false →
            ∃ t, exec (.blinkReceived b lines) s = .next t ∧ t.pair.dualClaims = (s.pair.dualClaims + 1) % 2 ^ 32 ∧
              (s.power.slotB = true → Released s t 3) ∧
              (s.power.slotB = false → t.pair.own = s.pair.own ∧ t.pair.role = 1))))) ∧
    (∀ b, s.running = true → b.epoch = 0 ∨ b.authentic = true ∧ s.epochKnown b.epoch = true →
      s.seqFresh 7 b.epoch b.seq = true →
      (s.lit = false ∨ b.role ≠ 1 →
        ∃ t, exec (.stationBlinkReceived b) s = .next t ∧ t.pair.station = some b ∧ t.pair.stationAt = some s.mono ∧
          t.pair.stationLost = false ∧ t.pair.role = s.pair.role ∧ t.pair.own = s.pair.own ∧
          (s.pair.partnerRole = 4 ∨ s.pair.partnerRole = 0 → t.pair.partnerRole = b.role) ∧ Within [.facets, .pair, .log, .sec] s t) ∧
      (s.lit = true → b.role = 1 →
        ∃ t, exec (.stationBlinkReceived b) s = .next t ∧ t.pair.dualClaims = (s.pair.dualClaims + 1) % 2 ^ 32 ∧
          (s.power.slotB = true → Released s t 3) ∧
          (s.power.slotB = false → t.pair.own = s.pair.own ∧ t.pair.role = 1))) ∧
    (s.running = true →
      ∃ t, exec .stationBlinkLost s = .next t ∧ t.pair.stationLost = true ∧
        mapGet t.pair.counters 3 0 = (mapGet s.pair.counters 3 0 + 1) % 2 ^ 64 ∧
        (s.lastSign + 3000000 ≤ s.mono → t.pair.partnerRole = 4) ∧ t.pair.role = s.pair.role ∧ t.pair.own = s.pair.own ∧
        Within [.pair] s t)

/-- Ownership (R352 to R358): a third missed blink and the partner's absence let a SHADE gain ownership where the lines allow
it; a set fault is counted and shown; the self-fence drops ownership with the switches and the fence due, which follow as
events.
Choices of the model that it rests on: log 15, log 23. -/
def Obligations.Ownership : Prop :=
  ∀ s : State,
    (∀ lines a, s.running = true → s.pair.partnerAt = some a →
      (s.pair.missed < 2 →
        ∃ t, exec (.blinkMissed lines) s = .next t ∧ t.pair.missed = s.pair.missed + 1 ∧
          mapGet t.pair.counters 2 0 = (mapGet s.pair.counters 2 0 + 1) % 2 ^ 64 ∧ t.pair.own = s.pair.own ∧
          t.pair.role = s.pair.role ∧ t.pair.lines = lines ∧
          t.mono = Nat.max s.mono (a + 50000 * (s.pair.missed + 1) + 5000) ∧ Within [.time, .pair] s t) ∧
      (s.pair.missed = 2 → s.pair.role = 2 → s.sec.provisioned = true → s.pair.takeoverFault = false → linesOwner lines = false →
        linesRequest lines = false ∨ s.slotA = true →
        ∃ t, exec (.blinkMissed lines) s = .next t ∧ Gained s t 1 ∧ Within
          [.regs, .mem, .power, .time, .lens, .goose, .logic, .facets, .pair, .log, .health, .can] s t) ∧
      (s.pair.missed = 2 → s.pair.role = 2 ∨ s.pair.role = 3 → linesOwner lines = true →
        ∃ t, exec (.blinkMissed lines) s = .next t ∧ t.pair.own = s.pair.own ∧ t.pair.role = 3 ∧
          t.pair.elig.testBit 6 = true ∧ Within [.time, .facets, .pair, .log] s t)) ∧
    (∀ lines, s.domOn 1 = true →
      (∃ t, exec (.peerPresentChange true lines) s = .next t ∧
        t.pair = { s.pair with lines := lines, partnerRole := 0 } ∧ t.power = { s.power with peerPresentN := false } ∧
        Within [.power, .pair] s t) ∧
      (s.pair.role ≠ 2 →
        ∃ t, exec (.peerPresentChange false lines) s = .next t ∧
          t.pair = { s.pair with lines := lines, partnerRole := 4 } ∧ t.power = { s.power with peerPresentN := true } ∧
          Within [.power, .pair] s t) ∧
      (s.pair.role = 2 → s.sec.provisioned = true → s.pair.takeoverFault = false → linesOwner lines = false →
        linesRequest lines = false ∨ s.slotA = true →
        ∃ t, exec (.peerPresentChange false lines) s = .next t ∧ Gained s t 3 ∧ t.pair.partnerRole = 4 ∧
          t.power.peerPresentN = true ∧ Within
          [.regs, .mem, .power, .time, .lens, .goose, .logic, .facets, .pair, .log, .health, .can] s t)) ∧
    (∀ k, k < 2 → s.running = true → s.pair.setFault = false →
      ∃ t, exec (.handshakeSetFault k) s = .next t ∧ t.pair.setFault = true ∧ t.health.causes.testBit 19 = true ∧
        mapGet t.pair.counters 12 0 = (mapGet s.pair.counters 12 0 + 1) % 2 ^ 64 ∧ t.pair.own = s.pair.own ∧
        Within [.facets, .pair, .log, .health] s t) ∧
    (s.domOn 1 = true → s.pair.own = true →
      ∃ t, exec .selfFence s = .next t ∧ Released s t 0 ∧ t.pair.selfFenced = true ∧
        Within [.power, .boot, .access, .time, .logic, .facets, .pair, .log, .can] s t) ∧
    (s.domOn 1 = true → s.pair.switchesDue = true →
      ∃ t, exec .releaseSwitchesOpen s = .next t ∧ t.power = { s.power with fdoSwitches := false } ∧
        t.pair = { s.pair with switchesDue := false } ∧ Within [.power, .pair] s t) ∧
    (s.domOn 8 = true → s.pair.fenceDue = true →
      ∃ t, exec .fence s = .next t ∧ t.pair.fenceDue = false ∧
        t.fabric.held = s.fabric.held.filter (fun h => h.1.port != 51) ∧
        (∀ c ∈ t.fabric.copies, c ∈ s.fabric.copies ∧ ((s.fabricFrame c.fr).head.port = 51 →
          ∃ e, mapFind s.fabric.egress c.out = some e ∧ e.current = some c.fr)) ∧
        (∀ o e, mapFind t.fabric.egress o = some e →
          ∀ x ∈ e.fifo, (s.fabricFrame x.1).head.port = 51 → e.current = some x.1) ∧
        t.pair.own = s.pair.own ∧ t.pair.role = s.pair.role ∧ Within [.fabric, .pair] s t)

/-- Lanes and the mirror (R360, R363 to R371): a lane move, a spare-lane test and a measurement; the tick and bulk mirrors that
a LIT sends; what a standby applies of them and of the overlay; the end of first synchronisation.
Choices of the model that it rests on: log 15, log 23. -/
def Obligations.MirrorLink : Prop :=
  ∀ s : State,
    (∀ l0 l1, s.stewardUp = true →
      (l0 = false → l1 = false →
        ∃ t, exec (.laneMove l0 l1) s = .next t ∧ t.pair.lane0 = false ∧ t.pair.lane1 = false ∧ t.pair.trained = false ∧
          t.pair.outbox = [] ∧ t.pair.onLane = none ∧
          (s.pair.role = 2 ∨ s.pair.role = 3 → t.pair.elig.testBit 6 = true ∧ t.pair.role = 3) ∧ t.pair.own = s.pair.own ∧
          Within [.facets, .pair, .log] s t) ∧
      (l0 = true ∨ l1 = true → s.pair.lane0 = false → s.pair.lane1 = false →
        ∃ t, exec (.laneMove l0 l1) s = .next t ∧ t.pair.lane0 = l0 ∧ t.pair.lane1 = l1 ∧ t.pair.trained = true ∧
          t.pair.spareInUse = false ∧
          (∀ pref, s.regN 0x8001 7 = pref →
            t.pair.lane = if (if pref = 0 then l0 else l1) = true then pref else 1 - pref) ∧
          t.pair.elig.testBit 6 = false ∧ t.pair.own = s.pair.own ∧ Within [.facets, .pair, .log] s t) ∧
      (s.pair.lane = 0 → s.pair.lane0 = true → l0 = false → l1 = true →
        ∃ t, exec (.laneMove l0 l1) s = .next t ∧ t.pair.lane = 1 ∧ t.pair.spareInUse = true ∧ t.pair.lane0 = false ∧
          t.pair.lane1 = true ∧ mapGet t.pair.counters 10 0 = (mapGet s.pair.counters 10 0 + 1) % 2 ^ 64 ∧
          t.pair.role = s.pair.role ∧ Within [.facets, .pair, .log] s t)) ∧
    (∀ ok, s.running = true →
      ∃ t, exec (.spareLaneTestFrame ok) s = .next t ∧ (t.health.causes.testBit 18 = !ok) ∧
        (t.testEntry 6).result = (if ok = true then 1 else 2) ∧ t.pair.own = s.pair.own ∧
        Within [.facets, .pair, .log, .health] s t) ∧
    (∀ lane r, lane < 2 → s.running = true →
      ∃ t, exec (.linkMeasurement lane r) s = .next t ∧
        t.pair = { s.pair with laneDelay := mapPut lane (r / 2) s.pair.laneDelay } ∧ Within [.pair] s t) ∧
    (∀ num inst, s.running = true → s.mirrorTo = true → s.lens.newest = some (num, inst) →
      ∃ t, exec .tickMirror s = .next t ∧ t.pair.tickUnit = s.pair.tickUnit + 1 ∧ t.pair.newestTick = inst ∧
        (∃ m, t.pair.lastTick = some m ∧ m.kind = 2 ∧ m.unit = s.pair.tickUnit + 1 ∧ m.instant = inst ∧
          m.handover = (s.pair.swapArmed && decide (s.pair.swapFrom ≤ inst)) ∧ m.pubs = s.pubMirrors ∧
          m.progs = s.progMirrors (fun c => c ≤ 1) ∧ m.facets = s.mirrorSets [1] ∧
          m.forwardCount = s.access.forwardCount) ∧
        s.pair.outbox.length < t.pair.outbox.length ∧ t.pair.outbox.take s.pair.outbox.length = s.pair.outbox ∧
        (∀ f ∈ t.pair.outbox.drop s.pair.outbox.length, f.kind = 2 ∧ f.unit = s.pair.tickUnit + 1 ∧ f.time = inst) ∧
        mapGet t.pair.counters 4 0 = (mapGet s.pair.counters 4 0 + 1) % 2 ^ 64 ∧ Within [.pair] s t) ∧
    (s.running = true → s.mirrorTo = true →
      (∃ t, exec .bulkMirror s = .next t ∧ t.pair.bulkUnit = s.pair.bulkUnit + 1 ∧
        (∃ m, t.pair.lastBulk = some m ∧ m.kind = 3 ∧ m.unit = s.pair.bulkUnit + 1 ∧ m.pubs = [] ∧
          m.progs = s.progMirrors (fun c => false || decide (2 ≤ c)) ∧ m.facets = s.mirrorSets [2]) ∧
        s.pair.outbox.length < t.pair.outbox.length ∧ t.pair.outbox.take s.pair.outbox.length = s.pair.outbox ∧
        (∀ f ∈ t.pair.outbox.drop s.pair.outbox.length, f.kind = 3 ∧ f.unit = s.pair.bulkUnit + 1) ∧
        t.pair.syncSent = s.pair.syncSent ∧ Within [.pair] s t) ∧
      ∀ x, ∃ t, exec (.firstSynchronisation x) s = .next t ∧ t.pair.bulkUnit = s.pair.bulkUnit + 1 ∧
        (∃ m, t.pair.lastBulk = some m ∧ m.kind = 3 ∧ m.pubs = s.pubMirrors ∧
          m.progs = s.progMirrors (fun c => true || decide (2 ≤ c)) ∧ m.facets = s.mirrorSets [1, 2]) ∧
        t.pair.syncSent = true ∧ Within [.pair] s t) ∧
    (∀ m, s.running = true →
      (m.authentic = false →
        (∃ t, exec (.tickMirrorApplied m) s = .next t ∧ mapGet t.pair.counters 7 0 = (mapGet s.pair.counters 7 0 + 1) % 2 ^ 64 ∧
          Within [.facets, .pair, .log] s t) ∧
        ∃ t, exec (.bulkMirrorReceived m) s = .next t ∧ mapGet t.pair.counters 7 0 = (mapGet s.pair.counters 7 0 + 1) % 2 ^ 64 ∧
          Within [.facets, .pair, .log] s t) ∧
      (m.authentic = true → s.epochKnown m.epoch = true → s.seqFresh m.kind m.epoch m.seq = false →
        ∃ t, exec (.tickMirrorApplied m) s = .next t ∧ t.pair = { s.pair with counters := mapAdd 64 8 1 s.pair.counters } ∧
          Within [.pair] s t) ∧
      (m.authentic = true → s.epochKnown m.epoch = true → s.seqFresh m.kind m.epoch m.seq = true → s.mirrorFrom = false →
        ∃ t, exec (.tickMirrorApplied m) s = .next t ∧ mapGet t.pair.counters 6 0 = (mapGet s.pair.counters 6 0 + 1) % 2 ^ 64 ∧
          t.pair.newestTick = s.pair.newestTick ∧ Within [.facets, .pair, .log, .sec] s t)) ∧
    (∀ m, MirrorTaken s m → s.mirrorFrom = true →
      (∃ t, exec (.tickMirrorApplied m) s = .next t ∧ t.pair.newestTick = m.instant ∧
        mapGet t.pair.counters 5 0 = (mapGet s.pair.counters 5 0 + 1) % 2 ^ 64 ∧
        mapFind t.pair.lastSeq (m.epoch * 8 + m.kind) = some m.seq ∧
        (m.handover = true → t.pair.handover = some m.unit ∧ ∃ f ∈ t.pair.outbox, f.kind = 5 ∧ f.unit = m.unit) ∧
        (s.pair.synced = true → s.pair.elig.testBit 4 = true →
          t.pair.elig.testBit 4 = false ∧ t.access.applied = m.forwardCount) ∧
        (∀ q, m.pubs = [q] → (t.pub q.pub).stNum = q.stNum ∧ (t.pub q.pub).sqNum = q.sqNum ∧ (t.pub q.pub).k = q.k) ∧
        Within [.mem, .access, .goose, .logic, .facets, .pair, .log, .sec] s t) ∧
      (∃ t, exec (.bulkMirrorReceived m) s = .next t ∧ mapFind t.pair.lastSeq (m.epoch * 8 + m.kind) = some m.seq ∧
        (∀ f n, m.facets = [f] → m.progs = [] → f.facet = n → s.memOk → (s.facet n).units.Nodup →
          (s.facet n).state = 2 ∨ (s.facet n).state = 3 ∨ (s.facet n).state = 4 → (s.facet n).mirrorBase = f.base →
          (s.facet n).mirrorSize = f.data.length → (s.facet n).inside f.base f.data.length = true →
          (∀ k, k < f.data.length → memRead t.mem ((s.facet n).phys (f.base + k)) = f.data.getD k (byteOf 0)) ∧
          (∀ a, ¬inGuest (s.facet n) f.base f.data.length a → memRead t.mem a = memRead s.mem a)) ∧
        Within [.mem, .goose, .logic, .facets, .pair, .log, .sec] s t) ∧
      (s.pair.role = 3 → s.eligNow = 16 →
        ∃ t, exec (.firstSynchronisation m) s = .next t ∧ t.pair.synced = true ∧
          Within [.mem, .goose, .logic, .facets, .pair, .log, .sec] s t)) ∧
    (∃ t, exec .lateMirrorExpiry s = .next t ∧ t.pair = { s.pair with lateMirror := false } ∧ Within [.pair] s t) ∧
    (∀ m : OverlayMsg, s.running = true →
      (m.tag.authentic = false →
        ∃ t, exec (.overlayCopy m) s = .next t ∧ mapGet t.pair.counters 7 0 = (mapGet s.pair.counters 7 0 + 1) % 2 ^ 64 ∧
          Within [.facets, .pair, .log] s t) ∧
      (∀ key i, s.pair.role = 2 ∨ s.pair.role = 3 → s.pair.elig.testBit 5 = true → TagTaken s 3 m.tag → m.full = true →
        m.entries = [(key, .int i)] → 0x400000 ≤ key → key < 0x470000 → s.access.overlay = [] → s.pair.partner = none →
        ∃ t, exec (.overlayCopy m) s = .next t ∧ t.access.overlay = [(key, .int i)] ∧
          t.access.applied = m.forwardCount ∧ t.pair.overlayAsked = false ∧ t.pair.elig.testBit 5 = false ∧
          mapFind t.pair.lastSeq (m.tag.epoch * 8 + 3) = some m.tag.seq ∧
          regIn t.regs key = i ∧ (∀ k, k ≠ key → regIn t.regs k = regIn s.regs k) ∧
          Within [.regs, .access, .facets, .pair, .log, .sec] s t))

/-- Takeover check, safe hold, swap and the commands of Table 14.12 (R353, R374, R376 to R378, R382): a failed check keeps
ownership in safe hold, or hands it back where that is set and the predecessor is fit; a planned swap is armed, acknowledged
or abandoned.
Choices of the model that it rests on: log 15. -/
def Obligations.TakeoverAndSwap : Prop :=
  ∀ s : State,
    (s.running = true → s.lit = true → s.pair.checking = true → s.power.oselFb = false →
      (s.flag 0x8001 5 = false ∨ s.predecessorFit = false →
        ∃ t, exec .takeoverCheck s = .next t ∧ t.pair.takeoverFault = true ∧ t.pair.safeHold = some s.images ∧
          t.pair.checking = false ∧ t.health.causes.testBit 10 = true ∧ t.pair.own = s.pair.own ∧ t.pair.role = 1 ∧
          Within [.facets, .pair, .log, .health] s t) ∧
      (s.flag 0x8001 5 = true → s.predecessorFit = true →
        ∃ t, exec .takeoverCheck s = .next t ∧ t.pair.takeoverFault = true ∧ t.health.causes.testBit 10 = true ∧
          Released s t 3 ∧
          Within [.power, .boot, .access, .time, .logic, .facets, .pair, .log, .health, .can] s t)) ∧
    (Accepted s rowReq (ek 0x8002 1) (.int 1) →
      (s.swapCode = 0 →
        ∃ t, exec .plannedSwap s = .next t ∧ t.reply.code = 0 ∧
          t.pair = { s.pair with swapArmed := true, handover := none,
                                 swapFrom := tickInstant s.grid (tickFrom s.grid (s.now + 1)) } ∧
          Within [.reply, .pair] s t) ∧
      (s.lit = false → ∃ t, exec .plannedSwap s = .next t ∧ t.reply.code = 0x0A04 ∧ Within [.reply] s t)) ∧
    (∀ tag u, u < 2 ^ 32 → s.running = true →
      (TagTaken s 5 tag → s.lit = true → s.pair.swapArmed = true → s.pair.handover = some u →
        ∃ t, exec (.swapAcknowledgement ⟨tag, u⟩) s = .next t ∧
          (s.pair.elig = 0 → s.sec.provisioned = true → s.health.fault = false → s.pair.takeoverFault = false →
            Released s t 2) ∧
          t.pair.own = false ∧ t.power.oselOwn = false ∧ t.pair.fenceDue = true ∧
          Within [.power, .boot, .access, .time, .logic, .facets, .pair, .log, .can, .sec] s t) ∧
      (tag.authentic = false →
        ∃ t, exec (.swapAcknowledgement ⟨tag, u⟩) s = .next t ∧ t.pair.own = s.pair.own ∧ t.pair.role = s.pair.role ∧
          mapGet t.pair.counters 7 0 = (mapGet s.pair.counters 7 0 + 1) % 2 ^ 64 ∧ Within [.facets, .pair, .log] s t)) ∧
    (s.running = true → s.lit = true → s.pair.swapArmed = true →
      ∃ t, exec .swapTimeout s = .next t ∧ t.reply.code = 0x0A03 ∧
        t.pair = { s.pair with swapArmed := false, handover := none } ∧
        t.boot = { s.boot with swapThenReset := false } ∧ Within [.reply, .boot, .pair] s t) ∧
    (Accepted s rowReq (ek 0x8002 2) (.int 1) → s.pair.takeoverFault = true →
      ∃ t, exec .clearTakeoverFault s = .next t ∧ t.reply.code = 0 ∧ t.pair.takeoverFault = false ∧
        t.health.causes.testBit 10 = false ∧ t.pair.own = s.pair.own ∧
        Within [.reply, .facets, .pair, .log, .health] s t) ∧
    (Accepted s rowReq (ek 0x8002 3) (.int 1) → s.pair.safeHold.isSome = true →
      ∃ t, exec .leaveSafeHold s = .next t ∧ t.reply.code = 0 ∧ t.pair.safeHold = none ∧ t.pair.own = s.pair.own ∧
        t.pair.role = s.pair.role ∧ Within [.reply, .regs, .power, .goose, .facets, .pair, .log] s t) ∧
    (∀ lines, Accepted (s.readLines lines) rowReq (ek 0x8002 4) (.int 1) → s.pair.role = 3 →
      (s.pair.partnerRole = 4 → s.sec.provisioned = true → s.pair.takeoverFault = false → linesOwner lines = false →
        linesRequest lines = false ∨ s.slotA = true →
        ∃ t, exec (.forceOwnership lines) s = .next t ∧ t.reply.code = 0 ∧ Gained s t 6 ∧ Within
          [.reply, .regs, .mem, .power, .time, .lens, .goose, .logic, .facets, .pair, .log, .health, .can] s t) ∧
      (s.pair.partnerRole ≠ 4 ∨ linesOwner lines = true →
        ∃ t, exec (.forceOwnership lines) s = .next t ∧ t.reply.code = 0x0A06 ∧ t.pair = { s.pair with lines := lines } ∧
          Within [.reply, .pair] s t)) ∧
    (Accepted s rowReq (ek 0x8002 5) (.int 1) →
      (s.lit = true → ∃ t, exec .resynchronise s = .next t ∧ t.reply.code = 0x0A04 ∧ Within [.reply] s t) ∧
      (s.lit = false →
        ∃ t, exec .resynchronise s = .next t ∧ t.reply.code = 0 ∧ t.pair.synced = false ∧ t.pair.overlayAsked = true ∧
          t.pair.elig.testBit 4 = true ∧ (s.pair.role = 2 → t.pair.role = 3) ∧ t.pair.own = s.pair.own ∧
          Within [.reply, .facets, .pair, .log] s t)) ∧
    (Accepted s rowReq (ek 0x8000 0x0D) (.int 1) →
      ∃ t, exec .pairClear s = .next t ∧ t.reply.code = 0 ∧ t.pair = { s.pair with dualClaims := 0, counters := [] } ∧
        Within [.reply, .pair] s t)

/-- Reports between the modules (R405, R436): the own health report goes out; the partner's is held with its status until none
has come for 3 s; an identity exchange holds IDENTITY_MISMATCH until a report of the bound partner passes every check. The
nonces are free values (log 3).
Choices of the model that it rests on: log 15. -/
def Obligations.PairReports : Prop :=
  ∀ s : State,
    (s.running = true → s.pair.trained = true →
      (∃ t, exec .healthReportTransmit s = .next t ∧
        t.health = { s.health with reportSent := s.healthReport, reportsSent := s.health.reportsSent + 1 } ∧
        t.pair.outbox = s.pair.outbox ++
          [{ kind := 4, seq := s.pair.sent 4 + 1, time := 0, unit := (s.health.reportsSent + 1) % 2 ^ 32, segment := 0,
             last := true, handover := false, bytes := 256 }] ∧
        t.pair = { s.pair with outbox := t.pair.outbox, sendSeq := mapPut 4 (s.pair.sent 4 + 1) s.pair.sendSeq } ∧
        Within [.pair, .health] s t) ∧
      ∃ t, exec .identityExchange s = .next t ∧ t.pair.elig.testBit 1 = true ∧ t.sec.nonce.isSome = true ∧
        t.sec.sinceTraining = false ∧ t.freeCount = s.freeCount + 2 ∧
        (s.sec.seed ≠ [] → ∃ n, (partnerSlot, n) ∈ t.sec.queue) ∧ (s.pair.role = 2 → t.pair.role = 3) ∧
        t.pair.own = s.pair.own ∧ Within [.freeCount, .facets, .pair, .log, .sec] s t) ∧
    (∀ (tag : MirrorTag) data, s.running = true →
      (TagTaken s 4 tag →
        ∃ t, exec (.healthReportReceived tag.authentic ⟨tag.epoch, tag.seq⟩ data) s = .next t ∧
          t.health = { s.health with partner := padTo 256 data, partnerAt := some s.mono, partnerStatus := 1 } ∧
          mapFind t.pair.lastSeq (tag.epoch * 8 + 4) = some tag.seq ∧
          Within [.facets, .pair, .log, .health, .sec] s t) ∧
      (tag.epoch = 0 → s.seqFresh 4 0 tag.seq = true →
        ∃ t, exec (.healthReportReceived tag.authentic ⟨tag.epoch, tag.seq⟩ data) s = .next t ∧
          t.health = { s.health with partner := padTo 256 data, partnerAt := some s.mono, partnerStatus := 3 } ∧
          Within [.pair, .health] s t) ∧
      (tag.epoch ≠ 0 → tag.authentic = false →
        ∃ t, exec (.healthReportReceived tag.authentic ⟨tag.epoch, tag.seq⟩ data) s = .next t ∧
          mapGet t.pair.counters 7 0 = (mapGet s.pair.counters 7 0 + 1) % 2 ^ 64 ∧
          Within [.facets, .pair, .log] s t)) ∧
    (s.stewardUp = true →
      ∃ t, exec .partnerReportTimeout s = .next t ∧
        t.health = { s.health with partner := [], partnerAt := none, partnerStatus := 0 } ∧ Within [.health] s t) ∧
    (∀ data key : ByteList, data.length = 5652 → key = bytesAt data 52 60 → s.running = true →
      (s.sec.nonce = some (bytesAt data 20 32) → s.sec.bound ≠ zero32 → s.sec.bound = sha256 key →
        leAt data 6 1 = (if s.power.slotB then 0 else 1) →
        ∃ t, exec (.identityReportReceived data) s = .next t ∧
          t.pair.elig.testBit 1 = !Config.hssVerify key (data.take 256) (data.drop 256) ∧
          t.sec = { s.sec with received := sha256 key, receivedSerial := bytesAt data 8 12, sinceTraining := true,
                               partnerState := if Config.hssVerify key (data.take 256) (data.drop 256) = true then 1 else 2 } ∧
          t.pair.own = s.pair.own ∧ Within [.facets, .pair, .log, .sec] s t) ∧
      (s.sec.nonce ≠ some (bytesAt data 20 32) ∨ s.sec.bound = zero32 ∨ s.sec.bound ≠ sha256 key ∨
          leAt data 6 1 ≠ (if s.power.slotB then 0 else 1) →
        ∃ t, exec (.identityReportReceived data) s = .next t ∧ t.pair.elig.testBit 1 = true ∧
          t.sec = { s.sec with received := sha256 key, receivedSerial := bytesAt data 8 12, sinceTraining := true,
                               partnerState := if Config.hssVerify key (data.take 256) (data.drop 256) = true ∧
                                 s.sec.nonce = some (bytesAt data 20 32) then 3 else 2 } ∧
          (s.pair.role = 2 → t.pair.role = 3) ∧ t.pair.own = s.pair.own ∧ Within [.facets, .pair, .log, .sec] s t))

/-! ### The afterglow log, the health report and self-tests (chapter 15, R380) -/

/-- The log (R384 to R401): a record takes the next number, waits before the log is prepared, or is suppressed; the end of a
second; an export; the readers' windows and notices; a clear; a failure of the log memory and a remap.
Choices of the model that it rests on: log 18, log 23. -/
def Obligations.TheLog : Prop :=
  ∀ s : State,
    (∀ r : LogReq, r.typ < 65536 → r.data.length ≤ 32 → s.domOn 2 = true → s.supplied = true →
      (s.log.ready = false →
        ∃ t, exec (.logRecord r) s = .next t ∧ t.log = { s.log with waiting := s.log.waiting ++ [r] } ∧ Within [.log] s t) ∧
      (s.log.ready = true → s.log.bankMode = false → logUnlimited r.typ = true ∨ mapGet s.log.second r.typ 0 < 256 →
        ∃ t, exec (.logRecord r) s = .next t ∧ t.log.next = s.log.next + 1 ∧
          t.log.held = (s.recordOf r s.log.next :: s.log.held).take ringSize ∧
          mapGet t.log.second r.typ 0 = mapGet s.log.second r.typ 0 + 1 ∧ t.log.suppressed = s.log.suppressed ∧
          Within [.facets, .log] s t) ∧
      (s.log.ready = true → logUnlimited r.typ = false → 256 ≤ mapGet s.log.second r.typ 0 →
        ∃ t, exec (.logRecord r) s = .next t ∧ t.log.next = s.log.next ∧ t.log.held = s.log.held ∧
          t.log.suppressed = (s.log.suppressed + 1) % 2 ^ 64 ∧
          mapGet t.log.second r.typ 0 = mapGet s.log.second r.typ 0 + 1 ∧ Within [.log] s t)) ∧
    (s.domOn 2 = true → s.log.ready = true →
      (∃ t, exec .suppressionSecond s = .next t ∧
        t.health.causes.testBit 12 = decide (s.regN 0x9010 0x0A < s.ddrLastHour) ∧
        (s.health.causes.testBit 12 = decide (s.regN 0x9010 0x0A < s.ddrLastHour) →
          (∀ p ∈ s.log.second, logUnlimited p.1 = true ∨ p.2 ≤ 256) → t.log = { s.log with second := [] }) ∧
        (∀ typ n, s.health.causes.testBit 12 = decide (s.regN 0x9010 0x0A < s.ddrLastHour) →
          s.log.second = [(typ, n)] → logUnlimited typ = false → 256 < n → s.log.bankMode = false →
          t.log.next = s.log.next + 1 ∧ ∃ q, t.log.held.head? = some q ∧ q.seq = s.log.next ∧ q.typ = 0x0B05 ∧ q.inst = typ ∧
            q.data.take 4 = leBytes 4 (n - 256)) ∧
        Within [.facets, .pair, .log, .health] s t) ∧
      (s.log.bankMode = false →
        (∃ t, exec .logExport s = .next t ∧ t.log.exported = s.log.held ∧ t.log.held = s.log.held ∧
          t.log.next = s.log.next ∧ (∀ r l, s.log.held = r :: l → t.log.exportedThrough = r.seq) ∧ Within [.log] s t) ∧
        (∀ addr, addr < 2 ^ 40 →
          ∃ t, exec (.logMemoryFailure addr) s = .next t ∧ t.log.state = 1 ∧ t.log.failedAt = s.log.next ∧
            t.log.held = [] ∧ t.log.memErrors = (s.log.memErrors + 1) % 2 ^ 32 ∧ t.health.causes.testBit 8 = true ∧
            (∃ q, mapFind t.log.bank 0 = some q ∧ q.seq = s.log.next ∧ q.typ = 0x0B02) ∧
            Within [.facets, .pair, .log, .health] s t)) ∧
      (s.log.state = 1 →
        (∃ t, exec (.logRemap false) s = .next t ∧ t.log = { s.log with state := 3 } ∧ Within [.log] s t) ∧
        ∃ t, exec (.logRemap true) s = .next t ∧ t.log.state = 2 ∧ t.log.bank = [] ∧ t.log.pushedOut = none ∧
          t.health.causes.testBit 8 = false ∧ Within [.facets, .pair, .log, .health] s t)) ∧
    (∀ n v, n < 256 → v < 2 ^ 64 → s.guest n = true →
      (∃ t k, exec (.agCursor n v) s = .next t ∧ Filled s t n v k ∧ Within [.log] s t) ∧
      ∃ t k, exec (.agNotify n v) s = .next t ∧ mapFind t.log.cursors n = some k ∧ k.notify = v.testBit 0 ∧
        (∀ c, c ≠ n → mapFind t.log.cursors c = mapFind s.log.cursors c) ∧ Within [.log] s t) ∧
    (∀ c v, 256 ≤ c → c < 768 → v < 2 ^ 64 → s.stewardUp = true →
      512 ≤ c ∨ c = 264 ∨ (mapFind s.access.sessions (c - 256)).isSome = true →
      ∃ t k, exec (.sessionCursor c v) s = .next t ∧ t.reply.code = 0 ∧ Filled s t c v k ∧ Within [.reply, .log] s t) ∧
    (∀ sess, sess ≤ 8 → Accepted s (sessReq sess) (ek 0x9000 0x0A) (.int 1) →
      (s.log.state = 0 ∨ s.log.state = 2 →
        ∃ t, exec (.clearLog sess) s = .next t ∧ t.reply.code = 0 ∧ t.log.exported = [] ∧
          (s.log.ready = true → t.log.next = s.log.next + 1 ∧
            ∃ q, t.log.held = [q] ∧ q.seq = s.log.next ∧ q.typ = 0x0B01) ∧
          Within [.reply, .facets, .log] s t) ∧
      (s.log.state = 1 ∨ s.log.state = 3 →
        ∃ t, exec (.clearLog sess) s = .next t ∧ t.reply.code = 0x0B02 ∧ Within [.reply] s t))

/-- Health causes and self-tests (R13, R22, R380, R402, R403): an acknowledgement clears latched causes that are gone; errors
and tests set and clear their causes and count in their entries; a guest reads its memory and the granted plane, and any other
access is counted against its facet; the steward's read of an unmapped address answers 0.
Choices of the model that it rests on: log 17. -/
def Obligations.HealthAndTests : Prop :=
  ∀ s : State,
    (∀ mask : Nat, mask < 2 ^ 64 → Accepted s rowReq (ek 0x9010 5) (.int mask) →
      (Nat.land mask s.health.latched = mask → Nat.land mask s.health.present = 0 →
        ∃ t, exec (.healthAcknowledge mask) s = .next t ∧ t.reply.code = 0 ∧
          (∀ i, t.health.causes.testBit i = (s.health.causes.testBit i && !mask.testBit i)) ∧
          t.health.present = s.health.present ∧ Within [.reply, .facets, .pair, .log, .health] s t) ∧
      (Nat.land mask s.health.latched ≠ mask ∨ Nat.land mask s.health.present ≠ 0 →
        ∃ t, exec (.healthAcknowledge mask) s = .next t ∧ t.reply.code = 0x0B01 ∧ Within [.reply] s t)) ∧
    (s.stewardUp = true → s.domOn 11 = true →
      (∀ addr, addr < 2 ^ 40 → guardedDdr addr = false →
        (∃ t, exec (.ddrEccError true addr) s = .next t ∧
          t.health.ddrCorrectable = (s.health.ddrCorrectable + 1) % 2 ^ 64 ∧
          t.health.causes.testBit 12 = decide (s.regN 0x9010 0x0A < s.ddrLastHour + 1) ∧
          Within [.facets, .pair, .log, .health] s t) ∧
        ∃ t, exec (.ddrEccError false addr) s = .next t ∧ t.health.causes.testBit 11 = true ∧
          t.health.present.testBit 11 = true ∧ t.health.ddrCorrectable = s.health.ddrCorrectable ∧
          Within [.facets, .pair, .log, .health] s t) ∧
      (∃ t, exec (.ddrScrubPass true) s = .next t ∧ (t.testEntry 0).result = 1 ∧
        (t.testEntry 0).passes = ((s.testEntry 0).passes + 1) % 2 ^ 32 ∧ t.health.present.testBit 11 = false ∧
        t.health.causes = s.health.causes ∧ Within [.health] s t) ∧
      ∃ t, exec (.ddrScrubPass false) s = .next t ∧ (t.testEntry 0).result = 3 ∧
        (t.testEntry 0).failures = ((s.testEntry 0).failures + 1) % 2 ^ 32 ∧ Within [.facets, .log, .health] s t) ∧
    (∀ addr, addr < 2 ^ 40 → s.stewardUp = true →
      (∃ t, exec (.sramScrub true addr) s = .next t ∧ (t.testEntry 1).result = 1 ∧ t.health.present.testBit 13 = false ∧
        t.health.causes = s.health.causes ∧ Within [.health] s t) ∧
      ∃ t, exec (.sramScrub false addr) s = .next t ∧ (t.testEntry 1).result = 3 ∧ t.health.causes.testBit 13 = true ∧
        t.health.present.testBit 13 = true ∧ Within [.facets, .pair, .log, .health] s t) ∧
    (∀ (c : Instr) (i cause unit : Nat) (pass : Bool), s.standby = true →
      (c = .coreCrossCheck unit pass ∧ i = 2 ∧ cause = 14 ∧ unit < 64 ∧ s.domOn (3 + unit / 16) = true ∨
        c = .logicProcessorTest unit pass ∧ i = 3 ∧ cause = 15 ∧ unit < 16 ∧ s.domOn 11 = true) →
      (pass = false →
        ∃ t, exec c s = .next t ∧ (t.testEntry i).result = 3 ∧ (t.testEntry i).unit = unit ∧
          (t.testEntry i).failures = ((s.testEntry i).failures + 1) % 2 ^ 32 ∧ t.health.causes.testBit cause = true ∧
          t.health.present.testBit cause = true ∧ Within [.facets, .pair, .log, .health] s t) ∧
      (pass = true → (s.testEntry i).result ≠ 3 ∨ (s.testEntry i).unit = unit →
        ∃ t, exec c s = .next t ∧ (t.testEntry i).result = 1 ∧ t.health.present.testBit cause = false ∧
          (t.testEntry i).passes = ((s.testEntry i).passes + 1) % 2 ^ 32 ∧ t.health.causes = s.health.causes ∧
          Within [.health] s t)) ∧
    (∀ lane above, lane < 50 → s.stewardUp = true → s.domOn 9 = true → s.domOn 10 = true →
      ∃ t, exec (.serdesErrorRate lane above) s = .next t ∧ t.health.serdes.testBit lane = above ∧
        (∀ k, k ≠ lane → t.health.serdes.testBit k = s.health.serdes.testBit k) ∧
        t.health.causes.testBit 16 = decide (t.health.serdes ≠ 0) ∧
        (above = true → (t.testEntry 4).result = 2 ∧ (t.testEntry 4).unit = lane) ∧
        Within [.facets, .pair, .log, .health] s t) ∧
    (∀ n addr kind, n < 256 → addr < 2 ^ 64 → kind < 3 → s.guest n = true →
      ((s.facet n).inside addr 8 = true →
        ∃ t, exec (.accessFault n addr kind false) s = .next t ∧
          t = if kind = 0 then s.answer 0 (guestRead s.mem (s.facet n) addr 8) else s) ∧
      ((s.facet n).inside addr 8 = false → kind = 0 → (s.facet n).planeGranted addr = true →
        ∃ t, exec (.accessFault n addr kind false) s = .next t ∧
          t = s.answer 0 (memReadList s.mem (sampleBase + (addr - planeView)) 8)) ∧
      ((s.facet n).inside addr 8 = false → inPlaneView addr = true → kind ≠ 0 ∨ (s.facet n).planeGranted addr = false →
        ∃ t, exec (.accessFault n addr kind false) s = .next t ∧
          t.facet n = { s.facet n with planeFaults := ((s.facet n).planeFaults + 1) % 2 ^ 64 } ∧
          (∀ k, k ≠ n → t.facet k = s.facet k) ∧ Within [.facets, .log] s t) ∧
      ((s.facet n).inside addr 8 = false → inPlaneView addr = false →
        ∃ t, exec (.accessFault n addr kind false) s = .next t ∧
          t.facet n = { s.facet n with accessFaults := ((s.facet n).accessFaults + 1) % 2 ^ 64 } ∧
          (∀ k, k ≠ n → t.facet k = s.facet k) ∧ Within [.facets, .log] s t)) ∧
    (∀ n offset, n < 256 → offset < 65536 → offset ≠ 8 → offset ≠ 0x1000 → offset ≠ 0x1008 → offset ≠ 0x3008 →
      s.guest n = true →
      (0x3100 ≤ offset → offset < 0x3300 → (s.tpo ((offset - 0x3100) / 32)).owner ≠ n →
        ∃ t, exec (.accessFault n offset 0 true) s = .next t ∧
          t.facet n = { s.facet n with accessFaults := ((s.facet n).accessFaults + 1) % 2 ^ 64 } ∧
          (∀ k, k ≠ n → t.facet k = s.facet k) ∧ Within [.reply, .facets, .log] s t) ∧
      (offset < 0x3100 ∨ 0x3300 ≤ offset →
        ∃ t, exec (.accessFault n offset 0 true) s = .next t ∧ t = s.answer 0 (leBytes 8 (s.windowRead n offset)))) ∧
    (∀ addr, addr < 2 ^ 40 → s.stewardUp = true →
      (regionOf addr = none →
        ∃ t, exec (.accessFault 0xFFFF addr 0 false) s = .next t ∧ t.reply.payload = leBytes 8 0 ∧
          (s.log.ready = true → s.log.bankMode = false → mapGet s.log.second 0x0101 0 < 256 →
            t.log.next = s.log.next + 1 ∧ ∃ q, t.log.held.head? = some q ∧ q.typ = 0x0101 ∧ q.data.take 8 = leBytes 8 addr) ∧
          Within [.reply, .facets, .log] s t) ∧
      (regionOf addr = some .logicData ∨ regionOf addr = some .guest →
        ∃ t, exec (.accessFault 0xFFFF addr 0 false) s = .next t ∧ t = s.answer 0 (memReadList s.mem addr 8)))

/-! ### The cabinet bus (chapter 16) -/

/-- Frames of a controller (R408, R414 to R418, R422): a received frame fills its FIFO with its stamp, or is counted as lost;
a read of the head register shifts the FIFO; the pending object with the lowest identifier is offered; a sent frame leaves
its object; errors count up to error passive and bus-off, and an unacknowledged object is given up at its limit.
Choices of the model that it rests on: log 17. -/
def Obligations.BusFrames : Prop :=
  ∀ (s : State) (c : Nat), c < 2 → s.domOn 1 = true →
    (∀ fr : CanFrame, fr.ident < (if fr.ext then 2 ^ 29 else 2 ^ 11) → fr.data.length ≤ 64 →
      ((s.ctl c).state ≠ 1 → (s.ctl c).state ≠ 2 → (s.ctl c).state ≠ 5 → exec (.canFrameReceived c fr) s = .next s) ∧
      ((s.ctl c).state = 1 ∨ (s.ctl c).state = 2 ∨ (s.ctl c).state = 5 → (s.ctl c).offered = none →
        (s.ctl c).stopping = false →
        (s.fifoOf c fr = some 0 → (s.ctl c).fifo0.length < 64 →
          ∃ t, exec (.canFrameReceived c fr) s = .next t ∧
            (t.ctl c).fifo0 = (s.ctl c).fifo0 ++ [{ frame := fr, stamp := (s.mono * 2 + 12) / 25 * 25 / 2 }] ∧
            (t.ctl c).fifo1 = (s.ctl c).fifo1 ∧ t.regN (canIndex c) 0x16 = (s.regN (canIndex c) 0x16 + 1) % 2 ^ 64 ∧
            (∀ d, d ≠ c → t.ctl d = s.ctl d) ∧ Within [.freeCount, .regs, .mem, .logic, .facets, .log, .can] s t) ∧
        (s.fifoOf c fr = some 0 → 64 ≤ (s.ctl c).fifo0.length →
          ∃ t, exec (.canFrameReceived c fr) s = .next t ∧ (t.ctl c).fifo0 = (s.ctl c).fifo0 ∧
            t.regN (canIndex c) 0x18 = (s.regN (canIndex c) 0x18 + 1) % 2 ^ 64 ∧ (∀ d, d ≠ c → t.ctl d = s.ctl d) ∧
            Within [.freeCount, .regs, .mem, .logic, .facets, .log, .can] s t) ∧
        (s.fifoOf c fr = some 1 → (s.ctl c).fifo1.length < 16 →
          ∃ t, exec (.canFrameReceived c fr) s = .next t ∧
            (t.ctl c).fifo1 = (s.ctl c).fifo1 ++ [{ frame := fr, stamp := (s.mono * 2 + 12) / 25 * 25 / 2 }] ∧
            (t.ctl c).fifo0 = (s.ctl c).fifo0 ∧ t.regN (canIndex c) 0x16 = (s.regN (canIndex c) 0x16 + 1) % 2 ^ 64 ∧
            (∀ d, d ≠ c → t.ctl d = s.ctl d) ∧ Within [.freeCount, .regs, .facets, .log, .can] s t) ∧
        (s.fifoOf c fr = some 1 → 16 ≤ (s.ctl c).fifo1.length →
          ∃ t, exec (.canFrameReceived c fr) s = .next t ∧ (t.ctl c).fifo1 = (s.ctl c).fifo1 ∧
            t.regN (canIndex c) 0x19 = (s.regN (canIndex c) 0x19 + 1) % 2 ^ 64 ∧
            Within [.freeCount, .regs, .facets, .log, .can] s t) ∧
        (s.fifoOf c fr = none →
          ∃ t, exec (.canFrameReceived c fr) s = .next t ∧ (t.ctl c).fifo0 = (s.ctl c).fifo0 ∧
            (t.ctl c).fifo1 = (s.ctl c).fifo1 ∧ t.regN (canIndex c) 0x16 = s.regN (canIndex c) 0x16 ∧
            Within [.freeCount, .regs, .facets, .log, .can] s t))) ∧
    (∃ t, exec (.fifoHeadRead c 0) s = .next t ∧
      t.ctl c = { s.ctl c with shadow0 := some (s.ctl c).fifo0.head?, fifo0 := (s.ctl c).fifo0.tail } ∧
      (∀ d, d ≠ c → t.ctl d = s.ctl d) ∧ Within [.can] s t) ∧
    (∃ t, exec (.fifoHeadRead c 1) s = .next t ∧
      t.ctl c = { s.ctl c with shadow1 := some (s.ctl c).fifo1.head?, fifo1 := (s.ctl c).fifo1.tail } ∧
      (∀ d, d ≠ c → t.ctl d = s.ctl d) ∧ Within [.can] s t) ∧
    (∀ o x, (s.ctl c).state = 1 ∨ (s.ctl c).state = 2 → (s.ctl c).offered = none → (o, x) ∈ (s.ctl c).objects →
      (∀ p ∈ (s.ctl c).objects, p = (o, x) ∨ x.frame.ident < p.2.frame.ident) →
      ∃ t, exec (.transmitOffer c) s = .next t ∧ t.ctl c = { s.ctl c with offered := some o, limit := s.canReg c 0x0F } ∧
        (∀ d, d ≠ c → t.ctl d = s.ctl d) ∧ Within [.can] s t) ∧
    (∀ o x, (s.ctl c).offered = some o → mapFind (s.ctl c).objects o = some x → (s.ctl c).tec ≤ 256 →
      (s.ctl c).stopping = false →
      ∃ t, exec (.frameSent c) s = .next t ∧ (t.ctl c).offered = none ∧ (t.ctl c).objects = mapDel o (s.ctl c).objects ∧
        (t.ctl c).tec = (s.ctl c).tec - 1 ∧ (t.ctl c).alone = (0, 0) ∧
        t.regN (canIndex c) 0x15 = (s.regN (canIndex c) 0x15 + 1) % 2 ^ 64 ∧
        (x.cancelled = true → t.regN (canIndex c) 0x1A = (s.regN (canIndex c) 0x1A + 1) % 2 ^ 64) ∧
        (∀ d, d ≠ c → t.ctl d = s.ctl d) ∧ Within [.regs, .facets, .log, .can] s t) ∧
    (∀ e : CanError, e.kind < 7 → (s.ctl c).state = 1 ∨ (s.ctl c).state = 2 → (s.ctl c).stopping = false →
      (e.transmitting = true → e.kind ≠ 3 → (s.ctl c).tec + 8 ≤ 255 →
        ∃ t, exec (.busError c e) s = .next t ∧ (t.ctl c).tec = (s.ctl c).tec + 8 ∧ (t.ctl c).recv = (s.ctl c).recv ∧
          (s.canReg c 0x0E = 0 →
            (t.ctl c).state = if 127 < (s.ctl c).tec + 8 ∨ 127 < (s.ctl c).recv then 2 else 1) ∧
          (t.ctl c).offered = none ∧ t.regN (canIndex c) 0x17 = (s.regN (canIndex c) 0x17 + 1) % 2 ^ 64 ∧
          Within [.regs, .facets, .log, .can] s t) ∧
      (e.transmitting = true → e.kind ≠ 3 → 255 < (s.ctl c).tec + 8 →
        ∃ t, exec (.busError c e) s = .next t ∧ (t.ctl c).state = 3 ∧ (t.ctl c).objects = [] ∧ (t.ctl c).offered = none ∧
          t.regN (canIndex c) 0x1E = (s.regN (canIndex c) 0x1E + 1) % 2 ^ 64 ∧ Within [.regs, .facets, .log, .can] s t) ∧
      (e.transmitting = false → (s.ctl c).tec ≤ 255 →
        ∃ t, exec (.busError c e) s = .next t ∧ (t.ctl c).tec = (s.ctl c).tec ∧
          (t.ctl c).recv = Nat.min 128 ((s.ctl c).recv + if e.primary then 8 else 1) ∧
          t.regN (canIndex c) 0x17 = (s.regN (canIndex c) 0x17 + 1) % 2 ^ 64 ∧ Within [.regs, .facets, .log, .can] s t) ∧
      (∀ o x n, e.transmitting = true → e.kind = 3 → (s.ctl c).tec + 8 ≤ 255 → (s.ctl c).offered = some o →
        mapFind (s.ctl c).objects o = some x → x.cancelled = false →
        n = (if (s.ctl c).alone.1 = o then (s.ctl c).alone.2 else 0) + 1 →
        (n < (s.ctl c).limit →
          ∃ t, exec (.busError c e) s = .next t ∧ (t.ctl c).alone = (o, n) ∧ (t.ctl c).objects = (s.ctl c).objects ∧
            (t.ctl c).offered = none ∧ Within [.regs, .facets, .log, .can] s t) ∧
        ((s.ctl c).limit ≤ n →
          ∃ t, exec (.busError c e) s = .next t ∧ (t.ctl c).objects = mapDel o (s.ctl c).objects ∧
            (t.ctl c).offered = none ∧ (t.ctl c).aloneLogged = true ∧
            t.regN (canIndex c) 0x1C = (s.regN (canIndex c) 0x1C + 1) % 2 ^ 64 ∧
            Within [.regs, .facets, .log, .can] s t)))

/-- Controllers (R418, R419, R421, Table 16.5): a recovery from bus-off is asked and ends with both counters at 0; restricted
operation and the enable change the state, a disable empties the controller, at once or after the frame; a clear zeroes the
counters.
Choices of the model that it rests on: log 17. -/
def Obligations.Controllers : Prop :=
  ∀ (s : State) (c : Nat), c < 2 →
    (Accepted s rowReq (ek (0xB000 + c) 0x10) (.int 1) →
      ((s.ctl c).state = 3 →
        ∃ t, exec (.recoverFromBusOff c) s = .next t ∧ t.reply.code = 0 ∧ t.ctl c = { s.ctl c with state := 4 } ∧
          (∀ d, d ≠ c → t.ctl d = s.ctl d) ∧ Within [.reply, .can] s t) ∧
      ((s.ctl c).state ≠ 3 →
        ∃ t, exec (.recoverFromBusOff c) s = .next t ∧ t.reply.code = 0x0C02 ∧ Within [.reply] s t)) ∧
    (s.domOn 1 = true → (s.ctl c).state = 4 → (s.ctl c).stopping = false →
      ∃ t, exec (.recoveryComplete c) s = .next t ∧
        t.ctl c = { s.ctl c with state := if s.canReg c 0x0E = 0 then 1 else 5, tec := 0, recv := 0 } ∧
        (∀ d, d ≠ c → t.ctl d = s.ctl d) ∧ Within [.facets, .log, .can] s t) ∧
    (Accepted s rowReq (ek (0xB000 + c) 0x0E) (.int 1) → (s.ctl c).state = 1 ∨ (s.ctl c).state = 2 →
      (s.ctl c).offered = none →
      ∃ t, exec (.restrictedOperationOn c) s = .next t ∧ t.reply.code = 0 ∧ t.ctl c = { s.ctl c with state := 5 } ∧
        t.regN (canIndex c) 0x0E = 1 ∧ (∀ d, d ≠ c → t.ctl d = s.ctl d) ∧ Within [.reply, .regs, .access, .can] s t) ∧
    (Accepted s rowReq (ek (0xB000 + c) 0x0E) (.int 0) → (s.ctl c).state = 5 →
      (s.ctl c).tec ≤ 127 → (s.ctl c).recv ≤ 127 →
      ∃ t, exec (.restrictedOperationOff c) s = .next t ∧ t.reply.code = 0 ∧ t.ctl c = { s.ctl c with state := 1 } ∧
        t.regN (canIndex c) 0x0E = 0 ∧ (∀ d, d ≠ c → t.ctl d = s.ctl d) ∧ Within [.reply, .regs, .access, .can] s t) ∧
    (Accepted s rowReq (ek (0xB000 + c) 1) (.int 1) → (s.ctl c).state = 0 → (s.ctl c).tec ≤ 127 →
      (s.ctl c).recv ≤ 127 → s.canReg c 0x0E = 0 →
      ∃ t, exec (.controllerEnable c) s = .next t ∧ t.reply.code = 0 ∧
        t.ctl c = { s.ctl c with state := 1, stopping := false } ∧ t.regN (canIndex c) 1 = 1 ∧
        (∀ d, d ≠ c → t.ctl d = s.ctl d) ∧ Within [.reply, .regs, .access, .can] s t) ∧
    (Accepted s rowReq (ek (0xB000 + c) 1) (.int 0) → (s.ctl c).state ≠ 0 →
      ((s.ctl c).offered = none →
        ∃ t, exec (.controllerDisable c) s = .next t ∧ t.reply.code = 0 ∧ (t.ctl c).state = 0 ∧ (t.ctl c).objects = [] ∧
          (t.ctl c).fifo0 = [] ∧ (t.ctl c).fifo1 = [] ∧
          (∀ n, n = (s.ctl c).objects.length + (s.ctl c).fifo0.length + (s.ctl c).fifo1.length → 0 < n →
            t.regN (canIndex c) 0x1B = (s.regN (canIndex c) 0x1B + n) % 2 ^ 64) ∧
          (∀ d, d ≠ c → t.ctl d = s.ctl d) ∧ Within [.reply, .regs, .access, .can] s t) ∧
      ((s.ctl c).offered.isSome = true →
        ∃ t, exec (.controllerDisable c) s = .next t ∧ t.reply.code = 0 ∧
          t.ctl c = { s.ctl c with stopping := true } ∧ (∀ d, d ≠ c → t.ctl d = s.ctl d) ∧
          Within [.reply, .regs, .access, .can] s t)) ∧
    (Accepted s rowReq (ek (0xB000 + c) 0x1F) (.int 1) →
      ∃ t, exec (.controllerClear c) s = .next t ∧ t.reply.code = 0 ∧
        (∀ j, 0x15 ≤ j → j ≤ 0x1E → t.regN (canIndex c) j = 0) ∧
        (∀ k, (k < ek (0xB000 + c) 0x15 ∨ ek (0xB000 + c) 0x1E < k) → regIn t.regs k = regIn s.regs k) ∧
        Within [.reply, .regs] s t)

/-! ### Identity, attestation and tamper response (chapter 17) -/

/-- Attestation (R432, R433, R435): a nonce is queued with its answer due, replaces the session's own, or is refused; the next
queued report is signed with a leaf of its own and a token; the bucket gains tokens up to 16.
Choices of the model that it rests on: log 3, log 17. -/
def Obligations.Attestation : Prop :=
  ∀ s : State,
    (∀ sess nonce, sess ≤ 8 → Accepted s (sessReq sess) (ek 0xA010 1) (.bytes nonce) →
      (s.sec.seed = [] → ∃ t, exec (.attestationNonce sess nonce) s = .next t ∧ t.reply.code = 0x0D01 ∧ Within [.reply] s t) ∧
      (s.sec.seed ≠ [] → s.sec.q < 1073741824 →
        ((∀ p ∈ s.sec.queue, p.1 ≠ sess) → s.sec.queue.length < 8 →
          ∃ t, exec (.attestationNonce sess nonce) s = .next t ∧ t.reply.code = 65536 ∧
            t.sec = { s.sec with queue := s.sec.queue ++ [(sess, nonce)], repState := mapPut sess 1 s.sec.repState } ∧
            Within [.reply, .sec] s t) ∧
        ((∃ p ∈ s.sec.queue, p.1 = sess) →
          ∃ t, exec (.attestationNonce sess nonce) s = .next t ∧ t.reply.code = 65536 ∧
            t.sec = { s.sec with queue := s.sec.queue.map fun p => if p.1 = sess then (sess, nonce) else p } ∧
            Within [.reply, .sec] s t) ∧
        ((∀ p ∈ s.sec.queue, p.1 ≠ sess) → 8 ≤ s.sec.queue.length →
          ∃ t, exec (.attestationNonce sess nonce) s = .next t ∧ t.reply.code = 0x0D04 ∧
            t.sec = { s.sec with attResult := 0x0D04 } ∧ Within [.reply, .sec] s t))) ∧
    (∀ sess nonce rest, s.stewardUp = true → 0 < s.sec.tokens → s.sec.seed ≠ [] →
      (s.sec.queue = (sess, nonce) :: rest → (∀ p ∈ s.sec.queue, p.1 ≠ partnerSlot) → s.sec.q < 1073741824 →
        ∃ t, exec .reportSigned s = .next t ∧ t.sec.queue = rest ∧ t.sec.q = s.sec.q + 1 ∧
          t.sec.tokens = s.sec.tokens - 1 ∧ t.sec.attResult = 0 ∧ mapFind t.sec.repState sess = some 2 ∧
          (∃ sig, mapFind t.sec.reports sess = some (s.reportBody nonce ++ padTo 5396 sig)) ∧
          t.sec.seed = s.sec.seed ∧ Within [.reply, .access, .can, .sec] s t) ∧
      (s.sec.queue = (partnerSlot, nonce) :: rest → s.sec.q < 1073741824 →
        ∃ t, exec .reportSigned s = .next t ∧ t.sec.queue = rest ∧ t.sec.q = s.sec.q + 1 ∧
          t.sec.tokens = s.sec.tokens - 1 ∧ (∃ sig, t.sec.sent = s.reportBody nonce ++ padTo 5396 sig) ∧
          t.sec.reports = s.sec.reports ∧ Within [.sec] s t) ∧
      (s.sec.queue = (sess, nonce) :: rest → (∀ p ∈ s.sec.queue, p.1 ≠ partnerSlot) → 1073741824 ≤ s.sec.q →
        ∃ t, exec .reportSigned s = .next t ∧ t.sec.queue = rest ∧ t.sec.q = s.sec.q ∧ t.sec.attResult = 0x0D03 ∧
          mapFind t.sec.repState sess = some 3 ∧ t.sec.reports = s.sec.reports ∧
          Within [.reply, .access, .facets, .log, .can, .sec] s t)) ∧
    (s.domOn 2 = true →
      ∃ t, exec .tokenGain s = .next t ∧ t.sec = { s.sec with tokens := Nat.min 16 (s.sec.tokens + 1) } ∧
        Within [.sec] s t)

/-- The tamper response and the debug port (R440 to R443): an event zeroises every key and, in a running module, ends its
ownership; a challenge is new at each read; the port opens on a good response only, and is locked by command or by time. The
nonce of a challenge is a free value (log 3). -/
def Obligations.TamperAndDebugPort : Prop :=
  ∀ s : State,
    (∀ x, x < 2 ^ 32 → s.domOn 0 = true →
      (s.sec.state = 0 ∨ s.sec.state = 3 →
        ∃ t, exec (.tamperEvent x) s = .next t ∧
          t.sec = { s.sec with tamperEvents := (s.sec.tamperEvents + 1) % 2 ^ 32, tamperSensors := x % 32,
                               tamperTime := s.time.rtcNow } ∧ Within [.sec] s t) ∧
      (s.sec.state ≠ 0 → s.sec.state ≠ 3 →
        ∃ t, exec (.tamperEvent x) s = .next t ∧ t.sec.state = 3 ∧ t.sec.tamperState = 1 ∧
          t.sec.tamperEvents = (s.sec.tamperEvents + 1) % 2 ^ 32 ∧ t.sec.tamperSensors = x % 32 ∧ t.sec.seed = [] ∧
          t.sec.roots = [] ∧ t.sec.psk = [] ∧ t.sec.mirrorKey = [] ∧ t.sec.epoch = 0 ∧ t.sec.pendKey = [] ∧
          t.sec.migration = [] ∧ t.sec.bound = zero32 ∧ t.sec.queue = [] ∧ t.sec.owners = s.sec.owners ∧
          (s.domOn 2 = false ∨ s.supplied = false ∨ s.boot.held = true ∨ s.boot.phase = 0 → Within [.sec] s t) ∧
          (s.domOn 2 = true → s.supplied = true → s.boot.held = false → 1 ≤ s.boot.phase →
            t.pair.own = false ∧ (s.pair.own = true → t.power.oselOwn = false ∧ t.pair.selfFenced = true) ∧
            t.pair.elig.testBit 1 = true ∧ t.access.sessions = [] ∧ t.sec.partnerState = 0) ∧
          Within [.power, .boot, .access, .time, .logic, .facets, .capture, .pair, .log, .can, .sec] s t)) ∧
    (s.serves 8 = true →
      ∃ t n, exec .unlockChallenge s = .next t ∧ t.reply.code = 0 ∧ t.sec.challenge = some t.reply.payload ∧
        t.reply.payload = padTo 12 Config.serialNumber ++ List.replicate 4 (byteOf 0) ++ padTo 32 n ++
          leBytes 16 (s.sec.challenges + 1) ∧
        t.sec.challenges = s.sec.challenges + 1 ∧ t.sec.debugOpen = s.sec.debugOpen ∧
        Within [.reply, .freeCount, .sec] s t) ∧
    (∀ data, Accepted s (sessReq 8) (ek 0xA040 2) (.bytes data) →
      (s.sec.responseOk data = true →
        ∃ t, exec (.unlockResponse data) s = .next t ∧ t.reply.code = 0 ∧ t.sec = { s.sec with debugOpen := true } ∧
          Within [.reply, .facets, .log, .sec] s t) ∧
      (s.sec.responseOk data = false →
        ∃ t, exec (.unlockResponse data) s = .next t ∧ t.reply.code = 0x0D07 ∧ t.sec = { s.sec with challenge := none } ∧
          Within [.reply, .facets, .log, .sec] s t)) ∧
    (Accepted s (sessReq 8) (ek 0xA040 4) (.int 1) →
      ∃ t, exec .lockDebugPort s = .next t ∧ t.reply.code = 0 ∧ t.sec = { s.sec with debugOpen := false } ∧
        Within [.reply, .sec] s t) ∧
    (s.domOn 2 = true →
      ∃ t, exec .debugPortTimeout s = .next t ∧ t.sec = { s.sec with debugOpen := false } ∧ Within [.sec] s t)

/-- Identity, binding and keys (R437, R438, R444): a new identity in an unprovisioned module, the binding to the identity
received, the unbinding, mirror keys, the migration key and the configuration roots. The seed of an identity is a free value
(log 3).
Choices of the model that it rests on: log 19, log 20, log 23. -/
def Obligations.KeysAndBinding : Prop :=
  ∀ s : State,
    (Accepted s (sessReq 8) (ek 0xA050 1) (.int 1) →
      (s.sec.state ≠ 2 →
        ∃ t x, exec .generateIdentity s = .next t ∧ t.reply.code = 0 ∧
          t.sec = { s.sec.clearKeys with seed := x, state := 1 } ∧ t.freeCount = s.freeCount + 1 ∧
          Within [.reply, .freeCount, .sec] s t) ∧
      (s.sec.state = 2 → ∃ t, exec .generateIdentity s = .next t ∧ t.reply.code = 0x0D0B ∧ Within [.reply] s t)) ∧
    (Accepted s rowReq (ek 0xA020 4) (.int 1) →
      (s.sec.sinceTraining = true →
        ∃ t, exec .bindReceived s = .next t ∧ t.reply.code = 0 ∧ t.sec.bound = s.sec.received ∧
          t.sec.nonce.isSome = true ∧ t.pair.elig.testBit 1 = true ∧ (s.pair.role = 2 → t.pair.role = 3) ∧
          t.sec.mirrorKey = s.sec.mirrorKey ∧ Within [.reply, .freeCount, .facets, .pair, .log, .sec] s t) ∧
      (s.sec.sinceTraining = false →
        ∃ t, exec .bindReceived s = .next t ∧ t.reply.code = 0x0D0A ∧ Within [.reply] s t)) ∧
    (Accepted s rowReq (ek 0xA020 4) (.int 2) →
      ∃ t, exec .unbind s = .next t ∧ t.reply.code = 0 ∧
        t.sec = { s.sec with bound := zero32, mirrorKey := [], epoch := 0, pendKey := [], pendEpoch := 0,
                             sendPending := false, partnerState := 0, binding := none, nonce := t.sec.nonce,
                             queue := t.sec.queue } ∧
        t.sec.nonce.isSome = true ∧ t.freeCount = s.freeCount + 2 ∧
        t.pair.elig.testBit 1 = true ∧ (s.pair.role = 2 → t.pair.role = 3) ∧ t.pair.own = s.pair.own ∧
        Within [.reply, .freeCount, .facets, .pair, .log, .sec] s t) ∧
    (Accepted s rowReq (ek 0xA020 4) (.int 3) →
      (s.lit = false → ∃ t, exec .activatePendingMirrorKey s = .next t ∧ t.reply.code = 0x0A04 ∧ Within [.reply] s t) ∧
      (s.lit = true → s.sec.pendEpoch ≠ 0 →
        ∃ t, exec .activatePendingMirrorKey s = .next t ∧ t.reply.code = 0 ∧
          t.sec = { s.sec with sendPending := true } ∧ Within [.reply, .sec] s t)) ∧
    (∀ data, Accepted s rowReq (ek 0xA020 5) (.bytes data) →
      (s.sec.epoch < leAt data 0 4 →
        ∃ t, exec (.mirrorKey data) s = .next t ∧ t.reply.code = 0 ∧
          t.sec = { s.sec with pendEpoch := leAt data 0 4, pendKey := bytesAt data 4 32, sendPending := false } ∧
          Within [.reply, .sec] s t) ∧
      (leAt data 0 4 ≤ s.sec.epoch →
        ∃ t, exec (.mirrorKey data) s = .next t ∧ t.reply.code = 0x0D09 ∧ Within [.reply] s t)) ∧
    (∀ data, Accepted s rowReq (ek 0xA020 8) (.bytes data) →
      ∃ t, exec (.migrationKey data) s = .next t ∧ t.reply.code = 0 ∧
        t.sec = { s.sec with migration := padTo 32 data } ∧ Within [.reply, .sec] s t) ∧
    (∀ i data, 1 ≤ i → i ≤ 2 → Accepted s rowReq (ek 0xA001 i) (.bytes data) →
      ∃ t, exec (.configurationRoot i data) s = .next t ∧ t.reply.code = 0 ∧
        t.sec = { s.sec with roots := mapPut i data s.sec.roots } ∧ Within [.reply, .access, .facets, .log, .sec] s t)

/-! ### Rules stated whole -/

/-- R12: where the entries of the two rings lie and how long they are. A sample entry of channel c for row R, in slot R mod
256, is written into its 8 bytes and no other byte, and reads back; a phasor entry into its 16 bytes. -/
def Obligations.RingEntries : Prop :=
  ∀ c R : Nat, c < 8192 →
    sampleAddr c R = 0x0100000000 + 2048 * c + 8 * (R % 256) ∧
    phasorAddr c R = 0x0101000000 + 1024 * c + 16 * (R % 64) ∧
    ∀ s : State, s.memOk →
      (∀ (v : Int) (q : Nat), -2147483648 ≤ v → v < 2147483648 → q < 4294967296 →
        sampleValue (s.putSample c R v q).mem c R = v ∧ sampleQuality (s.putSample c R v q).mem c R = q ∧
        (∀ a, a < sampleAddr c R ∨ sampleAddr c R + 8 ≤ a → memRead (s.putSample c R v q).mem a = memRead s.mem a) ∧
        Within [.mem] s (s.putSample c R v q)) ∧
      (∀ re im freq q : Nat, re < 4294967296 → im < 4294967296 → freq < 4294967296 → q < 4294967296 →
        (leNat (memReadList (s.putPhasor c R re im freq q).mem (phasorAddr c R) 4) = re ∧
          leNat (memReadList (s.putPhasor c R re im freq q).mem (phasorAddr c R + 4) 4) = im ∧
          leNat (memReadList (s.putPhasor c R re im freq q).mem (phasorAddr c R + 8) 4) = freq ∧
          leNat (memReadList (s.putPhasor c R re im freq q).mem (phasorAddr c R + 12) 4) = q) ∧
        (∀ a, a < phasorAddr c R ∨ phasorAddr c R + 16 ≤ a →
          memRead (s.putPhasor c R re im freq q).mem a = memRead s.mem a) ∧
        Within [.mem] s (s.putPhasor c R re im freq q))

/-- R84: which role satisfies which requirement, that a session has the one role of its record and a cabinet client that of
its node, and that a read or a write that the role does not satisfy is answered 0x0105 and has no effect. -/
def Obligations.RolesSatisfyRequirements : Prop :=
  (∀ role need : Nat, 1 ≤ role → role ≤ 5 → 1 ≤ need → need ≤ 5 →
    (roleOk role need = true ↔
      if role = 4 then need = 1 ∨ need = 4 else need ≠ 4 ∧ need ≤ role)) ∧
  (∀ (s : State) (m : MapMsg) (x : Session), m.sess < 8 → (s.requester m.sess x).role = x.role) ∧
  (∀ (s : State) (r : CabReq), (s.cabinetRequester r).role = s.cabinetRole r.src) ∧
  (∀ (s : State) (m : MapMsg) (x : Session) (e : Entry), Served s m x → m.sub ≠ 0 → m.sub < 256 →
    entryOf (ek m.index m.sub) = some e →
    (e.acc ≠ 2 → roleOk (s.requester m.sess x).role e.rd = false →
      ∃ t, exec (.read m) s = .next t ∧ t.reply.code = 0x0105 ∧ t.reply.payload = [] ∧ Within [.reply, .access] s t) ∧
    (e.acc ≠ 0 → roleOk (s.requester m.sess x).role e.wr = false →
      ∃ t, exec (.write m) s = .next t ∧ t.reply.code = 0x0105 ∧ t.regs = s.regs ∧ t.blobs = s.blobs ∧
        t.access.overlay = s.access.overlay ∧ Within [.reply, .access] s t)) ∧
  (∀ (s : State) (r : CabReq) (e : Entry), CabinetServed s r → (cabKey r.data) % 256 ≠ 0 →
    entryOf (cabKey r.data) = some e →
    (e.acc ≠ 2 → roleOk (s.cabinetRequester r).role e.rd = false →
      ∃ t, exec (.cabinetRead r) s = .next t ∧ t.reply.code = 0x0105 ∧ Within [.reply, .access, .can] s t) ∧
    (e.acc ≠ 0 → roleOk (s.cabinetRequester r).role e.wr = false →
      ∃ t, exec (.cabinetWrite r) s = .next t ∧ t.reply.code = 0x0105 ∧ Within [.reply, .access, .can] s t))

/-- R109: with 256 operations waiting for the one in progress, a request of a session and one of the cabinet bus is answered
0x0114, and neither the duplicate window nor the toggle state changes. -/
def Obligations.FullQueueAnswered : Prop :=
  ∀ s : State, s.busy = true → 256 ≤ s.access.waiting.length → s.inSequence = false →
    (∀ op ∈ [Instr.read, .write, .writeSet, .describe, .lock, .unlock, .close, .segInitDown, .segDown, .segEndDown,
        .segInitUp, .segUp, .abort],
      ∀ (m : MapMsg) (x : Session), m.sess ≤ 8 → s.session m.sess = some x → s.serves m.sess = true →
        ∃ t, exec (op m) s = .next t ∧ t.reply.code = 0x0114 ∧ t.reply.payload = [] ∧ Within [.reply] s t) ∧
    (∀ op ∈ [Instr.cabinetRead, .cabinetWrite, .cabinetSegmentInitDown, .cabinetSegmentDown, .cabinetSegmentEnd,
        .cabinetSegmentInitUp, .cabinetSegmentUp, .cabinetAbort],
      ∀ r : CabReq, r.ctrl < 2 → r.dst < 256 → r.src < 256 → r.data.length ≤ 64 → s.domOn 1 = true →
        r.dst = s.ownNode r.ctrl → (s.ctl r.ctrl).state = 1 → s.stewardUp = true →
        ∃ t, exec (op r) s = .next t ∧ t.reply.code = 0x0114 ∧ Within [.reply, .can] s t)

/-- R174: the number and the tick instant of the newest sealed row, read at 0x47F0:09 and :0A and in the registers
NEWEST_ROW and NEWEST_TICK of every facet window. -/
def Obligations.NewestRowRead : Prop :=
  ∀ (s : State) (num inst : Nat), s.lens.newest = some (num, inst) →
    (∀ (m : MapMsg) (x : Session), Served s m x → (s.requester m.sess x).role = 1 → s.pathOk (s.requester m.sess x) (ek 0x47F0 m.sub) false = true →
      m.index = 0x47F0 →
      (m.sub = 9 → num < 2 ^ 64 →
        ∃ t, exec (.read m) s = .next t ∧ t.reply.code = 0 ∧ t.reply.payload = beBytes 8 num ∧
          Within [.reply, .access] s t) ∧
      (m.sub = 0x0A →
        ∃ t, exec (.read m) s = .next t ∧ t.reply.code = 0 ∧
          t.reply.payload = beBytes 6 (inst / 1000000000) ++ beBytes 4 (inst % 1000000000) ∧
          Within [.reply, .access] s t)) ∧
    ∀ n, s.windowRead n 0x0038 = num ∧ s.windowRead n 0x0040 = inst

/-- R396: what a facet sees of the log, what the steward, the sessions and the cabinet clients (readers from 256) see, and
what a facet reset does to its reader. -/
def Obligations.LogViews : Prop :=
  (∀ (n : Nat) (r : LogRecord),
    (n < 256 → (inView n r = true ↔ r.facet = n ∨
      r.typ ∈ [0x0301, 0x0302, 0x0A01, 0x0B01, 0x0B04, 0x0B06, 0x0E02])) ∧
    (256 ≤ n → inView n r = true)) ∧
  ∀ (s : State) (n : Nat), n < 256 → Accepted s rowReq (ek (0x5000 + n) 2) (.int 6) →
    (s.facet n).state ≠ 0 → (s.facet n).state ≠ 7 → ∀ k, mapFind s.log.cursors n = some k →
      ∃ t k', exec (.facetReset n) s = .next t ∧
        mapFind t.log.cursors n = some k' ∧ k'.cursor = 0 ∧ k'.notify = false

/-- R397: a record that enters the view of a facet with EN set sends notice 0x0B81 with AG_NEXT as its one slot, and clears
EN; with EN clear, or outside the view, nothing is sent to the facet. -/
def Obligations.LogNotices : Prop :=
  ∀ (s : State) (q : LogReq) (n : Nat) (k : Cursor), q.typ < 65536 → q.data.length ≤ 32 → n < 256 →
    s.domOn 2 = true → s.supplied = true → s.log.ready = true → s.log.bankMode = false →
    (logUnlimited q.typ = true ∨ mapGet s.log.second q.typ 0 < 256) →
    (s.log.cursors.map (·.1)).Nodup → mapFind s.log.cursors n = some k →
    ∃ t k', exec (.logRecord q) s = .next t ∧ mapFind t.log.cursors n = some k' ∧ t.log.next = s.log.next + 1 ∧
      (inView n (s.recordOf q s.log.next) = true → k'.notify = false ∧
        (k.notify = true → (s.facet n).launched = true → (s.facet n).mbox.held = [] →
          sub32 (s.facet n).mbox.inProd (s.facet n).mbox.inCons + 2 ≤ 16 →
          (t.facet n).mbox.inProd = ((s.facet n).mbox.inProd + 2) % 2 ^ 32 ∧
          mapGet (t.facet n).mbox.inSlots ((s.facet n).mbox.inProd % 16) 0 =
            msgHeader (s.facet n).mbox.noticeTag 0x0B81 1 0 ∧
          mapGet (t.facet n).mbox.inSlots (((s.facet n).mbox.inProd + 1) % 16) 0 = t.log.next)) ∧
      (inView n (s.recordOf q s.log.next) = false → k'.notify = k.notify) ∧
      (inView n (s.recordOf q s.log.next) = false ∨ k.notify = false → (t.facet n).mbox = (s.facet n).mbox) ∧
      Within [.facets, .log] s t

end
end

