-- ==== Sys2Proof/Laws/Memory.lean ====
section
/-! SUPPORT. Memory: every operation keeps the canonical form; reading after writing (R11, log 4). -/

namespace Sys2Proof.Machine

set_option Elab.async false

/-- The canonical form in two parts: no default byte is listed, and addresses rise. -/
theorem Memory.wf_iff (m : Mem) :
    Memory.wf m = true ↔ (∀ c ∈ m, c.2 ≠ unlisted c.1) ∧ m.Pairwise fun c d => c.1 < d.1 := by
  induction m with
  | nil => simp [Memory.wf]
  | cons c l ih =>
    cases l with
    | nil => simp [Memory.wf]
    | cons d l =>
      simp only [Memory.wf, Bool.and_eq_true, decide_eq_true_eq, ih, List.mem_cons, List.pairwise_cons]
      constructor
      · rintro ⟨⟨h1, h2⟩, h3, h4, h5⟩
        refine ⟨?_, ?_, h4, h5⟩
        · rintro x (rfl | hx)
          · exact h1
          · exact h3 x hx
        · rintro x (rfl | hx)
          · exact h2
          · exact Nat.lt_trans h2 (h4 x hx)
      · rintro ⟨h1, h2, h3, h4⟩
        exact ⟨⟨h1 c (.inl rfl), h2 d (.inl rfl)⟩, fun x hx => h1 x (.inr hx), h3, h4⟩

/-- What a write leaves listed: the entries of before, but for the address written, and the byte itself. -/
theorem mem_memWrite {m : Mem} {a : Nat} {v : Byte} {c : Host.Cell} (h : c ∈ memWrite m a v) :
    (c ∈ m) ∨ (c = (a, v) ∧ v ≠ unlisted a) := by
  induction m with
  | nil =>
    unfold memWrite at h; split at h
    · cases h
    · exact .inr ⟨by simpa using h, ‹_›⟩
  | cons d l ih =>
    unfold memWrite at h
    split at h
    · split at h
      · exact .inl h
      · rcases List.mem_cons.1 h with h | h
        · exact .inr ⟨h, ‹_›⟩
        · exact .inl h
    · split at h
      · split at h
        · exact .inl (List.mem_cons_of_mem _ h)
        · rcases List.mem_cons.1 h with h | h
          · exact .inr ⟨h, ‹_›⟩
          · exact .inl (List.mem_cons_of_mem _ h)
      · rcases List.mem_cons.1 h with h | h
        · exact .inl (h ▸ List.mem_cons_self)
        · exact (ih h).imp (List.mem_cons_of_mem _) id

theorem memWrite_wf (m : Mem) (a : Nat) (v : Byte) (h : Memory.wf m = true) : Memory.wf (memWrite m a v) = true := by
  rw [Memory.wf_iff] at *
  refine ⟨fun c hc => ?_, ?_⟩
  · rcases mem_memWrite hc with h1 | ⟨rfl, h2⟩
    · exact h.1 c h1
    · exact h2
  · replace h := h.2
    induction m with
    | nil => unfold memWrite; split <;> simp
    | cons d l ih =>
      have hl := List.pairwise_cons.1 h
      unfold memWrite
      split
      · split
        · exact h
        · refine List.pairwise_cons.2 ⟨fun x hx => ?_, h⟩
          rcases List.mem_cons.1 hx with rfl | hx
          · assumption
          · have := hl.1 x hx; dsimp only at *; omega
      · split
        · split
          · exact hl.2
          · refine List.pairwise_cons.2 ⟨fun x hx => ?_, hl.2⟩
            have := hl.1 x hx; dsimp only at *; omega
        · refine List.pairwise_cons.2 ⟨fun x hx => ?_, ih hl.2⟩
          rcases mem_memWrite hx with h1 | ⟨rfl, _⟩
          · exact hl.1 x h1
          · dsimp only at *; omega

theorem memWriteList_wf (b : ByteList) : ∀ (m : Mem) (a : Nat), Memory.wf m = true → Memory.wf (memWriteList m a b) = true := by
  induction b with
  | nil => exact fun _ _ h => h
  | cons x b ih => exact fun m a h => ih _ _ (memWrite_wf m a x h)

theorem memClear_wf (m : Mem) (lo hi : Nat) (h : Memory.wf m = true) : Memory.wf (memClear m lo hi) = true := by
  rw [Memory.wf_iff] at *
  exact ⟨fun c hc => h.1 c ((List.mem_filter.1 hc).1), h.2.filter _⟩

theorem setAreaBit_wf (area i : Nat) (b : Bool) (m : Mem) (h : Memory.wf m = true) :
    Memory.wf (setAreaBit area i b m) = true := memWrite_wf _ _ _ h

theorem setMemWord_wf (kind i v : Nat) (m : Mem) (h : Memory.wf m = true) : Memory.wf (setMemWord kind i v m) = true :=
  memWriteList_wf _ _ _ h

theorem guestWrite_wf (f : Facet) (b : ByteList) :
    ∀ (m : Mem) (a : Nat), Memory.wf m = true → Memory.wf (guestWrite m f a b) = true := by
  induction b with
  | nil => exact fun _ _ h => h
  | cons x b ih => exact fun m a h => ih _ _ (memWrite_wf m _ x h)

theorem writeField_wf (f : Facet) (m : Mem) (a : Nat) (b : ByteList) (h : Memory.wf m = true) :
    Memory.wf (f.writeField m a b) = true := by
  unfold Facet.writeField
  split
  · exact guestWrite_wf f b m a h
  · exact h

theorem clearUnits_wf (l : List Nat) : ∀ m : Mem, Memory.wf m = true → Memory.wf (clearUnits m l) = true := by
  induction l with
  | nil => exact fun _ h => h
  | cons u l ih => exact fun m h => ih _ (memClear_wf m _ _ h)

/-- A list of edits, each of which keeps the form. -/
theorem foldl_wf {α : Type} (f : Mem → α → Mem) (hf : ∀ m a, Memory.wf m = true → Memory.wf (f m a) = true) (l : List α) :
    ∀ m : Mem, Memory.wf m = true → Memory.wf (l.foldl f m) = true := by
  induction l with
  | nil => exact fun _ h => h
  | cons x l ih => exact fun m h => ih _ (hf m x h)

theorem putOwned_wf (space i v : Nat) (m : Mem) (h : Memory.wf m = true) : Memory.wf (putOwned space i v m) = true := by
  unfold putOwned
  split
  · exact setMemWord_wf _ _ _ _ h
  · split
    · exact setMemWord_wf _ _ _ _ h
    · exact setAreaBit_wf _ _ _ _ h

theorem putAll_wf (l : List (Nat × Nat × Nat)) (m : Mem) (h : Memory.wf m = true) : Memory.wf (putAll l m) = true :=
  foldl_wf _ (fun _ _ => putOwned_wf _ _ _ _) l m h

theorem takeClaims_wf (old : Option ProgImage) (new : ProgImage) (fresh : Nat → Bool) (m : Mem) (h : Memory.wf m = true) :
    Memory.wf (takeClaims old new fresh m) = true := foldl_wf _ (fun _ _ => putOwned_wf _ _ _ _) _ m h

theorem clearClaims_wf (i : ProgImage) (sel : Nat → Bool) (m : Mem) (h : Memory.wf m = true) :
    Memory.wf (clearClaims i sel m) = true := foldl_wf _ (fun _ _ => putOwned_wf _ _ _ _) _ m h

/-! ### Reading after writing -/

/-- Below every listed address, memory reads as unlisted. -/
theorem memRead_below (m : Mem) (a : Nat) (h : ∀ c ∈ m, a < c.1) : memRead m a = unlisted a := by
  induction m with
  | nil => rfl
  | cons c l ih =>
    have := h c (List.mem_cons_self)
    unfold memRead
    rw [if_neg (by omega)]
    exact ih fun x hx => h x (List.mem_cons_of_mem _ hx)

theorem memRead_memWrite_same (m : Mem) (a : Nat) (v : Byte) (h : Memory.wf m = true) : memRead (memWrite m a v) a = v := by
  rw [Memory.wf_iff] at h
  replace h := h.2
  induction m with
  | nil => unfold memWrite; split <;> simp_all [memRead]
  | cons c l ih =>
    have hl := List.pairwise_cons.1 h
    unfold memWrite
    split
    · split
      · rw [memRead_below _ _ fun x hx => ?_, ‹v = _›]
        rcases List.mem_cons.1 hx with rfl | hx
        · assumption
        · have := hl.1 x hx; omega
      · simp [memRead]
    · split
      · split
        · rw [memRead_below _ _ fun x hx => ?_, ‹v = _›]
          have := hl.1 x hx; omega
        · simp [memRead]
      · rw [memRead, if_neg (by omega)]
        exact ih hl.2

theorem memRead_memWrite_other (m : Mem) (a b : Nat) (v : Byte) (hab : b ≠ a) :
    memRead (memWrite m a v) b = memRead m b := by
  induction m with
  | nil =>
    unfold memWrite; split
    · rfl
    · simp only [memRead]; rw [if_neg (by omega)]
  | cons c l ih =>
    unfold memWrite
    split
    · split
      · rfl
      · simp only [memRead]; rw [if_neg (by omega)]
    · split
      · split
        · rw [memRead]; rw [if_neg (by omega)]
        · simp only [memRead]; rw [if_neg (by omega), if_neg (by omega)]
      · simp only [memRead, ih]

/-- A write of several bytes leaves every byte outside them. -/
theorem memRead_memWriteList_other (l : ByteList) : ∀ (m : Mem) (a b : Nat), b < a ∨ a + l.length ≤ b →
    memRead (memWriteList m a l) b = memRead m b := by
  induction l with
  | nil => intro m a b _; rfl
  | cons x l ih =>
    intro m a b h
    simp only [List.length_cons] at h
    unfold memWriteList
    rw [ih _ _ _ (by omega), memRead_memWrite_other _ _ _ _ (by omega)]

end Sys2Proof.Machine
end

