-- ==== Sys2Proof/Laws/Within.lean ====
section
/-! SUPPORT. How frames compose: an effect within some parts after another, over a list, under a guard, and the update of
named fields of the state. -/

namespace Sys2Proof.Machine

set_option Elab.async false

theorem Within.refl (F : List Part) (s : State) : Within F s s :=
  ⟨rfl, id, id, fun p _ => by cases p <;> rfl⟩

theorem State.same_trans {a b c : State} (p : Part) (h : a.same b p) (k : b.same c p) : a.same c p := by
  cases p <;> simp only [State.same] at * <;> exact k.trans h

theorem Within.step {F G : List Part} {a b c : State} (k : Within G b c) (hg : G ⊆ F) (h : Within F a b) : Within F a c :=
  ⟨k.queue.trans h.queue, k.mem ∘ h.mem, k.owner ∘ h.owner,
   fun p hp => State.same_trans p (h.rest p hp) (k.rest p fun m => hp (hg m))⟩

theorem Within.upd {F : List Part} {s t : State} {reply' : Reply} {freeCount' : Nat} {regs' : Map Int} {blobs' : Map ByteList} {tickRegs' : Map Int} {power' : Power} {boot' : Boot} {access' : Access} {time' : Time} {fabric' : Fabric} {lens' : Lens} {phasor' : Phasor} {goose' : Goose} {logic' : Logic} {facets' : Facets} {capture' : Capture} {pair' : Pair} {log' : Log} {health' : Health} {can' : Can} {sec' : Security}
    (h : Within F s t)
    (_reply : .reply ∈ F ∨ reply' = t.reply := by first | exact .inl (by decide) | exact .inr rfl)
    (_freeCount : .freeCount ∈ F ∨ freeCount' = t.freeCount := by first | exact .inl (by decide) | exact .inr rfl)
    (_regs : .regs ∈ F ∨ regs' = t.regs := by first | exact .inl (by decide) | exact .inr rfl)
    (_blobs : .blobs ∈ F ∨ blobs' = t.blobs := by first | exact .inl (by decide) | exact .inr rfl)
    (_tickRegs : .tickRegs ∈ F ∨ tickRegs' = t.tickRegs := by first | exact .inl (by decide) | exact .inr rfl)
    (_power : .power ∈ F ∨ power' = t.power := by first | exact .inl (by decide) | exact .inr rfl)
    (_boot : .boot ∈ F ∨ boot' = t.boot := by first | exact .inl (by decide) | exact .inr rfl)
    (_access : .access ∈ F ∨ access' = t.access := by first | exact .inl (by decide) | exact .inr rfl)
    (_time : .time ∈ F ∨ time' = t.time := by first | exact .inl (by decide) | exact .inr rfl)
    (_fabric : .fabric ∈ F ∨ fabric' = t.fabric := by first | exact .inl (by decide) | exact .inr rfl)
    (_lens : .lens ∈ F ∨ lens' = t.lens := by first | exact .inl (by decide) | exact .inr rfl)
    (_phasor : .phasor ∈ F ∨ phasor' = t.phasor := by first | exact .inl (by decide) | exact .inr rfl)
    (_goose : .goose ∈ F ∨ goose' = t.goose := by first | exact .inl (by decide) | exact .inr rfl)
    (_logic : .logic ∈ F ∨ logic' = t.logic := by first | exact .inl (by decide) | exact .inr rfl)
    (_facets : .facets ∈ F ∨ facets' = t.facets := by first | exact .inl (by decide) | exact .inr rfl)
    (_capture : .capture ∈ F ∨ capture' = t.capture := by first | exact .inl (by decide) | exact .inr rfl)
    (_pair : .pair ∈ F ∨ pair' = t.pair := by first | exact .inl (by decide) | exact .inr rfl)
    (_log : .log ∈ F ∨ log' = t.log := by first | exact .inl (by decide) | exact .inr rfl)
    (_health : .health ∈ F ∨ health' = t.health := by first | exact .inl (by decide) | exact .inr rfl)
    (_can : .can ∈ F ∨ can' = t.can := by first | exact .inl (by decide) | exact .inr rfl)
    (_sec : .sec ∈ F ∨ sec' = t.sec := by first | exact .inl (by decide) | exact .inr rfl)
    (ho : pair'.own = t.pair.own ∧ pair'.role = t.pair.role ∧ power'.oselOwn = t.power.oselOwn := by exact ⟨rfl, rfl, rfl⟩) :
    Within F s (State.mk t.pending reply' freeCount' regs' blobs' tickRegs' t.mem power' boot' access' time' fabric' lens' phasor' goose' logic' facets' capture' pair' log' health' can' sec') := by
  refine ⟨h.queue, h.mem, fun o => ?_, fun p hp => ?_⟩
  · have := h.owner o; unfold State.ownership at *; dsimp only; rw [ho.1, ho.2.1, ho.2.2]; exact this
  · refine State.same_trans p (h.rest p hp) ?_
    cases p <;> first | exact Or.resolve_left ‹_› hp | exact absurd ‹_› hp | rfl

theorem Within.list {α : Type} {F : List Part} {s : State} (f : α → State → State) (hf : ∀ a t, Within F t (f a t)) (l : List α) (t : State)
    (h : Within F s t) : Within F s (applyAll f l t) := by
  induction l generalizing t with
  | nil => exact h
  | cons a l ih => exact ih _ ((hf a t).step (fun _ => id) h)

theorem Within.when {F : List Part} {s t : State} (b : Bool) (f : State → State) (hf : ∀ t, Within F t (f t)) (h : Within F s t) :
    Within F s (t.when b f) := by
  unfold State.when; split
  · exact (hf t).step (fun _ => id) h
  · exact h

theorem Within.foldl {α : Type} {F : List Part} {s : State} (f : State → α → State) (hf : ∀ a t, Within F t (f t a)) (l : List α)
    (t : State) (h : Within F s t) : Within F s (l.foldl f t) := by
  induction l generalizing t with
  | nil => exact h
  | cons a l ih => exact ih _ ((hf a t).step (fun _ => id) h)

theorem Within.foldl1 {α β : Type} {F : List Part} {s : State} (f : State × β → α → State × β)
    (hf : ∀ a t b, Within F t (f (t, b) a).1) (l : List α) (t : State) (b : β) (h : Within F s t) :
    Within F s (l.foldl f (t, b)).1 := by
  induction l generalizing t b with
  | nil => exact h
  | cons a l ih => exact ih _ _ ((hf a t b).step (fun _ => id) h)

theorem Within.foldl2 {α β : Type} {F : List Part} {s : State} (f : β × State → α → β × State)
    (hf : ∀ a t b, Within F t (f (b, t) a).2) (l : List α) (t : State) (b : β) (h : Within F s t) :
    Within F s (l.foldl f (b, t)).2 := by
  induction l generalizing t b with
  | nil => exact h
  | cons a l ih => exact ih _ _ ((hf a t b).step (fun _ => id) h)

theorem Within.ite {F : List Part} {s a b : State} {c : Prop} [Decidable c] (ha : c → Within F s a) (hb : ¬c → Within F s b) :
    Within F s (if c then a else b) := by
  split
  · exact ha ‹_›
  · exact hb ‹_›

theorem Within.iteR {α : Type} {F : List Part} {s : State} {a b : α × State} {c : Prop} [Decidable c] (ha : c → Within F s a.2)
    (hb : ¬c → Within F s b.2) : Within F s (if c then a else b).2 := by
  split
  · exact ha ‹_›
  · exact hb ‹_›

theorem Within.ofEq {α : Type} {F : List Part} {s t : State} {p : α × State} {a : α} (h : p = (a, t)) (k : Within F s p.2) :
    Within F s t := by
  rw [h] at k; exact k

theorem Within.ofEq3 {α β : Type} {F : List Part} {s t : State} {p : α × β × State} {a : α} {b : β} (h : p = (a, b, t))
    (k : Within F s p.2.2) : Within F s t := by
  rw [h] at k; exact k

theorem Within.ofEq4 {α β γ : Type} {F : List Part} {s t : State} {p : α × β × γ × State} {a : α} {b : β} {c : γ}
    (h : p = (a, b, c, t)) (k : Within F s p.2.2.2) : Within F s t := by
  rw [h] at k; exact k

theorem Within.ofEqL {α : Type} {F : List Part} {s t : State} {p : State × α} {a : α} (h : p = (t, a)) (k : Within F s p.1) :
    Within F s t := by
  rw [h] at k; exact k

theorem State.setPower_within {F : List Part} {s t : State} (f : Power → Power)
    (ho : ∀ p, (f p).oselOwn = true → p.oselOwn = true) (hf : .power ∈ F) (h : Within F s t) : Within F s (t.setPower f) := by
  refine ⟨h.queue, h.mem, fun o => ⟨fun k => (h.owner o).1 (ho _ k), (h.owner o).2⟩, fun p hp => ?_⟩
  refine State.same_trans p (h.rest p hp) ?_
  cases p <;> first | exact absurd hf hp | rfl

theorem State.setBoot_within {F : List Part} {s t : State} (f : Boot → Boot) (hf : .boot ∈ F) (h : Within F s t) :
    Within F s (t.setBoot f) := Within.upd h (_boot := .inl hf)

theorem State.setPair_within {F : List Part} {s t : State} (f : Pair → Pair) (ho : ∀ p, (f p).own = p.own ∧ (f p).role = p.role)
    (hf : .pair ∈ F) (h : Within F s t) : Within F s (t.setPair f) :=
  Within.upd h (_pair := .inl hf) (ho := ⟨(ho _).1, (ho _).2, rfl⟩)

theorem Within.updMem {F : List Part} {s t : State} {reply' : Reply} {freeCount' : Nat} {regs' : Map Int} {blobs' : Map ByteList} {tickRegs' : Map Int} {mem' : Mem} {power' : Power} {boot' : Boot} {access' : Access} {time' : Time} {fabric' : Fabric} {lens' : Lens} {phasor' : Phasor} {goose' : Goose} {logic' : Logic} {facets' : Facets} {capture' : Capture} {pair' : Pair} {log' : Log} {health' : Health} {can' : Can} {sec' : Security}
    (h : Within F s t) (hm : Memory.wf t.mem = true → Memory.wf mem' = true)
    (_mem : .mem ∈ F := by decide)
    (_reply : .reply ∈ F ∨ reply' = t.reply := by first | exact .inl (by decide) | exact .inr rfl)
    (_freeCount : .freeCount ∈ F ∨ freeCount' = t.freeCount := by first | exact .inl (by decide) | exact .inr rfl)
    (_regs : .regs ∈ F ∨ regs' = t.regs := by first | exact .inl (by decide) | exact .inr rfl)
    (_blobs : .blobs ∈ F ∨ blobs' = t.blobs := by first | exact .inl (by decide) | exact .inr rfl)
    (_tickRegs : .tickRegs ∈ F ∨ tickRegs' = t.tickRegs := by first | exact .inl (by decide) | exact .inr rfl)
    (_power : .power ∈ F ∨ power' = t.power := by first | exact .inl (by decide) | exact .inr rfl)
    (_boot : .boot ∈ F ∨ boot' = t.boot := by first | exact .inl (by decide) | exact .inr rfl)
    (_access : .access ∈ F ∨ access' = t.access := by first | exact .inl (by decide) | exact .inr rfl)
    (_time : .time ∈ F ∨ time' = t.time := by first | exact .inl (by decide) | exact .inr rfl)
    (_fabric : .fabric ∈ F ∨ fabric' = t.fabric := by first | exact .inl (by decide) | exact .inr rfl)
    (_lens : .lens ∈ F ∨ lens' = t.lens := by first | exact .inl (by decide) | exact .inr rfl)
    (_phasor : .phasor ∈ F ∨ phasor' = t.phasor := by first | exact .inl (by decide) | exact .inr rfl)
    (_goose : .goose ∈ F ∨ goose' = t.goose := by first | exact .inl (by decide) | exact .inr rfl)
    (_logic : .logic ∈ F ∨ logic' = t.logic := by first | exact .inl (by decide) | exact .inr rfl)
    (_facets : .facets ∈ F ∨ facets' = t.facets := by first | exact .inl (by decide) | exact .inr rfl)
    (_capture : .capture ∈ F ∨ capture' = t.capture := by first | exact .inl (by decide) | exact .inr rfl)
    (_pair : .pair ∈ F ∨ pair' = t.pair := by first | exact .inl (by decide) | exact .inr rfl)
    (_log : .log ∈ F ∨ log' = t.log := by first | exact .inl (by decide) | exact .inr rfl)
    (_health : .health ∈ F ∨ health' = t.health := by first | exact .inl (by decide) | exact .inr rfl)
    (_can : .can ∈ F ∨ can' = t.can := by first | exact .inl (by decide) | exact .inr rfl)
    (_sec : .sec ∈ F ∨ sec' = t.sec := by first | exact .inl (by decide) | exact .inr rfl)
    (ho : pair'.own = t.pair.own ∧ pair'.role = t.pair.role ∧ power'.oselOwn = t.power.oselOwn := by exact ⟨rfl, rfl, rfl⟩) :
    Within F s (State.mk t.pending reply' freeCount' regs' blobs' tickRegs' mem' power' boot' access' time' fabric' lens' phasor' goose' logic' facets' capture' pair' log' health' can' sec') := by
  refine ⟨h.queue, fun k => hm (h.mem k), fun o => ?_, fun p hp => ?_⟩
  · have := h.owner o; unfold State.ownership at *; dsimp only; rw [ho.1, ho.2.1, ho.2.2]; exact this
  · refine State.same_trans p (h.rest p hp) ?_
    cases p <;> first | exact Or.resolve_left ‹_› hp | exact absurd ‹_› hp | rfl

/-- A memory written so that it keeps its form. -/
theorem Within.memory {F : List Part} {s t : State} {m : Mem} (hm : Memory.wf t.mem = true → Memory.wf m = true) (hf : .mem ∈ F)
    (h : Within F s t) : Within F s { t with mem := m } := by
  refine ⟨h.queue, fun k => hm (h.mem k), h.owner, fun p hp => ?_⟩
  refine State.same_trans p (h.rest p hp) ?_
  cases p <;> first | exact absurd hf hp | rfl

theorem State.editMem_within {F : List Part} {s t : State} (f : Mem → Mem) (hm : ∀ m, Memory.wf m = true → Memory.wf (f m) = true)
    (hf : .mem ∈ F) (hl : .logic ∈ F) (h : Within F s t) : Within F s (t.editMem f) :=
  Within.upd (Within.memory (hm _) hf h) (_logic := .inl hl)

/-- Neither the old nor the new role is LIT. -/
theorem State.roleChanged_within {F : List Part} (s : State) (r : Nat) (h1 : r ≠ 1) (h2 : s.pair.role ≠ 1)
    (hf : .pair ∈ F := by decide) : Within F s { s with pair := { s.pair with role := r } } := by
  refine ⟨rfl, id, fun o => ⟨o.1, ?_⟩, fun p hp => ?_⟩
  · have := o.2
    simp only [h1, h2, iff_false] at *
    exact this
  · cases p <;> first | exact absurd hf hp | rfl

/-! ### Without the rule of ownership

Gaining and releasing break the rule and restore it; between, only the rest is kept. -/

/-- As Within, but for the rule of ownership. -/
structure Keeps (F : List Part) (s t : State) : Prop where
  queue : t.pending = s.pending
  mem : s.memOk → t.memOk
  rest : ∀ p, p ∉ F → s.same t p

theorem Within.keeps {F : List Part} {s t : State} (h : Within F s t) : Keeps F s t := ⟨h.queue, h.mem, h.rest⟩

theorem Keeps.step {F G : List Part} {a b c : State} (k : Within G b c) (hg : G ⊆ F) (h : Keeps F a b) : Keeps F a c :=
  ⟨k.queue.trans h.queue, k.mem ∘ h.mem, fun p hp => State.same_trans p (h.rest p hp) (k.rest p fun m => hp (hg m))⟩

theorem Keeps.within {F : List Part} {s t : State} (h : Keeps F s t) (ho : s.ownership → t.ownership) : Within F s t :=
  ⟨h.queue, h.mem, ho, h.rest⟩

/-- The owner's fields written. -/
theorem Keeps.own {F : List Part} {s t : State} {p : Power} {q : Pair} (h : Keeps F s t) (hp : .power ∈ F) (hq : .pair ∈ F) :
    Keeps F s { t with power := p, pair := q } := by
  refine ⟨h.queue, h.mem, fun x hx => State.same_trans x (h.rest x hx) ?_⟩
  cases x <;> first | exact absurd hp hx | exact absurd hq hx | rfl

/-! ### One part

A part that a frame does not name is the same. -/

theorem Within.same_reply {F : List Part} {s t : State} (h : Within F s t) (hp : .reply ∉ F := by decide) : t.reply = s.reply := h.rest .reply hp
theorem Within.same_freeCount {F : List Part} {s t : State} (h : Within F s t) (hp : .freeCount ∉ F := by decide) : t.freeCount = s.freeCount := h.rest .freeCount hp
theorem Within.same_regs {F : List Part} {s t : State} (h : Within F s t) (hp : .regs ∉ F := by decide) : t.regs = s.regs := h.rest .regs hp
theorem Within.same_blobs {F : List Part} {s t : State} (h : Within F s t) (hp : .blobs ∉ F := by decide) : t.blobs = s.blobs := h.rest .blobs hp
theorem Within.same_tickRegs {F : List Part} {s t : State} (h : Within F s t) (hp : .tickRegs ∉ F := by decide) : t.tickRegs = s.tickRegs := h.rest .tickRegs hp
theorem Within.same_mem {F : List Part} {s t : State} (h : Within F s t) (hp : .mem ∉ F := by decide) : t.mem = s.mem := h.rest .mem hp
theorem Within.same_power {F : List Part} {s t : State} (h : Within F s t) (hp : .power ∉ F := by decide) : t.power = s.power := h.rest .power hp
theorem Within.same_boot {F : List Part} {s t : State} (h : Within F s t) (hp : .boot ∉ F := by decide) : t.boot = s.boot := h.rest .boot hp
theorem Within.same_access {F : List Part} {s t : State} (h : Within F s t) (hp : .access ∉ F := by decide) : t.access = s.access := h.rest .access hp
theorem Within.same_time {F : List Part} {s t : State} (h : Within F s t) (hp : .time ∉ F := by decide) : t.time = s.time := h.rest .time hp
theorem Within.same_fabric {F : List Part} {s t : State} (h : Within F s t) (hp : .fabric ∉ F := by decide) : t.fabric = s.fabric := h.rest .fabric hp
theorem Within.same_lens {F : List Part} {s t : State} (h : Within F s t) (hp : .lens ∉ F := by decide) : t.lens = s.lens := h.rest .lens hp
theorem Within.same_phasor {F : List Part} {s t : State} (h : Within F s t) (hp : .phasor ∉ F := by decide) : t.phasor = s.phasor := h.rest .phasor hp
theorem Within.same_goose {F : List Part} {s t : State} (h : Within F s t) (hp : .goose ∉ F := by decide) : t.goose = s.goose := h.rest .goose hp
theorem Within.same_logic {F : List Part} {s t : State} (h : Within F s t) (hp : .logic ∉ F := by decide) : t.logic = s.logic := h.rest .logic hp
theorem Within.same_facets {F : List Part} {s t : State} (h : Within F s t) (hp : .facets ∉ F := by decide) : t.facets = s.facets := h.rest .facets hp
theorem Within.same_capture {F : List Part} {s t : State} (h : Within F s t) (hp : .capture ∉ F := by decide) : t.capture = s.capture := h.rest .capture hp
theorem Within.same_pair {F : List Part} {s t : State} (h : Within F s t) (hp : .pair ∉ F := by decide) : t.pair = s.pair := h.rest .pair hp
theorem Within.same_log {F : List Part} {s t : State} (h : Within F s t) (hp : .log ∉ F := by decide) : t.log = s.log := h.rest .log hp
theorem Within.same_health {F : List Part} {s t : State} (h : Within F s t) (hp : .health ∉ F := by decide) : t.health = s.health := h.rest .health hp
theorem Within.same_can {F : List Part} {s t : State} (h : Within F s t) (hp : .can ∉ F := by decide) : t.can = s.can := h.rest .can hp
theorem Within.same_sec {F : List Part} {s t : State} (h : Within F s t) (hp : .sec ∉ F := by decide) : t.sec = s.sec := h.rest .sec hp

/-- A frame may name more parts. -/
theorem Within.mono {F G : List Part} {s t : State} (h : Within F s t) (hg : F ⊆ G := by decide) : Within G s t :=
  ⟨h.queue, h.mem, h.owner, fun p hp => h.rest p fun m => hp (hg m)⟩

end Sys2Proof.Machine
end

