-- ==== Sys2Proof/Laws/FrameCore.lean ====
section
/-! SUPPORT. Frames of the shared operations: registers, notices, the log, roles and keys: what each operation can change. -/

namespace Sys2Proof.Machine

set_option Elab.async false

theorem State.setReg_within (s : State) (index : Nat) (sub : Nat) (v : Int) : Within [.regs] s (State.setReg s index sub v) := by
  unfold State.setReg
  exact Within.upd <| Within.refl _ _

theorem State.setBlob_within (s : State) (index : Nat) (sub : Nat) (v : ByteList) : Within [.blobs] s (State.setBlob s index sub v) := by
  unfold State.setBlob
  exact Within.upd <| Within.refl _ _

theorem State.answer_within (s : State) (code : Nat) (payload : ByteList) : Within [.reply] s (State.answer s code payload) := by
  unfold State.answer
  exact Within.upd <| Within.refl _ _

theorem State.nextFree_within (s : State) : Within [.freeCount] s (State.nextFree s) := by
  unfold State.nextFree
  exact Within.upd <| Within.refl _ _

theorem State.advanceTo_within (s : State) (t : Nat) : Within [.time] s (State.advanceTo s t) := by
  unfold State.advanceTo
  refine Within.ite (fun _ => ?_) (fun _ => ?_)
  · exact Within.upd <| Within.refl _ _
  · exact Within.refl _ _

theorem State.advanceMono_within (s : State) (n : Nat) : Within [.time] s (State.advanceMono s n) := by
  unfold State.advanceMono
  exact Within.step (State.advanceTo_within ..) (by decide) <| Within.refl _ _

theorem State.setFacet_within (s : State) (n : Nat) (f : Facet) : Within [.facets] s (State.setFacet s n f) := by
  unfold State.setFacet
  exact Within.upd <| Within.refl _ _

theorem State.setTask_within (s : State) (t : Nat) (k : Task) : Within [.facets] s (State.setTask s t k) := by
  unfold State.setTask
  exact Within.upd <| Within.refl _ _

theorem State.makeReady_within (s : State) (g : Nat) (k : Task) : Within [.facets] s (State.makeReady s g k) := by
  unfold State.makeReady
  extract_lets z0 z1
  refine Within.upd ?_
  unfold z0
  exact Within.step (State.setTask_within ..) (by decide) <| Within.refl _ _

theorem State.settleTask_within (s : State) (g : Nat) (k : Task) : Within [.facets] s (State.settleTask s g k) := by
  unfold State.settleTask
  refine Within.ite (fun _ => ?_) (fun _ => ?_)
  · exact Within.step (State.makeReady_within ..) (by decide) <| Within.refl _ _
  · exact Within.step (State.setTask_within ..) (by decide) <| Within.refl _ _

theorem State.handOver_within (s : State) (n : Nat) (core : Nat) (c : Nat × Task) : Within [.facets] s (State.handOver s n core c) := by
  unfold State.handOver
  extract_lets z0 z1 z2 z3 z4 z5
  refine Within.step (State.setFacet_within ..) (by decide) ?_
  unfold z2
  exact Within.step (State.setTask_within ..) (by decide) <| Within.refl _ _

theorem State.serveCore_within (s : State) (n : Nat) (core : Nat) : Within [.facets] s (State.serveCore s n core) := by
  unfold State.serveCore
  split
  · exact Within.step (State.handOver_within ..) (by decide) <| Within.refl _ _
  · exact Within.refl _ _

theorem State.serveWaiters_within (s : State) (n : Nat) : Within [.facets] s (State.serveWaiters s n) := by
  unfold State.serveWaiters
  refine Within.ite (fun _ => ?_) (fun _ => ?_)
  · refine Within.list _ (fun _ _ => ?_) _ _ ?_
    · exact Within.step (State.serveCore_within ..) (by decide) <| Within.refl _ _
    · exact Within.refl _ _
  · exact Within.refl _ _

theorem State.postFlags_within (s : State) (n : Nat) (t : Nat) (flags : Nat) : Within [.facets] s (State.postFlags s n t flags) := by
  unfold State.postFlags
  extract_lets z0 z1 z2 z3 z4
  refine Within.ite (fun _ => ?_) (fun _ => ?_)
  · exact Within.step (State.setFacet_within ..) (by decide) <| Within.refl _ _
  · refine Within.step (State.serveWaiters_within ..) (by decide) ?_
    unfold z4
    refine Within.ite (fun _ => ?_) (fun _ => ?_)
    · exact Within.step (State.makeReady_within ..) (by decide) <| Within.refl _ _
    · exact Within.step (State.setTask_within ..) (by decide) <| Within.refl _ _

theorem State.postBinding_within (n : Nat) (src : Nat) (row : Nat) (i : Nat) (s : State) : Within [.facets] s (State.postBinding n src row i s) := by
  unfold State.postBinding
  extract_lets z0 z1
  refine Within.ite (fun _ => ?_) (fun _ => ?_)
  · exact Within.step (State.postFlags_within ..) (by decide) <| Within.refl _ _
  · exact Within.refl _ _

theorem State.postSource_within (s : State) (n : Nat) (src : Nat) (row : Nat) : Within [.facets] s (State.postSource s n src row) := by
  unfold State.postSource
  refine Within.ite (fun _ => ?_) (fun _ => ?_)
  · exact Within.refl _ _
  · refine Within.list _ (fun _ _ => ?_) _ _ ?_
    · exact Within.step (State.postBinding_within ..) (by decide) <| Within.refl _ _
    · exact Within.refl _ _

theorem State.postAll_within (s : State) (src : Nat) (row : Nat) : Within [.facets] s (State.postAll s src row) := by
  unfold State.postAll
  refine Within.list _ (fun _ _ => ?_) _ _ ?_
  · exact Within.step (State.postSource_within ..) (by decide) <| Within.refl _ _
  · exact Within.refl _ _

theorem State.doorbell_within (s : State) (n : Nat) : Within [.facets] s (State.doorbell s n) := by
  unfold State.doorbell
  extract_lets z0 z1 z2 z3 z4 z5 z6
  exact Within.step (State.postSource_within ..) (by decide) <| Within.step (State.setFacet_within ..) (by decide) <| Within.refl _ _

theorem State.sendToGuest_within (s : State) (n : Nat) (words : List Nat) : Within [.facets] s (State.sendToGuest s n words) := by
  unfold State.sendToGuest
  extract_lets z0 z1 z2
  refine Within.ite (fun _ => ?_) (fun _ => ?_)
  · exact Within.step (State.doorbell_within ..) (by decide) <| Within.step (State.setFacet_within ..) (by decide) <| Within.refl _ _
  · refine Within.ite (fun _ => ?_) (fun _ => ?_)
    · exact Within.step (State.setFacet_within ..) (by decide) <| Within.refl _ _
    · exact Within.refl _ _

theorem releaseHeld_within (n : Nat) (l : List (List Nat)) (s : State) : Within [.facets] s (releaseHeld n l s) := by
  induction l generalizing s with
  | nil => exact Within.refl _ _
  | cons w l ih =>
    unfold releaseHeld
    dsimp only
    refine Within.ite (fun _ => ?_) (fun _ => Within.refl _ _)
    exact Within.step (ih _) (fun _ => id) <| Within.step (State.doorbell_within ..) (by decide) <| Within.step (State.setFacet_within ..) (by decide) <| Within.refl _ _

theorem State.notice_within (s : State) (n : Nat) (code : Nat) (payload : List Nat) : Within [.facets] s (State.notice s n code payload) := by
  unfold State.notice
  extract_lets z0 z1 z2 z3
  refine Within.ite (fun _ => ?_) (fun _ => ?_)
  · refine Within.step (State.sendToGuest_within ..) (by decide) ?_
    unfold z3
    exact Within.step (State.setFacet_within ..) (by decide) <| Within.refl _ _
  · exact Within.refl _ _

theorem State.noticeAll_within (s : State) (code : Nat) (payload : List Nat) : Within [.facets] s (State.noticeAll s code payload) := by
  unfold State.noticeAll
  refine Within.list _ (fun _ _ => ?_) _ _ ?_
  · exact Within.step (State.notice_within ..) (by decide) <| Within.refl _ _
  · exact Within.refl _ _

theorem State.enter_within (s : State) (q : LogReq) : Within [.log] s (State.enter s q) := by
  unfold State.enter
  extract_lets z0 z1 z2
  exact Within.upd <| Within.refl _ _

theorem State.tellReader_within (r : LogRecord) (c : Nat × Cursor) (s : State) : Within [.facets, .log] s (State.tellReader r c s) := by
  unfold State.tellReader
  refine Within.ite (fun _ => ?_) (fun _ => ?_)
  · extract_lets z0 z1 z2
    refine Within.ite (fun _ => ?_) (fun _ => ?_)
    · refine Within.step (State.notice_within ..) (by decide) ?_
      unfold z2
      exact Within.upd <| Within.refl _ _
    · unfold z2
      exact Within.upd <| Within.refl _ _
  · exact Within.refl _ _

theorem State.logReq_within (s : State) (q : LogReq) : Within [.facets, .log] s (State.logReq s q) := by
  unfold State.logReq
  extract_lets z0 z1 z2 z3 z4 z5
  refine Within.ite (fun _ => ?_) (fun _ => ?_)
  · exact Within.upd <| Within.refl _ _
  · refine Within.ite (fun _ => ?_) (fun _ => ?_)
    · exact Within.upd <| Within.refl _ _
    · refine Within.list _ (fun _ _ => ?_) _ _ ?_
      · exact Within.step (State.tellReader_within ..) (by decide) <| Within.refl _ _
      · unfold z5
        refine Within.upd ?_
        unfold z3
        exact Within.step (State.enter_within ..) (by decide) <| Within.refl _ _

theorem State.logRec_within (s : State) (typ : Nat) (sev : Nat) (facet : Nat) (code : Nat) (inst : Nat) (data : ByteList) : Within [.facets, .log] s (State.logRec s typ sev facet code inst data) := by
  unfold State.logRec
  exact Within.step (State.logReq_within ..) (by decide) <| Within.refl _ _

theorem State.logAll_within (s : State) (l : List LogReq) : Within [.facets, .log] s (State.logAll s l) := by
  unfold State.logAll
  refine Within.list _ (fun _ _ => ?_) _ _ ?_
  · exact Within.step (State.logReq_within ..) (by decide) <| Within.refl _ _
  · exact Within.refl _ _

theorem State.logLost_within (s : State) (first : Nat) (last : Nat) (cause : Nat) : Within [.facets, .log] s (State.logLost s first last cause) := by
  unfold State.logLost
  refine Within.ite (fun _ => ?_) (fun _ => ?_)
  · extract_lets z0 z1
    refine Within.step (State.logRec_within ..) (by decide) ?_
    unfold z1
    exact Within.upd <| Within.refl _ _
  · exact Within.refl _ _

theorem State.anchor_within (s : State) (cause : Nat) : Within [.facets, .log] s (State.anchor s cause) := by
  unfold State.anchor
  exact Within.step (State.logReq_within ..) (by decide) <| Within.refl _ _

theorem State.endPhase_within (s : State) (n : Nat) : Within [.boot, .facets, .log] s (State.endPhase s n) := by
  unfold State.endPhase
  refine Within.ite (fun _ => ?_) (fun _ => ?_)
  · exact Within.step (State.logRec_within ..) (by decide) <| Within.upd <| Within.refl _ _
  · exact Within.refl _ _

theorem State.fill_within (s : State) (reader : Nat) (c : Nat) : Within [.log] s (State.fill s reader c) := by
  unfold State.fill
  extract_lets z0 z1 z2 z3 z4
  split
  extract_lets z5
  exact Within.upd <| Within.refl _ _

theorem State.setRole_within (s : State) (r : Nat) (h1 : r ≠ 1) (h2 : s.pair.role ≠ 1) : Within [.facets, .pair, .log] s (State.setRole s r) := by
  unfold State.setRole
  dsimp only
  refine Within.ite (fun _ => Within.refl _ _) (fun _ => ?_)
  refine Within.step (State.postAll_within ..) (by decide) <| Within.step (State.noticeAll_within ..) (by decide) <| Within.step (State.logRec_within ..) (by decide) ?_
  exact State.roleChanged_within s r h1 h2
  
  /-- The new role, and the rest of the pair as before. -/
  theorem State.setRole_pair (s : State) (r : Nat) : (s.setRole r).pair = { s.pair with role := r } := by
    unfold State.setRole
    dsimp only
    split
    · subst r; rfl
    · have h : Within [.facets, .log] { s with pair := { s.pair with role := r } }
          (((({ s with pair := { s.pair with role := r } } : State).logRec 0x0A01 1 noFacet 0 0
            [byteOf s.pair.role, byteOf r, byteOf s.pair.cause, byteOf s.pair.partnerRole]).noticeAll 0x0081 [r]).postAll 19 0) := by
        exact Within.step (State.postAll_within ..) (by decide) <| Within.step (State.noticeAll_within ..) (by decide) <| Within.step (State.logRec_within ..) (by decide) <| Within.refl _ _
      exact h.rest .pair (by decide)
  
  /-- A change of role, without the rule of ownership. -/
  theorem State.setRole_keeps (s : State) (r : Nat) : Keeps [.facets, .pair, .log] s (s.setRole r) := by
    unfold State.setRole
    dsimp only
    split
    · exact (Within.refl _ _).keeps
    · refine Keeps.step (State.postAll_within ..) (by decide) ?_
      refine Keeps.step (State.noticeAll_within ..) (by decide) ?_
      refine Keeps.step (State.logRec_within ..) (by decide) ?_
      refine ⟨rfl, id, fun p hp => ?_⟩
      cases p <;> first | exact absurd (by decide) hp | rfl

theorem State.settle_within (s : State) : Within [.facets, .pair, .log] s (State.settle s) := by
  unfold State.settle
  dsimp only
  have h0 : Within [.facets, .pair, .log] s { s with pair := { s.pair with elig := s.eligNow } } :=
    Within.upd (Within.refl _ s)
  refine Within.ite (fun h => ?_) (fun _ => Within.ite (fun h => ?_) (fun _ => h0))
  · exact Within.step (State.setRole_within _ _ (by decide) (by dsimp only at *; omega)) (by decide) h0
  · exact Within.step (State.setRole_within _ _ (by decide) (by dsimp only at *; omega)) (by decide) h0
  
  /-- Settling never makes a module LIT. -/
  theorem State.settle_role (s : State) (h : s.pair.role ≠ 1) : s.settle.pair.role ≠ 1 := by
    unfold State.settle
    dsimp only
    split
    · rw [State.setRole_pair]; exact (by decide : (3 : Nat) ≠ 1)
    · split
      · rw [State.setRole_pair]; exact (by decide : (2 : Nat) ≠ 1)
      · exact h

theorem State.setElig_within (s : State) (bit : Nat) (b : Bool) : Within [.facets, .pair, .log] s (State.setElig s bit b) := by
  unfold State.setElig
  exact Within.step (State.settle_within ..) (by decide) <| Within.upd <| Within.refl _ _

theorem State.setCause_within (s : State) (bit : Nat) (b : Bool) : Within [.facets, .pair, .log, .health] s (State.setCause s bit b) := by
  unfold State.setCause
  refine Within.ite (fun _ => ?_) (fun _ => ?_)
  · exact Within.refl _ _
  · extract_lets z0 z1 z2 z3 z4
    refine Within.step (State.settle_within ..) (by decide) ?_
    unfold z4
    refine Within.step (State.logRec_within ..) (by decide) ?_
    unfold z1
    exact Within.upd <| Within.refl _ _

theorem State.latchCause_within (s : State) (bit : Nat) (present : Bool) : Within [.facets, .pair, .log, .health] s (State.latchCause s bit present) := by
  unfold State.latchCause
  extract_lets z0 z1
  refine Within.step (State.setCause_within ..) (by decide) ?_
  unfold z1
  exact Within.upd <| Within.refl _ _

theorem State.readLines_within (s : State) (l : Lines) : Within [.pair] s (State.readLines s l) := by
  unfold State.readLines
  exact Within.upd <| Within.refl _ _

theorem State.mirrorCount_within (s : State) (sub : Nat) (n : Nat) : Within [.pair] s (State.mirrorCount s sub n) := by
  unfold State.mirrorCount
  exact Within.upd <| Within.refl _ _

theorem State.logSec_within (s : State) (event : Nat) (sensors : Nat) (val : Nat) : Within [.facets, .log] s (State.logSec s event sensors val) := by
  unfold State.logSec
  exact Within.step (State.logRec_within ..) (by decide) <| Within.refl _ _

theorem State.signNext_within (s : State) : Within [.reply, .facets, .log, .sec] s (State.signNext s) := by
  unfold State.signNext
  split
  · exact Within.refl _ _
  · extract_lets z0 z1 z2 z3 z4 z5
    refine Within.ite (fun _ => ?_) (fun _ => ?_)
    · refine Within.step (State.answer_within ..) (by decide) <| Within.step (State.logSec_within ..) (by decide) ?_
      unfold z2
      exact Within.upd <| Within.refl _ _
    · refine Within.ite (fun _ => ?_) (fun _ => ?_)
      · exact Within.upd <| Within.refl _ _
      · exact Within.step (State.answer_within ..) (by decide) <| Within.upd <| Within.refl _ _

theorem State.queueNonce_within (s : State) (sess : Nat) (nonce : ByteList) : Within [.reply, .sec] s (State.queueNonce s sess nonce) := by
  unfold State.queueNonce
  extract_lets z0
  refine Within.ite (fun _ => ?_) (fun _ => ?_)
  · exact Within.step (State.answer_within ..) (by decide) <| Within.refl _ _
  · refine Within.ite (fun _ => ?_) (fun _ => ?_)
    · exact Within.step (State.answer_within ..) (by decide) <| Within.upd <| Within.refl _ _
    · refine Within.ite (fun _ => ?_) (fun _ => ?_)
      · exact Within.step (State.answer_within ..) (by decide) <| Within.upd <| Within.refl _ _
      · refine Within.ite (fun _ => ?_) (fun _ => ?_)
        · exact Within.step (State.answer_within ..) (by decide) <| Within.upd <| Within.refl _ _
        · exact Within.step (State.answer_within ..) (by decide) <| Within.upd <| Within.refl _ _

theorem State.startExchange_within (s : State) (training : Bool) : Within [.freeCount, .facets, .pair, .log, .sec] s (State.startExchange s training) := by
  unfold State.startExchange
  extract_lets z0 z1 z2 z3 z4
  refine Within.step (State.setElig_within ..) (by decide) ?_
  unfold z4
  exact Within.upd <| Within.refl _ _

theorem State.recordBinding_within (s : State) (serial : ByteList) : Within [.sec] s (State.recordBinding s serial) := by
  unfold State.recordBinding
  exact Within.upd <| Within.refl _ _

theorem State.takeReport_within (s : State) (data : ByteList) : Within [.facets, .pair, .log, .sec] s (State.takeReport s data) := by
  unfold State.takeReport
  extract_lets z0 z1 z2 z3 z4 z5 z6 z7 z8 z9 z10
  refine Within.step (State.setElig_within ..) (by decide) ?_
  unfold z10
  refine Within.ite (fun _ => ?_) (fun _ => ?_)
  · unfold z9
    exact Within.upd <| Within.refl _ _
  · refine Within.step (State.logSec_within ..) (by decide) ?_
    unfold z9
    exact Within.upd <| Within.refl _ _

theorem State.newChallenge_within (s : State) : Within [.reply, .freeCount, .sec] s (State.newChallenge s) := by
  unfold State.newChallenge
  extract_lets z0 z1
  exact Within.step (State.answer_within ..) (by decide) <| Within.upd <| Within.refl _ _

theorem State.unlockWith_within (s : State) (data : ByteList) : Within [.reply, .facets, .log, .sec] s (State.unlockWith s data) := by
  unfold State.unlockWith
  refine Within.ite (fun _ => ?_) (fun _ => ?_)
  · extract_lets z0 z1
    refine Within.step (State.answer_within ..) (by decide) <| Within.step (State.logSec_within ..) (by decide) ?_
    unfold z1
    exact Within.upd <| Within.refl _ _
  · extract_lets z0 z1
    refine Within.step (State.answer_within ..) (by decide) <| Within.step (State.logSec_within ..) (by decide) ?_
    unfold z1
    exact Within.upd <| Within.refl _ _

end Sys2Proof.Machine
end

