-- ==== Sys2Proof/Laws/FrameTime.lean ====
section
/-! SUPPORT. Frames of the Lens rows and the time unit: what each operation can change. -/

namespace Sys2Proof.Machine

set_option Elab.async false

theorem State.setStream_within (s : State) (n : Nat) (x : Stream) : Within [.lens] s (State.setStream s n x) := by
  unfold State.setStream
  exact Within.upd <| Within.refl _ _

theorem State.countStream_within (s : State) (n : Nat) (sub : Nat) (k : Nat) : Within [.lens] s (State.countStream s n sub k) := by
  unfold State.countStream
  exact Within.step (State.setStream_within ..) (by decide) <| Within.refl _ _

theorem State.putSample_within (s : State) (c : Nat) (R : Nat) (v : Int) (q : Nat) : Within [.mem] s (State.putSample s c R v q) := by
  unfold State.putSample
  refine Within.updMem ?_ ?hm
  case hm => intro h; repeat' (with_reducible first | exact h | apply memWriteList_wf | apply memClear_wf | apply guestWrite_wf | apply writeField_wf | apply clearUnits_wf | apply setAreaBit_wf | apply memWrite_wf | apply foldl_wf _ (fun _ _ h => memWrite_wf _ _ _ h) | apply putAll_wf | exact rfl | split)
  exact Within.refl _ _

theorem placeChannels_within (R base : Nat) (q : Nat → Nat) (vals : List Int) (l : List (Nat × Nat)) (s : State) : Within [.mem] s (placeChannels R base q vals l s) := by
  induction l generalizing s with
  | nil => exact Within.refl _ _
  | cons v l ih =>
    unfold placeChannels
    exact Within.step (ih _) (fun _ => id) <| Within.step (State.putSample_within ..) (by decide) <| Within.refl _ _

theorem State.streamDelivers_within (s : State) (n : Nat) (R : Nat) (newState : Nat) : Within [.lens, .facets, .log] s (State.streamDelivers s n R newState) := by
  unfold State.streamDelivers
  extract_lets z0 z1
  refine Within.ite (fun _ => ?_) (fun _ => ?_)
  · refine Within.step (State.logRec_within ..) (by decide) ?_
    unfold z1
    exact Within.step (State.setStream_within ..) (by decide) <| Within.refl _ _
  · unfold z1
    exact Within.step (State.setStream_within ..) (by decide) <| Within.refl _ _

theorem State.placeAsdu_within (s : State) (n : Nat) (T : Nat) (a : Asdu) (sim : Bool) (unsync : Bool) (refused : Bool) (acquiring : Bool) (tarr : Nat) (newState : Nat) : Within [.mem, .lens, .facets, .log] s (State.placeAsdu s n T a sim unsync refused acquiring tarr newState) := by
  unfold State.placeAsdu
  extract_lets z0 z1 z2 z3 z4
  split
  · exact Within.step (State.countStream_within ..) (by decide) <| Within.refl _ _
  · refine Within.ite (fun _ => ?_) (fun _ => ?_)
    · exact Within.step (State.countStream_within ..) (by decide) <| Within.refl _ _
    · extract_lets z5 z6 z7 z8 z9 z10 z11 z12 z13 z14
      refine Within.upd ?_
      unfold z13
      refine Within.step (State.setStream_within ..) (by decide) ?_
      unfold z7
      refine Within.step (State.streamDelivers_within ..) (by decide) ?_
      unfold z6
      exact Within.step (placeChannels_within ..) (by decide) <| Within.refl _ _

theorem State.placeByArrival_within (s : State) (n : Nat) (u : Asdu) (sim : Bool) (tarr : Nat) (total : Nat) (a : Nat) : Within [.mem, .lens, .facets, .log] s (State.placeByArrival s n u sim tarr total a) := by
  unfold State.placeByArrival
  extract_lets z0 z1 z2 z3 z4 z5 z6 z7 z8 z9 z10 z11 z12 z13
  refine Within.ite (fun _ => ?_) (fun _ => ?_)
  · refine Within.step (State.logRec_within ..) (by decide) <| Within.step (State.setStream_within ..) (by decide) ?_
    unfold z10
    exact Within.step (State.placeAsdu_within ..) (by decide) <| Within.step (State.setStream_within ..) (by decide) <| Within.refl _ _
  · refine Within.ite (fun _ => ?_) (fun _ => ?_)
    · refine Within.step (State.logRec_within ..) (by decide) <| Within.step (State.setStream_within ..) (by decide) ?_
      unfold z10
      exact Within.step (State.placeAsdu_within ..) (by decide) <| Within.step (State.setStream_within ..) (by decide) <| Within.refl _ _
    · refine Within.step (State.setStream_within ..) (by decide) ?_
      unfold z10
      exact Within.step (State.placeAsdu_within ..) (by decide) <| Within.step (State.setStream_within ..) (by decide) <| Within.refl _ _

theorem State.resampleRow_within (n : Nat) (sim : Bool) (tarr : Nat) (r : Row) (s : State) : Within [.mem, .lens, .facets, .log] s (State.resampleRow n sim tarr r s) := by
  unfold State.resampleRow
  dsimp only
  refine Within.ite (fun _ => ?_) (fun _ => ?_)
  · exact Within.refl _ _
  · refine Within.upd <| Within.step (State.setStream_within ..) (by decide) <| Within.step (State.streamDelivers_within ..) (by decide) ?_
    refine Within.list _ (fun _ _ => ?_) _ _ ?_
    · split
      · exact Within.step (State.putSample_within ..) (by decide) <| Within.refl _ _
      · exact Within.step (State.putSample_within ..) (by decide) <| Within.refl _ _
    · exact Within.refl _ _

theorem State.feedAsdu_within (s : State) (n : Nat) (a : Asdu) (sim : Bool) (refused : Bool) (tarr : Nat) : Within [.mem, .lens, .facets, .log] s (State.feedAsdu s n a sim refused tarr) := by
  unfold State.feedAsdu
  extract_lets z0 z1 z2 z3 z4 z5 z6 z7 z8 z9
  refine Within.list _ (fun _ _ => ?_) _ _ ?_
  · exact Within.step (State.resampleRow_within ..) (by decide) <| Within.refl _ _
  · unfold z9
    exact Within.step (State.setStream_within ..) (by decide) <| Within.refl _ _

theorem State.substitute_within (s : State) (r : Row) (n : Nat) (miss : Nat) : Within [.mem] s (State.substitute s r n miss).1 := by
  unfold State.substitute
  dsimp only
  refine Within.foldl1 _ (fun _ _ _ => ?_) _ _ _ ?_
  · split
    · dsimp only
      exact Within.step (State.putSample_within ..) (by decide) <| Within.refl _ _
    · dsimp only
      exact Within.step (State.putSample_within ..) (by decide) <| Within.refl _ _
  · exact Within.refl _ _

theorem State.sealStream_within (r : Row) (n : Nat) (s : State) : Within [.mem, .lens, .facets, .log] s (State.sealStream r n s) := by
  unfold State.sealStream
  extract_lets z0 z1
  refine Within.ite (fun _ => ?_) (fun _ => ?_)
  · exact Within.step (State.setStream_within ..) (by decide) <| Within.refl _ _
  · refine Within.ite (fun _ => ?_) (fun _ => ?_)
    · exact Within.refl _ _
    · split
      extract_lets z2 z3 z4 z5 z6
      refine Within.ite (fun _ => ?_) (fun _ => ?_)
      · refine Within.step (State.logRec_within ..) (by decide) <| Within.step (State.setStream_within ..) (by decide) ?_
        refine Within.ofEqL (by assumption) ?_
        exact Within.step (State.substitute_within ..) (by decide) <| Within.refl _ _
      · refine Within.step (State.setStream_within ..) (by decide) ?_
        refine Within.ofEqL (by assumption) ?_
        exact Within.step (State.substitute_within ..) (by decide) <| Within.refl _ _

theorem State.markChannel_within (r : Row) (oos : Bool) (covered : List (Nat × Nat)) (c : Nat) (s : State) : Within [.mem] s (State.markChannel r oos covered c s) := by
  unfold State.markChannel
  refine Within.ite (fun _ => ?_) (fun _ => ?_)
  · refine Within.ite (fun _ => ?_) (fun _ => ?_)
    · exact Within.step (State.putSample_within ..) (by decide) <| Within.refl _ _
    · exact Within.refl _ _
  · exact Within.step (State.putSample_within ..) (by decide) <| Within.refl _ _

theorem State.sealOldest_within (s : State) : Within [.mem, .lens, .facets, .log] s (State.sealOldest s) := by
  unfold State.sealOldest
  split
  · exact Within.refl _ _
  · extract_lets z0 z1 z2 z3 z4 z5 z6 z7
    refine Within.upd ?_
    unfold z5
    refine Within.list _ (fun _ _ => ?_) _ _ ?_
    · exact Within.step (State.markChannel_within ..) (by decide) <| Within.refl _ _
    · unfold z2
      refine Within.list _ (fun _ _ => ?_) _ _ ?_
      · exact Within.step (State.sealStream_within ..) (by decide) <| Within.refl _ _
      · exact Within.refl _ _

theorem sealReady_within (k : Nat) (s : State) : Within [.mem, .lens, .facets, .log] s (sealReady k s) := by
  induction k generalizing s with
  | zero => exact Within.refl _ _
  | succ k ih =>
    unfold sealReady
    split
    · exact Within.refl _ _
    · refine Within.ite (fun _ => ?_) (fun _ => Within.refl _ _)
      exact Within.step (ih _) (fun _ => id) <| Within.step (State.sealOldest_within ..) (by decide) <| Within.refl _ _

theorem State.sealRows_within (s : State) : Within [.mem, .lens, .facets, .log] s (State.sealRows s) := by
  unfold State.sealRows
  exact Within.step (sealReady_within ..) (by decide) <| Within.refl _ _

theorem State.placeOne_within (n : Nat) (sim : Bool) (tarr : Nat) (total : Nat) (p : Asdu × Nat) (s : State) : Within [.mem, .lens, .facets, .log] s (State.placeOne n sim tarr total p s) := by
  unfold State.placeOne
  extract_lets z0 z1 z2 z3 z4 z5 z6 z7 z8
  refine Within.ite (fun _ => ?_) (fun _ => ?_)
  · exact Within.step (State.countStream_within ..) (by decide) <| Within.refl _ _
  · refine Within.ite (fun _ => ?_) (fun _ => ?_)
    · exact Within.step (State.feedAsdu_within ..) (by decide) <| Within.refl _ _
    · refine Within.ite (fun _ => ?_) (fun _ => ?_)
      · refine Within.step (State.placeAsdu_within ..) (by decide) ?_
        unfold z8
        exact Within.step (State.setStream_within ..) (by decide) <| Within.refl _ _
      · exact Within.step (State.placeByArrival_within ..) (by decide) <| Within.refl _ _

theorem State.lensFrame_within (s : State) (n : Nat) (fr : SvFrame) : Within [.mem, .lens, .facets, .log] s (State.lensFrame s n fr) := by
  unfold State.lensFrame
  refine Within.ite (fun _ => ?_) (fun _ => ?_)
  · exact Within.refl _ _
  · split
    · exact Within.step (State.countStream_within ..) (by decide) <| Within.refl _ _
    · extract_lets z0 z1 z2 z3
      refine Within.ite (fun _ => ?_) (fun _ => ?_)
      · refine Within.step (State.sealRows_within ..) (by decide) ?_
        refine Within.list _ (fun _ _ => ?_) _ _ ?_
        · exact Within.step (State.placeOne_within ..) (by decide) <| Within.refl _ _
        · refine Within.step (State.countStream_within ..) (by decide) ?_
          unfold z2
          exact Within.step (State.setStream_within ..) (by decide) <| Within.refl _ _
      · refine Within.step (State.countStream_within ..) (by decide) ?_
        unfold z2
        exact Within.step (State.setStream_within ..) (by decide) <| Within.refl _ _

theorem State.tickStream_within (n : Nat) (s : State) : Within [.lens] s (State.tickStream n s) := by
  unfold State.tickStream
  extract_lets z0 z1 z2 z3 z4
  exact Within.step (State.setStream_within ..) (by decide) <| Within.refl _ _

theorem State.tickStreams_within (s0 : State) : Within [.lens] s0 (State.tickStreams s0) := by
  unfold State.tickStreams
  extract_lets z0 z1 z2 z3 z4 z5 z6
  refine Within.upd ?_
  unfold z5
  refine Within.list _ (fun _ _ => ?_) _ _ ?_
  · exact Within.step (State.tickStream_within ..) (by decide) <| Within.refl _ _
  · unfold z4
    refine Within.list _ (fun _ _ => ?_) _ _ ?_
    · exact Within.step (State.tickStream_within ..) (by decide) <| Within.refl _ _
    · unfold z3
      exact Within.upd <| Within.refl _ _

theorem State.openRow_within (s : State) (T : Nat) : Within [.lens] s (State.openRow s T) := by
  unfold State.openRow
  extract_lets z0 z1 z2 z3 z4
  exact Within.upd <| Within.refl _ _

theorem State.lensStart_within (s : State) : Within [.mem, .lens] s (State.lensStart s) := by
  unfold State.lensStart
  extract_lets z0 z1 z2
  refine Within.updMem ?_ ?hm
  case hm => intro h; repeat' (with_reducible first | exact h | apply memWriteList_wf | apply memClear_wf | apply guestWrite_wf | apply writeField_wf | apply clearUnits_wf | apply setAreaBit_wf | apply memWrite_wf | apply foldl_wf _ (fun _ _ h => memWrite_wf _ _ _ h) | apply putAll_wf | exact rfl | split)
  exact Within.refl _ _

theorem sealAllExpired_within (k : Nat) (s : State) : Within [.mem, .lens, .facets, .log] s (sealAllExpired k s) := by
  induction k generalizing s with
  | zero => exact Within.refl _ _
  | succ k ih =>
    unfold sealAllExpired
    exact Within.step (ih _) (fun _ => id) <| Within.step (State.sealOldest_within ..) (by decide) <| Within.refl _ _

theorem State.lensStep_within (s : State) : Within [.mem, .lens, .facets, .log] s (State.lensStep s) := by
  unfold State.lensStep
  refine Within.ite (fun _ => ?_) (fun _ => ?_)
  · extract_lets z0 z1
    refine Within.upd ?_
    unfold z0
    exact Within.step (sealAllExpired_within ..) (by decide) <| Within.refl _ _
  · refine Within.ite (fun _ => ?_) (fun _ => ?_)
    · exact Within.upd <| Within.refl _ _
    · exact Within.refl _ _

theorem State.tellTime_within (s : State) (stepped : Bool) : Within [.facets] s (State.tellTime s stepped) := by
  unfold State.tellTime
  exact Within.step (State.postAll_within ..) (by decide) <| Within.step (State.noticeAll_within ..) (by decide) <| Within.refl _ _

theorem State.markStepped_within (s : State) : Within [.facets] s (State.markStepped s) := by
  unfold State.markStepped
  exact Within.upd <| Within.refl _ _

theorem State.lensStepBefore_within (s : State) : Within [.mem, .lens, .facets, .log] s (State.lensStepBefore s) := by
  unfold State.lensStepBefore
  refine Within.ite (fun _ => ?_) (fun _ => ?_)
  · exact Within.step (sealAllExpired_within ..) (by decide) <| Within.refl _ _
  · exact Within.refl _ _

theorem State.passEdges_within (s : State) (target : Nat) : Within [.time] s (State.passEdges s target) := by
  unfold State.passEdges
  exact Within.upd <| Within.refl _ _

theorem State.stepTo_within (s : State) (target : Nat) (kind : Nat) : Within [.mem, .time, .lens, .facets, .log] s (State.stepTo s target kind) := by
  unfold State.stepTo
  extract_lets z0 z1 z2 z3
  refine Within.step (State.tellTime_within ..) (by decide) <| Within.step (State.markStepped_within ..) (by decide) <| Within.step (State.lensStep_within ..) (by decide) ?_
  unfold z3
  refine Within.step (State.anchor_within ..) (by decide) <| Within.step (State.logRec_within ..) (by decide) ?_
  unfold z2
  refine Within.upd ?_
  unfold z1
  exact Within.step (State.passEdges_within ..) (by decide) <| Within.step (State.lensStepBefore_within ..) (by decide) <| Within.step (State.anchor_within ..) (by decide) <| Within.refl _ _

theorem State.stepBy_within (s : State) (offset : Int) (kind : Nat) : Within [.mem, .time, .lens, .facets, .log] s (State.stepBy s offset kind) := by
  unfold State.stepBy
  exact Within.step (State.stepTo_within ..) (by decide) <| Within.refl _ _

theorem State.timeEvent_within (s : State) (event : Nat) (v : Int) : Within [.facets, .log] s (State.timeEvent s event v) := by
  unfold State.timeEvent
  exact Within.step (State.logReq_within ..) (by decide) <| Within.refl _ _

theorem State.setServo_within (s : State) (n : Nat) : Within [.time, .facets, .pair, .log, .health] s (State.setServo s n) := by
  unfold State.setServo
  refine Within.ite (fun _ => ?_) (fun _ => ?_)
  · exact Within.refl _ _
  · extract_lets z0 z1 z2 z3 z4
    refine Within.ite (fun _ => ?_) (fun _ => ?_)
    · unfold z4
      refine Within.step (State.setCause_within ..) (by decide) ?_
      unfold z3
      refine Within.step (State.logAll_within ..) (by decide) ?_
      unfold z2
      exact Within.upd <| Within.refl _ _
    · refine Within.step (State.tellTime_within ..) (by decide) ?_
      unfold z4
      refine Within.step (State.setCause_within ..) (by decide) ?_
      unfold z3
      refine Within.step (State.logAll_within ..) (by decide) ?_
      unfold z2
      exact Within.upd <| Within.refl _ _

theorem State.takeCorrection_within (s : State) : Within [.freeCount, .time] s (State.takeCorrection s) := by
  unfold State.takeCorrection
  extract_lets z0 z1 z2 z3 z4
  exact Within.upd <| Within.refl _ _

theorem State.refuseJump_within (s : State) (o : Int) : Within [.time, .facets, .pair, .log, .health] s (State.refuseJump s o) := by
  unfold State.refuseJump
  extract_lets z0 z1 z2
  refine Within.step (State.setServo_within ..) (by decide) <| Within.step (State.timeEvent_within ..) (by decide) ?_
  unfold z2
  exact Within.upd <| Within.refl _ _

theorem State.slew_within (s : State) (o : Int) : Within [.freeCount, .time] s (State.slew s o) := by
  unfold State.slew
  exact Within.step (State.takeCorrection_within ..) (by decide) <| Within.upd <| Within.refl _ _

theorem State.holdAside_within (s : State) (o : Int) (discard : Bool) : Within [.time] s (State.holdAside s o discard) := by
  unfold State.holdAside
  extract_lets z0
  exact Within.upd <| Within.refl _ _

theorem State.lock_within (s : State) : Within [.boot, .time, .facets, .pair, .log, .health] s (State.lock s) := by
  unfold State.lock
  exact Within.step (State.endPhase_within ..) (by decide) <| Within.step (State.setServo_within ..) (by decide) <| Within.upd <| Within.refl _ _

theorem State.servoOffset_within (s : State) (o : Int) : Within [.freeCount, .mem, .boot, .time, .lens, .facets, .pair, .log, .health] s (State.servoOffset s o) := by
  unfold State.servoOffset
  extract_lets z0 z1 z2 z3 z4 z5 z6 z7 z8 z9 z10
  split
  · exact Within.step (State.setServo_within ..) (by decide) <| Within.step (State.stepBy_within ..) (by decide) <| Within.refl _ _
  · refine Within.ite (fun _ => ?_) (fun _ => ?_)
    · exact Within.step (State.stepBy_within ..) (by decide) <| Within.refl _ _
    · refine Within.ite (fun _ => ?_) (fun _ => ?_)
      · refine Within.ite (fun _ => ?_) (fun _ => ?_)
        · exact Within.step (State.refuseJump_within ..) (by decide) <| Within.refl _ _
        · exact Within.step (State.holdAside_within ..) (by decide) <| Within.refl _ _
      · refine Within.ite (fun _ => ?_) (fun _ => ?_)
        · refine Within.step (State.lock_within ..) (by decide) ?_
          unfold z6
          refine Within.upd ?_
          unfold z3
          exact Within.step (State.slew_within ..) (by decide) <| Within.refl _ _
        · unfold z6
          refine Within.upd ?_
          unfold z3
          exact Within.step (State.slew_within ..) (by decide) <| Within.refl _ _
  · refine Within.ite (fun _ => ?_) (fun _ => ?_)
    · refine Within.ite (fun _ => ?_) (fun _ => ?_)
      · exact Within.step (State.refuseJump_within ..) (by decide) <| Within.refl _ _
      · exact Within.step (State.holdAside_within ..) (by decide) <| Within.refl _ _
    · exact Within.step (State.slew_within ..) (by decide) <| Within.refl _ _
  · refine Within.ite (fun _ => ?_) (fun _ => ?_)
    · refine Within.step (State.setServo_within ..) (by decide) <| Within.upd ?_
      unfold z9
      refine Within.step (State.timeEvent_within ..) (by decide) ?_
      unfold z7
      exact Within.upd <| Within.refl _ _
    · refine Within.upd ?_
      unfold z7
      exact Within.upd <| Within.refl _ _
  · refine Within.ite (fun _ => ?_) (fun _ => ?_)
    · refine Within.ite (fun _ => ?_) (fun _ => ?_)
      · exact Within.step (State.refuseJump_within ..) (by decide) <| Within.refl _ _
      · exact Within.step (State.holdAside_within ..) (by decide) <| Within.refl _ _
    · refine Within.step (State.setServo_within ..) (by decide) <| Within.upd ?_
      unfold z3
      exact Within.step (State.slew_within ..) (by decide) <| Within.refl _ _

theorem State.toHoldover_within (s : State) : Within [.time, .facets, .pair, .log, .health] s (State.toHoldover s) := by
  unfold State.toHoldover
  extract_lets z0
  exact Within.step (State.setServo_within ..) (by decide) <| Within.upd <| Within.refl _ _

theorem State.masterLost_within (s : State) : Within [.time, .facets, .pair, .log, .health] s (State.masterLost s) := by
  unfold State.masterLost
  split
  · refine Within.ite (fun _ => ?_) (fun _ => ?_)
    · exact Within.step (State.toHoldover_within ..) (by decide) <| Within.refl _ _
    · exact Within.step (State.setServo_within ..) (by decide) <| Within.upd <| Within.refl _ _
  · exact Within.step (State.toHoldover_within ..) (by decide) <| Within.upd <| Within.refl _ _
  · refine Within.ite (fun _ => ?_) (fun _ => ?_)
    · exact Within.step (State.setServo_within ..) (by decide) <| Within.step (State.toHoldover_within ..) (by decide) <| Within.refl _ _
    · exact Within.step (State.toHoldover_within ..) (by decide) <| Within.refl _ _
  · exact Within.refl _ _

theorem State.setPort_within (s : State) (p : Nat) (x : PtpPort) : Within [.time] s (State.setPort s p x) := by
  unfold State.setPort
  exact Within.upd <| Within.refl _ _

theorem State.ptpDiscard_within (s : State) (p : Nat) : Within [.time] s (State.ptpDiscard s p) := by
  unfold State.ptpDiscard
  extract_lets z0
  exact Within.step (State.setPort_within ..) (by decide) <| Within.refl _ _

theorem State.bmca_within (s : State) : Within [.time, .facets, .log] s (State.bmca s) := by
  unfold State.bmca
  dsimp only
  split
  · exact Within.upd <| Within.refl _ _
  · refine Within.ite (fun _ => ?_) (fun _ => ?_)
    · exact Within.step (State.logAll_within ..) (by decide) <| Within.upd <| Within.refl _ _
    · exact Within.upd <| Within.refl _ _

theorem State.syncOffset_within (s : State) (p : Nat) (rx : Int) (origin : Int) (corr : Int) : Within [.freeCount, .mem, .boot, .time, .lens, .facets, .pair, .log, .health] s (State.syncOffset s p rx origin corr) := by
  unfold State.syncOffset
  exact Within.step (State.servoOffset_within ..) (by decide) <| Within.refl _ _

theorem State.setTpo_within (s : State) (n : Nat) (x : Tpo) : Within [.time] s (State.setTpo s n x) := by
  unfold State.setTpo
  exact Within.upd <| Within.refl _ _

theorem State.tpoChange_within (s : State) (n : Nat) (r : Option TpoRun) : Within [.time] s (State.tpoChange s n r) := by
  unfold State.tpoChange
  extract_lets z0
  refine Within.ite (fun _ => ?_) (fun _ => ?_)
  · exact Within.step (State.setTpo_within ..) (by decide) <| Within.refl _ _
  · exact Within.step (State.setTpo_within ..) (by decide) <| Within.refl _ _

theorem State.tpoStart_within (s : State) (n v : Nat) : Within [.reply, .time] s (State.tpoStart s n v) := by
  unfold State.tpoStart
  extract_lets x refuse
  have hr : ∀ c, Within [.reply, .time] s (refuse c) := fun c =>
    Within.step (State.answer_within ..) (by decide) <| Within.step (State.setTpo_within ..) (by decide) <| Within.refl _ _
  split
  · exact hr _
  · split
    · exact hr _
    · exact Within.step (State.answer_within ..) (by decide) <| Within.step (State.tpoChange_within ..) (by decide) <|
        Within.step (State.setTpo_within ..) (by decide) <| Within.refl _ _

theorem State.tpoOff_within (s : State) (n : Nat) : Within [.time] s (State.tpoOff s n) := by
  unfold State.tpoOff
  exact Within.step (State.tpoChange_within ..) (by decide) <| Within.refl _ _

theorem State.tpoEdge_within (s0 : State) (n : Nat) : Within [.time] s0 (State.tpoEdge s0 n) := by
  unfold State.tpoEdge
  extract_lets z0 z1 z2
  split
  · exact Within.refl _ _
  · refine Within.ite (fun _ => ?_) (fun _ => ?_)
    · exact Within.refl _ _
    · extract_lets z3 z4
      refine Within.step (State.setTpo_within ..) (by decide) ?_
      unfold z1
      exact Within.step (State.advanceTo_within ..) (by decide) <| Within.refl _ _

theorem State.grantNotice_within (s : State) (f : Nat) : Within [.facets] s (State.grantNotice s f) := by
  unfold State.grantNotice
  extract_lets z0
  exact Within.step (State.notice_within ..) (by decide) <| Within.refl _ _

theorem State.tpoOwn_within (s : State) (n : Nat) (owner : Nat) : Within [.regs, .time, .facets] s (State.tpoOwn s n owner) := by
  unfold State.tpoOwn
  extract_lets z0 z1 z2 z3
  refine Within.ite (fun _ => ?_) (fun _ => ?_)
  · refine Within.step (State.grantNotice_within ..) (by decide) ?_
    unfold z3
    refine Within.ite (fun _ => ?_) (fun _ => ?_)
    · refine Within.step (State.grantNotice_within ..) (by decide) ?_
      unfold z2
      exact Within.step (State.setTpo_within ..) (by decide) <| Within.step (State.setReg_within ..) (by decide) <| Within.refl _ _
    · unfold z2
      exact Within.step (State.setTpo_within ..) (by decide) <| Within.step (State.setReg_within ..) (by decide) <| Within.refl _ _
  · unfold z3
    refine Within.ite (fun _ => ?_) (fun _ => ?_)
    · refine Within.step (State.grantNotice_within ..) (by decide) ?_
      unfold z2
      exact Within.step (State.setTpo_within ..) (by decide) <| Within.step (State.setReg_within ..) (by decide) <| Within.refl _ _
    · unfold z2
      exact Within.step (State.setTpo_within ..) (by decide) <| Within.step (State.setReg_within ..) (by decide) <| Within.refl _ _

theorem State.tpoPulseEnd_within (s0 : State) (n : Nat) : Within [.regs, .time, .facets] s0 (State.tpoPulseEnd s0 n) := by
  unfold State.tpoPulseEnd
  extract_lets z0 z1
  split
  · exact Within.refl _ _
  · refine Within.ite (fun _ => ?_) (fun _ => ?_)
    · exact Within.refl _ _
    · extract_lets z2 z3
      refine Within.ite (fun _ => ?_) (fun _ => ?_)
      · refine Within.step (State.postSource_within ..) (by decide) ?_
        unfold z3
        split
        · refine Within.step (State.tpoOwn_within ..) (by decide) <| Within.step (State.setTpo_within ..) (by decide) ?_
          unfold z2
          exact Within.step (State.advanceTo_within ..) (by decide) <| Within.refl _ _
        · split
          · refine Within.step (State.setTpo_within ..) (by decide) ?_
            unfold z2
            exact Within.step (State.advanceTo_within ..) (by decide) <| Within.refl _ _
          · refine Within.ite (fun _ => ?_) (fun _ => ?_)
            · refine Within.step (State.setTpo_within ..) (by decide) ?_
              unfold z2
              exact Within.step (State.advanceTo_within ..) (by decide) <| Within.refl _ _
            · refine Within.step (State.setTpo_within ..) (by decide) ?_
              unfold z2
              exact Within.step (State.advanceTo_within ..) (by decide) <| Within.refl _ _
      · unfold z3
        split
        · refine Within.step (State.tpoOwn_within ..) (by decide) <| Within.step (State.setTpo_within ..) (by decide) ?_
          unfold z2
          exact Within.step (State.advanceTo_within ..) (by decide) <| Within.refl _ _
        · split
          · refine Within.step (State.setTpo_within ..) (by decide) ?_
            unfold z2
            exact Within.step (State.advanceTo_within ..) (by decide) <| Within.refl _ _
          · refine Within.ite (fun _ => ?_) (fun _ => ?_)
            · refine Within.step (State.setTpo_within ..) (by decide) ?_
              unfold z2
              exact Within.step (State.advanceTo_within ..) (by decide) <| Within.refl _ _
            · refine Within.step (State.setTpo_within ..) (by decide) ?_
              unfold z2
              exact Within.step (State.advanceTo_within ..) (by decide) <| Within.refl _ _

theorem State.tpoGrant_within (s : State) (n : Nat) (owner : Nat) : Within [.regs, .time, .facets] s (State.tpoGrant s n owner) := by
  unfold State.tpoGrant
  extract_lets z0
  refine Within.ite (fun _ => ?_) (fun _ => ?_)
  · exact Within.step (State.setTpo_within ..) (by decide) <| Within.refl _ _
  · exact Within.step (State.tpoOwn_within ..) (by decide) <| Within.refl _ _

theorem State.setTci_within (s : State) (n : Nat) (x : Tci) : Within [.time] s (State.setTci s n x) := by
  unfold State.setTci
  exact Within.upd <| Within.refl _ _

theorem State.captureEdge_within (s : State) (n : Nat) : Within [.time, .facets, .pair, .log, .health] s (State.captureEdge s n) := by
  unfold State.captureEdge
  extract_lets z0 z1 z2 z3 z4 z5
  refine Within.ite (fun _ => ?_) (fun _ => ?_)
  · exact Within.step (State.setTci_within ..) (by decide) <| Within.refl _ _
  · refine Within.ite (fun _ => ?_) (fun _ => ?_)
    · refine Within.step (State.latchCause_within ..) (by decide) <| Within.step (State.logRec_within ..) (by decide) ?_
      unfold z5
      exact Within.step (State.setTci_within ..) (by decide) <| Within.refl _ _
    · unfold z5
      exact Within.step (State.setTci_within ..) (by decide) <| Within.refl _ _

theorem State.takeStamp_within (s : State) (n : Nat) : Within [.time] s (State.takeStamp s n).1 := by
  unfold State.takeStamp
  extract_lets z0
  split
  · dsimp only
    exact Within.refl _ _
  · dsimp only
    exact Within.step (State.setTci_within ..) (by decide) <| Within.refl _ _

theorem opSync_within (port : Nat) (m : SyncMsg) (s : State) : Within [.freeCount, .mem, .boot, .time, .lens, .facets, .pair, .log, .health] s (opSync port m s) := by
  unfold opSync
  refine Within.when _ _ (fun _ => ?_) ?_
  · refine Within.ite (fun _ => ?_) (fun _ => ?_)
    · exact Within.step (State.ptpDiscard_within ..) (by decide) <| Within.refl _ _
    · refine Within.ite (fun _ => ?_) (fun _ => ?_)
      · exact Within.refl _ _
      · refine Within.ite (fun _ => ?_) (fun _ => ?_)
        · extract_lets z0
          exact Within.step (State.setPort_within ..) (by decide) <| Within.refl _ _
        · exact Within.step (State.syncOffset_within ..) (by decide) <| Within.refl _ _
  · exact Within.refl _ _

theorem opFollowUp_within (port : Nat) (m : FollowUpMsg) (s : State) : Within [.freeCount, .mem, .boot, .time, .lens, .facets, .pair, .log, .health] s (opFollowUp port m s) := by
  unfold opFollowUp
  refine Within.when _ _ (fun _ => ?_) ?_
  · refine Within.ite (fun _ => ?_) (fun _ => ?_)
    · exact Within.step (State.ptpDiscard_within ..) (by decide) <| Within.refl _ _
    · extract_lets z0
      split
      · refine Within.ite (fun _ => ?_) (fun _ => ?_)
        · exact Within.step (State.syncOffset_within ..) (by decide) <| Within.step (State.setPort_within ..) (by decide) <| Within.refl _ _
        · exact Within.refl _ _
      · exact Within.refl _ _
  · exact Within.refl _ _

theorem opAnnounce_within (port : Nat) (m : AnnounceMsg) (s : State) : Within [.time, .facets, .log] s (opAnnounce port m s) := by
  unfold opAnnounce
  refine Within.when _ _ (fun _ => ?_) ?_
  · refine Within.ite (fun _ => ?_) (fun _ => ?_)
    · exact Within.step (State.ptpDiscard_within ..) (by decide) <| Within.refl _ _
    · extract_lets z0
      exact Within.step (State.bmca_within ..) (by decide) <| Within.step (State.setPort_within ..) (by decide) <| Within.refl _ _
  · exact Within.refl _ _

theorem opPdelayReq_within (port : Nat) (m : PdelayReqMsg) (s : State) : Within [.time] s (opPdelayReq port m s) := by
  unfold opPdelayReq
  refine Within.when _ _ (fun _ => ?_) ?_
  · refine Within.ite (fun _ => ?_) (fun _ => ?_)
    · exact Within.step (State.ptpDiscard_within ..) (by decide) <| Within.refl _ _
    · extract_lets z0
      exact Within.step (State.setPort_within ..) (by decide) <| Within.refl _ _
  · exact Within.refl _ _

theorem opPdelayResp_within (port : Nat) (m : PdelayRespMsg) (s : State) : Within [.time] s (opPdelayResp port m s) := by
  unfold opPdelayResp
  refine Within.when _ _ (fun _ => ?_) ?_
  · refine Within.ite (fun _ => ?_) (fun _ => ?_)
    · exact Within.step (State.ptpDiscard_within ..) (by decide) <| Within.refl _ _
    · extract_lets z0
      exact Within.step (State.setPort_within ..) (by decide) <| Within.refl _ _
  · exact Within.refl _ _

theorem opSyncTransmit_within (port : Nat) (s : State) : Within [.time] s (opSyncTransmit port s) := by
  unfold opSyncTransmit
  refine Within.when _ _ (fun _ => ?_) ?_
  · extract_lets z0 z1 z2 z3 z4
    exact Within.step (State.setPort_within ..) (by decide) <| Within.refl _ _
  · exact Within.refl _ _

theorem opAnnounceTransmit_within (port : Nat) (s : State) : Within [.time] s (opAnnounceTransmit port s) := by
  unfold opAnnounceTransmit
  refine Within.when _ _ (fun _ => ?_) ?_
  · extract_lets z0
    exact Within.step (State.setPort_within ..) (by decide) <| Within.refl _ _
  · exact Within.refl _ _

theorem opPdelayReqTransmit_within (port : Nat) (s : State) : Within [.time] s (opPdelayReqTransmit port s) := by
  unfold opPdelayReqTransmit
  refine Within.when _ _ (fun _ => ?_) ?_
  · extract_lets z0
    exact Within.step (State.setPort_within ..) (by decide) <| Within.refl _ _
  · exact Within.refl _ _

theorem opMasterLost_within (s : State) : Within [.time, .facets, .pair, .log, .health] s (opMasterLost s) := by
  unfold opMasterLost
  refine Within.when _ _ (fun _ => ?_) ?_
  · extract_lets z0
    refine Within.ite (fun _ => ?_) (fun _ => ?_)
    · refine Within.step (State.bmca_within ..) (by decide) ?_
      unfold z0
      exact Within.upd <| Within.refl _ _
    · refine Within.step (State.bmca_within ..) (by decide) <| Within.step (State.masterLost_within ..) (by decide) ?_
      unfold z0
      exact Within.upd <| Within.refl _ _
  · exact Within.refl _ _

theorem opHoldoverLimitExpired_within (s : State) : Within [.time, .facets, .pair, .log, .health] s (opHoldoverLimitExpired s) := by
  unfold opHoldoverLimitExpired
  refine Within.when _ _ (fun _ => ?_) ?_
  · split
    · exact Within.refl _ _
    · extract_lets z0
      refine Within.ite (fun _ => ?_) (fun _ => ?_)
      · refine Within.step (State.setServo_within ..) (by decide) ?_
        unfold z0
        exact Within.step (State.advanceMono_within ..) (by decide) <| Within.refl _ _
      · refine Within.ite (fun _ => ?_) (fun _ => ?_)
        · unfold z0
          exact Within.step (State.advanceMono_within ..) (by decide) <| Within.refl _ _
        · refine Within.step (State.tellTime_within ..) (by decide) ?_
          unfold z0
          exact Within.step (State.advanceMono_within ..) (by decide) <| Within.refl _ _
  · exact Within.refl _ _

theorem State.acceptJump_within (s : State) : Within [.reply, .time, .facets, .pair, .log, .health] s (State.acceptJump s) := by
  unfold State.acceptJump
  refine Within.ite (fun _ => ?_) (fun _ => ?_)
  · extract_lets z0 z1
    exact Within.step (State.answer_within ..) (by decide) <| Within.step (State.setServo_within ..) (by decide) <| Within.upd <| Within.refl _ _
  · exact Within.step (State.answer_within ..) (by decide) <| Within.refl _ _

theorem opAcceptJump_within (s : State) : Within [.reply, .time, .facets, .pair, .log, .health] s (opAcceptJump s) := by
  unfold opAcceptJump
  refine Within.when _ _ (fun _ => ?_) ?_
  · exact Within.step (State.acceptJump_within ..) (by decide) <| Within.refl _ _
  · exact Within.refl _ _

theorem opJumpStep_within (s : State) : Within [.mem, .time, .lens, .facets, .log] s (opJumpStep s) := by
  unfold opJumpStep
  refine Within.when _ _ (fun _ => ?_) ?_
  · split
    · exact Within.refl _ _
    · extract_lets z0 z1 z2
      refine Within.step (State.stepBy_within ..) (by decide) <| Within.upd ?_
      unfold z1
      exact Within.step (State.advanceTo_within ..) (by decide) <| Within.refl _ _
  · exact Within.refl _ _

theorem State.setTime_within (s : State) (sec : Nat) (ns : Nat) : Within [.reply, .mem, .time, .lens, .facets, .log] s (State.setTime s sec ns) := by
  unfold State.setTime
  split
  · exact Within.step (State.answer_within ..) (by decide) <| Within.step (State.stepTo_within ..) (by decide) <| Within.step (State.anchor_within ..) (by decide) <| Within.refl _ _
  · exact Within.step (State.answer_within ..) (by decide) <| Within.step (State.stepTo_within ..) (by decide) <| Within.step (State.anchor_within ..) (by decide) <| Within.refl _ _
  · exact Within.step (State.answer_within ..) (by decide) <| Within.step (State.stepTo_within ..) (by decide) <| Within.step (State.anchor_within ..) (by decide) <| Within.refl _ _
  · exact Within.step (State.answer_within ..) (by decide) <| Within.refl _ _

theorem opSetTime_within (sec : Nat) (ns : Nat) (s : State) : Within [.reply, .mem, .time, .lens, .facets, .log] s (opSetTime sec ns s) := by
  unfold opSetTime
  refine Within.when _ _ (fun _ => ?_) ?_
  · refine Within.ite (fun _ => ?_) (fun _ => ?_)
    · exact Within.step (State.answer_within ..) (by decide) <| Within.refl _ _
    · exact Within.step (State.setTime_within ..) (by decide) <| Within.refl _ _
  · exact Within.refl _ _

theorem opRtcCopy_within (s : State) : Within [.time] s (opRtcCopy s) := by
  unfold opRtcCopy
  refine Within.when _ _ (fun _ => ?_) ?_
  · extract_lets z0 z1
    refine Within.upd ?_
    unfold z0
    refine Within.ite (fun _ => ?_) (fun _ => ?_)
    · exact Within.refl _ _
    · exact Within.step (State.advanceTo_within ..) (by decide) <| Within.refl _ _
  · exact Within.refl _ _

theorem opTimeAnchor_within (s : State) : Within [.time, .facets, .log] s (opTimeAnchor s) := by
  unfold opTimeAnchor
  refine Within.when _ _ (fun _ => ?_) ?_
  · extract_lets z0 z1
    exact Within.step (State.anchor_within ..) (by decide) <| Within.step (State.advanceTo_within ..) (by decide) <| Within.refl _ _
  · exact Within.refl _ _

theorem opTpoStart_within (n : Nat) (v : Nat) (s : State) : Within [.reply, .time] s (opTpoStart n v s) := by
  unfold opTpoStart
  refine Within.when _ _ (fun _ => ?_) ?_
  · exact Within.step (State.tpoStart_within ..) (by decide) <| Within.refl _ _
  · exact Within.refl _ _

theorem opTpoEdge_within (n : Nat) (s : State) : Within [.time] s (opTpoEdge n s) := by
  unfold opTpoEdge
  refine Within.when _ _ (fun _ => ?_) ?_
  · exact Within.step (State.tpoEdge_within ..) (by decide) <| Within.refl _ _
  · exact Within.refl _ _

theorem opTpoPulseEnd_within (n : Nat) (s : State) : Within [.regs, .time, .facets] s (opTpoPulseEnd n s) := by
  unfold opTpoPulseEnd
  refine Within.when _ _ (fun _ => ?_) ?_
  · exact Within.step (State.tpoPulseEnd_within ..) (by decide) <| Within.refl _ _
  · exact Within.refl _ _

theorem opTpoGrant_within (n : Nat) (owner : Nat) (s : State) : Within [.reply, .regs, .time, .facets] s (opTpoGrant n owner s) := by
  unfold opTpoGrant
  refine Within.when _ _ (fun _ => ?_) ?_
  · refine Within.ite (fun _ => ?_) (fun _ => ?_)
    · exact Within.step (State.answer_within ..) (by decide) <| Within.refl _ _
    · exact Within.step (State.answer_within ..) (by decide) <| Within.step (State.tpoGrant_within ..) (by decide) <| Within.step (State.setReg_within ..) (by decide) <| Within.refl _ _
  · exact Within.refl _ _

theorem opCaptureEdge_within (n : Nat) (s : State) : Within [.time, .facets, .pair, .log, .health] s (opCaptureEdge n s) := by
  unfold opCaptureEdge
  refine Within.when _ _ (fun _ => ?_) ?_
  · exact Within.step (State.captureEdge_within ..) (by decide) <| Within.refl _ _
  · exact Within.refl _ _

theorem opOldestStampRead_within (n : Nat) (s : State) : Within [.reply, .time] s (opOldestStampRead n s) := by
  unfold opOldestStampRead
  refine Within.when _ _ (fun _ => ?_) ?_
  · split
    refine Within.step (State.answer_within ..) (by decide) ?_
    refine Within.ofEqL (by assumption) ?_
    exact Within.step (State.takeStamp_within ..) (by decide) <| Within.refl _ _
  · exact Within.refl _ _

theorem opTimeStatusRead_within (f : Nat) (s : State) : Within [.reply, .facets] s (opTimeStatusRead f s) := by
  unfold opTimeStatusRead
  refine Within.when _ _ (fun _ => ?_) ?_
  · extract_lets z0 z1
    exact Within.step (State.answer_within ..) (by decide) <| Within.step (State.setFacet_within ..) (by decide) <| Within.refl _ _
  · exact Within.refl _ _

end Sys2Proof.Machine
end

