-- ==== Sys2Proof/Laws/FrameFabric.lean ====
section
/-! SUPPORT. Frames of the switch fabric: what each operation can change. -/

namespace Sys2Proof.Machine

set_option Elab.async false

theorem State.portCount_within (s : State) (p : Nat) (sub : Nat) (n : Nat) : Within [.regs] s (State.portCount s p sub n) := by
  unfold State.portCount
  exact Within.step (State.setReg_within ..) (by decide) <| Within.refl _ _

theorem State.countReg_within (s : State) (index : Nat) (sub : Nat) (n : Nat) : Within [.regs] s (State.countReg s index sub n) := by
  unfold State.countReg
  exact Within.step (State.setReg_within ..) (by decide) <| Within.refl _ _

theorem State.setLink_within (s : State) (p : Nat) (v : Nat) : Within [.fabric] s (State.setLink s p v) := by
  unfold State.setLink
  exact Within.upd <| Within.refl _ _

theorem State.setFdb_within (s : State) (t : Map Nat) : Within [.fabric] s (State.setFdb s t) := by
  unfold State.setFdb
  exact Within.upd <| Within.refl _ _

theorem State.latchClasses_within (s : State) : Within [.fabric] s (State.latchClasses s) := by
  unfold State.latchClasses
  exact Within.upd <| Within.refl _ _

theorem State.setFrame_within (s : State) (k : Nat) (f : Frame) : Within [.fabric] s (State.setFrame s k f) := by
  unfold State.setFrame
  exact Within.upd <| Within.refl _ _

theorem State.setBlock_within (s : State) (o : Nat) (c : Nat) (b : ClassBlock) : Within [.fabric] s (State.setBlock s o c b) := by
  unfold State.setBlock
  exact Within.upd <| Within.refl _ _

theorem State.blockDiscard_within (c : Nat) (o : Nat) (s : State) : Within [.fabric] s (State.blockDiscard c o s) := by
  unfold State.blockDiscard
  extract_lets z0
  exact Within.step (State.setBlock_within ..) (by decide) <| Within.refl _ _

theorem State.discardAt_within (sub : Nat) (c : Nat) (o : Nat) (s : State) : Within [.regs, .fabric] s (State.discardAt sub c o s) := by
  unfold State.discardAt
  exact Within.step (State.portCount_within ..) (by decide) <| Within.step (State.blockDiscard_within ..) (by decide) <| Within.refl _ _

theorem takeCells_within (k n : Nat) (s : State) : Within [.fabric] s (takeCells k n s) := by
  induction n generalizing s with
  | zero => exact Within.refl _ _
  | succ n ih =>
    unfold takeCells
    exact Within.step (ih _) (fun _ => id) <| Within.step (State.setFrame_within ..) (by decide) <| Within.refl _ _

theorem State.noteHigh_within (s : State) (c : Nat) (outs : List Nat) : Within [.fabric] s (State.noteHigh s c outs) := by
  unfold State.noteHigh
  extract_lets z0 z1 z2
  refine Within.list _ (fun _ _ => ?_) _ _ ?_
  · extract_lets z3
    exact Within.step (State.setBlock_within ..) (by decide) <| Within.refl _ _
  · unfold z2
    exact Within.upd <| Within.refl _ _

theorem State.growFrame_within (k : Nat) (s : State) : Within [.fabric] s (State.growFrame k s) := by
  unfold State.growFrame
  refine Within.ite (fun _ => ?_) (fun _ => ?_)
  · exact Within.refl _ _
  · extract_lets z0 z1
    refine Within.step (State.noteHigh_within ..) (by decide) ?_
    unfold z1
    exact Within.step (takeCells_within ..) (by decide) <| Within.refl _ _

theorem State.settleFrame_within (k : Nat) (s : State) : Within [.fabric] s (State.settleFrame k s) := by
  unfold State.settleFrame
  split
  · exact Within.refl _ _
  · extract_lets z0 z1 z2 z3 z4
    refine Within.ite (fun _ => ?_) (fun _ => ?_)
    · exact Within.upd <| Within.refl _ _
    · exact Within.step (State.setFrame_within ..) (by decide) <| Within.refl _ _

theorem State.duplicate_within (s : State) (pair : Nat) (mac : Nat) (seq : Nat) : Within [.regs, .fabric] s (State.duplicate s pair mac seq).2 := by
  unfold State.duplicate
  extract_lets z0 z1 z2
  split
  · refine Within.iteR (fun _ => ?_) (fun _ => ?_)
    · dsimp only
      exact Within.upd <| Within.refl _ _
    · dsimp only
      exact Within.upd <| Within.refl _ _
  · refine Within.iteR (fun _ => ?_) (fun _ => ?_)
    · dsimp only
      exact Within.upd <| Within.refl _ _
    · split
      · dsimp only
        exact Within.upd <| Within.refl _ _
      · dsimp only
        exact Within.step (State.countReg_within ..) (by decide) <| Within.refl _ _

theorem State.countDuplicate_within (s : State) (pair : Nat) : Within [.regs] s (State.countDuplicate s pair) := by
  unfold State.countDuplicate
  exact Within.step (State.countReg_within ..) (by decide) <| Within.refl _ _

theorem State.learn_within (s : State) (h : FrameHead) : Within [.regs, .fabric] s (State.learn s h) := by
  unfold State.learn
  extract_lets z0 z1 z2
  refine Within.ite (fun _ => ?_) (fun _ => ?_)
  · split
    · extract_lets z3
      refine Within.ite (fun _ => ?_) (fun _ => ?_)
      · exact Within.refl _ _
      · exact Within.step (State.setFdb_within ..) (by decide) <| Within.refl _ _
    · split
      · exact Within.step (State.setFdb_within ..) (by decide) <| Within.refl _ _
      · exact Within.step (State.countReg_within ..) (by decide) <| Within.refl _ _
  · exact Within.refl _ _

theorem State.proxied_within (s : State) (h : FrameHead) (fwd : List Nat) : Within [.fabric] s (State.proxied s h fwd) := by
  unfold State.proxied
  extract_lets z0
  refine Within.list _ (fun _ _ => ?_) _ _ ?_
  · refine Within.ite (fun _ => ?_) (fun _ => ?_)
    · exact Within.refl _ _
    · exact Within.upd <| Within.refl _ _
  · exact Within.refl _ _

theorem State.takeSeq_within (s : State) (k : Nat) (mac : Nat) : Within [.fabric] s (State.takeSeq s k mac).2 := by
  unfold State.takeSeq
  dsimp only
  exact Within.upd <| Within.refl _ _

theorem State.takeSeqs_within (mac : Nat) (l : List Nat) (s : State) : Within [.fabric] s (State.takeSeqs mac l s).2 := by
  induction l generalizing s with
  | nil => exact Within.refl _ _
  | cons k l ih => exact Within.step (ih _) (fun _ => id) <| Within.step (State.takeSeq_within ..) (by decide) <| Within.refl _ _

theorem State.egressFilter_within (s : State) (c : Nat) (outs : List Nat) : Within [.regs, .fabric] s (State.egressFilter s c outs).2 := by
  unfold State.egressFilter
  dsimp only
  split
  · refine Within.ite (fun _ => ?_) (fun _ => ?_)
    · refine Within.step (State.discardAt_within ..) (by decide) ?_
      refine Within.list _ (fun _ _ => ?_) _ _ ?_
      · exact Within.step (State.discardAt_within ..) (by decide) <| Within.refl _ _
      · exact Within.refl _ _
    · refine Within.list _ (fun _ _ => ?_) _ _ ?_
      · exact Within.step (State.discardAt_within ..) (by decide) <| Within.refl _ _
      · exact Within.refl _ _
  · refine Within.list _ (fun _ _ => ?_) _ _ ?_
    · exact Within.step (State.discardAt_within ..) (by decide) <| Within.refl _ _
    · exact Within.refl _ _

theorem State.receiving_within (s : State) (p : Nat) (k : Nat) : Within [.fabric] s (State.receiving s p k) := by
  unfold State.receiving
  exact Within.upd <| Within.refl _ _

theorem State.newFrame_within (s : State) (f : Frame) : Within [.fabric] s (State.newFrame s f).2 := by
  unfold State.newFrame
  extract_lets z0 z1
  dsimp only
  exact Within.upd <| Within.refl _ _

theorem State.enqueue_within (k : Nat) (s : State) : Within [.fabric] s (State.enqueue k s) := by
  unfold State.enqueue
  extract_lets z0 z1 z2
  exact Within.step (State.growFrame_within ..) (by decide) <| Within.upd <| Within.refl _ _

theorem State.refuseHead_within (k : Nat) (s : State) : Within [.regs, .fabric] s (State.refuseHead k s) := by
  unfold State.refuseHead
  extract_lets z0 z1 z2
  refine Within.step (State.setFrame_within ..) (by decide) ?_
  unfold z2
  refine Within.list _ (fun _ _ => ?_) _ _ ?_
  · exact Within.step (State.blockDiscard_within ..) (by decide) <| Within.refl _ _
  · unfold z1
    exact Within.step (State.countReg_within ..) (by decide) <| Within.step (State.portCount_within ..) (by decide) <| Within.refl _ _

theorem State.takeHead_within (k : Nat) (s : State) : Within [.regs, .fabric] s (State.takeHead k s) := by
  unfold State.takeHead
  extract_lets z0
  refine Within.ite (fun _ => ?_) (fun _ => ?_)
  · exact Within.refl _ _
  · refine Within.ite (fun _ => ?_) (fun _ => ?_)
    · exact Within.step (State.enqueue_within ..) (by decide) <| Within.refl _ _
    · exact Within.step (State.refuseHead_within ..) (by decide) <| Within.refl _ _

theorem State.hsrHead_within (s : State) (h : FrameHead) : Within [.regs, .fabric] s (State.hsrHead s h).2 := by
  unfold State.hsrHead
  split
  · refine Within.iteR (fun _ => ?_) (fun _ => ?_)
    · split
      dsimp only
      refine Within.ite (fun _ => ?_) (fun _ => ?_)
      · refine Within.step (State.countDuplicate_within ..) (by decide) ?_
        refine Within.ofEq (by assumption) ?_
        exact Within.step (State.duplicate_within ..) (by decide) <| Within.refl _ _
      · refine Within.ofEq (by assumption) ?_
        exact Within.step (State.duplicate_within ..) (by decide) <| Within.refl _ _
    · dsimp only
      exact Within.refl _ _
  · dsimp only
    exact Within.refl _ _

theorem State.dropHead_within (h : FrameHead) (s : State) : Within [.fabric] s (State.dropHead h s) := by
  unfold State.dropHead
  split
  refine Within.step (State.receiving_within ..) (by decide) ?_
  refine Within.ofEq (by assumption) ?_
  exact Within.step (State.newFrame_within ..) (by decide) <| Within.refl _ _

theorem State.frameArrives_within (s0 : State) (h : FrameHead) : Within [.regs, .time, .fabric] s0 (State.frameArrives s0 h) := by
  unfold State.frameArrives
  split
  · exact Within.step (State.dropHead_within ..) (by decide) <| Within.step (State.portCount_within ..) (by decide) <| Within.refl _ _
  · refine Within.ite (fun _ => ?_) (fun _ => ?_)
    · exact Within.step (State.dropHead_within ..) (by decide) <| Within.step (State.ptpDiscard_within ..) (by decide) <| Within.refl _ _
    · split
      refine Within.ite (fun _ => ?_) (fun _ => ?_)
      · refine Within.step (State.dropHead_within ..) (by decide) ?_
        refine Within.ofEq (by assumption) ?_
        exact Within.step (State.hsrHead_within ..) (by decide) <| Within.refl _ _
      · extract_lets z0 z1 z2
        split
        extract_lets z3
        split
        split
        extract_lets z4 z5
        split
        · refine Within.upd ?_
          unfold z4
          refine Within.step (State.receiving_within ..) (by decide) ?_
          refine Within.ofEq (by assumption) ?_
          refine Within.step (State.newFrame_within ..) (by decide) ?_
          refine Within.ofEq (by assumption) ?_
          refine Within.step (State.takeSeqs_within ..) (by decide) ?_
          refine Within.ofEq (by assumption) ?_
          refine Within.step (State.egressFilter_within ..) (by decide) ?_
          unfold z1
          refine Within.step (State.proxied_within ..) (by decide) ?_
          unfold z0
          refine Within.step (State.learn_within ..) (by decide) ?_
          refine Within.ofEq (by assumption) ?_
          exact Within.step (State.hsrHead_within ..) (by decide) <| Within.refl _ _
        · refine Within.step (State.takeHead_within ..) (by decide) ?_
          unfold z4
          refine Within.step (State.receiving_within ..) (by decide) ?_
          refine Within.ofEq (by assumption) ?_
          refine Within.step (State.newFrame_within ..) (by decide) ?_
          refine Within.ofEq (by assumption) ?_
          refine Within.step (State.takeSeqs_within ..) (by decide) ?_
          refine Within.ofEq (by assumption) ?_
          refine Within.step (State.egressFilter_within ..) (by decide) ?_
          unfold z1
          refine Within.step (State.proxied_within ..) (by decide) ?_
          unfold z0
          refine Within.step (State.learn_within ..) (by decide) ?_
          refine Within.ofEq (by assumption) ?_
          exact Within.step (State.hsrHead_within ..) (by decide) <| Within.refl _ _

theorem State.residence_within (s : State) (o : Nat) (c : Nat) (ns : Nat) : Within [.fabric] s (State.residence s o c ns) := by
  unfold State.residence
  extract_lets z0 z1 z2
  exact Within.step (State.setBlock_within ..) (by decide) <| Within.refl _ _

theorem State.carry_within (o : Nat) (f : Frame) (s : State) : Within [.time] s (State.carry o f s) := by
  unfold State.carry
  split
  · refine Within.ite (fun _ => ?_) (fun _ => ?_)
    · exact Within.step (State.setPort_within ..) (by decide) <| Within.refl _ _
    · exact Within.refl _ _
  · exact Within.refl _ _

theorem State.beginSend_within (o : Nat) (k : Nat) (s : State) : Within [.time, .fabric] s (State.beginSend o k s) := by
  unfold State.beginSend
  extract_lets z0 z1 z2 z3
  refine Within.step (State.carry_within ..) (by decide) ?_
  unfold z3
  refine Within.upd ?_
  unfold z1
  exact Within.step (State.residence_within ..) (by decide) <| Within.refl _ _

theorem State.frameLeft_within (s : State) (o : Nat) (f : Frame) : Within [.regs, .fabric] s (State.frameLeft s o f) := by
  unfold State.frameLeft
  extract_lets z0 z1 z2 z3 z4 z5
  refine Within.ite (fun _ => ?_) (fun _ => ?_)
  · refine Within.ite (fun _ => ?_) (fun _ => ?_)
    · unfold z4
      exact Within.upd <| Within.refl _ _
    · refine Within.step (State.portCount_within ..) (by decide) ?_
      unfold z4
      exact Within.upd <| Within.refl _ _
  · refine Within.step (State.portCount_within ..) (by decide) <| Within.step (State.portCount_within ..) (by decide) <| Within.step (State.setBlock_within ..) (by decide) ?_
    unfold z4
    exact Within.upd <| Within.refl _ _

theorem State.endJoin_within (k : Nat) (s : State) : Within [.regs, .fabric] s (State.endJoin k s) := by
  unfold State.endJoin
  split
  · extract_lets z0 z1
    refine Within.step (State.settleFrame_within ..) (by decide) <| Within.step (State.frameLeft_within ..) (by decide) ?_
    unfold z1
    exact Within.upd <| Within.refl _ _
  · exact Within.refl _ _

theorem State.cutBad_within (k : Nat) (dup : Bool) (s : State) : Within [.fabric] s (State.cutBad k dup s) := by
  unfold State.cutBad
  extract_lets z0 z1 z2 z3
  exact Within.upd <| Within.refl _ _

theorem State.prpTail_within (s : State) (p : Nat) (f : Frame) (good : Bool) (rct : Option (Nat × Nat)) : Within [.regs, .fabric] s (State.prpTail s p f good rct).2 := by
  unfold State.prpTail
  split
  · refine Within.iteR (fun _ => ?_) (fun _ => ?_)
    · extract_lets z0
      split
      dsimp only
      refine Within.ite (fun _ => ?_) (fun _ => ?_)
      · refine Within.step (State.countDuplicate_within ..) (by decide) ?_
        refine Within.ofEq (by assumption) ?_
        refine Within.step (State.duplicate_within ..) (by decide) ?_
        unfold z0
        refine Within.ite (fun _ => ?_) (fun _ => ?_)
        · exact Within.step (State.countReg_within ..) (by decide) <| Within.refl _ _
        · exact Within.refl _ _
      · refine Within.ofEq (by assumption) ?_
        refine Within.step (State.duplicate_within ..) (by decide) ?_
        unfold z0
        refine Within.ite (fun _ => ?_) (fun _ => ?_)
        · exact Within.step (State.countReg_within ..) (by decide) <| Within.refl _ _
        · exact Within.refl _ _
    · dsimp only
      exact Within.refl _ _
  · dsimp only
    exact Within.refl _ _

theorem State.frameEnds_within (s0 : State) (p : Nat) (good : Bool) (rct : Option (Nat × Nat)) : Within [.regs, .fabric] s0 (State.frameEnds s0 p good rct) := by
  unfold State.frameEnds
  split
  · exact Within.refl _ _
  · extract_lets z0 z1 z2 z3 z4
    split
    extract_lets z5 z6 z7 z8
    refine Within.step (State.settleFrame_within ..) (by decide) <| Within.step (State.growFrame_within ..) (by decide) ?_
    unfold z8
    refine Within.ite (fun _ => ?_) (fun _ => ?_)
    · refine Within.step (State.cutBad_within ..) (by decide) ?_
      unfold z7
      refine Within.step (State.endJoin_within ..) (by decide) ?_
      unfold z6
      refine Within.step (State.setFrame_within ..) (by decide) ?_
      refine Within.ofEq (by assumption) ?_
      refine Within.step (State.prpTail_within ..) (by decide) ?_
      unfold z4
      refine Within.ite (fun _ => ?_) (fun _ => ?_)
      · refine Within.step (State.portCount_within ..) (by decide) ?_
        unfold z2
        exact Within.upd <| Within.refl _ _
      · refine Within.ite (fun _ => ?_) (fun _ => ?_)
        · refine Within.step (State.portCount_within ..) (by decide) <| Within.step (State.portCount_within ..) (by decide) ?_
          unfold z2
          exact Within.upd <| Within.refl _ _
        · unfold z2
          exact Within.upd <| Within.refl _ _
    · unfold z7
      refine Within.step (State.endJoin_within ..) (by decide) ?_
      unfold z6
      refine Within.step (State.setFrame_within ..) (by decide) ?_
      refine Within.ofEq (by assumption) ?_
      refine Within.step (State.prpTail_within ..) (by decide) ?_
      unfold z4
      refine Within.ite (fun _ => ?_) (fun _ => ?_)
      · refine Within.step (State.portCount_within ..) (by decide) ?_
        unfold z2
        exact Within.upd <| Within.refl _ _
      · refine Within.ite (fun _ => ?_) (fun _ => ?_)
        · refine Within.step (State.portCount_within ..) (by decide) <| Within.step (State.portCount_within ..) (by decide) ?_
          unfold z2
          exact Within.upd <| Within.refl _ _
        · unfold z2
          exact Within.upd <| Within.refl _ _

theorem State.truncate_within (s : State) (p : Nat) : Within [.regs, .fabric] s (State.truncate s p) := by
  unfold State.truncate
  split
  · exact Within.refl _ _
  · extract_lets z0 z1 z2
    refine Within.step (State.frameEnds_within ..) (by decide) ?_
    unfold z2
    exact Within.step (State.setFrame_within ..) (by decide) <| Within.refl _ _

theorem State.spend_within (s : State) (o : Nat) (c : Nat) (anew : Bool) : Within [.fabric] s (State.spend s o c anew) := by
  unfold State.spend
  refine Within.ite (fun _ => ?_) (fun _ => ?_)
  · exact Within.refl _ _
  · extract_lets z0 z1 z2 z3
    refine Within.upd ?_
    unfold z2
    exact Within.upd <| Within.refl _ _

theorem State.connect_within (round : Nat) (g : Request × Bool) (s : State) : Within [.regs, .time, .fabric] s (State.connect round g s) := by
  unfold State.connect
  extract_lets z0 z1 z2 z3 z4 z5
  refine Within.ite (fun _ => ?_) (fun _ => ?_)
  · split
    · extract_lets z6
      refine Within.step (State.beginSend_within ..) (by decide) <| Within.step (State.portCount_within ..) (by decide) ?_
      unfold z6
      refine Within.upd ?_
      unfold z2
      refine Within.ite (fun _ => ?_) (fun _ => ?_)
      · exact Within.upd <| Within.refl _ _
      · exact Within.refl _ _
    · unfold z2
      refine Within.ite (fun _ => ?_) (fun _ => ?_)
      · exact Within.upd <| Within.refl _ _
      · exact Within.refl _ _
  · refine Within.upd ?_
    unfold z4
    refine Within.step (State.spend_within ..) (by decide) ?_
    unfold z2
    refine Within.ite (fun _ => ?_) (fun _ => ?_)
    · exact Within.upd <| Within.refl _ _
    · exact Within.refl _ _

theorem matchRound_within (busy : List (Nat × Nat)) (round : Nat) (p : List Nat × List Nat × State) : Within [.regs, .time, .fabric] p.2.2 (matchRound busy round p).2.2 := by
  obtain ⟨fi, fo, s⟩ := p
  refine Within.list (F := [.regs, .time, .fabric]) (s := s) (State.connect round) (fun _ _ => ?_) _ s (Within.refl _ _)
  exact Within.step (State.connect_within ..) (by decide) (Within.refl _ _)

theorem State.ageHead_within (k : Copy) (s : State) : Within [.regs, .fabric] s (State.ageHead k s) := by
  unfold State.ageHead
  extract_lets z0 z1 z2 z3 z4
  refine Within.ite (fun _ => ?_) (fun _ => ?_)
  · refine Within.step (State.settleFrame_within ..) (by decide) <| Within.step (State.discardAt_within ..) (by decide) ?_
    unfold z4
    exact Within.upd <| Within.refl _ _
  · exact Within.refl _ _

theorem State.landCell_within (x : Nat × Nat × Nat) (s : State) : Within [.regs, .fabric] s (State.landCell x s) := by
  unfold State.landCell
  split
  split
  · exact Within.refl _ _
  · extract_lets z0 z1 z2 z3 z4 z5 z6 z7 z8
    refine Within.step (State.settleFrame_within ..) (by decide) ?_
    unfold z8
    refine Within.ite (fun _ => ?_) (fun _ => ?_)
    · refine Within.ite (fun _ => ?_) (fun _ => ?_)
      · refine Within.step (State.frameLeft_within ..) (by decide) ?_
        unfold z5
        refine Within.ite (fun _ => ?_) (fun _ => ?_)
        · refine Within.step (State.residence_within ..) (by decide) ?_
          unfold z4
          exact Within.upd <| Within.refl _ _
        · unfold z4
          exact Within.upd <| Within.refl _ _
      · unfold z5
        refine Within.ite (fun _ => ?_) (fun _ => ?_)
        · refine Within.step (State.residence_within ..) (by decide) ?_
          unfold z4
          exact Within.upd <| Within.refl _ _
        · unfold z4
          exact Within.upd <| Within.refl _ _
    · refine Within.upd ?_
      unfold z4
      exact Within.upd <| Within.refl _ _

theorem drainEgress_within (o fuel n : Nat) (s : State) : Within [.regs, .time, .fabric] s (drainEgress o fuel n s) := by
  have put : ∀ (x : Egress) (t : State), Within [.regs, .time, .fabric] t { t with fabric := { t.fabric with egress := mapPut o x t.fabric.egress } } := by
    intro x t
    exact Within.upd <| Within.refl _ _
  induction fuel generalizing n s with
  | zero => exact Within.refl _ _
  | succ k ih =>
    unfold drainEgress
    extract_lets e p
    refine Within.ite (fun _ => Within.refl _ _) (fun _ => Within.ite (fun _ => ?_) (fun _ => ?_))
    · exact Within.step (ih _ _) (fun _ => id) (put _ s)
    · split
      · split
        · exact Within.step (ih _ _) (fun _ => id) <| Within.step (State.beginSend_within ..) (by decide) (put _ s)
        · exact Within.refl _ _
      · split
        · exact Within.refl _ _
        · refine Within.ite (fun _ => put _ s) (fun _ => Within.ite (fun _ => ?_) (fun _ => ?_))
          · refine Within.step (ih _ _) (fun _ => id) <| Within.step (State.settleFrame_within ..) (by decide) ?_
            exact Within.step (State.frameLeft_within ..) (by decide) (put _ s)
          · exact Within.step (ih _ _) (fun _ => id) (put _ s)

theorem State.receiveBytes_within (p : Nat × Nat) (s : State) : Within [.fabric] s (State.receiveBytes p s) := by
  unfold State.receiveBytes
  extract_lets z0 z1 z2
  refine Within.step (State.growFrame_within ..) (by decide) ?_
  unfold z2
  exact Within.step (State.setFrame_within ..) (by decide) <| Within.refl _ _

theorem State.discardQueued_within (s : State) (p : Nat) (sub : Nat) (block : Bool) : Within [.regs, .fabric] s (State.discardQueued s p sub block) := by
  unfold State.discardQueued
  extract_lets z0 z1 z2 z3 z4
  refine Within.list _ (fun _ _ => ?_) _ _ ?_
  · exact Within.step (State.settleFrame_within ..) (by decide) <| Within.refl _ _
  · unfold z4
    refine Within.list _ (fun _ _ => ?_) _ _ ?_
    · extract_lets z5
      refine Within.ite (fun _ => ?_) (fun _ => ?_)
      · exact Within.step (State.discardAt_within ..) (by decide) <| Within.refl _ _
      · exact Within.step (State.portCount_within ..) (by decide) <| Within.refl _ _
    · unfold z3
      exact Within.upd <| Within.refl _ _

theorem State.loseTransmission_within (s : State) (p : Nat) : Within [.regs, .fabric] s (State.loseTransmission s p) := by
  unfold State.loseTransmission
  extract_lets z0 z1 z2 z3 z4 z5
  refine Within.list _ (fun _ _ => ?_) _ _ ?_
  · exact Within.step (State.settleFrame_within ..) (by decide) <| Within.refl _ _
  · unfold z5
    refine Within.list _ (fun _ _ => ?_) _ _ ?_
    · exact Within.step (State.discardAt_within ..) (by decide) <| Within.refl _ _
    · unfold z4
      exact Within.upd <| Within.refl _ _

theorem State.holdEnds_within (s : State) (p : Nat) : Within [.regs, .fabric] s (State.holdEnds s p) := by
  unfold State.holdEnds
  exact Within.step (State.setLink_within ..) (by decide) <| Within.step (State.discardQueued_within ..) (by decide) <| Within.refl _ _

theorem State.settleClosing_within (p : Nat) (s : State) : Within [.regs, .fabric] s (State.settleClosing p s) := by
  unfold State.settleClosing
  refine Within.ite (fun _ => ?_) (fun _ => ?_)
  · exact Within.refl _ _
  · extract_lets z0 z1 z2
    refine Within.step (State.setLink_within ..) (by decide) ?_
    unfold z2
    refine Within.upd ?_
    unfold z0
    exact Within.step (State.discardQueued_within ..) (by decide) <| Within.refl _ _

theorem State.noteP48_within (s : State) : Within [.regs] s (State.noteP48 s) := by
  unfold State.noteP48
  extract_lets z0 z1
  refine Within.ite (fun _ => ?_) (fun _ => ?_)
  · refine Within.step (State.setReg_within ..) (by decide) ?_
    unfold z1
    refine Within.ite (fun _ => ?_) (fun _ => ?_)
    · exact Within.step (State.countReg_within ..) (by decide) <| Within.refl _ _
    · exact Within.refl _ _
  · unfold z1
    refine Within.ite (fun _ => ?_) (fun _ => ?_)
    · exact Within.step (State.countReg_within ..) (by decide) <| Within.refl _ _
    · exact Within.refl _ _

theorem State.retryHeld_within (h : FrameHead × Option FrameTail) (s : State) : Within [.regs, .time, .fabric] s (State.retryHeld h s) := by
  unfold State.retryHeld
  extract_lets z0 z1 z2 z3
  refine Within.ite (fun _ => ?_) (fun _ => ?_)
  · unfold z1
    exact Within.upd <| Within.refl _ _
  · split
    · refine Within.step (State.frameEnds_within ..) (by decide) ?_
      unfold z3
      exact Within.step (State.frameArrives_within ..) (by decide) <| Within.refl _ _
    · unfold z3
      exact Within.step (State.frameArrives_within ..) (by decide) <| Within.refl _ _

theorem State.matching_within (busy : List (Nat × Nat)) (s : State) : Within [.regs, .time, .fabric] s (State.matching busy s) := by
  unfold State.matching
  extract_lets z0 z1
  refine Within.step (matchRound_within ..) (by decide) <| Within.step (matchRound_within ..) (by decide) <| Within.step (matchRound_within ..) (by decide) ?_
  dsimp only
  exact Within.refl _ _

theorem State.cellTime_within (s0 : State) : Within [.regs, .time, .fabric] s0 (State.cellTime s0) := by
  unfold State.cellTime
  extract_lets z0 z1 z2 z3 z4 z5 z6 z7 z8 z9 z10 z11 z12 z13 z14 z15
  refine Within.list _ (fun _ _ => ?_) _ _ ?_
  · exact Within.step (State.settleClosing_within ..) (by decide) <| Within.refl _ _
  · unfold z15
    refine Within.list _ (fun _ _ => ?_) _ _ ?_
    · refine Within.ite (fun _ => ?_) (fun _ => ?_)
      · exact Within.step (drainEgress_within ..) (by decide) <| Within.refl _ _
      · exact Within.refl _ _
    · unfold z14
      refine Within.list _ (fun _ _ => ?_) _ _ ?_
      · exact Within.step (State.settleFrame_within ..) (by decide) <| Within.step (State.takeHead_within ..) (by decide) <| Within.refl _ _
      · refine Within.upd ?_
        unfold z11
        refine Within.step (State.matching_within ..) (by decide) ?_
        unfold z10
        refine Within.list _ (fun _ _ => ?_) _ _ ?_
        · refine Within.ite (fun _ => ?_) (fun _ => ?_)
          · exact Within.refl _ _
          · exact Within.step (State.portCount_within ..) (by decide) <| Within.refl _ _
        · unfold z9
          refine Within.step (State.noteP48_within ..) (by decide) ?_
          refine Within.list _ (fun _ _ => ?_) _ _ ?_
          · exact Within.step (State.ageHead_within ..) (by decide) <| Within.refl _ _
          · unfold z8
            refine Within.list _ (fun _ _ => ?_) _ _ ?_
            · exact Within.step (State.retryHeld_within ..) (by decide) <| Within.refl _ _
            · refine Within.upd ?_
              unfold z6
              refine Within.list _ (fun _ _ => ?_) _ _ ?_
              · exact Within.step (State.receiveBytes_within ..) (by decide) <| Within.refl _ _
              · unfold z5
                refine Within.list _ (fun _ _ => ?_) _ _ ?_
                · exact Within.step (State.landCell_within ..) (by decide) <| Within.refl _ _
                · refine Within.upd ?_
                  unfold z3
                  refine Within.list _ (fun _ _ => ?_) _ _ ?_
                  · exact Within.step (State.endJoin_within ..) (by decide) <| Within.refl _ _
                  · exact Within.step (State.latchClasses_within ..) (by decide) <| Within.refl _ _

theorem State.superviseFor_within (k : Nat) (mac : Nat) (s : State) : Within [.fabric] s (State.superviseFor k mac s) := by
  unfold State.superviseFor
  split
  extract_lets z0 z1 z2 z3
  split
  refine Within.step (State.settleFrame_within ..) (by decide) ?_
  refine Within.list _ (fun _ _ => ?_) _ _ ?_
  · extract_lets z4 z5
    exact Within.upd <| Within.refl _ _
  · refine Within.ofEq (by assumption) ?_
    refine Within.step (State.newFrame_within ..) (by decide) ?_
    refine Within.ofEq (by assumption) ?_
    exact Within.step (State.takeSeq_within ..) (by decide) <| Within.refl _ _

theorem opFrameHead_within (h : FrameHead) (s : State) : Within [.regs, .time, .fabric] s (opFrameHead h s) := by
  unfold opFrameHead
  refine Within.when _ _ (fun _ => ?_) ?_
  · extract_lets z0 z1 z2
    refine Within.ite (fun _ => ?_) (fun _ => ?_)
    · refine Within.upd ?_
      unfold z1
      refine Within.ite (fun _ => ?_) (fun _ => ?_)
      · exact Within.step (State.countReg_within ..) (by decide) <| Within.refl _ _
      · exact Within.refl _ _
    · exact Within.step (State.frameArrives_within ..) (by decide) <| Within.refl _ _
  · exact Within.refl _ _

theorem opFrameTail_within (port : Nat) (t : FrameTail) (s : State) : Within [.regs, .fabric] s (opFrameTail port t s) := by
  unfold opFrameTail
  refine Within.when _ _ (fun _ => ?_) ?_
  · refine Within.ite (fun _ => ?_) (fun _ => ?_)
    · exact Within.step (State.frameEnds_within ..) (by decide) <| Within.refl _ _
    · exact Within.upd <| Within.refl _ _
  · exact Within.refl _ _

theorem opCellTime_within (s : State) : Within [.regs, .time, .fabric] s (opCellTime s) := by
  unfold opCellTime
  refine Within.when _ _ (fun _ => ?_) ?_
  · exact Within.step (State.cellTime_within ..) (by decide) <| Within.refl _ _
  · exact Within.refl _ _

theorem State.logLink_within (s : State) (p : Nat) (kind : Nat) : Within [.facets, .log] s (State.logLink s p kind) := by
  unfold State.logLink
  exact Within.step (State.logRec_within ..) (by decide) <| Within.refl _ _

theorem opLinkDown_within (port : Nat) (s : State) : Within [.regs, .fabric, .facets, .log] s (opLinkDown port s) := by
  unfold opLinkDown
  refine Within.when _ _ (fun _ => ?_) ?_
  · extract_lets z0 z1 z2 z3
    refine Within.step (State.logLink_within ..) (by decide) ?_
    unfold z3
    refine Within.ite (fun _ => ?_) (fun _ => ?_)
    · refine Within.step (State.holdEnds_within ..) (by decide) ?_
      unfold z1
      refine Within.step (State.loseTransmission_within ..) (by decide) ?_
      unfold z0
      exact Within.step (State.truncate_within ..) (by decide) <| Within.refl _ _
    · refine Within.step (State.setLink_within ..) (by decide) ?_
      unfold z1
      refine Within.step (State.loseTransmission_within ..) (by decide) ?_
      unfold z0
      exact Within.step (State.truncate_within ..) (by decide) <| Within.refl _ _
  · exact Within.refl _ _

theorem opLinkDownHoldExpiry_within (port : Nat) (s : State) : Within [.regs, .fabric] s (opLinkDownHoldExpiry port s) := by
  unfold opLinkDownHoldExpiry
  refine Within.when _ _ (fun _ => ?_) ?_
  · refine Within.ite (fun _ => ?_) (fun _ => ?_)
    · exact Within.step (State.holdEnds_within ..) (by decide) <| Within.refl _ _
    · refine Within.ite (fun _ => ?_) (fun _ => ?_)
      · extract_lets z0 z1
        refine Within.upd ?_
        unfold z0
        exact Within.step (State.discardQueued_within ..) (by decide) <| Within.refl _ _
      · exact Within.refl _ _
  · exact Within.refl _ _

theorem opLinkUp_within (port : Nat) (s : State) : Within [.fabric, .facets, .log] s (opLinkUp port s) := by
  unfold opLinkUp
  refine Within.when _ _ (fun _ => ?_) ?_
  · extract_lets z0 z1
    exact Within.step (State.logLink_within ..) (by decide) <| Within.step (State.setLink_within ..) (by decide) <| Within.upd <| Within.refl _ _
  · exact Within.refl _ _

theorem State.portOn_within (s : State) (p : Nat) : Within [.regs, .fabric] s (State.portOn s p) := by
  unfold State.portOn
  refine Within.ite (fun _ => ?_) (fun _ => ?_)
  · extract_lets z0 z1
    refine Within.ite (fun _ => ?_) (fun _ => ?_)
    · refine Within.upd ?_
      unfold z0
      exact Within.step (State.setReg_within ..) (by decide) <| Within.refl _ _
    · refine Within.step (State.setLink_within ..) (by decide) ?_
      unfold z0
      exact Within.step (State.setReg_within ..) (by decide) <| Within.refl _ _
  · exact Within.refl _ _

theorem State.portOff_within (s : State) (p : Nat) : Within [.regs, .fabric] s (State.portOff s p) := by
  unfold State.portOff
  refine Within.ite (fun _ => ?_) (fun _ => ?_)
  · exact Within.refl _ _
  · extract_lets z0 z1
    refine Within.step (State.settleClosing_within ..) (by decide) <| Within.upd ?_
    unfold z0
    exact Within.step (State.setReg_within ..) (by decide) <| Within.refl _ _

theorem opPortEnable_within (port : Nat) (s : State) : Within [.reply, .regs, .fabric] s (opPortEnable port s) := by
  unfold opPortEnable
  refine Within.when _ _ (fun _ => ?_) ?_
  · refine Within.ite (fun _ => ?_) (fun _ => ?_)
    · exact Within.step (State.answer_within ..) (by decide) <| Within.step (State.portOn_within ..) (by decide) <| Within.refl _ _
    · exact Within.step (State.answer_within ..) (by decide) <| Within.refl _ _
  · exact Within.refl _ _

theorem opPortDisable_within (port : Nat) (s : State) : Within [.reply, .regs, .fabric] s (opPortDisable port s) := by
  unfold opPortDisable
  refine Within.when _ _ (fun _ => ?_) ?_
  · refine Within.ite (fun _ => ?_) (fun _ => ?_)
    · exact Within.step (State.answer_within ..) (by decide) <| Within.step (State.portOff_within ..) (by decide) <| Within.refl _ _
    · exact Within.step (State.answer_within ..) (by decide) <| Within.refl _ _
  · exact Within.refl _ _

theorem opAuditPass_within (unreferenced : PairList) (s : State) : Within [.regs, .fabric, .facets, .pair, .log, .health] s (opAuditPass unreferenced s) := by
  unfold opAuditPass
  refine Within.when _ _ (fun _ => ?_) ?_
  · extract_lets z0 z1 z2 z3 z4 z5 z6
    refine Within.ite (fun _ => ?_) (fun _ => ?_)
    · unfold z5
      refine Within.step (State.setReg_within ..) (by decide) <| Within.step (State.setReg_within ..) (by decide) ?_
      unfold z4
      refine Within.step (State.setReg_within ..) (by decide) ?_
      unfold z3
      exact Within.upd <| Within.refl _ _
    · refine Within.step (State.latchCause_within ..) (by decide) <| Within.step (State.logRec_within ..) (by decide) ?_
      unfold z6
      refine Within.step (State.setReg_within ..) (by decide) ?_
      unfold z5
      refine Within.step (State.setReg_within ..) (by decide) <| Within.step (State.setReg_within ..) (by decide) ?_
      unfold z4
      refine Within.step (State.setReg_within ..) (by decide) ?_
      unfold z3
      exact Within.upd <| Within.refl _ _
  · exact Within.refl _ _

theorem opLearningAgeingStep_within (s : State) : Within [.fabric] s (opLearningAgeingStep s) := by
  unfold opLearningAgeingStep
  refine Within.when _ _ (fun _ => ?_) ?_
  · exact Within.step (State.setFdb_within ..) (by decide) <| Within.refl _ _
  · exact Within.refl _ _

theorem State.tableResult_within (s : State) (index : Nat) (code : Nat) : Within [.reply, .regs] s (State.tableResult s index code) := by
  unfold State.tableResult
  exact Within.step (State.answer_within ..) (by decide) <| Within.step (State.setReg_within ..) (by decide) <| Within.refl _ _

theorem opDatabaseWrite_within (s : State) : Within [.reply, .regs, .fabric] s (opDatabaseWrite s) := by
  unfold opDatabaseWrite
  refine Within.when _ _ (fun _ => ?_) ?_
  · split
    exact Within.step (State.tableResult_within ..) (by decide) <| Within.step (State.setFdb_within ..) (by decide) <| Within.refl _ _
  · exact Within.refl _ _

theorem opDatabaseDeleteByKey_within (s : State) : Within [.reply, .regs, .fabric] s (opDatabaseDeleteByKey s) := by
  unfold opDatabaseDeleteByKey
  refine Within.when _ _ (fun _ => ?_) ?_
  · split
    · exact Within.step (State.tableResult_within ..) (by decide) <| Within.step (State.setFdb_within ..) (by decide) <| Within.refl _ _
    · exact Within.step (State.tableResult_within ..) (by decide) <| Within.refl _ _
  · exact Within.refl _ _

theorem State.readFdb_within (s : State) (p : Option Nat) : Within [.reply, .regs, .blobs] s (State.readFdb s p) := by
  unfold State.readFdb
  split
  · split
    · exact Within.step (State.tableResult_within ..) (by decide) <| Within.step (State.setReg_within ..) (by decide) <| Within.step (State.setBlob_within ..) (by decide) <| Within.refl _ _
    · exact Within.step (State.tableResult_within ..) (by decide) <| Within.refl _ _
  · exact Within.step (State.tableResult_within ..) (by decide) <| Within.refl _ _

theorem opDatabaseReadByKey_within (s : State) : Within [.reply, .regs, .blobs] s (opDatabaseReadByKey s) := by
  unfold opDatabaseReadByKey
  refine Within.when _ _ (fun _ => ?_) ?_
  · exact Within.step (State.readFdb_within ..) (by decide) <| Within.refl _ _
  · exact Within.refl _ _

theorem opDatabaseReadByPosition_within (s : State) : Within [.reply, .regs, .blobs] s (opDatabaseReadByPosition s) := by
  unfold opDatabaseReadByPosition
  refine Within.when _ _ (fun _ => ?_) ?_
  · exact Within.step (State.readFdb_within ..) (by decide) <| Within.refl _ _
  · exact Within.refl _ _

theorem State.setStreamTab_within (s : State) (t : Map Nat) : Within [.fabric] s (State.setStreamTab s t) := by
  unfold State.setStreamTab
  exact Within.upd <| Within.refl _ _

theorem opStreamTableWrite_within (s : State) : Within [.reply, .regs, .fabric] s (opStreamTableWrite s) := by
  unfold opStreamTableWrite
  refine Within.when _ _ (fun _ => ?_) ?_
  · split
    exact Within.step (State.tableResult_within ..) (by decide) <| Within.step (State.setStreamTab_within ..) (by decide) <| Within.refl _ _
  · exact Within.refl _ _

theorem opStreamTableDeleteByKey_within (s : State) : Within [.reply, .regs, .fabric] s (opStreamTableDeleteByKey s) := by
  unfold opStreamTableDeleteByKey
  refine Within.when _ _ (fun _ => ?_) ?_
  · split
    · exact Within.step (State.tableResult_within ..) (by decide) <| Within.step (State.setStreamTab_within ..) (by decide) <| Within.refl _ _
    · exact Within.step (State.tableResult_within ..) (by decide) <| Within.refl _ _
  · exact Within.refl _ _

theorem State.readStream_within (s : State) (p : Option Nat) : Within [.reply, .regs, .blobs] s (State.readStream s p) := by
  unfold State.readStream
  split
  · split
    · exact Within.step (State.tableResult_within ..) (by decide) <| Within.step (State.setReg_within ..) (by decide) <| Within.step (State.setBlob_within ..) (by decide) <| Within.refl _ _
    · exact Within.step (State.tableResult_within ..) (by decide) <| Within.refl _ _
  · exact Within.step (State.tableResult_within ..) (by decide) <| Within.refl _ _

theorem opStreamTableReadByKey_within (s : State) : Within [.reply, .regs, .blobs] s (opStreamTableReadByKey s) := by
  unfold opStreamTableReadByKey
  refine Within.when _ _ (fun _ => ?_) ?_
  · exact Within.step (State.readStream_within ..) (by decide) <| Within.refl _ _
  · exact Within.refl _ _

theorem opStreamTableReadByPosition_within (s : State) : Within [.reply, .regs, .blobs] s (opStreamTableReadByPosition s) := by
  unfold opStreamTableReadByPosition
  refine Within.when _ _ (fun _ => ?_) ?_
  · exact Within.step (State.readStream_within ..) (by decide) <| Within.refl _ _
  · exact Within.refl _ _

theorem State.setVlan_within (s : State) (vid : Nat) (e : Nat) : Within [.fabric] s (State.setVlan s vid e) := by
  unfold State.setVlan
  exact Within.upd <| Within.refl _ _

theorem opVlanWrite_within (s : State) : Within [.reply, .regs, .fabric] s (opVlanWrite s) := by
  unfold opVlanWrite
  refine Within.when _ _ (fun _ => ?_) ?_
  · extract_lets z0
    refine Within.ite (fun _ => ?_) (fun _ => ?_)
    · exact Within.step (State.tableResult_within ..) (by decide) <| Within.step (State.setVlan_within ..) (by decide) <| Within.refl _ _
    · exact Within.step (State.tableResult_within ..) (by decide) <| Within.refl _ _
  · exact Within.refl _ _

theorem opVlanRead_within (s : State) : Within [.reply, .regs, .blobs] s (opVlanRead s) := by
  unfold opVlanRead
  refine Within.when _ _ (fun _ => ?_) ?_
  · extract_lets z0
    refine Within.ite (fun _ => ?_) (fun _ => ?_)
    · exact Within.step (State.tableResult_within ..) (by decide) <| Within.step (State.setBlob_within ..) (by decide) <| Within.refl _ _
    · exact Within.step (State.tableResult_within ..) (by decide) <| Within.refl _ _
  · exact Within.refl _ _

theorem opVlanInvalidate_within (s : State) : Within [.reply, .regs, .fabric] s (opVlanInvalidate s) := by
  unfold opVlanInvalidate
  refine Within.when _ _ (fun _ => ?_) ?_
  · extract_lets z0
    refine Within.ite (fun _ => ?_) (fun _ => ?_)
    · exact Within.step (State.tableResult_within ..) (by decide) <| Within.step (State.setVlan_within ..) (by decide) <| Within.refl _ _
    · exact Within.step (State.tableResult_within ..) (by decide) <| Within.refl _ _
  · exact Within.refl _ _

theorem opFlushLearned_within (s : State) : Within [.reply, .fabric] s (opFlushLearned s) := by
  unfold opFlushLearned
  refine Within.when _ _ (fun _ => ?_) ?_
  · exact Within.step (State.answer_within ..) (by decide) <| Within.step (State.setFdb_within ..) (by decide) <| Within.refl _ _
  · exact Within.refl _ _

theorem opPortClearCounters_within (port : Nat) (s : State) : Within [.reply, .regs, .fabric] s (opPortClearCounters port s) := by
  unfold opPortClearCounters
  refine Within.when _ _ (fun _ => ?_) ?_
  · extract_lets z0 z1 z2
    refine Within.step (State.answer_within ..) (by decide) ?_
    unfold z2
    refine Within.upd ?_
    unfold z0
    refine Within.list _ (fun _ _ => ?_) _ _ ?_
    · exact Within.step (State.setReg_within ..) (by decide) <| Within.refl _ _
    · exact Within.refl _ _
  · exact Within.refl _ _

theorem opSupervisionFrame_within (pair : Nat) (s : State) : Within [.fabric] s (opSupervisionFrame pair s) := by
  unfold opSupervisionFrame
  refine Within.when _ _ (fun _ => ?_) ?_
  · refine Within.list _ (fun _ _ => ?_) _ _ ?_
    · exact Within.step (State.superviseFor_within ..) (by decide) <| Within.refl _ _
    · exact Within.refl _ _
  · exact Within.refl _ _

theorem opNodeForget_within (pair : Nat) (mac : Nat) (remove : Bool) (s : State) : Within [.fabric] s (opNodeForget pair mac remove s) := by
  unfold opNodeForget
  refine Within.when _ _ (fun _ => ?_) ?_
  · extract_lets z0 z1
    split
    · extract_lets z2
      exact Within.upd <| Within.refl _ _
    · exact Within.refl _ _
  · exact Within.refl _ _

end Sys2Proof.Machine
end

