-- ==== Sys2Proof/Laws/FrameLens.lean ====
section
/-! SUPPORT. Frames of the phasor unit, the Lens and the trip lanes: what each operation can change. -/

namespace Sys2Proof.Machine

set_option Elab.async false

theorem State.setFreqGroup_within (s : State) (g : Nat) (x : FreqGroup) : Within [.phasor] s (State.setFreqGroup s g x) := by
  unfold State.setFreqGroup
  exact Within.upd <| Within.refl _ _

theorem State.putPhasor_within (s : State) (c : Nat) (R : Nat) (re : Nat) (im : Nat) (freq : Nat) (q : Nat) : Within [.mem] s (State.putPhasor s c R re im freq q) := by
  unfold State.putPhasor
  extract_lets z0
  refine Within.updMem ?_ ?hm
  case hm => intro h; repeat' (with_reducible first | exact h | apply memWriteList_wf | apply memClear_wf | apply guestWrite_wf | apply writeField_wf | apply clearUnits_wf | apply setAreaBit_wf | apply memWrite_wf | apply foldl_wf _ (fun _ _ h => memWrite_wf _ _ _ h) | apply putAll_wf | exact rfl | split)
  exact Within.refl _ _

theorem State.writePhasor_within (s : State) (n : Nat) (c : Nat) (freq : Nat) (res : PhasorRes) (held : Bool) (limit : Bool) : Within [.freeCount, .mem] s (State.writePhasor s n c freq res held limit) := by
  unfold State.writePhasor
  extract_lets z0
  split
  · exact Within.step (State.putPhasor_within ..) (by decide) <| Within.refl _ _
  · exact Within.step (State.nextFree_within ..) (by decide) <| Within.step (State.nextFree_within ..) (by decide) <| Within.step (State.putPhasor_within ..) (by decide) <| Within.refl _ _

theorem State.channelPhasor_within (r : Row) (c : Nat) (s : State) : Within [.freeCount, .mem, .phasor] s (State.channelPhasor r c s) := by
  unfold State.channelPhasor
  extract_lets z0 z1 z2 z3 z4 z5 z6 z7 z8 z9
  refine Within.ite (fun _ => ?_) (fun _ => ?_)
  · exact Within.step (State.writePhasor_within ..) (by decide) <| Within.refl _ _
  · refine Within.ite (fun _ => ?_) (fun _ => ?_)
    · refine Within.step (State.writePhasor_within ..) (by decide) <| Within.upd ?_
      unfold z4
      exact Within.upd <| Within.refl _ _
    · exact Within.step (State.writePhasor_within ..) (by decide) <| Within.refl _ _

theorem State.updateGroup_within (r : Row) (g : Nat) (s : State) : Within [.phasor] s (State.updateGroup r g s) := by
  unfold State.updateGroup
  extract_lets z0 z1 z2 z3
  exact Within.step (State.setFreqGroup_within ..) (by decide) <| Within.refl _ _

theorem State.setSumGroup_within (s : State) (g : Nat) (x : SumGroup) : Within [.phasor] s (State.setSumGroup s g x) := by
  unfold State.setSumGroup
  exact Within.upd <| Within.refl _ _

theorem State.evalSum_within (r : Row) (g : Nat) (s : State) : Within [.regs, .phasor] s (State.evalSum r g s) := by
  unfold State.evalSum
  extract_lets z0 z1 z2 z3 z4 z5 z6 z7 z8 z9 z10 z11 z12 z13 z14 z15 z16 z17 z18 z19 z20 z21 z22 z23 z24 z25 z26
  refine Within.ite (fun _ => ?_) (fun _ => ?_)
  · unfold z26
    refine Within.ite (fun _ => ?_) (fun _ => ?_)
    · refine Within.step (State.countReg_within ..) (by decide) ?_
      unfold z25
      exact Within.step (State.setSumGroup_within ..) (by decide) <| Within.refl _ _
    · unfold z25
      exact Within.step (State.setSumGroup_within ..) (by decide) <| Within.refl _ _
  · refine Within.step (State.countReg_within ..) (by decide) ?_
    unfold z26
    refine Within.ite (fun _ => ?_) (fun _ => ?_)
    · refine Within.step (State.countReg_within ..) (by decide) ?_
      unfold z25
      exact Within.step (State.setSumGroup_within ..) (by decide) <| Within.refl _ _
    · unfold z25
      exact Within.step (State.setSumGroup_within ..) (by decide) <| Within.refl _ _

theorem State.markUnsubscribed_within (s : State) (gone : List (Nat × Nat)) : Within [.phasor] s (State.markUnsubscribed s gone) := by
  unfold State.markUnsubscribed
  extract_lets z0 z1
  refine Within.list _ (fun _ _ => ?_) _ _ ?_
  · extract_lets z2 z3
    refine Within.ite (fun _ => ?_) (fun _ => ?_)
    · exact Within.step (State.setSumGroup_within ..) (by decide) <| Within.refl _ _
    · exact Within.refl _ _
  · exact Within.refl _ _

theorem State.evaluate_within (s0 : State) (r : Row) : Within [.freeCount, .regs, .mem, .phasor] s0 (State.evaluate s0 r) := by
  unfold State.evaluate
  extract_lets z0 z1 z2 z3 z4 z5 z6 z7 z8
  refine Within.upd ?_
  unfold z7
  refine Within.list _ (fun _ _ => ?_) _ _ ?_
  · exact Within.step (State.updateGroup_within ..) (by decide) <| Within.refl _ _
  · unfold z6
    refine Within.list _ (fun _ _ => ?_) _ _ ?_
    · exact Within.step (State.channelPhasor_within ..) (by decide) <| Within.refl _ _
    · unfold z4
      refine Within.upd ?_
      unfold z2
      refine Within.list _ (fun _ _ => ?_) _ _ ?_
      · exact Within.step (State.evalSum_within ..) (by decide) <| Within.refl _ _
      · unfold z0
        refine Within.ite (fun _ => ?_) (fun _ => ?_)
        · exact Within.upd <| Within.refl _ _
        · exact Within.refl _ _

theorem State.enterStage8_within (s : State) : Within [.freeCount, .regs, .mem, .lens, .phasor] s (State.enterStage8 s) := by
  unfold State.enterStage8
  split
  · extract_lets z0 z1 z2 z3
    refine Within.upd ?_
    unfold z2
    refine Within.step (State.evaluate_within ..) (by decide) ?_
    unfold z1
    exact Within.upd <| Within.refl _ _
  · exact Within.refl _ _

theorem opSampledValueFrame_within (fr : SvFrame) (s : State) : Within [.mem, .time, .lens, .facets, .log] s (opSampledValueFrame fr s) := by
  unfold opSampledValueFrame
  refine Within.when _ _ (fun _ => ?_) ?_
  · split
    · refine Within.ite (fun _ => ?_) (fun _ => ?_)
      · exact Within.step (State.lensFrame_within ..) (by decide) <| Within.step (State.advanceTo_within ..) (by decide) <| Within.refl _ _
      · exact Within.refl _ _
    · exact Within.refl _ _
  · exact Within.refl _ _

theorem opAlignmentWaitExpiry_within (s : State) : Within [.mem, .time, .lens, .facets, .log] s (opAlignmentWaitExpiry s) := by
  unfold opAlignmentWaitExpiry
  refine Within.when _ _ (fun _ => ?_) ?_
  · split
    · exact Within.refl _ _
    · exact Within.step (State.sealRows_within ..) (by decide) <| Within.step (State.advanceTo_within ..) (by decide) <| Within.refl _ _
  · exact Within.refl _ _

theorem opRowEvaluation_within (s : State) : Within [.freeCount, .regs, .mem, .lens, .phasor] s (opRowEvaluation s) := by
  unfold opRowEvaluation
  refine Within.when _ _ (fun _ => ?_) ?_
  · exact Within.step (State.enterStage8_within ..) (by decide) <| Within.refl _ _
  · exact Within.refl _ _

theorem State.setLane_within (s : State) (l : Nat) (x : Lane) : Within [.goose] s (State.setLane s l x) := by
  unfold State.setLane
  exact Within.upd <| Within.refl _ _

theorem State.evalLane_within (r : Row) (l : Nat) (s : State) : Within [.regs, .goose] s (State.evalLane r l s) := by
  unfold State.evalLane
  extract_lets z0 z1 z2 z3 z4 z5 z6 z7 z8 z9 z10 z11 z12 z13 z14 z15 z16 z17 z18
  refine Within.ite (fun _ => ?_) (fun _ => ?_)
  · refine Within.step (State.setLane_within ..) (by decide) ?_
    unfold z6
    refine Within.ite (fun _ => ?_) (fun _ => ?_)
    · exact Within.refl _ _
    · exact Within.step (State.countReg_within ..) (by decide) <| Within.refl _ _
  · refine Within.ite (fun _ => ?_) (fun _ => ?_)
    · refine Within.step (State.countReg_within ..) (by decide) ?_
      unfold z18
      refine Within.step (State.setLane_within ..) (by decide) ?_
      unfold z6
      refine Within.ite (fun _ => ?_) (fun _ => ?_)
      · exact Within.refl _ _
      · exact Within.step (State.countReg_within ..) (by decide) <| Within.refl _ _
    · unfold z18
      refine Within.step (State.setLane_within ..) (by decide) ?_
      unfold z6
      refine Within.ite (fun _ => ?_) (fun _ => ?_)
      · exact Within.refl _ _
      · exact Within.step (State.countReg_within ..) (by decide) <| Within.refl _ _

theorem State.evalLanes_within (s : State) (r : Row) : Within [.regs, .mem, .goose] s (State.evalLanes s r) := by
  unfold State.evalLanes
  extract_lets z0 z1 z2 z3
  refine Within.updMem ?_ ?hm
  case hm => intro h; repeat' (with_reducible first | exact h | apply memWriteList_wf | apply memClear_wf | apply guestWrite_wf | apply writeField_wf | apply clearUnits_wf | apply setAreaBit_wf | apply memWrite_wf | apply foldl_wf _ (fun _ _ h => memWrite_wf _ _ _ h) | apply putAll_wf | exact rfl | split)
  unfold z3
  refine Within.list _ (fun _ _ => ?_) _ _ ?_
  · exact Within.step (State.evalLane_within ..) (by decide) <| Within.refl _ _
  · unfold z2
    exact Within.upd <| Within.refl _ _

theorem State.laneFresh_within (s : State) (l : Nat) : Within [.goose] s (State.laneFresh s l) := by
  unfold State.laneFresh
  exact Within.step (State.setLane_within ..) (by decide) <| Within.refl _ _

theorem State.laneReset_within (s : State) (l : Nat) : Within [.goose] s (State.laneReset s l) := by
  unfold State.laneReset
  exact Within.step (State.setLane_within ..) (by decide) <| Within.refl _ _

end Sys2Proof.Machine
end

