-- ==== Sys2Proof/Laws/FrameGoose.lean ====
section
/-! SUPPORT. Frames of the GOOSE engine: what each operation can change. -/

namespace Sys2Proof.Machine

set_option Elab.async false

theorem State.setPub_within (s : State) (p : Nat) (x : Publisher) : Within [.goose] s (State.setPub s p x) := by
  unfold State.setPub
  exact Within.upd <| Within.refl _ _

theorem State.sendFrame_within (s : State) (p : Nat) (x : Publisher) : Within [.regs, .goose] s (State.sendFrame s p x) := by
  unfold State.sendFrame
  extract_lets z0 z1
  refine Within.ite (fun _ => ?_) (fun _ => ?_)
  · exact Within.step (State.countReg_within ..) (by decide) <| Within.step (State.setPub_within ..) (by decide) <| Within.refl _ _
  · exact Within.step (State.countReg_within ..) (by decide) <| Within.step (State.setPub_within ..) (by decide) <| Within.refl _ _

theorem State.newState_within (s : State) (p : Nat) (x : Publisher) (values : List Nat) (t : Nat) : Within [.regs, .goose] s (State.newState s p x values t) := by
  unfold State.newState
  extract_lets z0 z1
  exact Within.step (State.countReg_within ..) (by decide) <| Within.step (State.sendFrame_within ..) (by decide) <| Within.refl _ _

theorem State.scanPub_within (row : Option Nat) (t : Nat) (p : Nat) (s : State) : Within [.regs, .goose] s (State.scanPub row t p s) := by
  unfold State.scanPub
  extract_lets z0 z1
  refine Within.ite (fun _ => ?_) (fun _ => ?_)
  · exact Within.step (State.newState_within ..) (by decide) <| Within.refl _ _
  · exact Within.refl _ _

theorem State.scanPubs_within (s : State) (row : Option Nat) (t : Nat) : Within [.regs, .goose] s (State.scanPubs s row t) := by
  unfold State.scanPubs
  refine Within.ite (fun _ => ?_) (fun _ => ?_)
  · exact Within.refl _ _
  · refine Within.list _ (fun _ _ => ?_) _ _ ?_
    · exact Within.step (State.scanPub_within ..) (by decide) <| Within.refl _ _
    · exact Within.refl _ _

theorem State.retransmit_within (s0 : State) (p : Nat) : Within [.freeCount, .regs, .time, .goose] s0 (State.retransmit s0 p) := by
  unfold State.retransmit
  extract_lets z0 z1 z2 z3
  refine Within.ite (fun _ => ?_) (fun _ => ?_)
  · exact Within.refl _ _
  · refine Within.ite (fun _ => ?_) (fun _ => ?_)
    · refine Within.step (State.newState_within ..) (by decide) <| Within.step (State.nextFree_within ..) (by decide) ?_
      unfold z3
      refine Within.ite (fun _ => ?_) (fun _ => ?_)
      · refine Within.step (State.countReg_within ..) (by decide) ?_
        unfold z2
        exact Within.step (State.advanceMono_within ..) (by decide) <| Within.refl _ _
      · unfold z2
        exact Within.step (State.advanceMono_within ..) (by decide) <| Within.refl _ _
    · refine Within.step (State.sendFrame_within ..) (by decide) ?_
      unfold z3
      refine Within.ite (fun _ => ?_) (fun _ => ?_)
      · refine Within.step (State.countReg_within ..) (by decide) ?_
        unfold z2
        exact Within.step (State.advanceMono_within ..) (by decide) <| Within.refl _ _
      · unfold z2
        exact Within.step (State.advanceMono_within ..) (by decide) <| Within.refl _ _

theorem takeSubmissions_within (p : Nat) (l : List (Nat × List Nat)) (s : State) : Within [.regs, .goose] s (takeSubmissions p l s) := by
  induction l generalizing s with
  | nil => exact Within.refl _ _
  | cons v l ih =>
    obtain ⟨t, v⟩ := v
    unfold takeSubmissions
    refine Within.step (ih _) (fun _ => id) ?_
    refine Within.ite (fun _ => ?_) (fun _ => ?_)
    · exact Within.step (State.setPub_within ..) (by decide) <| Within.refl _ _
    · exact Within.step (State.newState_within ..) (by decide) <| Within.step (State.setPub_within ..) (by decide) <| Within.refl _ _

theorem State.pubOn_within (s : State) (p : Nat) : Within [.regs, .goose] s (State.pubOn s p) := by
  unfold State.pubOn
  extract_lets z0 z1 z2 z3
  refine Within.step (takeSubmissions_within ..) (by decide) ?_
  unfold z3
  exact Within.step (State.sendFrame_within ..) (by decide) <| Within.refl _ _

theorem State.pubOff_within (s : State) (p : Nat) : Within [.regs, .goose] s (State.pubOff s p) := by
  unfold State.pubOff
  extract_lets z0 z1
  refine Within.ite (fun _ => ?_) (fun _ => ?_)
  · unfold z1
    exact Within.step (State.setPub_within ..) (by decide) <| Within.refl _ _
  · refine Within.step (State.countReg_within ..) (by decide) ?_
    unfold z1
    exact Within.step (State.setPub_within ..) (by decide) <| Within.refl _ _

theorem State.takeoverFrame_within (p : Nat) (s : State) : Within [.regs, .goose] s (State.takeoverFrame p s) := by
  unfold State.takeoverFrame
  extract_lets z0
  refine Within.ite (fun _ => ?_) (fun _ => ?_)
  · exact Within.refl _ _
  · split
    · extract_lets z1
      refine Within.ite (fun _ => ?_) (fun _ => ?_)
      · exact Within.step (State.sendFrame_within ..) (by decide) <| Within.refl _ _
      · exact Within.step (State.newState_within ..) (by decide) <| Within.refl _ _
    · exact Within.step (State.newState_within ..) (by decide) <| Within.refl _ _

theorem State.takeoverFrames_within (s : State) : Within [.regs, .goose] s (State.takeoverFrames s) := by
  unfold State.takeoverFrames
  refine Within.list _ (fun _ _ => ?_) _ _ ?_
  · exact Within.step (State.takeoverFrame_within ..) (by decide) <| Within.refl _ _
  · exact Within.refl _ _

theorem State.mirrorPub_within (m : PubMirror) (s : State) : Within [.goose] s (State.mirrorPub m s) := by
  unfold State.mirrorPub
  extract_lets z0
  exact Within.step (State.setPub_within ..) (by decide) <| Within.refl _ _

theorem State.submit_within (s : State) (n : Nat) (p : Nat) : Within [.regs, .goose, .facets] s (State.submit s n p) := by
  unfold State.submit
  dsimp only
  refine Within.ite (fun _ => ?_) (fun _ => ?_)
  · exact Within.step (State.setFacet_within ..) (by decide) <| Within.refl _ _
  · refine Within.ite (fun _ => ?_) (fun _ => ?_)
    · exact Within.step (State.setFacet_within ..) (by decide) <| Within.step (State.countReg_within ..) (by decide) <| Within.refl _ _
    · refine Within.step (State.setFacet_within ..) (by decide) ?_
      refine Within.ite (fun _ => ?_) (fun _ => ?_)
      · exact Within.step (takeSubmissions_within ..) (by decide) <| Within.step (State.setPub_within ..) (by decide) <| Within.refl _ _
      · exact Within.step (State.setPub_within ..) (by decide) <| Within.refl _ _

theorem State.dropSubmissions_within (s : State) (n : Nat) : Within [.goose] s (State.dropSubmissions s n) := by
  unfold State.dropSubmissions
  refine Within.list _ (fun _ _ => ?_) _ _ ?_
  · refine Within.ite (fun _ => ?_) (fun _ => ?_)
    · exact Within.step (State.setPub_within ..) (by decide) <| Within.refl _ _
    · exact Within.refl _ _
  · exact Within.refl _ _

theorem State.setSub_within (s : State) (n : Nat) (x : Sub) : Within [.goose] s (State.setSub s n x) := by
  unfold State.setSub
  exact Within.upd <| Within.refl _ _

theorem State.setGin_within (s : State) (n : Nat) (w : Nat) : Within [.mem] s (State.setGin s n w) := by
  unfold State.setGin
  refine Within.updMem ?_ ?hm
  case hm => intro h; repeat' (with_reducible first | exact h | apply memWriteList_wf | apply memClear_wf | apply guestWrite_wf | apply writeField_wf | apply clearUnits_wf | apply setAreaBit_wf | apply memWrite_wf | apply foldl_wf _ (fun _ _ h => memWrite_wf _ _ _ h) | apply putAll_wf | exact rfl | split)
  exact Within.refl _ _

theorem State.applySub_within (s : State) (n : Nat) (data : List GooseData) : Within [.regs, .mem] s (State.applySub s n data) := by
  unfold State.applySub
  extract_lets z0 z1 z2 z3 z4 z5
  refine Within.ite (fun _ => ?_) (fun _ => ?_)
  · unfold z5
    exact Within.step (State.setGin_within ..) (by decide) <| Within.refl _ _
  · refine Within.step (State.countReg_within ..) (by decide) ?_
    unfold z5
    exact Within.step (State.setGin_within ..) (by decide) <| Within.refl _ _

theorem State.releaseSub_within (s : State) (n : Nat) : Within [.mem] s (State.releaseSub s n) := by
  unfold State.releaseSub
  extract_lets z0 z1 z2
  exact Within.step (State.setGin_within ..) (by decide) <| Within.refl _ _

theorem State.gooseState_within (s : State) (n : Nat) (g : GooseMsg) : Within [.regs, .mem, .goose] s (State.gooseState s n g) := by
  unfold State.gooseState
  extract_lets z0 z1 z2 z3 z4 z5 z6
  refine Within.ite (fun _ => ?_) (fun _ => ?_)
  · refine Within.step (State.countReg_within ..) (by decide) <| Within.step (State.countReg_within ..) (by decide) ?_
    unfold z5
    refine Within.step (State.setSub_within ..) (by decide) <| Within.step (State.applySub_within ..) (by decide) ?_
    unfold z4
    refine Within.ite (fun _ => ?_) (fun _ => ?_)
    · exact Within.step (State.countReg_within ..) (by decide) <| Within.refl _ _
    · exact Within.refl _ _
  · refine Within.ite (fun _ => ?_) (fun _ => ?_)
    · exact Within.step (State.countReg_within ..) (by decide) <| Within.step (State.setSub_within ..) (by decide) <| Within.refl _ _
    · exact Within.step (State.countReg_within ..) (by decide) <| Within.step (State.setSub_within ..) (by decide) <| Within.refl _ _

theorem State.subFrame_within (s : State) (n : Nat) (fr : GooseFrame) : Within [.regs, .mem, .goose] s (State.subFrame s n fr) := by
  unfold State.subFrame
  extract_lets z0 z1
  refine Within.ite (fun _ => ?_) (fun _ => ?_)
  · exact Within.refl _ _
  · split
    · exact Within.step (State.countReg_within ..) (by decide) <| Within.refl _ _
    · split
      · exact Within.step (State.countReg_within ..) (by decide) <| Within.refl _ _
      · extract_lets z2
        refine Within.ite (fun _ => ?_) (fun _ => ?_)
        · refine Within.step (State.gooseState_within ..) (by decide) ?_
          unfold z2
          exact Within.step (State.setSub_within ..) (by decide) <| Within.refl _ _
        · refine Within.step (State.portCount_within ..) (by decide) ?_
          unfold z2
          exact Within.step (State.setSub_within ..) (by decide) <| Within.refl _ _

theorem State.subTimeout_within (s0 : State) (n : Nat) : Within [.regs, .mem, .time, .goose, .facets, .log] s0 (State.subTimeout s0 n) := by
  unfold State.subTimeout
  extract_lets z0 z1 z2
  refine Within.ite (fun _ => ?_) (fun _ => ?_)
  · exact Within.refl _ _
  · refine Within.step (State.logRec_within ..) (by decide) <| Within.step (State.countReg_within ..) (by decide) ?_
    unfold z2
    refine Within.step (State.setSub_within ..) (by decide) <| Within.step (State.releaseSub_within ..) (by decide) ?_
    unfold z1
    exact Within.step (State.advanceMono_within ..) (by decide) <| Within.refl _ _

theorem State.subOn_within (s : State) (n : Nat) : Within [.mem, .goose] s (State.subOn s n) := by
  unfold State.subOn
  extract_lets z0 z1 z2
  exact Within.step (State.setSub_within ..) (by decide) <| Within.step (State.setGin_within ..) (by decide) <| Within.refl _ _

theorem State.subOff_within (s : State) (n : Nat) : Within [.mem, .goose] s (State.subOff s n) := by
  unfold State.subOff
  extract_lets z0
  refine Within.ite (fun _ => ?_) (fun _ => ?_)
  · exact Within.refl _ _
  · exact Within.step (State.setSub_within ..) (by decide) <| Within.step (State.releaseSub_within ..) (by decide) <| Within.refl _ _

theorem opRowSealed_within (s : State) : Within [.regs, .mem, .phasor, .goose, .facets] s (opRowSealed s) := by
  unfold opRowSealed
  refine Within.when _ _ (fun _ => ?_) ?_
  · split
    · exact Within.refl _ _
    · extract_lets z0 z1 z2
      refine Within.ite (fun _ => ?_) (fun _ => ?_)
      · unfold z2
        refine Within.step (State.evalLanes_within ..) (by decide) <| Within.step (State.postAll_within ..) (by decide) ?_
        unfold z1
        exact Within.upd <| Within.refl _ _
      · refine Within.step (State.scanPubs_within ..) (by decide) ?_
        unfold z2
        refine Within.step (State.evalLanes_within ..) (by decide) <| Within.step (State.postAll_within ..) (by decide) ?_
        unfold z1
        exact Within.upd <| Within.refl _ _
  · exact Within.refl _ _

theorem opRetransmission_within (p : Nat) (s : State) : Within [.freeCount, .regs, .time, .goose] s (opRetransmission p s) := by
  unfold opRetransmission
  refine Within.when _ _ (fun _ => ?_) ?_
  · exact Within.step (State.retransmit_within ..) (by decide) <| Within.refl _ _
  · exact Within.refl _ _

theorem opGooseSubmit_within (f : Nat) (v : Nat) (s : State) : Within [.regs, .goose, .facets] s (opGooseSubmit f v s) := by
  unfold opGooseSubmit
  refine Within.when _ _ (fun _ => ?_) ?_
  · exact Within.step (State.submit_within ..) (by decide) <| Within.refl _ _
  · exact Within.refl _ _

theorem opGooseFrame_within (fr : GooseFrame) (s : State) : Within [.regs, .mem, .goose] s (opGooseFrame fr s) := by
  unfold opGooseFrame
  refine Within.when _ _ (fun _ => ?_) ?_
  · split
    · refine Within.ite (fun _ => ?_) (fun _ => ?_)
      · exact Within.step (State.subFrame_within ..) (by decide) <| Within.refl _ _
      · exact Within.refl _ _
    · exact Within.refl _ _
  · exact Within.refl _ _

theorem opSubscriptionTimeout_within (n : Nat) (s : State) : Within [.regs, .mem, .time, .goose, .facets, .log] s (opSubscriptionTimeout n s) := by
  unfold opSubscriptionTimeout
  refine Within.when _ _ (fun _ => ?_) ?_
  · exact Within.step (State.subTimeout_within ..) (by decide) <| Within.refl _ _
  · exact Within.refl _ _

end Sys2Proof.Machine
end

