-- ==== Sys2Proof/Laws/FrameLogic.lean ====
section
/-! SUPPORT. Frames of scheme logic, its stations and the cabinet bus controllers: what each operation can change. -/

namespace Sys2Proof.Machine

set_option Elab.async false

theorem State.setCtl_within (s : State) (c : Nat) (x : CanCtl) : Within [.can] s (State.setCtl s c x) := by
  unfold State.setCtl
  exact Within.upd <| Within.refl _ _

theorem State.canEvent_within (s : State) (c : Nat) (event : Nat) : Within [.facets, .log] s (State.canEvent s c event) := by
  unfold State.canEvent
  exact Within.step (State.logRec_within ..) (by decide) <| Within.refl _ _

theorem State.confine_within (s : State) (c : Nat) : Within [.regs, .facets, .log, .can] s (State.confine s c) := by
  unfold State.confine
  extract_lets z0 z1 z2
  refine Within.ite (fun _ => ?_) (fun _ => ?_)
  · refine Within.ite (fun _ => ?_) (fun _ => ?_)
    · refine Within.step (State.canEvent_within ..) (by decide) <| Within.step (State.countReg_within ..) (by decide) ?_
      unfold z2
      exact Within.step (State.setCtl_within ..) (by decide) <| Within.refl _ _
    · refine Within.ite (fun _ => ?_) (fun _ => ?_)
      · refine Within.ite (fun _ => ?_) (fun _ => ?_)
        · exact Within.step (State.canEvent_within ..) (by decide) <| Within.step (State.setCtl_within ..) (by decide) <| Within.refl _ _
        · exact Within.refl _ _
      · exact Within.step (State.setCtl_within ..) (by decide) <| Within.refl _ _
  · exact Within.refl _ _

theorem State.canStop_within (s : State) (c : Nat) : Within [.regs, .can] s (State.canStop s c) := by
  unfold State.canStop
  extract_lets z0 z1 z2 z3
  refine Within.ite (fun _ => ?_) (fun _ => ?_)
  · unfold z3
    exact Within.step (State.setCtl_within ..) (by decide) <| Within.refl _ _
  · refine Within.step (State.countReg_within ..) (by decide) ?_
    unfold z3
    exact Within.step (State.setCtl_within ..) (by decide) <| Within.refl _ _

theorem State.frameEnd_within (s : State) (c : Nat) : Within [.regs, .can] s (State.frameEnd s c) := by
  unfold State.frameEnd
  extract_lets z0
  refine Within.ite (fun _ => ?_) (fun _ => ?_)
  · exact Within.step (State.canStop_within ..) (by decide) <| Within.refl _ _
  · refine Within.ite (fun _ => ?_) (fun _ => ?_)
    · exact Within.step (State.setCtl_within ..) (by decide) <| Within.refl _ _
    · exact Within.refl _ _

theorem State.canEnable_within (s : State) (c : Nat) : Within [.regs, .facets, .log, .can] s (State.canEnable s c) := by
  unfold State.canEnable
  extract_lets z0
  refine Within.ite (fun _ => ?_) (fun _ => ?_)
  · exact Within.step (State.frameEnd_within ..) (by decide) <| Within.step (State.confine_within ..) (by decide) <| Within.step (State.setCtl_within ..) (by decide) <| Within.refl _ _
  · exact Within.step (State.setCtl_within ..) (by decide) <| Within.refl _ _

theorem State.canDisable_within (s : State) (c : Nat) : Within [.regs, .can] s (State.canDisable s c) := by
  unfold State.canDisable
  extract_lets z0
  refine Within.ite (fun _ => ?_) (fun _ => ?_)
  · exact Within.refl _ _
  · refine Within.ite (fun _ => ?_) (fun _ => ?_)
    · exact Within.step (State.setCtl_within ..) (by decide) <| Within.refl _ _
    · exact Within.step (State.canStop_within ..) (by decide) <| Within.refl _ _

theorem State.canRestrict_within (s : State) (c : Nat) (on : Bool) : Within [.regs, .facets, .log, .can] s (State.canRestrict s c on) := by
  unfold State.canRestrict
  extract_lets z0
  refine Within.ite (fun _ => ?_) (fun _ => ?_)
  · refine Within.ite (fun _ => ?_) (fun _ => ?_)
    · exact Within.step (State.setCtl_within ..) (by decide) <| Within.refl _ _
    · exact Within.refl _ _
  · refine Within.ite (fun _ => ?_) (fun _ => ?_)
    · exact Within.step (State.confine_within ..) (by decide) <| Within.step (State.setCtl_within ..) (by decide) <| Within.refl _ _
    · exact Within.refl _ _

theorem State.canRecover_within (s : State) (c : Nat) : Within [.can] s (State.canRecover s c) := by
  unfold State.canRecover
  exact Within.step (State.setCtl_within ..) (by decide) <| Within.refl _ _

theorem State.canPowerUp_within (s : State) : Within [.regs, .facets, .log, .can] s (State.canPowerUp s) := by
  unfold State.canPowerUp
  refine Within.list _ (fun _ _ => ?_) _ _ ?_
  · extract_lets z0
    refine Within.ite (fun _ => ?_) (fun _ => ?_)
    · unfold z0
      exact Within.step (State.setCtl_within ..) (by decide) <| Within.refl _ _
    · refine Within.step (State.canEnable_within ..) (by decide) ?_
      unfold z0
      exact Within.step (State.setCtl_within ..) (by decide) <| Within.refl _ _
  · exact Within.refl _ _

theorem State.loadObject_within (s : State) (c : Nat) (o : Nat) (station : Option Nat) (f : CanFrame) : Within [.can] s (State.loadObject s c o station f) := by
  unfold State.loadObject
  extract_lets z0
  exact Within.step (State.setCtl_within ..) (by decide) <| Within.refl _ _

theorem State.cancelObjects_within (s : State) (c : Nat) (os : List Nat) : Within [.can] s (State.cancelObjects s c os) := by
  unfold State.cancelObjects
  exact Within.step (State.setCtl_within ..) (by decide) <| Within.refl _ _

theorem State.cancelStations_within (s : State) : Within [.can] s (State.cancelStations s) := by
  unfold State.cancelStations
  refine Within.list _ (fun _ _ => ?_) _ _ ?_
  · exact Within.step (State.cancelObjects_within ..) (by decide) <| Within.refl _ _
  · exact Within.refl _ _

theorem State.offer_within (s : State) (c : Nat) : Within [.can] s (State.offer s c) := by
  unfold State.offer
  extract_lets z0
  refine Within.ite (fun _ => ?_) (fun _ => ?_)
  · split
    · exact Within.step (State.setCtl_within ..) (by decide) <| Within.refl _ _
    · exact Within.refl _ _
  · exact Within.refl _ _

theorem State.sent_within (s : State) (c : Nat) : Within [.regs, .facets, .log, .can] s (State.sent s c) := by
  unfold State.sent
  extract_lets z0 z1
  split
  · exact Within.refl _ _
  · extract_lets z2 z3 z4 z5
    refine Within.step (State.frameEnd_within ..) (by decide) <| Within.step (State.confine_within ..) (by decide) ?_
    unfold z5
    refine Within.ite (fun _ => ?_) (fun _ => ?_)
    · refine Within.step (State.countReg_within ..) (by decide) ?_
      unfold z4
      exact Within.step (State.countReg_within ..) (by decide) <| Within.step (State.setCtl_within ..) (by decide) <| Within.refl _ _
    · unfold z4
      exact Within.step (State.countReg_within ..) (by decide) <| Within.step (State.setCtl_within ..) (by decide) <| Within.refl _ _

theorem State.notAcknowledged_within (s : State) (c : Nat) (o : Nat) : Within [.regs, .facets, .log, .can] s (State.notAcknowledged s c o) := by
  unfold State.notAcknowledged
  extract_lets z0 z1 z2 z3 z4
  refine Within.ite (fun _ => ?_) (fun _ => ?_)
  · refine Within.ite (fun _ => ?_) (fun _ => ?_)
    · refine Within.step (State.canEvent_within ..) (by decide) ?_
      unfold z4
      exact Within.step (State.countReg_within ..) (by decide) <| Within.step (State.setCtl_within ..) (by decide) <| Within.refl _ _
    · unfold z4
      exact Within.step (State.countReg_within ..) (by decide) <| Within.step (State.setCtl_within ..) (by decide) <| Within.refl _ _
  · exact Within.step (State.setCtl_within ..) (by decide) <| Within.refl _ _

theorem State.busError_within (s : State) (c : Nat) (e : CanError) : Within [.regs, .facets, .log, .can] s (State.busError s c e) := by
  unfold State.busError
  extract_lets z0 z1 z2 z3 z4 z5 z6 z7
  refine Within.ite (fun _ => ?_) (fun _ => ?_)
  · refine Within.step (State.frameEnd_within ..) (by decide) <| Within.step (State.setCtl_within ..) (by decide) ?_
    unfold z7
    split
    · refine Within.step (State.notAcknowledged_within ..) (by decide) <| Within.step (State.confine_within ..) (by decide) ?_
      unfold z5
      exact Within.step (State.countReg_within ..) (by decide) <| Within.step (State.setCtl_within ..) (by decide) <| Within.refl _ _
    · refine Within.step (State.confine_within ..) (by decide) <| Within.step (State.setCtl_within ..) (by decide) ?_
      unfold z5
      exact Within.step (State.countReg_within ..) (by decide) <| Within.step (State.setCtl_within ..) (by decide) <| Within.refl _ _
  · exact Within.refl _ _

theorem State.goodReceive_within (s : State) (c : Nat) : Within [.freeCount, .can] s (State.goodReceive s c) := by
  unfold State.goodReceive
  extract_lets z0
  refine Within.ite (fun _ => ?_) (fun _ => ?_)
  · exact Within.step (State.setCtl_within ..) (by decide) <| Within.refl _ _
  · refine Within.ite (fun _ => ?_) (fun _ => ?_)
    · exact Within.step (State.setCtl_within ..) (by decide) <| Within.step (State.nextFree_within ..) (by decide) <| Within.refl _ _
    · exact Within.step (State.setCtl_within ..) (by decide) <| Within.refl _ _

theorem State.canReceive_within (s : State) (c : Nat) (f : CanFrame) : Within [.freeCount, .regs, .facets, .log, .can] s (State.canReceive s c f) := by
  unfold State.canReceive
  extract_lets z0 z1 z2 z3 z4
  refine Within.ite (fun _ => ?_) (fun _ => ?_)
  · refine Within.step (State.frameEnd_within ..) (by decide) <| Within.step (State.confine_within ..) (by decide) ?_
    unfold z4
    split
    · refine Within.ite (fun _ => ?_) (fun _ => ?_)
      · refine Within.step (State.countReg_within ..) (by decide) ?_
        unfold z1
        exact Within.step (State.goodReceive_within ..) (by decide) <| Within.step (State.setCtl_within ..) (by decide) <| Within.refl _ _
      · refine Within.step (State.countReg_within ..) (by decide) <| Within.step (State.setCtl_within ..) (by decide) ?_
        unfold z1
        exact Within.step (State.goodReceive_within ..) (by decide) <| Within.step (State.setCtl_within ..) (by decide) <| Within.refl _ _
    · refine Within.ite (fun _ => ?_) (fun _ => ?_)
      · refine Within.step (State.countReg_within ..) (by decide) ?_
        unfold z1
        exact Within.step (State.goodReceive_within ..) (by decide) <| Within.step (State.setCtl_within ..) (by decide) <| Within.refl _ _
      · refine Within.step (State.countReg_within ..) (by decide) <| Within.step (State.setCtl_within ..) (by decide) ?_
        unfold z1
        exact Within.step (State.goodReceive_within ..) (by decide) <| Within.step (State.setCtl_within ..) (by decide) <| Within.refl _ _
    · unfold z1
      exact Within.step (State.goodReceive_within ..) (by decide) <| Within.step (State.setCtl_within ..) (by decide) <| Within.refl _ _
  · exact Within.refl _ _

theorem State.headRead_within (s : State) (c : Nat) (fifo : Nat) : Within [.can] s (State.headRead s c fifo) := by
  unfold State.headRead
  extract_lets z0
  refine Within.ite (fun _ => ?_) (fun _ => ?_)
  · exact Within.step (State.setCtl_within ..) (by decide) <| Within.refl _ _
  · exact Within.step (State.setCtl_within ..) (by decide) <| Within.refl _ _

theorem State.keepCan_within (s : State) : Within [.can] s (State.keepCan s) := by
  unfold State.keepCan
  exact Within.upd <| Within.refl _ _

theorem State.setProg_within (s : State) (p : Nat) (x : Prog) : Within [.logic] s (State.setProg s p x) := by
  unfold State.setProg
  exact Within.upd <| Within.refl _ _

theorem State.progEvent_within (s : State) (p : Nat) (kind : Nat) (station : Nat) : Within [.facets, .log] s (State.progEvent s p kind station) := by
  unfold State.progEvent
  exact Within.step (State.logRec_within ..) (by decide) <| Within.refl _ _

theorem State.loadImage_within (s : State) (p : Nat) (i : ProgImage) : Within [.mem, .logic] s (State.loadImage s p i) := by
  unfold State.loadImage
  extract_lets z0 z1 z2 z3
  refine Within.step (State.setProg_within ..) (by decide) ?_
  unfold z2
  refine State.editMem_within _ (fun _ h => putAll_wf _ _ h) (by decide) (by decide) ?_
  exact Within.refl _ _

theorem State.progStart_within (s : State) (p : Nat) : Within [.logic] s (State.progStart s p) := by
  unfold State.progStart
  extract_lets z0
  refine Within.ite (fun _ => ?_) (fun _ => ?_)
  · exact Within.step (State.setProg_within ..) (by decide) <| Within.refl _ _
  · exact Within.refl _ _

theorem State.progStop_within (s : State) (p : Nat) : Within [.mem, .logic, .facets, .log] s (State.progStop s p) := by
  unfold State.progStop
  extract_lets z0 z1 z2
  refine Within.ite (fun _ => ?_) (fun _ => ?_)
  · refine Within.step (State.progEvent_within ..) (by decide) ?_
    unfold z2
    split
    · refine Within.ite (fun _ => ?_) (fun _ => ?_)
      · refine State.editMem_within _ (fun _ h => putAll_wf _ _ h) (by decide) (by decide) ?_
        unfold z1
        exact Within.step (State.setProg_within ..) (by decide) <| Within.refl _ _
      · unfold z1
        exact Within.step (State.setProg_within ..) (by decide) <| Within.refl _ _
    · unfold z1
      exact Within.step (State.setProg_within ..) (by decide) <| Within.refl _ _
  · unfold z1
    exact Within.step (State.setProg_within ..) (by decide) <| Within.refl _ _

theorem State.runProgram_within (s : State) (p : Nat) (i : ProgImage) (row : Option Row) (own : Mem) (first : Bool) (disc : Bool) : Within [.freeCount, .regs, .logic, .facets, .log] s (State.runProgram s p i row own first disc).s := by
  unfold State.runProgram
  extract_lets z0
  split
  extract_lets z1 z2 z3 z4 z5 z6 z7
  dsimp only
  unfold z7
  refine Within.list _ (fun _ _ => ?_) _ _ ?_
  · exact Within.step (State.logRec_within ..) (by decide) <| Within.refl _ _
  · unfold z6
    refine Within.ite (fun _ => ?_) (fun _ => ?_)
    · unfold z5
      refine Within.upd ?_
      unfold z4
      exact Within.step (State.setProg_within ..) (by decide) <| Within.refl _ _
    · refine Within.step (State.countReg_within ..) (by decide) ?_
      unfold z5
      refine Within.upd ?_
      unfold z4
      exact Within.step (State.setProg_within ..) (by decide) <| Within.refl _ _

theorem State.deliverFdo_within (s : State) : Within [.power] s (State.deliverFdo s) := by
  unfold State.deliverFdo
  refine Within.ite (fun _ => ?_) (fun _ => ?_)
  · exact Within.upd <| Within.refl _ _
  · exact Within.refl _ _

theorem State.begin_within (s : State) (p : Nat) : Within [.mem, .logic, .facets, .log] s (State.begin s p) := by
  unfold State.begin
  extract_lets z0
  split
  · refine Within.ite (fun _ => ?_) (fun _ => ?_)
    · refine Within.step (State.progEvent_within ..) (by decide) <| Within.step (State.setProg_within ..) (by decide) ?_
      refine State.editMem_within _ (fun _ h => putAll_wf _ _ h) (by decide) (by decide) ?_
      exact Within.refl _ _
    · exact Within.refl _ _
  · exact Within.refl _ _

theorem State.occupy_within (s : State) (p : Nat) (lp : Nat) (cls : Nat) (start : Nat) (len : Nat) : Within [.logic] s (State.occupy s p lp cls start len) := by
  unfold State.occupy
  extract_lets z0 z1 z2
  exact Within.upd <| Within.refl _ _

theorem State.countCycle_within (s : State) (p : Nat) (cost : Nat) (delay : Nat) : Within [.regs] s (State.countCycle s p cost delay) := by
  unfold State.countCycle
  extract_lets z0 z1 z2
  refine Within.ite (fun _ => ?_) (fun _ => ?_)
  · refine Within.step (State.setReg_within ..) (by decide) ?_
    unfold z2
    refine Within.ite (fun _ => ?_) (fun _ => ?_)
    · refine Within.step (State.setReg_within ..) (by decide) ?_
      unfold z1
      exact Within.step (State.setReg_within ..) (by decide) <| Within.step (State.countReg_within ..) (by decide) <| Within.refl _ _
    · unfold z1
      exact Within.step (State.setReg_within ..) (by decide) <| Within.step (State.countReg_within ..) (by decide) <| Within.refl _ _
  · unfold z2
    refine Within.ite (fun _ => ?_) (fun _ => ?_)
    · refine Within.step (State.setReg_within ..) (by decide) ?_
      unfold z1
      exact Within.step (State.setReg_within ..) (by decide) <| Within.step (State.countReg_within ..) (by decide) <| Within.refl _ _
    · unfold z1
      exact Within.step (State.setReg_within ..) (by decide) <| Within.step (State.countReg_within ..) (by decide) <| Within.refl _ _

theorem State.cycleOn_within (s : State) (p : Nat) (i : ProgImage) (row : Option Row) (own : Mem) : Within [.freeCount, .regs, .logic, .facets, .log] s (State.cycleOn s p i row own).s := by
  unfold State.cycleOn
  dsimp only
  refine Within.step (State.setProg_within ..) (by decide) <| Within.step (State.occupy_within ..) (by decide) <| Within.step (State.countCycle_within ..) (by decide) <| Within.step (State.runProgram_within ..) (by decide) <| Within.step (State.setProg_within ..) (by decide) ?_
  split
  · dsimp only
    exact Within.step (State.countReg_within ..) (by decide) <| Within.step (State.setProg_within ..) (by decide) <| Within.step (State.runProgram_within ..) (by decide) <| Within.refl _ _
  · dsimp only
    exact Within.refl _ _

theorem State.runCycle_within (s0 : State) (p : Nat) : Within [.freeCount, .regs, .mem, .power, .goose, .logic, .facets, .log] s0 (State.runCycle s0 p) := by
  unfold State.runCycle
  extract_lets z0 z1
  split
  · refine Within.ite (fun _ => ?_) (fun _ => ?_)
    · extract_lets z2 z3 z4
      refine Within.ite (fun _ => ?_) (fun _ => ?_)
      · refine Within.step (State.scanPubs_within ..) (by decide) ?_
        unfold z3
        refine Within.step (State.deliverFdo_within ..) (by decide) ?_
        refine State.editMem_within _ (fun _ h => putAll_wf _ _ h) (by decide) (by decide) ?_
        unfold z2
        refine Within.step (State.cycleOn_within ..) (by decide) ?_
        unfold z0
        exact Within.step (State.begin_within ..) (by decide) <| Within.refl _ _
      · unfold z3
        refine Within.step (State.deliverFdo_within ..) (by decide) ?_
        refine State.editMem_within _ (fun _ h => putAll_wf _ _ h) (by decide) (by decide) ?_
        unfold z2
        refine Within.step (State.cycleOn_within ..) (by decide) ?_
        unfold z0
        exact Within.step (State.begin_within ..) (by decide) <| Within.refl _ _
    · unfold z0
      exact Within.step (State.begin_within ..) (by decide) <| Within.refl _ _
  · unfold z0
    exact Within.step (State.begin_within ..) (by decide) <| Within.refl _ _

theorem State.showOverrun_within (s : State) : Within [.facets, .pair, .log, .health] s (State.showOverrun s) := by
  unfold State.showOverrun
  exact Within.step (State.setCause_within ..) (by decide) <| Within.refl _ _

theorem State.trigger_within (s : State) (p : Nat) (cls : Nat) : Within [.freeCount, .regs, .mem, .power, .goose, .logic, .facets, .pair, .log, .health] s (State.trigger s p cls) := by
  unfold State.trigger
  extract_lets z0 z1
  split
  · exact Within.refl _ _
  · refine Within.ite (fun _ => ?_) (fun _ => ?_)
    · exact Within.refl _ _
    · refine Within.ite (fun _ => ?_) (fun _ => ?_)
      · refine Within.step (State.showOverrun_within ..) (by decide) ?_
        refine Within.ite (fun _ => ?_) (fun _ => ?_)
        · unfold z1
          exact Within.step (State.setProg_within ..) (by decide) <| Within.step (State.countReg_within ..) (by decide) <| Within.refl _ _
        · refine Within.step (State.progEvent_within ..) (by decide) ?_
          unfold z1
          exact Within.step (State.setProg_within ..) (by decide) <| Within.step (State.countReg_within ..) (by decide) <| Within.refl _ _
      · exact Within.step (State.runCycle_within ..) (by decide) <| Within.step (State.setProg_within ..) (by decide) <| Within.refl _ _

theorem runBatch_within (row : Row) (l : List Nat) (own : Mem) (u : Bool) (s : State) : Within [.freeCount, .regs, .mem, .power, .goose, .logic, .facets, .log] s (runBatch row l own u s) := by
  induction l generalizing own u s with
  | nil =>
    unfold runBatch
    refine Within.ite (fun _ => ?_) (fun _ => Within.refl _ _)
    exact Within.step (State.scanPubs_within ..) (by decide) <| Within.refl _ _
  | cons p l ih =>
    unfold runBatch
    have hb : Within [.freeCount, .regs, .mem, .power, .goose, .logic, .facets, .log] s (s.begin p) := Within.step (State.begin_within ..) (by decide) (Within.refl _ _)
    have hs : ∀ (b : Bool) (t : State), Within [.freeCount, .regs, .mem, .power, .goose, .logic, .facets, .log] t (if b = true then t.scanPubs (some row.num) row.inst else t) := fun b t =>
      Within.ite (fun _ => Within.step (State.scanPubs_within ..) (by decide) (Within.refl _ _)) (fun _ => Within.refl _ _)
    extract_lets s0
    split
    · exact Within.step (ih _ _ _) (fun _ => id) hb
    · extract_lets s1 own1 r s2 pub s3
      refine Within.step (ih _ _ _) (fun _ => id) <| Within.step (hs _ _) (fun _ => id) <| Within.step (State.deliverFdo_within ..) (by decide) ?_
      refine Within.memory (fun h => putAll_wf _ _ h) (by decide) ?_
      refine Within.step (State.cycleOn_within ..) (by decide) ?_
      exact Within.step (hs _ _) (fun _ => id) hb

theorem State.leaveStage8_within (s : State) : Within [.phasor, .logic, .capture] s (State.leaveStage8 s) := by
  unfold State.leaveStage8
  refine Within.ite (fun _ => ?_) (fun _ => ?_)
  · exact Within.upd <| Within.refl _ _
  · exact Within.refl _ _

theorem State.batch_within (s : State) (lp : Nat) : Within [.freeCount, .regs, .mem, .power, .phasor, .goose, .logic, .facets, .capture, .log] s (State.batch s lp) := by
  unfold State.batch
  split
  · exact Within.refl _ _
  · refine Within.ite (fun _ => ?_) (fun _ => ?_)
    · extract_lets z0 z1 z2 z3 z4
      refine Within.step (State.leaveStage8_within ..) (by decide) <| Within.upd ?_
      unfold z3
      refine Within.step (runBatch_within ..) (by decide) ?_
      unfold z2
      exact Within.upd <| Within.refl _ _
    · exact Within.refl _ _

theorem State.exchangeInit_within (s : State) (p : Nat) : Within [.logic] s (State.exchangeInit s p).2 := by
  unfold State.exchangeInit
  extract_lets z0
  refine Within.iteR (fun _ => ?_) (fun _ => ?_)
  · dsimp only
    exact Within.step (State.setProg_within ..) (by decide) <| Within.refl _ _
  · dsimp only
    exact Within.refl _ _

theorem State.exchangeAbort_within (s : State) (p : Nat) : Within [.logic] s (State.exchangeAbort s p) := by
  unfold State.exchangeAbort
  extract_lets z0
  refine Within.ite (fun _ => ?_) (fun _ => ?_)
  · exact Within.step (State.setProg_within ..) (by decide) <| Within.refl _ _
  · exact Within.refl _ _

theorem State.exchangeImage_within (s : State) (p : Nat) (raw : ByteList) : Within [.logic] s (State.exchangeImage s p raw).2 := by
  unfold State.exchangeImage
  extract_lets z0
  split
  · dsimp only
    exact Within.step (State.setProg_within ..) (by decide) <| Within.refl _ _
  · split
    · dsimp only
      exact Within.step (State.setProg_within ..) (by decide) <| Within.refl _ _
    · dsimp only
      exact Within.step (State.setProg_within ..) (by decide) <| Within.refl _ _

theorem State.exchangeNow_within (s : State) (p : Nat) : Within [.regs, .mem, .access, .logic, .facets, .log] s (State.exchangeNow s p) := by
  unfold State.exchangeNow
  extract_lets z0
  split
  · extract_lets z1 z2 z3 z4
    refine Within.step (State.progEvent_within ..) (by decide) <| Within.step (State.countReg_within ..) (by decide) ?_
    unfold z4
    refine Within.upd ?_
    unfold z2
    refine Within.step (State.setProg_within ..) (by decide) ?_
    unfold z1
    refine State.editMem_within _ (fun _ h => putAll_wf _ _ h) (by decide) (by decide) ?_
    exact Within.refl _ _
  · exact Within.refl _ _

theorem State.exchangeCommand_within (s : State) (p : Nat) (v : Nat) : Within [.regs, .mem, .access, .logic, .facets, .log] s (State.exchangeCommand s p v).2 := by
  unfold State.exchangeCommand
  extract_lets z0
  refine Within.iteR (fun _ => ?_) (fun _ => ?_)
  · dsimp only
    exact Within.refl _ _
  · refine Within.iteR (fun _ => ?_) (fun _ => ?_)
    · dsimp only
      exact Within.step (State.setProg_within ..) (by decide) <| Within.refl _ _
    · refine Within.iteR (fun _ => ?_) (fun _ => ?_)
      · dsimp only
        exact Within.step (State.setProg_within ..) (by decide) <| Within.refl _ _
      · dsimp only
        exact Within.step (State.exchangeNow_within ..) (by decide) <| Within.refl _ _

theorem State.exchangeBoundary_within (s : State) (p : Nat) : Within [.regs, .mem, .access, .logic, .facets, .log] s (State.exchangeBoundary s p) := by
  unfold State.exchangeBoundary
  refine Within.ite (fun _ => ?_) (fun _ => ?_)
  · exact Within.step (State.exchangeNow_within ..) (by decide) <| Within.refl _ _
  · exact Within.refl _ _

theorem State.stopProgram_within (s : State) (p : Nat) : Within [.regs, .mem, .access, .logic, .facets, .log] s (State.stopProgram s p) := by
  unfold State.stopProgram
  exact Within.step (State.progStop_within ..) (by decide) <| Within.step (State.exchangeBoundary_within ..) (by decide) <| Within.refl _ _

theorem State.progClear_within (s : State) (p : Nat) : Within [.regs, .logic, .facets, .pair, .log, .health] s (State.progClear s p) := by
  unfold State.progClear
  extract_lets z0 z1 z2
  refine Within.step (State.showOverrun_within ..) (by decide) <| Within.step (State.setProg_within ..) (by decide) ?_
  unfold z1
  refine Within.list _ (fun _ _ => ?_) _ _ ?_
  · exact Within.step (State.setReg_within ..) (by decide) <| Within.refl _ _
  · exact Within.refl _ _

theorem State.setFdi_within (s : State) (pin : Nat) (level : Bool) : Within [.mem, .logic] s (State.setFdi s pin level) := by
  unfold State.setFdi
  refine Within.updMem ?_ ?hm
  case hm => intro h; repeat' (with_reducible first | exact h | apply memWriteList_wf | apply memClear_wf | apply guestWrite_wf | apply writeField_wf | apply clearUnits_wf | apply setAreaBit_wf | apply memWrite_wf | apply foldl_wf _ (fun _ _ h => memWrite_wf _ _ _ h) | apply putAll_wf | exact rfl | split)
  exact Within.refl _ _

theorem State.fdiEdge_within (s : State) (pin : Nat) (level : Bool) : Within [.mem, .power, .logic] s (State.fdiEdge s pin level) := by
  unfold State.fdiEdge
  extract_lets z0 z1 z2
  refine Within.ite (fun _ => ?_) (fun _ => ?_)
  · refine Within.step (State.setFdi_within ..) (by decide) ?_
    unfold z1
    exact Within.upd <| Within.refl _ _
  · refine Within.ite (fun _ => ?_) (fun _ => ?_)
    · refine Within.upd ?_
      unfold z1
      exact Within.upd <| Within.refl _ _
    · refine Within.upd ?_
      unfold z1
      exact Within.upd <| Within.refl _ _

theorem State.fdiHeld_within (s : State) (pin : Nat) : Within [.mem, .time, .logic] s (State.fdiHeld s pin) := by
  unfold State.fdiHeld
  split
  · exact Within.step (State.setFdi_within ..) (by decide) <| Within.step (State.advanceMono_within ..) (by decide) <| Within.refl _ _
  · exact Within.refl _ _

theorem State.fdiFilter_within (s : State) (pin : Nat) : Within [.mem, .logic] s (State.fdiFilter s pin) := by
  unfold State.fdiFilter
  split
  · refine Within.ite (fun _ => ?_) (fun _ => ?_)
    · exact Within.step (State.setFdi_within ..) (by decide) <| Within.refl _ _
    · exact Within.upd <| Within.refl _ _
  · exact Within.refl _ _

theorem State.setStation_within (s : State) (n : Nat) (x : Station) : Within [.logic] s (State.setStation s n x) := by
  unfold State.setStation
  exact Within.upd <| Within.refl _ _

theorem State.writeSti_within (s : State) (n : Nat) (inputs : Nat) (health : Bool) : Within [.mem] s (State.writeSti s n inputs health) := by
  unfold State.writeSti
  extract_lets z0
  refine Within.updMem ?_ ?hm
  case hm => intro h; repeat' (with_reducible first | exact h | apply memWriteList_wf | apply memClear_wf | apply guestWrite_wf | apply writeField_wf | apply clearUnits_wf | apply setAreaBit_wf | apply memWrite_wf | apply foldl_wf _ (fun _ _ h => memWrite_wf _ _ _ h) | apply putAll_wf | exact rfl | split)
  exact Within.refl _ _

theorem State.stationSubst_within (s : State) (n : Nat) : Within [.mem] s (State.stationSubst s n) := by
  unfold State.stationSubst
  exact Within.step (State.writeSti_within ..) (by decide) <| Within.refl _ _

theorem State.stationEvent_within (s : State) (n : Nat) (kind : Nat) : Within [.facets, .log] s (State.stationEvent s n kind) := by
  unfold State.stationEvent
  refine Within.list _ (fun _ _ => ?_) _ _ ?_
  · exact Within.step (State.progEvent_within ..) (by decide) <| Within.refl _ _
  · exact Within.refl _ _

theorem State.stationOn_within (s : State) (n : Nat) : Within [.mem, .logic, .can] s (State.stationOn s n) := by
  unfold State.stationOn
  refine Within.ite (fun _ => ?_) (fun _ => ?_)
  · exact Within.refl _ _
  · extract_lets z0 z1 z2 z3
    refine Within.upd ?_
    unfold z2
    exact Within.step (State.setStation_within ..) (by decide) <| Within.step (State.stationSubst_within ..) (by decide) <| Within.refl _ _

theorem State.stationOff_within (s : State) (n : Nat) : Within [.mem, .logic, .can] s (State.stationOff s n) := by
  unfold State.stationOff
  refine Within.ite (fun _ => ?_) (fun _ => ?_)
  · exact Within.refl _ _
  · extract_lets z0 z1 z2 z3
    refine Within.upd ?_
    unfold z2
    refine Within.step (State.setStation_within ..) (by decide) ?_
    unfold z0
    exact Within.step (State.cancelObjects_within ..) (by decide) <| Within.step (State.stationSubst_within ..) (by decide) <| Within.refl _ _

theorem State.stationDrop_within (s : State) (n : Nat) : Within [.regs, .mem, .logic, .facets, .log] s (State.stationDrop s n) := by
  unfold State.stationDrop
  extract_lets z0 z1 z2
  refine Within.step (State.stationEvent_within ..) (by decide) <| Within.step (State.countReg_within ..) (by decide) ?_
  unfold z2
  refine Within.list _ (fun _ _ => ?_) _ _ ?_
  · exact Within.step (State.setProg_within ..) (by decide) <| Within.refl _ _
  · unfold z1
    exact Within.step (State.setStation_within ..) (by decide) <| Within.step (State.stationSubst_within ..) (by decide) <| Within.refl _ _

theorem State.stationMiss_within (s : State) (n : Nat) : Within [.regs, .mem, .logic, .facets, .log] s (State.stationMiss s n) := by
  unfold State.stationMiss
  extract_lets z0 z1 z2
  refine Within.ite (fun _ => ?_) (fun _ => ?_)
  · refine Within.step (State.stationDrop_within ..) (by decide) ?_
    unfold z2
    exact Within.step (State.countReg_within ..) (by decide) <| Within.step (State.setStation_within ..) (by decide) <| Within.refl _ _
  · unfold z2
    exact Within.step (State.countReg_within ..) (by decide) <| Within.step (State.setStation_within ..) (by decide) <| Within.refl _ _

theorem State.exchange_within (s0 : State) (n : Nat) : Within [.regs, .mem, .logic, .facets, .log, .can] s0 (State.exchange s0 n) := by
  unfold State.exchange
  extract_lets z0 z1 z2 z3 z4 z5 z6 z7 z8
  refine Within.ite (fun _ => ?_) (fun _ => ?_)
  · unfold z0
    refine Within.ite (fun _ => ?_) (fun _ => ?_)
    · exact Within.step (State.stationMiss_within ..) (by decide) <| Within.refl _ _
    · exact Within.refl _ _
  · refine Within.step (State.countReg_within ..) (by decide) <| Within.step (State.setStation_within ..) (by decide) ?_
    unfold z7
    refine Within.list _ (fun _ _ => ?_) _ _ ?_
    · exact Within.step (State.loadObject_within ..) (by decide) <| Within.refl _ _
    · unfold z4
      refine Within.step (State.cancelObjects_within ..) (by decide) ?_
      unfold z0
      refine Within.ite (fun _ => ?_) (fun _ => ?_)
      · exact Within.step (State.stationMiss_within ..) (by decide) <| Within.refl _ _
      · exact Within.refl _ _

theorem State.seeOutput_within (s : State) (c : Nat) (f : CanFrame) : Within [.regs, .mem, .logic, .facets, .log] s (State.seeOutput s c f) := by
  unfold State.seeOutput
  split
  · exact Within.refl _ _
  · extract_lets z0 z1 z2 z3 z4 z5 z6 z7
    refine Within.ite (fun _ => ?_) (fun _ => ?_)
    · exact Within.refl _ _
    · refine Within.ite (fun _ => ?_) (fun _ => ?_)
      · refine Within.step (State.countReg_within ..) (by decide) ?_
        unfold z7
        refine Within.step (State.setStation_within ..) (by decide) ?_
        unfold z3
        refine Within.ite (fun _ => ?_) (fun _ => ?_)
        · exact Within.step (State.stationMiss_within ..) (by decide) <| Within.refl _ _
        · exact Within.refl _ _
      · unfold z7
        refine Within.step (State.setStation_within ..) (by decide) ?_
        unfold z3
        refine Within.ite (fun _ => ?_) (fun _ => ?_)
        · exact Within.step (State.stationMiss_within ..) (by decide) <| Within.refl _ _
        · exact Within.refl _ _

theorem State.takeSegments_within (s : State) (n : Nat) (l : List RespSeg) : Within [.regs, .logic] s (State.takeSegments s n l) := by
  induction l generalizing s with
  | nil => exact Within.refl _ _
  | cons v l ih =>
    unfold State.takeSegments
    refine Within.step (ih _) (fun _ => id) ?_
    refine Within.ite (fun _ => ?_) (fun _ => Within.ite (fun _ => ?_) (fun _ => Within.refl _ _))
    · exact Within.step (State.countReg_within ..) (by decide) <| Within.refl _ _
    · exact Within.step (State.setStation_within ..) (by decide) <| Within.refl _ _

theorem State.goodResponse_within (s : State) (n : Nat) : Within [.mem, .logic, .facets, .log] s (State.goodResponse s n) := by
  unfold State.goodResponse
  extract_lets z0 z1 z2 z3 z4 z5 z6 z7 z8
  refine Within.ite (fun _ => ?_) (fun _ => ?_)
  · refine Within.ite (fun _ => ?_) (fun _ => ?_)
    · unfold z8
      refine Within.step (State.writeSti_within ..) (by decide) ?_
      unfold z7
      exact Within.step (State.setStation_within ..) (by decide) <| Within.refl _ _
    · refine Within.step (State.stationEvent_within ..) (by decide) ?_
      unfold z8
      refine Within.step (State.writeSti_within ..) (by decide) ?_
      unfold z7
      exact Within.step (State.setStation_within ..) (by decide) <| Within.refl _ _
  · unfold z7
    exact Within.step (State.setStation_within ..) (by decide) <| Within.refl _ _

theorem State.response_within (s : State) (n : Nat) (segs : List RespSeg) : Within [.regs, .mem, .logic, .facets, .log] s (State.response s n segs) := by
  unfold State.response
  refine Within.ite (fun _ => ?_) (fun _ => ?_)
  · exact Within.refl _ _
  · extract_lets z0 z1
    refine Within.ite (fun _ => ?_) (fun _ => ?_)
    · refine Within.step (State.goodResponse_within ..) (by decide) ?_
      unfold z0
      exact Within.step (State.takeSegments_within ..) (by decide) <| Within.refl _ _
    · unfold z0
      exact Within.step (State.takeSegments_within ..) (by decide) <| Within.refl _ _

theorem State.exchangeAll_within (s : State) : Within [.regs, .mem, .logic, .facets, .log, .can] s (State.exchangeAll s) := by
  unfold State.exchangeAll
  refine Within.list _ (fun _ _ => ?_) _ _ ?_
  · exact Within.step (State.exchange_within ..) (by decide) <| Within.refl _ _
  · exact Within.refl _ _

theorem opInstantBatch_within (lp : Nat) (s : State) : Within [.freeCount, .regs, .mem, .power, .phasor, .goose, .logic, .facets, .capture, .log] s (opInstantBatch lp s) := by
  unfold opInstantBatch
  refine Within.when _ _ (fun _ => ?_) ?_
  · exact Within.step (State.batch_within ..) (by decide) <| Within.refl _ _
  · exact Within.refl _ _

theorem opTrigger_within (p : Nat) (cls : Nat) (s : State) : Within [.freeCount, .regs, .mem, .power, .goose, .logic, .facets, .pair, .log, .health] s (opTrigger p cls s) := by
  unfold opTrigger
  refine Within.when _ _ (fun _ => ?_) ?_
  · exact Within.step (State.trigger_within ..) (by decide) <| Within.refl _ _
  · exact Within.refl _ _

theorem opFdiEdge_within (pin : Nat) (level : Bool) (s : State) : Within [.mem, .power, .logic] s (opFdiEdge pin level s) := by
  unfold opFdiEdge
  refine Within.when _ _ (fun _ => ?_) ?_
  · exact Within.step (State.fdiEdge_within ..) (by decide) <| Within.refl _ _
  · exact Within.refl _ _

theorem opFdiFilterExpiry_within (pin : Nat) (s : State) : Within [.mem, .time, .logic] s (opFdiFilterExpiry pin s) := by
  unfold opFdiFilterExpiry
  refine Within.when _ _ (fun _ => ?_) ?_
  · exact Within.step (State.fdiHeld_within ..) (by decide) <| Within.refl _ _
  · exact Within.refl _ _

theorem opExchangeSwitchAtBoundary_within (p : Nat) (s : State) : Within [.regs, .mem, .access, .logic, .facets, .log] s (opExchangeSwitchAtBoundary p s) := by
  unfold opExchangeSwitchAtBoundary
  refine Within.when _ _ (fun _ => ?_) ?_
  · exact Within.step (State.exchangeBoundary_within ..) (by decide) <| Within.refl _ _
  · exact Within.refl _ _

theorem opStationExchange_within (n : Nat) (s : State) : Within [.regs, .mem, .logic, .facets, .log, .can] s (opStationExchange n s) := by
  unfold opStationExchange
  refine Within.when _ _ (fun _ => ?_) ?_
  · exact Within.step (State.exchange_within ..) (by decide) <| Within.refl _ _
  · exact Within.refl _ _

theorem opStationResponse_within (n : Nat) (segs : List RespSeg) (s : State) : Within [.regs, .mem, .logic, .facets, .log] s (opStationResponse n segs s) := by
  unfold opStationResponse
  refine Within.when _ _ (fun _ => ?_) ?_
  · exact Within.step (State.response_within ..) (by decide) <| Within.refl _ _
  · exact Within.refl _ _

theorem opResponseTimeout_within (n : Nat) (s : State) : Within [.regs, .mem, .logic, .facets, .log] s (opResponseTimeout n s) := by
  unfold opResponseTimeout
  extract_lets z0 z1
  refine Within.when _ _ (fun _ => ?_) ?_
  · exact Within.step (State.stationMiss_within ..) (by decide) <| Within.refl _ _
  · exact Within.refl _ _

end Sys2Proof.Machine
end

