-- ==== Sys2Proof/Laws/FrameCapture.lean ====
section
/-! SUPPORT. Frames of disturbance capture: what each operation can change. -/

namespace Sys2Proof.Machine

set_option Elab.async false

theorem State.setSlot_within (s : State) (r : Nat) (x : CapSlot) : Within [.capture] s (State.setSlot s r x) := by
  unfold State.setSlot
  exact Within.upd <| Within.refl _ _

theorem State.armSlot_within (s : State) (r : Nat) (start : Option Nat) : Within [.capture] s (State.armSlot s r start) := by
  unfold State.armSlot
  extract_lets z0 z1
  refine Within.ite (fun _ => ?_) (fun _ => ?_)
  · exact Within.step (State.setSlot_within ..) (by decide) <| Within.refl _ _
  · exact Within.refl _ _

theorem State.arm_within (s : State) (r : Nat) : Within [.regs, .capture] s (State.arm s r).2 := by
  unfold State.arm
  extract_lets z0
  dsimp only
  refine Within.step (State.setReg_within ..) (by decide) ?_
  refine Within.ite (fun _ => ?_) (fun _ => ?_)
  · exact Within.step (State.armSlot_within ..) (by decide) <| Within.refl _ _
  · exact Within.refl _ _

theorem State.disarm_within (s : State) (r : Nat) : Within [.capture] s (State.disarm s r) := by
  unfold State.disarm
  extract_lets z0
  refine Within.ite (fun _ => ?_) (fun _ => ?_)
  · exact Within.step (State.setSlot_within ..) (by decide) <| Within.refl _ _
  · refine Within.ite (fun _ => ?_) (fun _ => ?_)
    · exact Within.step (State.setSlot_within ..) (by decide) <| Within.refl _ _
    · exact Within.refl _ _

theorem State.manual_within (s : State) (r : Nat) : Within [.capture] s (State.manual s r) := by
  unfold State.manual
  exact Within.step (State.setSlot_within ..) (by decide) <| Within.refl _ _

theorem State.capClose_within (s : State) (r : Nat) (flag : Option Nat) : Within [.capture] s (State.capClose s r flag) := by
  unfold State.capClose
  extract_lets z0 z1
  exact Within.step (State.setSlot_within ..) (by decide) <| Within.refl _ _

theorem State.capRelease_within (s : State) (r : Nat) : Within [.regs, .capture] s (State.capRelease s r) := by
  unfold State.capRelease
  exact Within.step (State.setReg_within ..) (by decide) <| Within.step (State.setSlot_within ..) (by decide) <| Within.refl _ _

theorem State.capAbort_within (s : State) (r : Nat) : Within [.regs, .capture] s (State.capAbort s r) := by
  unfold State.capAbort
  split
  · exact Within.step (State.capRelease_within ..) (by decide) <| Within.refl _ _
  · exact Within.step (State.capClose_within ..) (by decide) <| Within.refl _ _
  · exact Within.refl _ _

theorem State.captureSlot_within (row : Row) (r : Nat) (s : State) : Within [.regs, .capture] s (State.captureSlot row r s) := by
  unfold State.captureSlot
  extract_lets z0 z1 z2
  split
  · exact Within.refl _ _
  · refine Within.ite (fun _ => ?_) (fun _ => ?_)
    · exact Within.refl _ _
    · extract_lets z3 z4 z5 z6 z7 z8 z9 z10 z11 z12 z13 z14 z15 z16 z17 z18 z19 z20
      refine Within.ite (fun _ => ?_) (fun _ => ?_)
      · refine Within.step (State.capClose_within ..) (by decide) ?_
        unfold z18
        exact Within.step (State.setSlot_within ..) (by decide) <| Within.refl _ _
      · refine Within.ite (fun _ => ?_) (fun _ => ?_)
        · refine Within.step (State.capClose_within ..) (by decide) ?_
          unfold z18
          exact Within.step (State.setSlot_within ..) (by decide) <| Within.refl _ _
        · refine Within.ite (fun _ => ?_) (fun _ => ?_)
          · refine Within.step (State.capAbort_within ..) (by decide) ?_
            unfold z18
            exact Within.step (State.setSlot_within ..) (by decide) <| Within.refl _ _
          · unfold z18
            exact Within.step (State.setSlot_within ..) (by decide) <| Within.refl _ _

theorem State.finishRow_within (s : State) : Within [.regs, .capture] s (State.finishRow s) := by
  unfold State.finishRow
  split
  · exact Within.refl _ _
  · extract_lets z0 z1
    refine Within.upd ?_
    unfold z0
    refine Within.list _ (fun _ _ => ?_) _ _ ?_
    · exact Within.step (State.captureSlot_within ..) (by decide) <| Within.refl _ _
    · exact Within.refl _ _

theorem State.startRow_within (s0 : State) : Within [.regs, .capture] s0 (State.startRow s0) := by
  unfold State.startRow
  extract_lets z0 z1
  split
  · unfold z0
    exact Within.step (State.finishRow_within ..) (by decide) <| Within.refl _ _
  · refine Within.ite (fun _ => ?_) (fun _ => ?_)
    · extract_lets z2
      refine Within.upd ?_
      unfold z0
      exact Within.step (State.finishRow_within ..) (by decide) <| Within.refl _ _
    · unfold z0
      exact Within.step (State.finishRow_within ..) (by decide) <| Within.refl _ _

theorem State.captureTick_within (s : State) (inst : Nat) : Within [.regs, .capture] s (State.captureTick s inst) := by
  unfold State.captureTick
  refine Within.list _ (fun _ _ => ?_) _ _ ?_
  · extract_lets z0 z1
    refine Within.ite (fun _ => ?_) (fun _ => ?_)
    · refine Within.ite (fun _ => ?_) (fun _ => ?_)
      · exact Within.step (State.setReg_within ..) (by decide) <| Within.step (State.armSlot_within ..) (by decide) <| Within.refl _ _
      · exact Within.step (State.setReg_within ..) (by decide) <| Within.step (State.capRelease_within ..) (by decide) <| Within.refl _ _
    · refine Within.ite (fun _ => ?_) (fun _ => ?_)
      · refine Within.ite (fun _ => ?_) (fun _ => ?_)
        · exact Within.step (State.setSlot_within ..) (by decide) <| Within.refl _ _
        · exact Within.step (State.capAbort_within ..) (by decide) <| Within.refl _ _
      · refine Within.ite (fun _ => ?_) (fun _ => ?_)
        · exact Within.step (State.setSlot_within ..) (by decide) <| Within.refl _ _
        · exact Within.refl _ _
  · exact Within.refl _ _

theorem State.capFacetReset_within (s : State) (n : Nat) : Within [.regs, .capture] s (State.capFacetReset s n) := by
  unfold State.capFacetReset
  refine Within.list _ (fun _ _ => ?_) _ _ ?_
  · split
    · refine Within.ite (fun _ => ?_) (fun _ => ?_)
      · exact Within.step (State.capAbort_within ..) (by decide) <| Within.refl _ _
      · exact Within.refl _ _
    · exact Within.refl _ _
  · exact Within.refl _ _

theorem State.makeRoom_within (need n : Nat) (s t : State) (h : State.makeRoom need n s = some t) : Within [.regs, .capture] s t := by
  induction n generalizing s with
  | zero =>
    unfold State.makeRoom at h
    split at h
    · cases h; exact Within.refl _ _
    · cases h
  | succ n ih =>
    unfold State.makeRoom at h
    split at h
    · cases h; exact Within.refl _ _
    · extract_lets p l at h
      clear_value l
      split at h
      · exact Within.step (ih _ h) (fun _ => id) <| Within.step (State.countReg_within ..) (by decide) <| Within.upd <| Within.refl _ _
      · cases h

theorem State.storeRecord_within (s : State) (r : Nat) : Within [.regs, .facets, .capture, .log] s (State.storeRecord s r) := by
  unfold State.storeRecord
  extract_lets z0 z1
  split
  · split
    · exact Within.refl _ _
    · extract_lets z2 z3 z4 z5 z6 z7 z8 z9 z10
      refine Within.ite (fun _ => ?_) (fun _ => ?_)
      · refine Within.step (State.notice_within ..) (by decide) ?_
        unfold z10
        refine Within.step (State.logRec_within ..) (by decide) ?_
        unfold z8
        refine Within.step (State.countReg_within ..) (by decide) <| Within.step (State.setReg_within ..) (by decide) ?_
        unfold z7
        refine Within.ite (fun _ => ?_) (fun _ => ?_)
        · refine Within.step (State.setSlot_within ..) (by decide) ?_
          unfold z5
          exact Within.upd <| Within.step (State.makeRoom_within _ _ _ _ (by assumption)) (by decide) <| Within.refl _ _
        · refine Within.step (State.capRelease_within ..) (by decide) ?_
          unfold z5
          exact Within.upd <| Within.step (State.makeRoom_within _ _ _ _ (by assumption)) (by decide) <| Within.refl _ _
      · unfold z10
        refine Within.step (State.logRec_within ..) (by decide) ?_
        unfold z8
        refine Within.step (State.countReg_within ..) (by decide) <| Within.step (State.setReg_within ..) (by decide) ?_
        unfold z7
        refine Within.ite (fun _ => ?_) (fun _ => ?_)
        · refine Within.step (State.setSlot_within ..) (by decide) ?_
          unfold z5
          exact Within.upd <| Within.step (State.makeRoom_within _ _ _ _ (by assumption)) (by decide) <| Within.refl _ _
        · refine Within.step (State.capRelease_within ..) (by decide) ?_
          unfold z5
          exact Within.upd <| Within.step (State.makeRoom_within _ _ _ _ (by assumption)) (by decide) <| Within.refl _ _
  · exact Within.refl _ _

theorem State.rearmSlot_within (s : State) (r : Nat) : Within [.regs, .capture] s (State.rearmSlot s r) := by
  unfold State.rearmSlot
  extract_lets z0 z1
  refine Within.ite (fun _ => ?_) (fun _ => ?_)
  · refine Within.ite (fun _ => ?_) (fun _ => ?_)
    · exact Within.step (State.setReg_within ..) (by decide) <| Within.step (State.armSlot_within ..) (by decide) <| Within.refl _ _
    · exact Within.step (State.setReg_within ..) (by decide) <| Within.step (State.capRelease_within ..) (by decide) <| Within.refl _ _
  · exact Within.refl _ _

theorem State.dropStored_within (s : State) (sel : StoredRec → Bool) : Within [.capture] s (State.dropStored s sel) := by
  unfold State.dropStored
  exact Within.upd <| Within.refl _ _

theorem State.deleteStored_within (s : State) (v : Nat) : Within [.capture] s (State.deleteStored s v).2 := by
  unfold State.deleteStored
  extract_lets z0 z1 z2 z3 z4 z5
  refine Within.iteR (fun _ => ?_) (fun _ => ?_)
  · split
    · dsimp only
      exact Within.refl _ _
    · refine Within.iteR (fun _ => ?_) (fun _ => ?_)
      · dsimp only
        exact Within.upd <| Within.refl _ _
      · dsimp only
        exact Within.step (State.dropStored_within ..) (by decide) <| Within.refl _ _
  · dsimp only
    refine Within.ite (fun _ => ?_) (fun _ => ?_)
    · refine Within.upd ?_
      unfold z4
      exact Within.step (State.dropStored_within ..) (by decide) <| Within.refl _ _
    · unfold z4
      exact Within.step (State.dropStored_within ..) (by decide) <| Within.refl _ _

theorem State.uploadEnded_within (s : State) : Within [.capture] s (State.uploadEnded s) := by
  unfold State.uploadEnded
  refine Within.ite (fun _ => ?_) (fun _ => ?_)
  · exact Within.refl _ _
  · extract_lets z0 z1 z2
    refine Within.upd ?_
    unfold z1
    exact Within.step (State.dropStored_within ..) (by decide) <| Within.refl _ _

theorem State.markExported_within (s : State) (id : Nat) : Within [.capture] s (State.markExported s id) := by
  unfold State.markExported
  exact Within.upd <| Within.refl _ _

end Sys2Proof.Machine
end

