-- ==== Sys2Proof/Laws/FrameFacets.lean ====
section
/-! SUPPORT. Frames of facets, their ports and messages, and the cabinet bus: what each operation can change. -/

namespace Sys2Proof.Machine

set_option Elab.async false

theorem State.accessFault_within (s : State) (n : Nat) (addr : Nat) (kind : Nat) : Within [.facets, .log] s (State.accessFault s n addr kind) := by
  unfold State.accessFault
  extract_lets z0
  exact Within.step (State.logRec_within ..) (by decide) <| Within.step (State.setFacet_within ..) (by decide) <| Within.refl _ _

theorem State.planeFault_within (s : State) (n : Nat) (addr : Nat) (kind : Nat) : Within [.facets, .log] s (State.planeFault s n addr kind) := by
  unfold State.planeFault
  extract_lets z0
  exact Within.step (State.logRec_within ..) (by decide) <| Within.step (State.setFacet_within ..) (by decide) <| Within.refl _ _

theorem State.guestAccess_within (s : State) (n : Nat) (addr : Nat) (kind : Nat) : Within [.reply, .facets, .log] s (State.guestAccess s n addr kind) := by
  unfold State.guestAccess
  extract_lets z0
  refine Within.ite (fun _ => ?_) (fun _ => ?_)
  · refine Within.ite (fun _ => ?_) (fun _ => ?_)
    · exact Within.step (State.answer_within ..) (by decide) <| Within.refl _ _
    · exact Within.refl _ _
  · refine Within.ite (fun _ => ?_) (fun _ => ?_)
    · refine Within.ite (fun _ => ?_) (fun _ => ?_)
      · exact Within.step (State.answer_within ..) (by decide) <| Within.refl _ _
      · exact Within.step (State.planeFault_within ..) (by decide) <| Within.refl _ _
    · exact Within.step (State.accessFault_within ..) (by decide) <| Within.refl _ _

theorem State.stewardAccess_within (s : State) (addr : Nat) (kind : Nat) : Within [.reply, .facets, .log] s (State.stewardAccess s addr kind) := by
  unfold State.stewardAccess
  split
  · refine Within.step (State.logRec_within ..) (by decide) ?_
    refine Within.ite (fun _ => ?_) (fun _ => ?_)
    · exact Within.step (State.answer_within ..) (by decide) <| Within.refl _ _
    · exact Within.refl _ _
  · refine Within.ite (fun _ => ?_) (fun _ => ?_)
    · exact Within.refl _ _
    · split
      · exact Within.step (State.answer_within ..) (by decide) <| Within.refl _ _
      · exact Within.step (State.answer_within ..) (by decide) <| Within.refl _ _
      · exact Within.step (State.answer_within ..) (by decide) <| Within.refl _ _
      · exact Within.step (State.answer_within ..) (by decide) <| Within.refl _ _
      · exact Within.step (State.answer_within ..) (by decide) <| Within.refl _ _
      · exact Within.refl _ _
      · exact Within.refl _ _
      · exact Within.refl _ _
      · exact Within.refl _ _
      · exact Within.refl _ _
      · exact Within.refl _ _
      · exact Within.refl _ _

theorem State.defineFacet_within (s : State) (n : Nat) : Within [.facets] s (State.defineFacet s n) := by
  unfold State.defineFacet
  exact Within.step (State.setFacet_within ..) (by decide) <| Within.refl _ _

theorem State.freeTasks_within (s : State) (n : Nat) : Within [.facets] s (State.freeTasks s n) := by
  unfold State.freeTasks
  extract_lets z0 z1 z2
  exact Within.upd <| Within.refl _ _

theorem State.ownPubsOff_within (s : State) (n : Nat) : Within [.regs, .goose] s (State.ownPubsOff s n) := by
  unfold State.ownPubsOff
  refine Within.list _ (fun _ _ => ?_) _ _ ?_
  · refine Within.ite (fun _ => ?_) (fun _ => ?_)
    · exact Within.step (State.setReg_within ..) (by decide) <| Within.step (State.pubOff_within ..) (by decide) <| Within.refl _ _
    · exact Within.refl _ _
  · exact Within.refl _ _

theorem State.tpoReturn_within (s : State) (n : Nat) : Within [.regs, .time, .facets] s (State.tpoReturn s n) := by
  unfold State.tpoReturn
  refine Within.list _ (fun _ _ => ?_) _ _ ?_
  · refine Within.ite (fun _ => ?_) (fun _ => ?_)
    · exact Within.step (State.setReg_within ..) (by decide) <| Within.step (State.tpoGrant_within ..) (by decide) <| Within.refl _ _
    · exact Within.refl _ _
  · exact Within.refl _ _

theorem State.deleteFacet_within (s : State) (n : Nat) : Within [.regs, .time, .goose, .facets] s (State.deleteFacet s n) := by
  unfold State.deleteFacet
  exact Within.step (State.setFacet_within ..) (by decide) <| Within.step (State.tpoReturn_within ..) (by decide) <| Within.step (State.ownPubsOff_within ..) (by decide) <| Within.step (State.freeTasks_within ..) (by decide) <| Within.refl _ _

theorem State.facetEvent_within (s : State) (n : Nat) (command : Nat) (result : Nat) : Within [.facets, .log] s (State.facetEvent s n command result) := by
  unfold State.facetEvent
  exact Within.step (State.logRec_within ..) (by decide) <| Within.refl _ _

theorem State.unfrozen_within (s : State) : Within [.health] s (State.unfrozen s) := by
  unfold State.unfrozen
  refine Within.ite (fun _ => ?_) (fun _ => ?_)
  · exact Within.refl _ _
  · exact Within.upd <| Within.refl _ _

theorem State.launchFacet_within (s : State) (n : Nat) : Within [.mem, .facets] s (State.launchFacet s n) := by
  unfold State.launchFacet
  extract_lets z0 z1
  refine Within.step (State.setFacet_within ..) (by decide) ?_
  refine Within.updMem ?_ ?hm
  case hm => intro h; repeat' (with_reducible first | exact h | apply memWriteList_wf | apply memClear_wf | apply guestWrite_wf | apply writeField_wf | apply clearUnits_wf | apply setAreaBit_wf | apply memWrite_wf | apply foldl_wf _ (fun _ _ h => memWrite_wf _ _ _ h) | apply putAll_wf | exact rfl | split)
  exact Within.refl _ _

theorem State.freezeFacet_within (s : State) (n : Nat) : Within [.facets] s (State.freezeFacet s n) := by
  unfold State.freezeFacet
  extract_lets z0
  exact Within.step (State.setFacet_within ..) (by decide) <| Within.refl _ _

theorem State.freezeByFault_within (s : State) (n : Nat) : Within [.facets, .pair, .log, .health] s (State.freezeByFault s n) := by
  unfold State.freezeByFault
  extract_lets z0 z1
  refine Within.step (State.latchCause_within ..) (by decide) <| Within.step (State.facetEvent_within ..) (by decide) <| Within.step (State.setFacet_within ..) (by decide) ?_
  unfold z0
  exact Within.step (State.freezeFacet_within ..) (by decide) <| Within.refl _ _

theorem State.nicTake_within (s : State) (n : Nat) : Within [.facets] s (State.nicTake s n) := by
  unfold State.nicTake
  extract_lets z0
  refine Within.ite (fun _ => ?_) (fun _ => ?_)
  · exact Within.step (State.setFacet_within ..) (by decide) <| Within.refl _ _
  · exact Within.refl _ _

theorem State.thawFacet_within (s : State) (n : Nat) : Within [.facets, .health] s (State.thawFacet s n) := by
  unfold State.thawFacet
  extract_lets z0
  exact Within.step (State.unfrozen_within ..) (by decide) <| Within.step (State.nicTake_within ..) (by decide) <| Within.step (State.setFacet_within ..) (by decide) <| Within.refl _ _

theorem State.setBlobOf_within (s : State) (b : Nat) (x : Blob) : Within [.facets] s (State.setBlobOf s b x) := by
  unfold State.setBlobOf
  exact Within.upd <| Within.refl _ _

theorem State.startSave_within (s : State) (n : Nat) : Within [.facets] s (State.startSave s n) := by
  unfold State.startSave
  extract_lets z0 z1 z2
  exact Within.step (State.setFacet_within ..) (by decide) <| Within.step (State.setBlobOf_within ..) (by decide) <| Within.refl _ _

theorem State.endSave_within (s : State) (n : Nat) (ok : Bool) : Within [.facets, .log] s (State.endSave s n ok) := by
  unfold State.endSave
  extract_lets z0 z1
  refine Within.ite (fun _ => ?_) (fun _ => ?_)
  · exact Within.refl _ _
  · split
    · exact Within.refl _ _
    · extract_lets z2 z3
      exact Within.step (State.facetEvent_within ..) (by decide) <| Within.step (State.setFacet_within ..) (by decide) <| Within.step (State.setBlobOf_within ..) (by decide) <| Within.refl _ _

theorem State.endRestore_within (s : State) (n : Nat) (read : Nat) : Within [.mem, .facets, .log] s (State.endRestore s n read) := by
  unfold State.endRestore
  dsimp only
  refine Within.ite (fun _ => ?_) (fun _ => ?_)
  · exact Within.refl _ _
  · split
    · exact Within.step (State.facetEvent_within ..) (by decide) <| Within.step (State.setFacet_within ..) (by decide) <| Within.refl _ _
    · refine Within.ite (fun _ => ?_) (fun _ => ?_)
      · exact Within.step (State.facetEvent_within ..) (by decide) <| Within.step (State.setFacet_within ..) (by decide) <| Within.refl _ _
      · refine Within.ite (fun _ => ?_) (fun _ => ?_)
        · exact Within.step (State.facetEvent_within ..) (by decide) <| Within.step (State.setFacet_within ..) (by decide) <| Within.refl _ _
        · refine Within.step (State.facetEvent_within ..) (by decide) <| Within.step (State.setFacet_within ..) (by decide) ?_
          refine Within.list _ (fun _ _ => ?_) _ _ ?_
          · exact Within.step (State.setTask_within ..) (by decide) <| Within.refl _ _
          · refine Within.step (State.freeTasks_within ..) (by decide) ?_
            refine Within.updMem ?_ ?hm
            case hm => intro h; repeat' (with_reducible first | exact h | apply memWriteList_wf | apply memClear_wf | apply guestWrite_wf | apply writeField_wf | apply clearUnits_wf | apply setAreaBit_wf | apply memWrite_wf | apply foldl_wf _ (fun _ _ h => memWrite_wf _ _ _ h) | apply putAll_wf | exact rfl | split)
            exact Within.refl _ _

theorem State.blobDownload_within (s : State) (b : Nat) (raw : ByteList) : Within [.facets] s (State.blobDownload s b raw).2 := by
  unfold State.blobDownload
  refine Within.iteR (fun _ => ?_) (fun _ => ?_)
  · dsimp only
    exact Within.step (State.setBlobOf_within ..) (by decide) <| Within.refl _ _
  · refine Within.iteR (fun _ => ?_) (fun _ => ?_)
    · dsimp only
      exact Within.refl _ _
    · dsimp only
      exact Within.step (State.setBlobOf_within ..) (by decide) <| Within.refl _ _

theorem State.resetFacet_within (s : State) (n : Nat) : Within [.regs, .boot, .time, .goose, .facets, .capture, .log] s (State.resetFacet s n) := by
  unfold State.resetFacet
  extract_lets z0 z1 z2 z3 z4 z5 z6 z7
  refine Within.step (State.setFacet_within ..) (by decide) <| Within.upd ?_
  unfold z5
  refine Within.upd ?_
  unfold z3
  refine Within.list _ (fun _ _ => ?_) _ _ ?_
  · refine Within.ite (fun _ => ?_) (fun _ => ?_)
    · exact Within.step (State.tpoOff_within ..) (by decide) <| Within.refl _ _
    · exact Within.refl _ _
  · unfold z2
    refine Within.step (State.freeTasks_within ..) (by decide) <| Within.step (State.capFacetReset_within ..) (by decide) <| Within.step (State.dropSubmissions_within ..) (by decide) ?_
    unfold z1
    split
    · exact Within.step (State.setBlobOf_within ..) (by decide) <| Within.refl _ _
    · exact Within.refl _ _

theorem State.endReset_within (s : State) (n : Nat) : Within [.facets, .log, .health] s (State.endReset s n) := by
  unfold State.endReset
  extract_lets z0
  refine Within.ite (fun _ => ?_) (fun _ => ?_)
  · exact Within.step (State.unfrozen_within ..) (by decide) <| Within.step (State.facetEvent_within ..) (by decide) <| Within.step (State.setFacet_within ..) (by decide) <| Within.refl _ _
  · exact Within.refl _ _

theorem State.facetCommand_within (s : State) (n : Nat) (v : Nat) : Within [.regs, .mem, .boot, .time, .goose, .facets, .capture, .log, .health] s (State.facetCommand s n v).2 := by
  unfold State.facetCommand
  dsimp only
  refine Within.iteR (fun _ => ?_) (fun _ => ?_)
  · dsimp only
    exact Within.step (State.setFacet_within ..) (by decide) <| Within.refl _ _
  · split
    · dsimp only
      exact Within.step (State.facetEvent_within ..) (by decide) <| Within.step (State.setFacet_within ..) (by decide) <| Within.step (State.launchFacet_within ..) (by decide) <| Within.refl _ _
    · dsimp only
      exact Within.step (State.facetEvent_within ..) (by decide) <| Within.step (State.setFacet_within ..) (by decide) <| Within.step (State.freezeFacet_within ..) (by decide) <| Within.refl _ _
    · dsimp only
      exact Within.step (State.facetEvent_within ..) (by decide) <| Within.step (State.setFacet_within ..) (by decide) <| Within.step (State.thawFacet_within ..) (by decide) <| Within.refl _ _
    · dsimp only
      exact Within.step (State.setFacet_within ..) (by decide) <| Within.step (State.startSave_within ..) (by decide) <| Within.refl _ _
    · dsimp only
      exact Within.step (State.setFacet_within ..) (by decide) <| Within.step (State.setFacet_within ..) (by decide) <| Within.refl _ _
    · refine Within.iteR (fun _ => ?_) (fun _ => ?_)
      · dsimp only
        exact Within.step (State.setFacet_within ..) (by decide) <| Within.refl _ _
      · dsimp only
        exact Within.step (State.setFacet_within ..) (by decide) <| Within.step (State.resetFacet_within ..) (by decide) <| Within.refl _ _

theorem State.setAwaited_within (s : State) (l : List Nat) : Within [.boot] s (State.setAwaited s l) := by
  unfold State.setAwaited
  exact Within.upd <| Within.refl _ _

theorem State.launchExpired_within (s : State) (n : Nat) : Within [.boot, .facets, .pair, .log, .health] s (State.launchExpired s n) := by
  unfold State.launchExpired
  refine Within.step (State.setAwaited_within ..) (by decide) ?_
  refine Within.ite (fun _ => ?_) (fun _ => ?_)
  · exact Within.step (State.freezeByFault_within ..) (by decide) <| Within.refl _ _
  · exact Within.refl _ _

theorem State.autostart_within (s : State) : Within [.regs, .mem, .boot, .time, .goose, .facets, .capture, .log, .health] s (State.autostart s) := by
  unfold State.autostart
  extract_lets z0
  refine Within.step (State.setAwaited_within ..) (by decide) ?_
  refine Within.list _ (fun _ _ => ?_) _ _ ?_
  · exact Within.step (State.facetCommand_within ..) (by decide) <| Within.refl _ _
  · exact Within.refl _ _

theorem State.phase9_within (s : State) : Within [.boot, .facets, .log] s (State.phase9 s) := by
  unfold State.phase9
  extract_lets z0
  refine Within.ite (fun _ => ?_) (fun _ => ?_)
  · refine Within.ite (fun _ => ?_) (fun _ => ?_)
    · exact Within.step (State.endPhase_within ..) (by decide) <| Within.step (State.setAwaited_within ..) (by decide) <| Within.refl _ _
    · exact Within.step (State.setAwaited_within ..) (by decide) <| Within.refl _ _
  · exact Within.refl _ _

theorem State.setReady_within (s : State) (n : Nat) (b : Bool) : Within [.facets] s (State.setReady s n b) := by
  unfold State.setReady
  extract_lets z0
  refine Within.ite (fun _ => ?_) (fun _ => ?_)
  · exact Within.step (State.setFacet_within ..) (by decide) <| Within.refl _ _
  · exact Within.refl _ _

theorem State.moveCores_within (s : State) (n : Nat) (old : Nat) (new : Nat) : Within [.facets] s (State.moveCores s n old new) := by
  unfold State.moveCores
  extract_lets z0 z1 z2
  refine Within.list _ (fun _ _ => ?_) _ _ ?_
  · exact Within.step (State.setTask_within ..) (by decide) <| Within.refl _ _
  · unfold z2
    exact Within.step (State.setFacet_within ..) (by decide) <| Within.refl _ _

theorem State.facetClear_within (s : State) (n : Nat) : Within [.facets] s (State.facetClear s n) := by
  unfold State.facetClear
  extract_lets z0
  exact Within.step (State.setFacet_within ..) (by decide) <| Within.refl _ _

theorem State.shareChanged_within (s : State) (n : Nat) : Within [.facets] s (State.shareChanged s n) := by
  unfold State.shareChanged
  exact Within.step (State.notice_within ..) (by decide) <| Within.step (State.nicTake_within ..) (by decide) <| Within.refl _ _

theorem State.grantTick_within (s : State) : Within [.facets] s (State.grantTick s) := by
  unfold State.grantTick
  refine Within.list _ (fun _ _ => ?_) _ _ ?_
  · extract_lets z0 z1
    refine Within.ite (fun _ => ?_) (fun _ => ?_)
    · exact Within.refl _ _
    · exact Within.step (State.grantNotice_within ..) (by decide) <| Within.step (State.setFacet_within ..) (by decide) <| Within.refl _ _
  · exact Within.refl _ _

theorem State.mapFacet_within (s : State) (n : Nat) (g : Facet → Facet) : Within [.facets] s (State.mapFacet s n g) := by
  unfold State.mapFacet
  exact Within.step (State.setFacet_within ..) (by decide) <| Within.refl _ _

theorem State.mirrorSet_within (s : State) (n : Nat) (isSize : Bool) (v : Nat) : Within [.facets] s (State.mirrorSet s n isSize v) := by
  unfold State.mirrorSet
  exact Within.step (State.mapFacet_within ..) (by decide) <| Within.refl _ _

theorem State.outProdWrite_within (s : State) (n : Nat) (v : Nat) : Within [.facets] s (State.outProdWrite s n v) := by
  unfold State.outProdWrite
  extract_lets z0
  exact Within.step (State.mapFacet_within ..) (by decide) <| Within.refl _ _

theorem State.inConsWrite_within (s : State) (n : Nat) (v : Nat) : Within [.facets] s (State.inConsWrite s n v) := by
  unfold State.inConsWrite
  extract_lets z0 z1 z2
  refine Within.ite (fun _ => ?_) (fun _ => ?_)
  · exact Within.step (releaseHeld_within ..) (by decide) <| Within.step (State.setFacet_within ..) (by decide) <| Within.refl _ _
  · exact Within.step (State.setFacet_within ..) (by decide) <| Within.refl _ _

theorem State.mboxStatusWrite_within (s : State) (n : Nat) (v : Nat) : Within [.facets] s (State.mboxStatusWrite s n v) := by
  unfold State.mboxStatusWrite
  exact Within.step (State.mapFacet_within ..) (by decide) <| Within.refl _ _

theorem State.mboxCtrlWrite_within (s : State) (n : Nat) (v : Nat) : Within [.facets] s (State.mboxCtrlWrite s n v) := by
  unfold State.mboxCtrlWrite
  exact Within.step (State.mapFacet_within ..) (by decide) <| Within.refl _ _

theorem State.outSlotWrite_within (s : State) (n : Nat) (i : Nat) (v : Nat) : Within [.facets] s (State.outSlotWrite s n i v) := by
  unfold State.outSlotWrite
  exact Within.step (State.mapFacet_within ..) (by decide) <| Within.refl _ _

theorem State.swbOp_within (s : State) (n : Nat) (w : Nat) (op : Nat) (v : Nat) : Within [.facets] s (State.swbOp s n w op v) := by
  unfold State.swbOp
  exact Within.step (State.mapFacet_within ..) (by decide) <| Within.refl _ _

theorem State.dmaSubmit_within (s : State) (n : Nat) (a : Nat) : Within [.freeCount, .facets] s (State.dmaSubmit s n a) := by
  unfold State.dmaSubmit
  extract_lets z0 z1 z2 z3 z4
  refine Within.ite (fun _ => ?_) (fun _ => ?_)
  · exact Within.step (State.nextFree_within ..) (by decide) <| Within.step (State.setFacet_within ..) (by decide) <| Within.refl _ _
  · refine Within.ite (fun _ => ?_) (fun _ => ?_)
    · exact Within.step (State.setFacet_within ..) (by decide) <| Within.refl _ _
    · refine Within.ite (fun _ => ?_) (fun _ => ?_)
      · exact Within.step (State.setFacet_within ..) (by decide) <| Within.refl _ _
      · exact Within.step (State.setFacet_within ..) (by decide) <| Within.refl _ _

theorem State.dmaComplete_within (s : State) (n : Nat) : Within [.mem, .facets] s (State.dmaComplete s n) := by
  unfold State.dmaComplete
  extract_lets z0
  split
  · exact Within.refl _ _
  · extract_lets z1 z2
    refine Within.ite (fun _ => ?_) (fun _ => ?_)
    · refine Within.step (State.postFlags_within ..) (by decide) ?_
      unfold z2
      refine Within.step (State.setFacet_within ..) (by decide) ?_
      refine Within.updMem ?_ ?hm
      case hm => intro h; repeat' (with_reducible first | exact h | apply memWriteList_wf | apply memClear_wf | apply guestWrite_wf | apply writeField_wf | apply clearUnits_wf | apply setAreaBit_wf | apply memWrite_wf | apply foldl_wf _ (fun _ _ h => memWrite_wf _ _ _ h) | apply putAll_wf | exact rfl | split)
      exact Within.refl _ _
    · unfold z2
      refine Within.step (State.setFacet_within ..) (by decide) ?_
      refine Within.updMem ?_ ?hm
      case hm => intro h; repeat' (with_reducible first | exact h | apply memWriteList_wf | apply memClear_wf | apply guestWrite_wf | apply writeField_wf | apply clearUnits_wf | apply setAreaBit_wf | apply memWrite_wf | apply foldl_wf _ (fun _ _ h => memWrite_wf _ _ _ h) | apply putAll_wf | exact rfl | split)
      exact Within.refl _ _

theorem State.nqRingWrite_within (s : State) (n : Nat) (q : Nat) (v : Nat) : Within [.facets] s (State.nqRingWrite s n q v) := by
  unfold State.nqRingWrite
  exact Within.step (State.mapFacet_within ..) (by decide) <| Within.refl _ _

theorem State.nqTxWrite_within (s : State) (n : Nat) (q : Nat) (v : Nat) : Within [.facets] s (State.nqTxWrite s n q v) := by
  unfold State.nqTxWrite
  exact Within.step (State.nicTake_within ..) (by decide) <| Within.step (State.mapFacet_within ..) (by decide) <| Within.refl _ _

theorem State.nqRxWrite_within (s : State) (n : Nat) (q : Nat) (v : Nat) : Within [.facets] s (State.nqRxWrite s n q v) := by
  unfold State.nqRxWrite
  exact Within.step (State.mapFacet_within ..) (by decide) <| Within.refl _ _

theorem State.nicTransmit_within (s : State) (n : Nat) (q : Nat) : Within [.mem, .facets] s (State.nicTransmit s n q) := by
  unfold State.nicTransmit
  extract_lets z0 z1 z2 z3 z4 z5 z6 z7
  refine Within.ite (fun _ => ?_) (fun _ => ?_)
  · exact Within.refl _ _
  · refine Within.step (State.nicTake_within ..) (by decide) <| Within.step (State.postSource_within ..) (by decide) ?_
    unfold z7
    refine Within.step (State.setFacet_within ..) (by decide) ?_
    refine Within.updMem ?_ ?hm
    case hm => intro h; repeat' (with_reducible first | exact h | apply memWriteList_wf | apply memClear_wf | apply guestWrite_wf | apply writeField_wf | apply clearUnits_wf | apply setAreaBit_wf | apply memWrite_wf | apply foldl_wf _ (fun _ _ h => memWrite_wf _ _ _ h) | apply putAll_wf | exact rfl | split)
    exact Within.refl _ _

theorem State.nicFill_within (s : State) (n : Nat) (q : Nat) (tci : Nat) (data : ByteList) : Within [.mem, .facets] s (State.nicFill s n q tci data) := by
  unfold State.nicFill
  dsimp only
  refine Within.ite (fun _ => ?_) (fun _ => ?_)
  · exact Within.step (State.setFacet_within ..) (by decide) <| Within.refl _ _
  · refine Within.ite (fun _ => ?_) (fun _ => ?_)
    · refine Within.step (State.postSource_within ..) (by decide) <| Within.step (State.setFacet_within ..) (by decide) ?_
      refine Within.updMem ?_ ?hm
      case hm => intro h; repeat' (with_reducible first | exact h | apply memWriteList_wf | apply memClear_wf | apply guestWrite_wf | apply writeField_wf | apply clearUnits_wf | apply setAreaBit_wf | apply memWrite_wf | apply foldl_wf _ (fun _ _ h => memWrite_wf _ _ _ h) | apply putAll_wf | exact rfl | split)
      exact Within.refl _ _
    · refine Within.step (State.setFacet_within ..) (by decide) ?_
      refine Within.updMem ?_ ?hm
      case hm => intro h; repeat' (with_reducible first | exact h | apply memWriteList_wf | apply memClear_wf | apply guestWrite_wf | apply writeField_wf | apply clearUnits_wf | apply setAreaBit_wf | apply memWrite_wf | apply foldl_wf _ (fun _ _ h => memWrite_wf _ _ _ h) | apply putAll_wf | exact rfl | split)
      exact Within.refl _ _

theorem State.nicReceive_within (s : State) (nic : Nat) (vid : Nat) (tci : Nat) (data : ByteList) : Within [.mem, .facets] s (State.nicReceive s nic vid tci data) := by
  unfold State.nicReceive
  split
  · exact Within.step (State.nicFill_within ..) (by decide) <| Within.refl _ _
  · extract_lets z0 z1
    exact Within.upd <| Within.refl _ _

theorem State.coreAnswer_within (s : State) (n : Nat) (core : Nat) (w : Nat) : Within [.reply, .facets] s (State.coreAnswer s n core w) := by
  unfold State.coreAnswer
  exact Within.step (State.answer_within ..) (by decide) <| Within.step (State.mapFacet_within ..) (by decide) <| Within.refl _ _

theorem State.takeNow_within (s : State) (n : Nat) (core : Nat) : Within [.reply, .facets] s (State.takeNow s n core) := by
  unfold State.takeNow
  split
  · extract_lets z0
    refine Within.step (State.answer_within ..) (by decide) ?_
    unfold z0
    exact Within.step (State.handOver_within ..) (by decide) <| Within.refl _ _
  · exact Within.step (State.coreAnswer_within ..) (by decide) <| Within.refl _ _

theorem State.takeOrWait_within (s : State) (n : Nat) (core : Nat) (irq : Bool) : Within [.reply, .facets] s (State.takeOrWait s n core irq) := by
  unfold State.takeOrWait
  split
  · exact Within.step (State.takeNow_within ..) (by decide) <| Within.refl _ _
  · refine Within.ite (fun _ => ?_) (fun _ => ?_)
    · exact Within.step (State.coreAnswer_within ..) (by decide) <| Within.refl _ _
    · exact Within.step (State.mapFacet_within ..) (by decide) <| Within.refl _ _

theorem State.waitExpired_within (s : State) (n : Nat) (core : Nat) : Within [.reply, .facets] s (State.waitExpired s n core) := by
  unfold State.waitExpired
  extract_lets z0
  refine Within.ite (fun _ => ?_) (fun _ => ?_)
  · exact Within.step (State.coreAnswer_within ..) (by decide) <| Within.refl _ _
  · exact Within.refl _ _

theorem State.dispatchCode_within (s : State) (n : Nat) (c : Nat) : Within [.facets] s (State.dispatchCode s n c) := by
  unfold State.dispatchCode
  exact Within.step (State.mapFacet_within ..) (by decide) <| Within.refl _ _

theorem State.taskOp_within {F : List Part} {s t : State} (n k : Nat) (ok : Task → Bool) (f : Nat → Task → State → State)
    (hf : ∀ g x u, Within F u (f g x u)) (hp : .facets ∈ F) (h : Within F s t) : Within F s (State.taskOp t n k ok f) := by
  have hs : [Part.facets] ⊆ F := by intro p hp'; simp only [List.mem_singleton] at hp'; exact hp' ▸ hp
  unfold State.taskOp
  dsimp only
  refine Within.ite (fun _ => ?_) (fun _ => ?_)
  · exact Within.step (State.dispatchCode_within ..) hs h
  · refine Within.step (State.serveWaiters_within ..) hs <| Within.step (State.dispatchCode_within ..) hs ?_
    exact Within.step (hf ..) (fun _ => id) h

theorem State.taskDone_within (s : State) (n : Nat) (core : Nat) (v : Nat) : Within [.facets] s (State.taskDone s n core v) := by
  unfold State.taskDone
  refine State.taskOp_within _ _ _ _ (fun _ _ _ => ?_) (by decide) ?_
  · extract_lets z0
    refine Within.ite (fun _ => ?_) (fun _ => ?_)
    · exact Within.step (State.setTask_within ..) (by decide) <| Within.refl _ _
    · refine Within.ite (fun _ => ?_) (fun _ => ?_)
      · exact Within.step (State.makeReady_within ..) (by decide) <| Within.refl _ _
      · exact Within.step (State.settleTask_within ..) (by decide) <| Within.refl _ _
  · exact Within.refl _ _

theorem State.taskPost_within (s : State) (n : Nat) (v : Nat) : Within [.facets] s (State.taskPost s n v) := by
  unfold State.taskPost
  extract_lets z0
  exact Within.step (State.dispatchCode_within ..) (by decide) <| Within.step (State.postFlags_within ..) (by decide) <| Within.refl _ _

theorem State.taskCreate_within (s : State) (n : Nat) (v : Nat) : Within [.facets] s (State.taskCreate s n v) := by
  unfold State.taskCreate
  refine Within.ite (fun _ => ?_) (fun _ => ?_)
  · refine State.taskOp_within _ _ _ _ (fun _ _ _ => ?_) (by decide) ?_
    · exact Within.step (State.setTask_within ..) (by decide) <| Within.refl _ _
    · exact Within.refl _ _
  · exact Within.step (State.dispatchCode_within ..) (by decide) <| Within.refl _ _

theorem State.taskCancel_within (s : State) (n : Nat) (v : Nat) : Within [.facets] s (State.taskCancel s n v) := by
  unfold State.taskCancel
  refine State.taskOp_within _ _ _ _ (fun _ _ _ => ?_) (by decide) ?_
  · refine Within.ite (fun _ => ?_) (fun _ => ?_)
    · exact Within.step (State.setTask_within ..) (by decide) <| Within.refl _ _
    · exact Within.step (State.setTask_within ..) (by decide) <| Within.refl _ _
  · exact Within.refl _ _

theorem State.taskRestart_within (s : State) (n : Nat) (v : Nat) : Within [.facets] s (State.taskRestart s n v) := by
  unfold State.taskRestart
  refine State.taskOp_within _ _ _ _ (fun _ _ _ => ?_) (by decide) ?_
  · exact Within.step (State.settleTask_within ..) (by decide) <| Within.refl _ _
  · exact Within.refl _ _

theorem State.taskDelete_within (s : State) (n : Nat) (v : Nat) : Within [.facets] s (State.taskDelete s n v) := by
  unfold State.taskDelete
  refine State.taskOp_within _ _ _ _ (fun _ _ _ => ?_) (by decide) ?_
  · exact Within.upd <| Within.refl _ _
  · exact Within.refl _ _

theorem State.taskSet_within (s : State) (n : Nat) (v : Nat) : Within [.facets] s (State.taskSet s n v) := by
  unfold State.taskSet
  refine Within.ite (fun _ => ?_) (fun _ => ?_)
  · refine State.taskOp_within _ _ _ _ (fun _ _ _ => ?_) (by decide) ?_
    · extract_lets z0
      refine Within.ite (fun _ => ?_) (fun _ => ?_)
      · exact Within.step (State.makeReady_within ..) (by decide) <| Within.refl _ _
      · exact Within.step (State.setTask_within ..) (by decide) <| Within.refl _ _
    · exact Within.refl _ _
  · exact Within.step (State.dispatchCode_within ..) (by decide) <| Within.refl _ _

theorem State.taskWord_within (s : State) (n : Nat) (v : Nat) : Within [.facets] s (State.taskWord s n v) := by
  unfold State.taskWord
  split
  · exact Within.step (State.taskCreate_within ..) (by decide) <| Within.refl _ _
  · exact Within.step (State.taskCancel_within ..) (by decide) <| Within.refl _ _
  · exact Within.step (State.taskRestart_within ..) (by decide) <| Within.refl _ _
  · exact Within.step (State.taskDelete_within ..) (by decide) <| Within.refl _ _
  · exact Within.step (State.taskSet_within ..) (by decide) <| Within.refl _ _
  · exact Within.step (State.dispatchCode_within ..) (by decide) <| Within.refl _ _

theorem State.bindWrite_within (s : State) (n : Nat) (i : Nat) (v : Nat) : Within [.facets] s (State.bindWrite s n i v) := by
  unfold State.bindWrite
  refine Within.ite (fun _ => ?_) (fun _ => ?_)
  · exact Within.step (State.dispatchCode_within ..) (by decide) <| Within.refl _ _
  · extract_lets z0
    exact Within.step (State.mapFacet_within ..) (by decide) <| Within.refl _ _

theorem State.persistRead_within (s : State) (n : Nat) (off : Nat) (len : Nat) (a : Nat) : Within [.mem] s (State.persistRead s n off len a).2.2 := by
  unfold State.persistRead
  extract_lets z0 z1
  split
  · dsimp only
    exact Within.refl _ _
  · dsimp only
    refine Within.updMem ?_ ?hm
    case hm => intro h; repeat' (with_reducible first | exact h | apply memWriteList_wf | apply memClear_wf | apply guestWrite_wf | apply writeField_wf | apply clearUnits_wf | apply setAreaBit_wf | apply memWrite_wf | apply foldl_wf _ (fun _ _ h => memWrite_wf _ _ _ h) | apply putAll_wf | exact rfl | split)
    exact Within.refl _ _

theorem State.persistWrite_within (s : State) (n : Nat) (off : Nat) (len : Nat) (a : Nat) : Within [.facets] s (State.persistWrite s n off len a).2.2 := by
  unfold State.persistWrite
  extract_lets z0 z1
  split
  · dsimp only
    exact Within.refl _ _
  · dsimp only
    exact Within.step (State.setFacet_within ..) (by decide) <| Within.refl _ _

theorem State.capDefine_within (s : State) (n r a : Nat) : Within [.regs, .blobs] s (State.capDefine s n r a).2.2 := by
  have h : ∀ (l : List (Nat × Nat)), Within [.regs, .blobs] s (l.foldl (fun t p => State.setReg t (capIndex r) p.1 p.2) s) := fun l =>
    Within.foldl _ (fun _ _ => Within.step (State.setReg_within ..) (by decide) (Within.refl _ _)) _ _ (Within.refl _ _)
  have hb : ∀ (t : State) (i j : Nat) (b : ByteList), Within [.regs, .blobs] s t → Within [.regs, .blobs] s (t.setBlob i j b) := fun t i j b ht =>
    Within.step (State.setBlob_within ..) (by decide) ht
  unfold State.capDefine
  extract_lets f vals v na nb nc nn s1 at'
  iterate 5 (split; · exact Within.refl _ _)
  exact hb _ _ _ _ (hb _ _ _ _ (hb _ _ _ _ (hb _ _ _ _ (h _))))

theorem State.capArmMsg_within (s : State) (n : Nat) (r : Nat) : Within [.regs, .capture] s (State.capArmMsg s n r).2.2 := by
  unfold State.capArmMsg
  split
  · extract_lets z0
    dsimp only
    refine Within.ite (fun _ => ?_) (fun _ => ?_)
    · refine Within.step (State.setReg_within ..) (by decide) ?_
      unfold z0
      exact Within.step (State.arm_within ..) (by decide) <| Within.refl _ _
    · unfold z0
      exact Within.step (State.arm_within ..) (by decide) <| Within.refl _ _
  · dsimp only
    exact Within.refl _ _

theorem State.capDisarmMsg_within (s : State) (n : Nat) (r : Nat) : Within [.capture] s (State.capDisarmMsg s n r).2.2 := by
  unfold State.capDisarmMsg
  split
  · dsimp only
    exact Within.step (State.disarm_within ..) (by decide) <| Within.refl _ _
  · dsimp only
    exact Within.refl _ _

theorem State.capTriggerMsg_within (s : State) (n : Nat) (r : Nat) : Within [.capture] s (State.capTriggerMsg s n r).2.2 := by
  unfold State.capTriggerMsg
  split
  · extract_lets z0
    dsimp only
    refine Within.ite (fun _ => ?_) (fun _ => ?_)
    · exact Within.step (State.manual_within ..) (by decide) <| Within.refl _ _
    · exact Within.refl _ _
  · dsimp only
    exact Within.refl _ _

theorem State.capStatusMsg_within (s : State) (n : Nat) (r : Nat) : Within [] s (State.capStatusMsg s n r).2.2 := by
  unfold State.capStatusMsg
  split
  · dsimp only
    exact Within.refl _ _
  · dsimp only
    exact Within.refl _ _

theorem State.capExportMsg_within (s : State) (n : Nat) (id : Nat) (file : Nat) (off : Nat) (w : Nat) : Within [.mem] s (State.capExportMsg s n id file off w).2.2 := by
  unfold State.capExportMsg
  extract_lets z0 z1 z2
  split
  · dsimp only
    exact Within.refl _ _
  · split
    · dsimp only
      exact Within.refl _ _
    · split
      · dsimp only
        exact Within.refl _ _
      · split
        · dsimp only
          exact Within.refl _ _
        · extract_lets z3
          dsimp only
          refine Within.updMem ?_ ?hm
          case hm => intro h; repeat' (with_reducible first | exact h | apply memWriteList_wf | apply memClear_wf | apply guestWrite_wf | apply writeField_wf | apply clearUnits_wf | apply setAreaBit_wf | apply memWrite_wf | apply foldl_wf _ (fun _ _ h => memWrite_wf _ _ _ h) | apply putAll_wf | exact rfl | split)
          exact Within.refl _ _

theorem State.serve_within (s : State) (n : Nat) (code : Nat) (result : Nat) (p : List Nat) : Within [.regs, .blobs, .mem, .facets, .capture] s (State.serve s n code result p).2.2 := by
  unfold State.serve
  extract_lets z0
  split
  · dsimp only
    exact Within.refl _ _
  · split
    · dsimp only
      exact Within.refl _ _
    · split
      · dsimp only
        exact Within.refl _ _
      · split
        · dsimp only
          exact Within.refl _ _
        · split
          · exact Within.step (State.capDefine_within ..) (by decide) <| Within.refl _ _
          · exact Within.step (State.capArmMsg_within ..) (by decide) <| Within.refl _ _
          · exact Within.step (State.capDisarmMsg_within ..) (by decide) <| Within.refl _ _
          · exact Within.step (State.capTriggerMsg_within ..) (by decide) <| Within.refl _ _
          · exact Within.step (State.capStatusMsg_within ..) (by decide) <| Within.refl _ _
          · exact Within.step (State.capExportMsg_within ..) (by decide) <| Within.refl _ _
          · exact Within.step (State.persistRead_within ..) (by decide) <| Within.refl _ _
          · exact Within.step (State.persistWrite_within ..) (by decide) <| Within.refl _ _
          · dsimp only
            exact Within.refl _ _

theorem State.takeMessage_within (s : State) (n : Nat) : Within [.regs, .blobs, .mem, .facets, .capture] s (State.takeMessage s n) := by
  unfold State.takeMessage
  extract_lets z0 z1 z2 z3 z4 z5 z6
  refine Within.ite (fun _ => ?_) (fun _ => ?_)
  · refine Within.step (State.sendToGuest_within ..) (by decide) ?_
    unfold z6
    refine Within.step (State.serve_within ..) (by decide) ?_
    unfold z5
    exact Within.step (State.setFacet_within ..) (by decide) <| Within.refl _ _
  · exact Within.refl _ _

theorem State.takeCoded_within (s : State) (n : Nat) (code : Nat) : Within [.regs, .blobs, .mem, .facets, .capture] s (State.takeCoded s n code) := by
  unfold State.takeCoded
  refine Within.ite (fun _ => ?_) (fun _ => ?_)
  · exact Within.step (State.takeMessage_within ..) (by decide) <| Within.refl _ _
  · exact Within.refl _ _

theorem opSaveComplete_within (n : Nat) (ok : Bool) (s : State) : Within [.facets, .log] s (opSaveComplete n ok s) := by
  unfold opSaveComplete
  refine Within.when _ _ (fun _ => ?_) ?_
  · exact Within.step (State.endSave_within ..) (by decide) <| Within.refl _ _
  · exact Within.refl _ _

theorem opRestoreComplete_within (n : Nat) (result : Nat) (s : State) : Within [.mem, .facets, .log] s (opRestoreComplete n result s) := by
  unfold opRestoreComplete
  refine Within.when _ _ (fun _ => ?_) ?_
  · exact Within.step (State.endRestore_within ..) (by decide) <| Within.refl _ _
  · exact Within.refl _ _

theorem opFacetResetComplete_within (n : Nat) (s : State) : Within [.facets, .log, .health] s (opFacetResetComplete n s) := by
  unfold opFacetResetComplete
  refine Within.when _ _ (fun _ => ?_) ?_
  · exact Within.step (State.endReset_within ..) (by decide) <| Within.refl _ _
  · exact Within.refl _ _

theorem opReadyReported_within (n : Nat) (s : State) : Within [.boot, .facets, .log] s (opReadyReported n s) := by
  unfold opReadyReported
  refine Within.when _ _ (fun _ => ?_) ?_
  · exact Within.step (State.phase9_within ..) (by decide) <| Within.step (State.setReady_within ..) (by decide) <| Within.refl _ _
  · exact Within.refl _ _

theorem opReadyWithdrawn_within (n : Nat) (s : State) : Within [.facets] s (opReadyWithdrawn n s) := by
  unfold opReadyWithdrawn
  refine Within.when _ _ (fun _ => ?_) ?_
  · exact Within.step (State.setReady_within ..) (by decide) <| Within.refl _ _
  · exact Within.refl _ _

theorem opGuestCoreFault_within (n : Nat) (core : Nat) (s : State) : Within [.facets, .pair, .log, .health] s (opGuestCoreFault n core s) := by
  unfold opGuestCoreFault
  refine Within.when _ _ (fun _ => ?_) ?_
  · exact Within.step (State.freezeByFault_within ..) (by decide) <| Within.refl _ _
  · exact Within.refl _ _

theorem opFacetLaunchDeadline_within (n : Nat) (s : State) : Within [.boot, .facets, .pair, .log, .health] s (opFacetLaunchDeadline n s) := by
  unfold opFacetLaunchDeadline
  refine Within.when _ _ (fun _ => ?_) ?_
  · exact Within.step (State.phase9_within ..) (by decide) <| Within.step (State.launchExpired_within ..) (by decide) <| Within.refl _ _
  · exact Within.refl _ _

theorem opMirrorBase_within (n : Nat) (isSize : Bool) (v : Nat) (s : State) : Within [.facets] s (opMirrorBase n isSize v s) := by
  unfold opMirrorBase
  refine Within.when _ _ (fun _ => ?_) ?_
  · exact Within.step (State.mirrorSet_within ..) (by decide) <| Within.refl _ _
  · exact Within.refl _ _

theorem opOutProd_within (n : Nat) (v : Nat) (s : State) : Within [.facets] s (opOutProd n v s) := by
  unfold opOutProd
  refine Within.when _ _ (fun _ => ?_) ?_
  · exact Within.step (State.outProdWrite_within ..) (by decide) <| Within.refl _ _
  · exact Within.refl _ _

theorem opInCons_within (n : Nat) (v : Nat) (s : State) : Within [.facets] s (opInCons n v s) := by
  unfold opInCons
  refine Within.when _ _ (fun _ => ?_) ?_
  · exact Within.step (State.inConsWrite_within ..) (by decide) <| Within.refl _ _
  · exact Within.refl _ _

theorem opMboxStatus_within (n : Nat) (v : Nat) (s : State) : Within [.facets] s (opMboxStatus n v s) := by
  unfold opMboxStatus
  refine Within.when _ _ (fun _ => ?_) ?_
  · exact Within.step (State.mboxStatusWrite_within ..) (by decide) <| Within.refl _ _
  · exact Within.refl _ _

theorem opSwbWrite_within (n : Nat) (w : Nat) (v : Nat) (s : State) : Within [.facets] s (opSwbWrite n w v s) := by
  unfold opSwbWrite
  refine Within.when _ _ (fun _ => ?_) ?_
  · exact Within.step (State.swbOp_within ..) (by decide) <| Within.refl _ _
  · exact Within.refl _ _

theorem opSwbSet_within (n : Nat) (w : Nat) (v : Nat) (s : State) : Within [.facets] s (opSwbSet n w v s) := by
  unfold opSwbSet
  refine Within.when _ _ (fun _ => ?_) ?_
  · exact Within.step (State.swbOp_within ..) (by decide) <| Within.refl _ _
  · exact Within.refl _ _

theorem opSwbClr_within (n : Nat) (w : Nat) (v : Nat) (s : State) : Within [.facets] s (opSwbClr n w v s) := by
  unfold opSwbClr
  refine Within.when _ _ (fun _ => ?_) ?_
  · exact Within.step (State.swbOp_within ..) (by decide) <| Within.refl _ _
  · exact Within.refl _ _

theorem opDmaSubmit_within (n : Nat) (gpa : Nat) (s : State) : Within [.freeCount, .facets] s (opDmaSubmit n gpa s) := by
  unfold opDmaSubmit
  refine Within.when _ _ (fun _ => ?_) ?_
  · exact Within.step (State.dmaSubmit_within ..) (by decide) <| Within.refl _ _
  · exact Within.refl _ _

theorem opDmaCompletion_within (n : Nat) (s : State) : Within [.mem, .facets] s (opDmaCompletion n s) := by
  unfold opDmaCompletion
  refine Within.when _ _ (fun _ => ?_) ?_
  · exact Within.step (State.dmaComplete_within ..) (by decide) <| Within.refl _ _
  · exact Within.refl _ _

theorem opNqRing_within (n : Nat) (q : Nat) (v : Nat) (s : State) : Within [.facets] s (opNqRing n q v s) := by
  unfold opNqRing
  refine Within.when _ _ (fun _ => ?_) ?_
  · exact Within.step (State.nqRingWrite_within ..) (by decide) <| Within.refl _ _
  · exact Within.refl _ _

theorem opNqTxTail_within (n : Nat) (q : Nat) (v : Nat) (s : State) : Within [.facets] s (opNqTxTail n q v s) := by
  unfold opNqTxTail
  refine Within.when _ _ (fun _ => ?_) ?_
  · exact Within.step (State.nqTxWrite_within ..) (by decide) <| Within.refl _ _
  · exact Within.refl _ _

theorem opNqRxTail_within (n : Nat) (q : Nat) (v : Nat) (s : State) : Within [.facets] s (opNqRxTail n q v s) := by
  unfold opNqRxTail
  refine Within.when _ _ (fun _ => ?_) ?_
  · exact Within.step (State.nqRxWrite_within ..) (by decide) <| Within.refl _ _
  · exact Within.refl _ _

theorem opNicTransmit_within (n : Nat) (q : Nat) (s : State) : Within [.mem, .facets] s (opNicTransmit n q s) := by
  unfold opNicTransmit
  refine Within.when _ _ (fun _ => ?_) ?_
  · exact Within.step (State.nicTransmit_within ..) (by decide) <| Within.refl _ _
  · exact Within.refl _ _

theorem opNicReceive_within (nic : Nat) (vid : Nat) (tci : Nat) (data : ByteList) (s : State) : Within [.mem, .facets] s (opNicReceive nic vid tci data s) := by
  unfold opNicReceive
  refine Within.when _ _ (fun _ => ?_) ?_
  · exact Within.step (State.nicReceive_within ..) (by decide) <| Within.refl _ _
  · exact Within.refl _ _

theorem opOutboundMessage_within (n : Nat) (s : State) : Within [.regs, .blobs, .mem, .facets, .capture] s (opOutboundMessage n s) := by
  unfold opOutboundMessage
  refine Within.when _ _ (fun _ => ?_) ?_
  · exact Within.step (State.takeMessage_within ..) (by decide) <| Within.refl _ _
  · exact Within.refl _ _

theorem opEcho_within (n : Nat) (s : State) : Within [.regs, .blobs, .mem, .facets, .capture] s (opEcho n s) := by
  unfold opEcho
  refine Within.when _ _ (fun _ => ?_) ?_
  · exact Within.step (State.takeCoded_within ..) (by decide) <| Within.refl _ _
  · exact Within.refl _ _

theorem opPersistentRead_within (n : Nat) (s : State) : Within [.regs, .blobs, .mem, .facets, .capture] s (opPersistentRead n s) := by
  unfold opPersistentRead
  refine Within.when _ _ (fun _ => ?_) ?_
  · exact Within.step (State.takeCoded_within ..) (by decide) <| Within.refl _ _
  · exact Within.refl _ _

theorem opPersistentWrite_within (n : Nat) (s : State) : Within [.regs, .blobs, .mem, .facets, .capture] s (opPersistentWrite n s) := by
  unfold opPersistentWrite
  refine Within.when _ _ (fun _ => ?_) ?_
  · exact Within.step (State.takeCoded_within ..) (by decide) <| Within.refl _ _
  · exact Within.refl _ _

theorem opPersistentSize_within (n : Nat) (s : State) : Within [.regs, .blobs, .mem, .facets, .capture] s (opPersistentSize n s) := by
  unfold opPersistentSize
  refine Within.when _ _ (fun _ => ?_) ?_
  · exact Within.step (State.takeCoded_within ..) (by decide) <| Within.refl _ _
  · exact Within.refl _ _

theorem opCaptureDefine_within (n : Nat) (s : State) : Within [.regs, .blobs, .mem, .facets, .capture] s (opCaptureDefine n s) := by
  unfold opCaptureDefine
  refine Within.when _ _ (fun _ => ?_) ?_
  · exact Within.step (State.takeCoded_within ..) (by decide) <| Within.refl _ _
  · exact Within.refl _ _

theorem opCaptureArm_within (n : Nat) (s : State) : Within [.regs, .blobs, .mem, .facets, .capture] s (opCaptureArm n s) := by
  unfold opCaptureArm
  refine Within.when _ _ (fun _ => ?_) ?_
  · exact Within.step (State.takeCoded_within ..) (by decide) <| Within.refl _ _
  · exact Within.refl _ _

theorem opCaptureDisarm_within (n : Nat) (s : State) : Within [.regs, .blobs, .mem, .facets, .capture] s (opCaptureDisarm n s) := by
  unfold opCaptureDisarm
  refine Within.when _ _ (fun _ => ?_) ?_
  · exact Within.step (State.takeCoded_within ..) (by decide) <| Within.refl _ _
  · exact Within.refl _ _

theorem opCaptureTrigger_within (n : Nat) (s : State) : Within [.regs, .blobs, .mem, .facets, .capture] s (opCaptureTrigger n s) := by
  unfold opCaptureTrigger
  refine Within.when _ _ (fun _ => ?_) ?_
  · exact Within.step (State.takeCoded_within ..) (by decide) <| Within.refl _ _
  · exact Within.refl _ _

theorem opCaptureStatus_within (n : Nat) (s : State) : Within [.regs, .blobs, .mem, .facets, .capture] s (opCaptureStatus n s) := by
  unfold opCaptureStatus
  refine Within.when _ _ (fun _ => ?_) ?_
  · exact Within.step (State.takeCoded_within ..) (by decide) <| Within.refl _ _
  · exact Within.refl _ _

theorem opCaptureExport_within (n : Nat) (s : State) : Within [.regs, .blobs, .mem, .facets, .capture] s (opCaptureExport n s) := by
  unfold opCaptureExport
  refine Within.when _ _ (fun _ => ?_) ?_
  · exact Within.step (State.takeCoded_within ..) (by decide) <| Within.refl _ _
  · exact Within.refl _ _

theorem opTake_within (n : Nat) (core : Nat) (s : State) : Within [.reply, .facets] s (opTake n core s) := by
  unfold opTake
  refine Within.when _ _ (fun _ => ?_) ?_
  · exact Within.step (State.takeNow_within ..) (by decide) <| Within.refl _ _
  · exact Within.refl _ _

theorem opTakeWait_within (n : Nat) (core : Nat) (irq : Bool) (s : State) : Within [.reply, .facets] s (opTakeWait n core irq s) := by
  unfold opTakeWait
  refine Within.when _ _ (fun _ => ?_) ?_
  · exact Within.step (State.takeOrWait_within ..) (by decide) <| Within.refl _ _
  · exact Within.refl _ _

theorem opWaitLimitExpiry_within (n : Nat) (core : Nat) (s : State) : Within [.reply, .facets] s (opWaitLimitExpiry n core s) := by
  unfold opWaitLimitExpiry
  refine Within.when _ _ (fun _ => ?_) ?_
  · exact Within.step (State.waitExpired_within ..) (by decide) <| Within.refl _ _
  · exact Within.refl _ _

theorem opDone_within (n : Nat) (core : Nat) (v : Nat) (s : State) : Within [.facets] s (opDone n core v s) := by
  unfold opDone
  refine Within.when _ _ (fun _ => ?_) ?_
  · exact Within.step (State.taskDone_within ..) (by decide) <| Within.refl _ _
  · exact Within.refl _ _

theorem opPost_within (n : Nat) (v : Nat) (s : State) : Within [.facets] s (opPost n v s) := by
  unfold opPost
  refine Within.when _ _ (fun _ => ?_) ?_
  · exact Within.step (State.taskPost_within ..) (by decide) <| Within.refl _ _
  · exact Within.refl _ _

theorem opCreate_within (n : Nat) (v : Nat) (s : State) : Within [.facets] s (opCreate n v s) := by
  unfold opCreate
  refine Within.when _ _ (fun _ => ?_) ?_
  · exact Within.step (State.taskCreate_within ..) (by decide) <| Within.refl _ _
  · exact Within.refl _ _

theorem opCancel_within (n : Nat) (v : Nat) (s : State) : Within [.facets] s (opCancel n v s) := by
  unfold opCancel
  refine Within.when _ _ (fun _ => ?_) ?_
  · exact Within.step (State.taskCancel_within ..) (by decide) <| Within.refl _ _
  · exact Within.refl _ _

theorem opRestart_within (n : Nat) (v : Nat) (s : State) : Within [.facets] s (opRestart n v s) := by
  unfold opRestart
  refine Within.when _ _ (fun _ => ?_) ?_
  · exact Within.step (State.taskRestart_within ..) (by decide) <| Within.refl _ _
  · exact Within.refl _ _

theorem opDelete_within (n : Nat) (v : Nat) (s : State) : Within [.facets] s (opDelete n v s) := by
  unfold opDelete
  refine Within.when _ _ (fun _ => ?_) ?_
  · exact Within.step (State.taskDelete_within ..) (by decide) <| Within.refl _ _
  · exact Within.refl _ _

theorem opSetPriorityAndAffinity_within (n : Nat) (v : Nat) (s : State) : Within [.facets] s (opSetPriorityAndAffinity n v s) := by
  unfold opSetPriorityAndAffinity
  refine Within.when _ _ (fun _ => ?_) ?_
  · exact Within.step (State.taskSet_within ..) (by decide) <| Within.refl _ _
  · exact Within.refl _ _

theorem opEventBind_within (n : Nat) (i : Nat) (v : Nat) (s : State) : Within [.facets] s (opEventBind n i v s) := by
  unfold opEventBind
  refine Within.when _ _ (fun _ => ?_) ?_
  · exact Within.step (State.bindWrite_within ..) (by decide) <| Within.refl _ _
  · exact Within.refl _ _

theorem opRowCapture_within (s : State) : Within [.regs, .capture] s (opRowCapture s) := by
  unfold opRowCapture
  refine Within.when _ _ (fun _ => ?_) ?_
  · exact Within.step (State.startRow_within ..) (by decide) <| Within.refl _ _
  · exact Within.refl _ _

theorem opBinaryCapture_within (s : State) : Within [.regs, .capture] s (opBinaryCapture s) := by
  unfold opBinaryCapture
  refine Within.when _ _ (fun _ => ?_) ?_
  · exact Within.step (State.finishRow_within ..) (by decide) <| Within.refl _ _
  · exact Within.refl _ _

theorem opRecordStored_within (r : Nat) (s : State) : Within [.regs, .facets, .capture, .log] s (opRecordStored r s) := by
  unfold opRecordStored
  refine Within.when _ _ (fun _ => ?_) ?_
  · exact Within.step (State.storeRecord_within ..) (by decide) <| Within.refl _ _
  · exact Within.refl _ _

theorem opAutoReArm_within (r : Nat) (s : State) : Within [.regs, .capture] s (opAutoReArm r s) := by
  unfold opAutoReArm
  refine Within.when _ _ (fun _ => ?_) ?_
  · exact Within.step (State.rearmSlot_within ..) (by decide) <| Within.refl _ _
  · exact Within.refl _ _

theorem opCanFrameReceived_within (c : Nat) (fr : CanFrame) (s : State) : Within [.freeCount, .regs, .mem, .logic, .facets, .log, .can] s (opCanFrameReceived c fr s) := by
  unfold opCanFrameReceived
  refine Within.when _ _ (fun _ => ?_) ?_
  · extract_lets z0 z1
    refine Within.ite (fun _ => ?_) (fun _ => ?_)
    · refine Within.step (State.seeOutput_within ..) (by decide) ?_
      unfold z1
      exact Within.step (State.canReceive_within ..) (by decide) <| Within.refl _ _
    · unfold z1
      exact Within.step (State.canReceive_within ..) (by decide) <| Within.refl _ _
  · exact Within.refl _ _

theorem opFifoHeadRead_within (c : Nat) (fifo : Nat) (s : State) : Within [.can] s (opFifoHeadRead c fifo s) := by
  unfold opFifoHeadRead
  refine Within.when _ _ (fun _ => ?_) ?_
  · exact Within.step (State.headRead_within ..) (by decide) <| Within.refl _ _
  · exact Within.refl _ _

theorem opTransmitOffer_within (c : Nat) (s : State) : Within [.can] s (opTransmitOffer c s) := by
  unfold opTransmitOffer
  refine Within.when _ _ (fun _ => ?_) ?_
  · exact Within.step (State.offer_within ..) (by decide) <| Within.refl _ _
  · exact Within.refl _ _

theorem opFrameSent_within (c : Nat) (s : State) : Within [.regs, .facets, .log, .can] s (opFrameSent c s) := by
  unfold opFrameSent
  refine Within.when _ _ (fun _ => ?_) ?_
  · exact Within.step (State.sent_within ..) (by decide) <| Within.refl _ _
  · exact Within.refl _ _

theorem opBusError_within (c : Nat) (e : CanError) (s : State) : Within [.regs, .facets, .log, .can] s (opBusError c e s) := by
  unfold opBusError
  refine Within.when _ _ (fun _ => ?_) ?_
  · exact Within.step (State.busError_within ..) (by decide) <| Within.refl _ _
  · exact Within.refl _ _

theorem opRecoveryComplete_within (c : Nat) (s : State) : Within [.regs, .facets, .log, .can] s (opRecoveryComplete c s) := by
  unfold opRecoveryComplete
  refine Within.when _ _ (fun _ => ?_) ?_
  · exact Within.step (State.frameEnd_within ..) (by decide) <| Within.step (State.canEvent_within ..) (by decide) <| Within.step (State.setCtl_within ..) (by decide) <| Within.refl _ _
  · exact Within.refl _ _

end Sys2Proof.Machine
end

