-- ==== Sys2Proof/Laws/FramePair.lean ====
section
/-! SUPPORT. Frames of health and the redundant pair: what each operation can change. -/

namespace Sys2Proof.Machine

set_option Elab.async false

theorem State.testRan_within (s : State) (i : Nat) (result : Nat) (unit : Nat) (addr : Nat) : Within [.facets, .log, .health] s (State.testRan s i result unit addr) := by
  unfold State.testRan
  extract_lets z0 z1 z2 z3
  refine Within.ite (fun _ => ?_) (fun _ => ?_)
  · unfold z3
    exact Within.upd <| Within.refl _ _
  · refine Within.step (State.logRec_within ..) (by decide) ?_
    unfold z3
    exact Within.upd <| Within.refl _ _

theorem State.unitTest_within (s : State) (i : Nat) (cause : Nat) (unit : Nat) (pass : Bool) : Within [.facets, .pair, .log, .health] s (State.unitTest s i cause unit pass) := by
  unfold State.unitTest
  extract_lets z0 z1
  refine Within.ite (fun _ => ?_) (fun _ => ?_)
  · exact Within.step (State.testRan_within ..) (by decide) <| Within.step (State.latchCause_within ..) (by decide) <| Within.refl _ _
  · refine Within.ite (fun _ => ?_) (fun _ => ?_)
    · exact Within.upd <| Within.refl _ _
    · exact Within.step (State.testRan_within ..) (by decide) <| Within.upd <| Within.refl _ _

theorem State.showDdr_within (s : State) : Within [.facets, .pair, .log, .health] s (State.showDdr s) := by
  unfold State.showDdr
  exact Within.step (State.setCause_within ..) (by decide) <| Within.refl _ _

theorem State.acknowledge_within (s : State) (mask : Nat) : Within [.facets, .pair, .log, .health] s (State.acknowledge s mask).2 := by
  unfold State.acknowledge
  extract_lets z0
  refine Within.iteR (fun _ => ?_) (fun _ => ?_)
  · dsimp only
    exact Within.refl _ _
  · dsimp only
    refine Within.list _ (fun _ _ => ?_) _ _ ?_
    · exact Within.step (State.setCause_within ..) (by decide) <| Within.refl _ _
    · exact Within.refl _ _

theorem State.applyProg_within (s : State) (first : Bool) (m : ProgMirror) : Within [.mem, .logic] s (State.applyProg s first m) := by
  unfold State.applyProg
  extract_lets z0 z1
  split
  · exact Within.refl _ _
  · extract_lets z2 z3 z4 z5 z6
    refine Within.step (State.setProg_within ..) (by decide) ?_
    refine State.editMem_within _ (fun _ h => putAll_wf _ _ h) (by decide) (by decide) ?_
    exact Within.refl _ _

theorem State.lateItem_within (s : State) (late : Bool) : Within [.pair] s (State.lateItem s late) := by
  unfold State.lateItem
  extract_lets z0 z1
  refine Within.ite (fun _ => ?_) (fun _ => ?_)
  · refine Within.upd ?_
    unfold z0
    exact Within.step (State.mirrorCount_within ..) (by decide) <| Within.refl _ _
  · unfold z0
    exact Within.step (State.mirrorCount_within ..) (by decide) <| Within.refl _ _

theorem State.applySet_within (s : State) (m : FacetMirror) : Within [.mem, .pair] s (State.applySet s m) := by
  unfold State.applySet
  extract_lets z0
  refine Within.ite (fun _ => ?_) (fun _ => ?_)
  · refine Within.updMem ?_ ?hm
    case hm => intro h; repeat' (with_reducible first | exact h | apply memWriteList_wf | apply memClear_wf | apply guestWrite_wf | apply writeField_wf | apply clearUnits_wf | apply setAreaBit_wf | apply memWrite_wf | apply foldl_wf _ (fun _ _ h => memWrite_wf _ _ _ h) | apply putAll_wf | exact rfl | split)
    exact Within.refl _ _
  · exact Within.step (State.lateItem_within ..) (by decide) <| Within.refl _ _

theorem State.post_within (s : State) (kind : Nat) (time : Nat) (unit : Nat) (bytes : Nat) (handover : Bool) : Within [.pair] s (State.post s kind time unit bytes handover) := by
  unfold State.post
  extract_lets z0 z1
  exact Within.upd <| Within.refl _ _

theorem State.laneStep_within (s : State) : Within [.pair] s (State.laneStep s) := by
  have hc : ∀ p : Pair, (Pair.laneCycle p).own = p.own ∧ (Pair.laneCycle p).role = p.role := by
    intro p
    unfold Pair.laneCycle
    dsimp only
    split
    · split <;> exact ⟨rfl, rfl⟩
    · split <;> exact ⟨rfl, rfl⟩
  unfold State.laneStep
  exact Within.when _ _ (fun t => Within.upd (Within.refl _ t) (ho := ⟨(hc _).1, (hc _).2, rfl⟩)) <| Within.refl _ _

theorem State.sendTick_within (s : State) : Within [.pair] s (State.sendTick s) := by
  unfold State.sendTick
  extract_lets z0 z1 z2 z3 z4
  refine Within.step (State.mirrorCount_within ..) (by decide) ?_
  unfold z4
  refine Within.upd ?_
  unfold z2
  exact Within.step (State.post_within ..) (by decide) <| Within.refl _ _

theorem State.sendBulk_within (s : State) (all : Bool) : Within [.pair] s (State.sendBulk s all) := by
  unfold State.sendBulk
  extract_lets z0 z1 z2 z3
  refine Within.step (State.mirrorCount_within ..) (by decide) ?_
  unfold z3
  refine Within.upd ?_
  unfold z1
  exact Within.step (State.post_within ..) (by decide) <| Within.refl _ _

theorem State.mirrorRefused_within (s : State) : Within [.facets, .pair, .log] s (State.mirrorRefused s) := by
  unfold State.mirrorRefused
  exact Within.step (State.logRec_within ..) (by decide) <| Within.step (State.mirrorCount_within ..) (by decide) <| Within.refl _ _

theorem State.seqTaken_within (s : State) (kind : Nat) (epoch : Nat) (seq : Nat) : Within [.pair] s (State.seqTaken s kind epoch seq) := by
  unfold State.seqTaken
  exact Within.upd <| Within.refl _ _

theorem State.keyUsed_within (s : State) (epoch : Nat) : Within [.facets, .log, .sec] s (State.keyUsed s epoch) := by
  unfold State.keyUsed
  extract_lets z0
  refine Within.ite (fun _ => ?_) (fun _ => ?_)
  · exact Within.step (State.logSec_within ..) (by decide) <| Within.upd <| Within.refl _ _
  · exact Within.refl _ _

theorem State.tagTakes_within {F : List Part} {s t : State} (k : Nat) (g : MirrorTag) (f : State → State)
    (hf : ∀ u, Within F u (f u)) (hp : [.facets, .pair, .log, .sec] ⊆ F) (h : Within F s t) : Within F s (State.tagTakes t k g f) := by
  unfold State.tagTakes
  refine Within.ite (fun _ => ?_) (fun _ => Within.ite (fun _ => ?_) (fun _ => ?_))
  · exact Within.step (State.mirrorRefused_within ..) (List.Subset.trans (by decide) hp) h
  · exact Within.step (State.mirrorCount_within ..) (List.Subset.trans (by decide) hp) h
  · refine Within.step (hf ..) (fun _ => id) <| Within.step (State.keyUsed_within ..) (List.Subset.trans (by decide) hp) ?_
    exact Within.step (State.seqTaken_within ..) (List.Subset.trans (by decide) hp) h

theorem State.mirrorTakes_within {F : List Part} {s t : State} (m : MirrorMsg) (f : State → State)
    (hf : ∀ u, Within F u (f u)) (hp : [.facets, .pair, .log, .sec] ⊆ F) (h : Within F s t) : Within F s (State.mirrorTakes t m f) := by
  unfold State.mirrorTakes
  refine State.tagTakes_within _ _ _ (fun u => Within.step (hf _) (fun _ => id) ?_) hp h
  exact Within.upd (Within.refl _ u) (_pair := .inl (hp (by decide)))

theorem State.applyProgs_within (s : State) (tick : Bool) (first : Bool) (t : Nat) (l : List ProgMirror) : Within [.mem, .logic, .pair] s (State.applyProgs s tick first t l) := by
  unfold State.applyProgs
  refine Within.list _ (fun _ _ => ?_) _ _ ?_
  · refine Within.ite (fun _ => ?_) (fun _ => ?_)
    · exact Within.step (State.lateItem_within ..) (by decide) <| Within.refl _ _
    · exact Within.step (State.applyProg_within ..) (by decide) <| Within.refl _ _
  · exact Within.refl _ _

theorem State.syncEnds_within (s : State) (m : MirrorMsg) : Within [.access, .facets, .pair, .log] s (State.syncEnds s m) := by
  unfold State.syncEnds
  refine Within.ite (fun _ => ?_) (fun _ => ?_)
  · exact Within.step (State.setElig_within ..) (by decide) <| Within.upd <| Within.refl _ _
  · exact Within.refl _ _

theorem State.takeTick_within (s : State) (m : MirrorMsg) : Within [.mem, .access, .goose, .logic, .facets, .pair, .log, .sec] s (State.takeTick s m) := by
  unfold State.takeTick
  refine State.mirrorTakes_within _ _ (fun _ => ?_) (by decide) ?_
  · refine Within.ite (fun _ => ?_) (fun _ => ?_)
    · extract_lets z0 z1 z2 z3 z4
      refine Within.ite (fun _ => ?_) (fun _ => ?_)
      · refine Within.step (State.post_within ..) (by decide) ?_
        unfold z4
        refine Within.step (State.syncEnds_within ..) (by decide) ?_
        unfold z3
        refine Within.step (State.mirrorCount_within ..) (by decide) <| Within.upd ?_
        unfold z1
        refine Within.list _ (fun _ _ => ?_) _ _ ?_
        · exact Within.step (State.applySet_within ..) (by decide) <| Within.refl _ _
        · refine Within.step (State.applyProgs_within ..) (by decide) ?_
          unfold z0
          refine Within.list _ (fun _ _ => ?_) _ _ ?_
          · exact Within.step (State.mirrorPub_within ..) (by decide) <| Within.refl _ _
          · exact Within.refl _ _
      · unfold z4
        refine Within.step (State.syncEnds_within ..) (by decide) ?_
        unfold z3
        refine Within.step (State.mirrorCount_within ..) (by decide) <| Within.upd ?_
        unfold z1
        refine Within.list _ (fun _ _ => ?_) _ _ ?_
        · exact Within.step (State.applySet_within ..) (by decide) <| Within.refl _ _
        · refine Within.step (State.applyProgs_within ..) (by decide) ?_
          unfold z0
          refine Within.list _ (fun _ _ => ?_) _ _ ?_
          · exact Within.step (State.mirrorPub_within ..) (by decide) <| Within.refl _ _
          · exact Within.refl _ _
    · exact Within.step (State.lateItem_within ..) (by decide) <| Within.refl _ _
  · exact Within.refl _ _

theorem State.takeBulk_within (s : State) (first : Bool) (m : MirrorMsg) : Within [.mem, .goose, .logic, .facets, .pair, .log, .sec] s (State.takeBulk s first m) := by
  unfold State.takeBulk
  refine State.mirrorTakes_within _ _ (fun _ => ?_) (by decide) ?_
  · refine Within.ite (fun _ => ?_) (fun _ => ?_)
    · extract_lets z0
      refine Within.list _ (fun _ _ => ?_) _ _ ?_
      · exact Within.step (State.applySet_within ..) (by decide) <| Within.refl _ _
      · refine Within.step (State.applyProgs_within ..) (by decide) ?_
        unfold z0
        refine Within.list _ (fun _ _ => ?_) _ _ ?_
        · exact Within.step (State.mirrorPub_within ..) (by decide) <| Within.refl _ _
        · exact Within.refl _ _
    · exact Within.step (State.lateItem_within ..) (by decide) <| Within.refl _ _
  · exact Within.refl _ _

theorem State.takeSync_within (s : State) (m : MirrorMsg) : Within [.mem, .goose, .logic, .facets, .pair, .log, .sec] s (State.takeSync s m) := by
  unfold State.takeSync
  extract_lets z0 z1 z2
  refine Within.ite (fun _ => ?_) (fun _ => ?_)
  · refine Within.upd ?_
    unfold z1
    exact Within.step (State.takeBulk_within ..) (by decide) <| Within.refl _ _
  · unfold z1
    exact Within.step (State.takeBulk_within ..) (by decide) <| Within.refl _ _

theorem State.pairEvent_within (s : State) (event : Nat) : Within [.facets, .log] s (State.pairEvent s event) := by
  unfold State.pairEvent
  exact Within.step (State.logRec_within ..) (by decide) <| Within.refl _ _

theorem State.sendBlink_within (s : State) (release : Bool) (handBack : Bool) : Within [.pair] s (State.sendBlink s release handBack) := by
  unfold State.sendBlink
  extract_lets z0
  exact Within.step (State.mirrorCount_within ..) (by decide) <| State.setPair_within _ (fun _ => ⟨rfl, rfl⟩) (by decide) <| Within.refl _ _

theorem State.sendStationBlink_within (s : State) : Within [.pair] s (State.sendStationBlink s) := by
  unfold State.sendStationBlink
  extract_lets z0
  exact State.setPair_within _ (fun _ => ⟨rfl, rfl⟩) (by decide) <| Within.refl _ _

theorem State.activate_within (s : State) (h : s.pair.role = 1) : Within [.regs, .mem, .power, .goose, .logic, .facets, .pair, .log, .can] s (State.activate s) := by
  unfold State.activate
  have h0 : Within [.regs, .mem, .power, .goose, .logic, .facets, .pair, .log, .can] s { s with
        power := { s.power with oselOwn := true, fdoSwitches := true },
        pair := { s.pair with checking := !s.power.oselFb, switchesDue := false } } :=
    ((Within.refl [.regs, .mem, .power, .goose, .logic, .facets, .pair, .log, .can] s).keeps.own (by decide) (by decide)).within fun o => ⟨fun _ => o.2.2 h, o.2⟩
  extract_lets p q z0 z1
  have h1 : Within [.regs, .mem, .power, .goose, .logic, .facets, .pair, .log, .can] s z1 := by
    refine Within.step (State.exchangeAll_within ..) (by decide) <| Within.step (State.takeoverFrames_within ..) (by decide) <| Within.step (State.deliverFdo_within ..) (by decide) ?_
    exact h0
  refine Within.ite (fun _ => ?_) (fun _ => h1)
  split
  · exact State.setPair_within _ (fun _ => ⟨rfl, rfl⟩) (by decide) h1
  · exact h1

theorem State.takeServo_within (s : State) : Within [.mem, .time, .lens, .facets, .pair, .log, .health] s (State.takeServo s) := by
  unfold State.takeServo
  split
  · exact Within.refl _ _
  · extract_lets z0 z1 z2 z3 z4
    refine Within.ite (fun _ => ?_) (fun _ => ?_)
    · refine Within.step (State.stepBy_within ..) (by decide) ?_
      unfold z4
      refine Within.step (State.setServo_within ..) (by decide) ?_
      unfold z3
      exact Within.upd <| Within.refl _ _
    · unfold z4
      refine Within.step (State.setServo_within ..) (by decide) ?_
      unfold z3
      exact Within.upd <| Within.refl _ _

theorem State.gain_within (s : State) (cause : Nat) : Within [.regs, .mem, .power, .time, .lens, .goose, .logic, .facets, .pair, .log, .health, .can] s (State.gain s cause) := by
  unfold State.gain
  extract_lets was s1 s2
  have hk : Keeps [.regs, .mem, .power, .time, .lens, .goose, .logic, .facets, .pair, .log, .health, .can] s s1 := (Within.refl [.regs, .mem, .power, .time, .lens, .goose, .logic, .facets, .pair, .log, .health, .can] s).keeps.own (by decide) (by decide)
  have h1 : Within [.regs, .mem, .power, .time, .lens, .goose, .logic, .facets, .pair, .log, .health, .can] s (s1.setRole 1) := by
    refine Keeps.within ⟨(State.setRole_keeps s1 1).queue.trans hk.queue, (State.setRole_keeps s1 1).mem ∘ hk.mem, fun p hp => ?_⟩
      fun _ => ?_
    · exact State.same_trans p (hk.rest p hp) ((State.setRole_keeps s1 1).rest p fun m => hp ((by decide :
        ([.facets, .pair, .log] : List Part) ⊆ [.regs, .mem, .power, .time, .lens, .goose, .logic, .facets, .pair, .log, .health, .can]) m))
    · unfold State.ownership; rw [State.setRole_pair]; exact ⟨fun _ => rfl, by simp [s1, State.setPair]⟩
  have h2 : Within [.regs, .mem, .power, .time, .lens, .goose, .logic, .facets, .pair, .log, .health, .can] s s2 := by
    refine Within.step (State.takeServo_within ..) (by decide) <| Within.step (State.setCause_within ..) (by decide) ?_
    exact h1
  refine Within.step (State.bmca_within ..) (by decide) ?_
  refine Within.ite (fun hd => ?_) (fun _ => h2)
  refine Within.step (State.activate_within _ ?_) (by decide) h2
  simp only [State.driven, State.lit, Bool.and_eq_true, beq_iff_eq] at hd
  exact hd.1

theorem State.request_within (s : State) (cause : Nat) : Within [.regs, .mem, .power, .time, .lens, .goose, .logic, .facets, .pair, .log, .health, .can] s (State.request s cause) := by
  unfold State.request
  refine Within.ite (fun _ => ?_) (fun _ => ?_)
  · exact Within.step (State.gain_within ..) (by decide) <| Within.refl _ _
  · refine Within.ite (fun _ => ?_) (fun _ => ?_)
    · exact Within.refl _ _
    · exact State.setPair_within _ (fun _ => ⟨rfl, rfl⟩) (by decide) <| Within.refl _ _

theorem State.downAborted_within (s : State) (key : Nat) : Within [.boot, .logic] s (State.downAborted s key) := by
  unfold State.downAborted
  extract_lets z0 z1
  refine Within.ite (fun _ => ?_) (fun _ => ?_)
  · exact Within.step (State.exchangeAbort_within ..) (by decide) <| Within.refl _ _
  · refine Within.ite (fun _ => ?_) (fun _ => ?_)
    · exact Within.upd <| Within.refl _ _
    · refine Within.ite (fun _ => ?_) (fun _ => ?_)
      · exact Within.upd <| Within.refl _ _
      · exact Within.refl _ _

theorem State.abortShared_within (s : State) : Within [.boot, .access, .logic] s (State.abortShared s) := by
  unfold State.abortShared
  extract_lets z0 z1 z2
  refine Within.list _ (fun _ _ => ?_) _ _ ?_
  · exact Within.step (State.downAborted_within ..) (by decide) <| Within.refl _ _
  · unfold z2
    exact Within.upd <| Within.refl _ _

theorem State.release_within (s : State) (handBack : Bool) (role : Nat) (h : role ≠ 1 := by decide) : Within [.power, .boot, .access, .time, .logic, .facets, .pair, .log, .can] s (State.release s handBack role) := by
  unfold State.release
  extract_lets s1 p q s2
  have h1 : Keeps [.power, .boot, .access, .time, .logic, .facets, .pair, .log, .can] s s1 := by
    refine Within.keeps (Within.ite (fun _ => ?_) (fun _ => Within.refl _ _))
    exact Within.step (State.sendBlink_within ..) (by decide) <| Within.refl _ _
  have h2 : Keeps [.power, .boot, .access, .time, .logic, .facets, .pair, .log, .can] s s2 := h1.own (by decide) (by decide)
  have h3 : Keeps [.power, .boot, .access, .time, .logic, .facets, .pair, .log, .can] s s2.cancelStations.abortShared :=
    Keeps.step (State.abortShared_within ..) (by decide) (Keeps.step (State.cancelStations_within ..) (by decide) h2)
  have k : Within [.boot, .access, .capture, .logic, .facets, .log, .can] s2 s2.cancelStations.abortShared :=
    Within.step (State.abortShared_within ..) (by decide) (Within.step (State.cancelStations_within ..) (by decide) (Within.refl _ _))
  have kr := State.setRole_keeps s2.cancelStations.abortShared role
  refine Within.step (State.bmca_within ..) (by decide) ?_
  refine Keeps.within ⟨kr.queue.trans h3.queue, kr.mem ∘ h3.mem, fun p hp => ?_⟩ fun _ => ?_
  · exact State.same_trans p (h3.rest p hp) (kr.rest p fun m => hp ((by decide :
      ([.facets, .pair, .log] : List Part) ⊆ [.power, .boot, .access, .time, .logic, .facets, .pair, .log, .can]) m))
  · unfold State.ownership
    have e1 : s2.cancelStations.abortShared.pair = s2.pair := k.rest .pair (by decide)
    have e2 : (s2.cancelStations.abortShared.setRole role).power = s2.power :=
      (kr.rest .power (by decide)).trans (k.rest .power (by decide))
    rw [State.setRole_pair, e1, e2]
    exact ⟨fun h => (by cases h), ⟨fun h => (by cases h), fun h' => absurd h' h⟩⟩

theorem State.openSwitches_within (s : State) : Within [.power, .pair] s (State.openSwitches s) := by
  unfold State.openSwitches
  refine Within.ite (fun _ => ?_) (fun _ => ?_)
  · exact Within.upd <| Within.refl _ _
  · exact Within.refl _ _

theorem State.fence_within (s : State) : Within [.fabric, .pair] s (State.fence s) := by
  unfold State.fence
  refine Within.ite (fun _ => ?_) (fun _ => ?_)
  · exact Within.refl _ _
  · extract_lets z0 z1 z2 z3 z4 z5 z6 z7 z8
    refine Within.ite (fun _ => ?_) (fun _ => ?_)
    · unfold z8
      refine Within.list _ (fun _ _ => ?_) _ _ ?_
      · exact Within.step (State.settleFrame_within ..) (by decide) <| Within.refl _ _
      · refine State.setPair_within _ (fun _ => ⟨rfl, rfl⟩) (by decide) ?_
        unfold z6
        exact Within.upd <| Within.refl _ _
    · refine Within.step (State.mirrorCount_within ..) (by decide) ?_
      unfold z8
      refine Within.list _ (fun _ _ => ?_) _ _ ?_
      · exact Within.step (State.settleFrame_within ..) (by decide) <| Within.refl _ _
      · refine State.setPair_within _ (fun _ => ⟨rfl, rfl⟩) (by decide) ?_
        unfold z6
        exact Within.upd <| Within.refl _ _

theorem State.judgeDark_within (s : State) : Within [.pair] s (State.judgeDark s) := by
  unfold State.judgeDark
  refine Within.ite (fun _ => ?_) (fun _ => ?_)
  · exact State.setPair_within _ (fun _ => ⟨rfl, rfl⟩) (by decide) <| Within.refl _ _
  · exact Within.refl _ _

theorem State.setFaulted_within (s : State) : Within [.facets, .pair, .log, .health] s (State.setFaulted s) := by
  unfold State.setFaulted
  refine Within.ite (fun _ => ?_) (fun _ => ?_)
  · exact Within.refl _ _
  · extract_lets z0
    refine Within.step (State.testRan_within ..) (by decide) <| Within.step (State.setCause_within ..) (by decide) <| Within.step (State.pairEvent_within ..) (by decide) ?_
    unfold z0
    exact Within.step (State.mirrorCount_within ..) (by decide) <| State.setPair_within _ (fun _ => ⟨rfl, rfl⟩) (by decide) <| Within.refl _ _

theorem State.compareSets_within (s : State) (role : Nat) : Within [.facets, .pair, .log, .health] s (State.compareSets s role) := by
  unfold State.compareSets
  extract_lets z0 z1 z2 z3 z4
  refine Within.ite (fun _ => ?_) (fun _ => ?_)
  · refine Within.step (State.setFaulted_within ..) (by decide) ?_
    unfold z4
    exact State.setPair_within _ (fun _ => ⟨rfl, rfl⟩) (by decide) <| Within.refl _ _
  · refine Within.ite (fun _ => ?_) (fun _ => ?_)
    · refine Within.step (State.testRan_within ..) (by decide) <| Within.step (State.setCause_within ..) (by decide) <| State.setPair_within _ (fun _ => ⟨rfl, rfl⟩) (by decide) ?_
      unfold z4
      exact State.setPair_within _ (fun _ => ⟨rfl, rfl⟩) (by decide) <| Within.refl _ _
    · unfold z4
      exact State.setPair_within _ (fun _ => ⟨rfl, rfl⟩) (by decide) <| Within.refl _ _

theorem State.judge_within (s : State) (b : Blink) : Within [.facets, .pair, .log] s (State.judge s b) := by
  unfold State.judge
  refine Within.ite (fun _ => ?_) (fun _ => ?_)
  · exact Within.step (State.setElig_within ..) (by decide) <| Within.refl _ _
  · extract_lets z0 z1 z2 z3 z4 z5
    refine Within.step (State.settle_within ..) (by decide) ?_
    unfold z5
    exact State.setPair_within _ (fun _ => ⟨rfl, rfl⟩) (by decide) <| Within.refl _ _

theorem State.timeCompare_within (s : State) (b : Blink) : Within [.facets, .pair, .log, .health] s (State.timeCompare s b) := by
  unfold State.timeCompare
  extract_lets z0 z1 z2
  refine Within.step (State.testRan_within ..) (by decide) ?_
  unfold z2
  exact State.setPair_within _ (fun _ => ⟨rfl, rfl⟩) (by decide) <| Within.refl _ _

theorem State.dualClaim_within (s : State) : Within [.power, .boot, .access, .time, .logic, .facets, .pair, .log, .can] s (State.dualClaim s) := by
  unfold State.dualClaim
  extract_lets z0
  refine Within.ite (fun _ => ?_) (fun _ => ?_)
  · refine Within.step (State.setElig_within ..) (by decide) <| Within.step (State.release_within ..) (by decide) ?_
    unfold z0
    exact Within.step (State.pairEvent_within ..) (by decide) <| State.setPair_within _ (fun _ => ⟨rfl, rfl⟩) (by decide) <| Within.refl _ _
  · unfold z0
    exact Within.step (State.pairEvent_within ..) (by decide) <| State.setPair_within _ (fun _ => ⟨rfl, rfl⟩) (by decide) <| Within.refl _ _

theorem State.armSwap_within (s : State) : Within [.pair] s (State.armSwap s) := by
  unfold State.armSwap
  exact State.setPair_within _ (fun _ => ⟨rfl, rfl⟩) (by decide) <| Within.refl _ _

theorem State.declareFailure_within (s : State) (cause : Nat) : Within [.regs, .mem, .power, .time, .lens, .goose, .logic, .facets, .pair, .log, .health, .can] s (State.declareFailure s cause) := by
  unfold State.declareFailure
  refine Within.ite (fun _ => ?_) (fun _ => ?_)
  · exact Within.step (State.request_within ..) (by decide) <| Within.refl _ _
  · refine Within.ite (fun _ => ?_) (fun _ => ?_)
    · exact Within.step (State.latchCause_within ..) (by decide) <| Within.refl _ _
    · exact Within.refl _ _

theorem State.missOne_within (s0 : State) : Within [.regs, .mem, .power, .time, .lens, .goose, .logic, .facets, .pair, .log, .health, .can] s0 (State.missOne s0) := by
  unfold State.missOne
  extract_lets z0 z1 z2
  refine Within.ite (fun _ => ?_) (fun _ => ?_)
  · refine Within.ite (fun _ => ?_) (fun _ => ?_)
    · refine Within.step (State.declareFailure_within ..) (by decide) ?_
      unfold z2
      refine Within.step (State.judgeDark_within ..) (by decide) <| State.setPair_within _ (fun _ => ⟨rfl, rfl⟩) (by decide) ?_
      unfold z0
      exact Within.step (State.mirrorCount_within ..) (by decide) <| Within.refl _ _
    · refine Within.ite (fun _ => ?_) (fun _ => ?_)
      · refine Within.step (State.pairEvent_within ..) (by decide) <| Within.step (State.setElig_within ..) (by decide) ?_
        unfold z2
        refine Within.step (State.judgeDark_within ..) (by decide) <| State.setPair_within _ (fun _ => ⟨rfl, rfl⟩) (by decide) ?_
        unfold z0
        exact Within.step (State.mirrorCount_within ..) (by decide) <| Within.refl _ _
      · unfold z2
        refine Within.step (State.judgeDark_within ..) (by decide) <| State.setPair_within _ (fun _ => ⟨rfl, rfl⟩) (by decide) ?_
        unfold z0
        exact Within.step (State.mirrorCount_within ..) (by decide) <| Within.refl _ _
  · unfold z2
    refine Within.step (State.judgeDark_within ..) (by decide) <| State.setPair_within _ (fun _ => ⟨rfl, rfl⟩) (by decide) ?_
    unfold z0
    exact Within.step (State.mirrorCount_within ..) (by decide) <| Within.refl _ _

theorem State.refreshReport_within (s : State) (b : Blink) : Within [.health] s (State.refreshReport s b) := by
  unfold State.refreshReport
  extract_lets z0
  refine Within.ite (fun _ => ?_) (fun _ => ?_)
  · exact Within.refl _ _
  · exact Within.upd <| Within.refl _ _

theorem State.takeBlink_within (s : State) (b : Blink) : Within [.regs, .mem, .power, .boot, .access, .time, .lens, .goose, .logic, .facets, .pair, .log, .health, .can] s (State.takeBlink s b) := by
  unfold State.takeBlink
  extract_lets z0 z1 z2 z3 z4 z5
  refine Within.ite (fun _ => ?_) (fun _ => ?_)
  · refine Within.ite (fun _ => ?_) (fun _ => ?_)
    · unfold z5
      refine Within.ite (fun _ => ?_) (fun _ => ?_)
      · refine Within.ite (fun _ => ?_) (fun _ => ?_)
        · refine Within.step (State.judge_within ..) (by decide) <| Within.step (State.timeCompare_within ..) (by decide) ?_
          unfold z4
          refine Within.ite (fun _ => ?_) (fun _ => ?_)
          · refine Within.upd ?_
            unfold z2
            refine Within.step (State.compareSets_within ..) (by decide) ?_
            unfold z1
            exact State.setPair_within _ (fun _ => ⟨rfl, rfl⟩) (by decide) <| Within.step (State.refreshReport_within ..) (by decide) <| Within.refl _ _
          · unfold z2
            refine Within.step (State.compareSets_within ..) (by decide) ?_
            unfold z1
            exact State.setPair_within _ (fun _ => ⟨rfl, rfl⟩) (by decide) <| Within.step (State.refreshReport_within ..) (by decide) <| Within.refl _ _
        · refine Within.step (State.setElig_within ..) (by decide) ?_
          unfold z4
          refine Within.ite (fun _ => ?_) (fun _ => ?_)
          · refine Within.upd ?_
            unfold z2
            refine Within.step (State.compareSets_within ..) (by decide) ?_
            unfold z1
            exact State.setPair_within _ (fun _ => ⟨rfl, rfl⟩) (by decide) <| Within.step (State.refreshReport_within ..) (by decide) <| Within.refl _ _
          · unfold z2
            refine Within.step (State.compareSets_within ..) (by decide) ?_
            unfold z1
            exact State.setPair_within _ (fun _ => ⟨rfl, rfl⟩) (by decide) <| Within.step (State.refreshReport_within ..) (by decide) <| Within.refl _ _
      · unfold z4
        refine Within.ite (fun _ => ?_) (fun _ => ?_)
        · refine Within.upd ?_
          unfold z2
          refine Within.step (State.compareSets_within ..) (by decide) ?_
          unfold z1
          exact State.setPair_within _ (fun _ => ⟨rfl, rfl⟩) (by decide) <| Within.step (State.refreshReport_within ..) (by decide) <| Within.refl _ _
        · unfold z2
          refine Within.step (State.compareSets_within ..) (by decide) ?_
          unfold z1
          exact State.setPair_within _ (fun _ => ⟨rfl, rfl⟩) (by decide) <| Within.step (State.refreshReport_within ..) (by decide) <| Within.refl _ _
    · refine Within.ite (fun _ => ?_) (fun _ => ?_)
      · refine Within.step (State.request_within ..) (by decide) ?_
        unfold z5
        refine Within.ite (fun _ => ?_) (fun _ => ?_)
        · refine Within.ite (fun _ => ?_) (fun _ => ?_)
          · refine Within.step (State.judge_within ..) (by decide) <| Within.step (State.timeCompare_within ..) (by decide) ?_
            unfold z4
            refine Within.ite (fun _ => ?_) (fun _ => ?_)
            · refine Within.upd ?_
              unfold z2
              refine Within.step (State.compareSets_within ..) (by decide) ?_
              unfold z1
              exact State.setPair_within _ (fun _ => ⟨rfl, rfl⟩) (by decide) <| Within.step (State.refreshReport_within ..) (by decide) <| Within.refl _ _
            · unfold z2
              refine Within.step (State.compareSets_within ..) (by decide) ?_
              unfold z1
              exact State.setPair_within _ (fun _ => ⟨rfl, rfl⟩) (by decide) <| Within.step (State.refreshReport_within ..) (by decide) <| Within.refl _ _
          · refine Within.step (State.setElig_within ..) (by decide) ?_
            unfold z4
            refine Within.ite (fun _ => ?_) (fun _ => ?_)
            · refine Within.upd ?_
              unfold z2
              refine Within.step (State.compareSets_within ..) (by decide) ?_
              unfold z1
              exact State.setPair_within _ (fun _ => ⟨rfl, rfl⟩) (by decide) <| Within.step (State.refreshReport_within ..) (by decide) <| Within.refl _ _
            · unfold z2
              refine Within.step (State.compareSets_within ..) (by decide) ?_
              unfold z1
              exact State.setPair_within _ (fun _ => ⟨rfl, rfl⟩) (by decide) <| Within.step (State.refreshReport_within ..) (by decide) <| Within.refl _ _
        · unfold z4
          refine Within.ite (fun _ => ?_) (fun _ => ?_)
          · refine Within.upd ?_
            unfold z2
            refine Within.step (State.compareSets_within ..) (by decide) ?_
            unfold z1
            exact State.setPair_within _ (fun _ => ⟨rfl, rfl⟩) (by decide) <| Within.step (State.refreshReport_within ..) (by decide) <| Within.refl _ _
          · unfold z2
            refine Within.step (State.compareSets_within ..) (by decide) ?_
            unfold z1
            exact State.setPair_within _ (fun _ => ⟨rfl, rfl⟩) (by decide) <| Within.step (State.refreshReport_within ..) (by decide) <| Within.refl _ _
      · refine Within.ite (fun _ => ?_) (fun _ => ?_)
        · refine Within.step (State.request_within ..) (by decide) ?_
          unfold z5
          refine Within.ite (fun _ => ?_) (fun _ => ?_)
          · refine Within.ite (fun _ => ?_) (fun _ => ?_)
            · refine Within.step (State.judge_within ..) (by decide) <| Within.step (State.timeCompare_within ..) (by decide) ?_
              unfold z4
              refine Within.ite (fun _ => ?_) (fun _ => ?_)
              · refine Within.upd ?_
                unfold z2
                refine Within.step (State.compareSets_within ..) (by decide) ?_
                unfold z1
                exact State.setPair_within _ (fun _ => ⟨rfl, rfl⟩) (by decide) <| Within.step (State.refreshReport_within ..) (by decide) <| Within.refl _ _
              · unfold z2
                refine Within.step (State.compareSets_within ..) (by decide) ?_
                unfold z1
                exact State.setPair_within _ (fun _ => ⟨rfl, rfl⟩) (by decide) <| Within.step (State.refreshReport_within ..) (by decide) <| Within.refl _ _
            · refine Within.step (State.setElig_within ..) (by decide) ?_
              unfold z4
              refine Within.ite (fun _ => ?_) (fun _ => ?_)
              · refine Within.upd ?_
                unfold z2
                refine Within.step (State.compareSets_within ..) (by decide) ?_
                unfold z1
                exact State.setPair_within _ (fun _ => ⟨rfl, rfl⟩) (by decide) <| Within.step (State.refreshReport_within ..) (by decide) <| Within.refl _ _
              · unfold z2
                refine Within.step (State.compareSets_within ..) (by decide) ?_
                unfold z1
                exact State.setPair_within _ (fun _ => ⟨rfl, rfl⟩) (by decide) <| Within.step (State.refreshReport_within ..) (by decide) <| Within.refl _ _
          · unfold z4
            refine Within.ite (fun _ => ?_) (fun _ => ?_)
            · refine Within.upd ?_
              unfold z2
              refine Within.step (State.compareSets_within ..) (by decide) ?_
              unfold z1
              exact State.setPair_within _ (fun _ => ⟨rfl, rfl⟩) (by decide) <| Within.step (State.refreshReport_within ..) (by decide) <| Within.refl _ _
            · unfold z2
              refine Within.step (State.compareSets_within ..) (by decide) ?_
              unfold z1
              exact State.setPair_within _ (fun _ => ⟨rfl, rfl⟩) (by decide) <| Within.step (State.refreshReport_within ..) (by decide) <| Within.refl _ _
        · unfold z5
          refine Within.ite (fun _ => ?_) (fun _ => ?_)
          · refine Within.ite (fun _ => ?_) (fun _ => ?_)
            · refine Within.step (State.judge_within ..) (by decide) <| Within.step (State.timeCompare_within ..) (by decide) ?_
              unfold z4
              refine Within.ite (fun _ => ?_) (fun _ => ?_)
              · refine Within.upd ?_
                unfold z2
                refine Within.step (State.compareSets_within ..) (by decide) ?_
                unfold z1
                exact State.setPair_within _ (fun _ => ⟨rfl, rfl⟩) (by decide) <| Within.step (State.refreshReport_within ..) (by decide) <| Within.refl _ _
              · unfold z2
                refine Within.step (State.compareSets_within ..) (by decide) ?_
                unfold z1
                exact State.setPair_within _ (fun _ => ⟨rfl, rfl⟩) (by decide) <| Within.step (State.refreshReport_within ..) (by decide) <| Within.refl _ _
            · refine Within.step (State.setElig_within ..) (by decide) ?_
              unfold z4
              refine Within.ite (fun _ => ?_) (fun _ => ?_)
              · refine Within.upd ?_
                unfold z2
                refine Within.step (State.compareSets_within ..) (by decide) ?_
                unfold z1
                exact State.setPair_within _ (fun _ => ⟨rfl, rfl⟩) (by decide) <| Within.step (State.refreshReport_within ..) (by decide) <| Within.refl _ _
              · unfold z2
                refine Within.step (State.compareSets_within ..) (by decide) ?_
                unfold z1
                exact State.setPair_within _ (fun _ => ⟨rfl, rfl⟩) (by decide) <| Within.step (State.refreshReport_within ..) (by decide) <| Within.refl _ _
          · unfold z4
            refine Within.ite (fun _ => ?_) (fun _ => ?_)
            · refine Within.upd ?_
              unfold z2
              refine Within.step (State.compareSets_within ..) (by decide) ?_
              unfold z1
              exact State.setPair_within _ (fun _ => ⟨rfl, rfl⟩) (by decide) <| Within.step (State.refreshReport_within ..) (by decide) <| Within.refl _ _
            · unfold z2
              refine Within.step (State.compareSets_within ..) (by decide) ?_
              unfold z1
              exact State.setPair_within _ (fun _ => ⟨rfl, rfl⟩) (by decide) <| Within.step (State.refreshReport_within ..) (by decide) <| Within.refl _ _
  · refine Within.ite (fun _ => ?_) (fun _ => ?_)
    · refine Within.step (State.request_within ..) (by decide) ?_
      unfold z5
      refine Within.ite (fun _ => ?_) (fun _ => ?_)
      · refine Within.ite (fun _ => ?_) (fun _ => ?_)
        · refine Within.step (State.judge_within ..) (by decide) <| Within.step (State.timeCompare_within ..) (by decide) ?_
          unfold z4
          refine Within.ite (fun _ => ?_) (fun _ => ?_)
          · refine Within.upd ?_
            unfold z2
            refine Within.step (State.compareSets_within ..) (by decide) ?_
            unfold z1
            exact State.setPair_within _ (fun _ => ⟨rfl, rfl⟩) (by decide) <| Within.step (State.refreshReport_within ..) (by decide) <| Within.refl _ _
          · unfold z2
            refine Within.step (State.compareSets_within ..) (by decide) ?_
            unfold z1
            exact State.setPair_within _ (fun _ => ⟨rfl, rfl⟩) (by decide) <| Within.step (State.refreshReport_within ..) (by decide) <| Within.refl _ _
        · refine Within.step (State.setElig_within ..) (by decide) ?_
          unfold z4
          refine Within.ite (fun _ => ?_) (fun _ => ?_)
          · refine Within.upd ?_
            unfold z2
            refine Within.step (State.compareSets_within ..) (by decide) ?_
            unfold z1
            exact State.setPair_within _ (fun _ => ⟨rfl, rfl⟩) (by decide) <| Within.step (State.refreshReport_within ..) (by decide) <| Within.refl _ _
          · unfold z2
            refine Within.step (State.compareSets_within ..) (by decide) ?_
            unfold z1
            exact State.setPair_within _ (fun _ => ⟨rfl, rfl⟩) (by decide) <| Within.step (State.refreshReport_within ..) (by decide) <| Within.refl _ _
      · unfold z4
        refine Within.ite (fun _ => ?_) (fun _ => ?_)
        · refine Within.upd ?_
          unfold z2
          refine Within.step (State.compareSets_within ..) (by decide) ?_
          unfold z1
          exact State.setPair_within _ (fun _ => ⟨rfl, rfl⟩) (by decide) <| Within.step (State.refreshReport_within ..) (by decide) <| Within.refl _ _
        · unfold z2
          refine Within.step (State.compareSets_within ..) (by decide) ?_
          unfold z1
          exact State.setPair_within _ (fun _ => ⟨rfl, rfl⟩) (by decide) <| Within.step (State.refreshReport_within ..) (by decide) <| Within.refl _ _
    · refine Within.ite (fun _ => ?_) (fun _ => ?_)
      · refine Within.step (State.dualClaim_within ..) (by decide) ?_
        unfold z5
        refine Within.ite (fun _ => ?_) (fun _ => ?_)
        · refine Within.ite (fun _ => ?_) (fun _ => ?_)
          · refine Within.step (State.judge_within ..) (by decide) <| Within.step (State.timeCompare_within ..) (by decide) ?_
            unfold z4
            refine Within.ite (fun _ => ?_) (fun _ => ?_)
            · refine Within.upd ?_
              unfold z2
              refine Within.step (State.compareSets_within ..) (by decide) ?_
              unfold z1
              exact State.setPair_within _ (fun _ => ⟨rfl, rfl⟩) (by decide) <| Within.step (State.refreshReport_within ..) (by decide) <| Within.refl _ _
            · unfold z2
              refine Within.step (State.compareSets_within ..) (by decide) ?_
              unfold z1
              exact State.setPair_within _ (fun _ => ⟨rfl, rfl⟩) (by decide) <| Within.step (State.refreshReport_within ..) (by decide) <| Within.refl _ _
          · refine Within.step (State.setElig_within ..) (by decide) ?_
            unfold z4
            refine Within.ite (fun _ => ?_) (fun _ => ?_)
            · refine Within.upd ?_
              unfold z2
              refine Within.step (State.compareSets_within ..) (by decide) ?_
              unfold z1
              exact State.setPair_within _ (fun _ => ⟨rfl, rfl⟩) (by decide) <| Within.step (State.refreshReport_within ..) (by decide) <| Within.refl _ _
            · unfold z2
              refine Within.step (State.compareSets_within ..) (by decide) ?_
              unfold z1
              exact State.setPair_within _ (fun _ => ⟨rfl, rfl⟩) (by decide) <| Within.step (State.refreshReport_within ..) (by decide) <| Within.refl _ _
        · unfold z4
          refine Within.ite (fun _ => ?_) (fun _ => ?_)
          · refine Within.upd ?_
            unfold z2
            refine Within.step (State.compareSets_within ..) (by decide) ?_
            unfold z1
            exact State.setPair_within _ (fun _ => ⟨rfl, rfl⟩) (by decide) <| Within.step (State.refreshReport_within ..) (by decide) <| Within.refl _ _
          · unfold z2
            refine Within.step (State.compareSets_within ..) (by decide) ?_
            unfold z1
            exact State.setPair_within _ (fun _ => ⟨rfl, rfl⟩) (by decide) <| Within.step (State.refreshReport_within ..) (by decide) <| Within.refl _ _
      · refine Within.ite (fun _ => ?_) (fun _ => ?_)
        · refine Within.step (State.armSwap_within ..) (by decide) ?_
          unfold z5
          refine Within.ite (fun _ => ?_) (fun _ => ?_)
          · refine Within.ite (fun _ => ?_) (fun _ => ?_)
            · refine Within.step (State.judge_within ..) (by decide) <| Within.step (State.timeCompare_within ..) (by decide) ?_
              unfold z4
              refine Within.ite (fun _ => ?_) (fun _ => ?_)
              · refine Within.upd ?_
                unfold z2
                refine Within.step (State.compareSets_within ..) (by decide) ?_
                unfold z1
                exact State.setPair_within _ (fun _ => ⟨rfl, rfl⟩) (by decide) <| Within.step (State.refreshReport_within ..) (by decide) <| Within.refl _ _
              · unfold z2
                refine Within.step (State.compareSets_within ..) (by decide) ?_
                unfold z1
                exact State.setPair_within _ (fun _ => ⟨rfl, rfl⟩) (by decide) <| Within.step (State.refreshReport_within ..) (by decide) <| Within.refl _ _
            · refine Within.step (State.setElig_within ..) (by decide) ?_
              unfold z4
              refine Within.ite (fun _ => ?_) (fun _ => ?_)
              · refine Within.upd ?_
                unfold z2
                refine Within.step (State.compareSets_within ..) (by decide) ?_
                unfold z1
                exact State.setPair_within _ (fun _ => ⟨rfl, rfl⟩) (by decide) <| Within.step (State.refreshReport_within ..) (by decide) <| Within.refl _ _
              · unfold z2
                refine Within.step (State.compareSets_within ..) (by decide) ?_
                unfold z1
                exact State.setPair_within _ (fun _ => ⟨rfl, rfl⟩) (by decide) <| Within.step (State.refreshReport_within ..) (by decide) <| Within.refl _ _
          · unfold z4
            refine Within.ite (fun _ => ?_) (fun _ => ?_)
            · refine Within.upd ?_
              unfold z2
              refine Within.step (State.compareSets_within ..) (by decide) ?_
              unfold z1
              exact State.setPair_within _ (fun _ => ⟨rfl, rfl⟩) (by decide) <| Within.step (State.refreshReport_within ..) (by decide) <| Within.refl _ _
            · unfold z2
              refine Within.step (State.compareSets_within ..) (by decide) ?_
              unfold z1
              exact State.setPair_within _ (fun _ => ⟨rfl, rfl⟩) (by decide) <| Within.step (State.refreshReport_within ..) (by decide) <| Within.refl _ _
        · unfold z5
          refine Within.ite (fun _ => ?_) (fun _ => ?_)
          · refine Within.ite (fun _ => ?_) (fun _ => ?_)
            · refine Within.step (State.judge_within ..) (by decide) <| Within.step (State.timeCompare_within ..) (by decide) ?_
              unfold z4
              refine Within.ite (fun _ => ?_) (fun _ => ?_)
              · refine Within.upd ?_
                unfold z2
                refine Within.step (State.compareSets_within ..) (by decide) ?_
                unfold z1
                exact State.setPair_within _ (fun _ => ⟨rfl, rfl⟩) (by decide) <| Within.step (State.refreshReport_within ..) (by decide) <| Within.refl _ _
              · unfold z2
                refine Within.step (State.compareSets_within ..) (by decide) ?_
                unfold z1
                exact State.setPair_within _ (fun _ => ⟨rfl, rfl⟩) (by decide) <| Within.step (State.refreshReport_within ..) (by decide) <| Within.refl _ _
            · refine Within.step (State.setElig_within ..) (by decide) ?_
              unfold z4
              refine Within.ite (fun _ => ?_) (fun _ => ?_)
              · refine Within.upd ?_
                unfold z2
                refine Within.step (State.compareSets_within ..) (by decide) ?_
                unfold z1
                exact State.setPair_within _ (fun _ => ⟨rfl, rfl⟩) (by decide) <| Within.step (State.refreshReport_within ..) (by decide) <| Within.refl _ _
              · unfold z2
                refine Within.step (State.compareSets_within ..) (by decide) ?_
                unfold z1
                exact State.setPair_within _ (fun _ => ⟨rfl, rfl⟩) (by decide) <| Within.step (State.refreshReport_within ..) (by decide) <| Within.refl _ _
          · unfold z4
            refine Within.ite (fun _ => ?_) (fun _ => ?_)
            · refine Within.upd ?_
              unfold z2
              refine Within.step (State.compareSets_within ..) (by decide) ?_
              unfold z1
              exact State.setPair_within _ (fun _ => ⟨rfl, rfl⟩) (by decide) <| Within.step (State.refreshReport_within ..) (by decide) <| Within.refl _ _
            · unfold z2
              refine Within.step (State.compareSets_within ..) (by decide) ?_
              unfold z1
              exact State.setPair_within _ (fun _ => ⟨rfl, rfl⟩) (by decide) <| Within.step (State.refreshReport_within ..) (by decide) <| Within.refl _ _

theorem State.seeBlink_within (s : State) (b : Blink) : Within [.power, .boot, .access, .time, .logic, .facets, .pair, .log, .health, .can] s (State.seeBlink s b) := by
  unfold State.seeBlink
  extract_lets z0
  refine Within.ite (fun _ => ?_) (fun _ => ?_)
  · refine Within.step (State.dualClaim_within ..) (by decide) ?_
    unfold z0
    exact Within.step (State.compareSets_within ..) (by decide) <| State.setPair_within _ (fun _ => ⟨rfl, rfl⟩) (by decide) <| Within.refl _ _
  · unfold z0
    exact Within.step (State.compareSets_within ..) (by decide) <| State.setPair_within _ (fun _ => ⟨rfl, rfl⟩) (by decide) <| Within.refl _ _

theorem State.blinkIn_within (s0 : State) (b : Blink) (lines : Lines) : Within [.regs, .mem, .power, .boot, .access, .time, .lens, .goose, .logic, .facets, .pair, .log, .health, .can, .sec] s0 (State.blinkIn s0 b lines) := by
  unfold State.blinkIn
  extract_lets z0 z1 z2
  refine Within.ite (fun _ => ?_) (fun _ => ?_)
  · refine Within.step (State.missOne_within ..) (by decide) <| Within.step (State.mirrorRefused_within ..) (by decide) ?_
    unfold z0
    exact Within.step (State.readLines_within ..) (by decide) <| Within.refl _ _
  · refine Within.ite (fun _ => ?_) (fun _ => ?_)
    · refine Within.step (State.mirrorCount_within ..) (by decide) ?_
      unfold z0
      exact Within.step (State.readLines_within ..) (by decide) <| Within.refl _ _
    · refine Within.ite (fun _ => ?_) (fun _ => ?_)
      · refine Within.step (State.missOne_within ..) (by decide) <| Within.step (State.seeBlink_within ..) (by decide) <| Within.step (State.mirrorCount_within ..) (by decide) ?_
        unfold z2
        refine Within.step (State.keyUsed_within ..) (by decide) <| Within.step (State.seqTaken_within ..) (by decide) ?_
        unfold z0
        exact Within.step (State.readLines_within ..) (by decide) <| Within.refl _ _
      · refine Within.step (State.takeBlink_within ..) (by decide) ?_
        unfold z2
        refine Within.step (State.keyUsed_within ..) (by decide) <| Within.step (State.seqTaken_within ..) (by decide) ?_
        unfold z0
        exact Within.step (State.readLines_within ..) (by decide) <| Within.refl _ _

theorem State.blinkMissed_within (s0 : State) (lines : Lines) : Within [.regs, .mem, .power, .time, .lens, .goose, .logic, .facets, .pair, .log, .health, .can] s0 (State.blinkMissed s0 lines) := by
  unfold State.blinkMissed
  extract_lets z0
  exact Within.step (State.missOne_within ..) (by decide) <| Within.step (State.readLines_within ..) (by decide) <| Within.step (State.advanceMono_within ..) (by decide) <| Within.refl _ _

theorem State.peerChange_within (s0 : State) (present : Bool) (lines : Lines) : Within [.regs, .mem, .power, .time, .lens, .goose, .logic, .facets, .pair, .log, .health, .can] s0 (State.peerChange s0 present lines) := by
  unfold State.peerChange
  extract_lets z0 z1 z2 z3
  refine Within.ite (fun _ => ?_) (fun _ => ?_)
  · refine State.setPair_within _ (fun _ => ⟨rfl, rfl⟩) (by decide) ?_
    unfold z2
    refine Within.upd ?_
    unfold z0
    exact Within.step (State.readLines_within ..) (by decide) <| Within.refl _ _
  · refine Within.ite (fun _ => ?_) (fun _ => ?_)
    · refine Within.step (State.request_within ..) (by decide) ?_
      unfold z3
      refine State.setPair_within _ (fun _ => ⟨rfl, rfl⟩) (by decide) ?_
      unfold z2
      refine Within.upd ?_
      unfold z0
      exact Within.step (State.readLines_within ..) (by decide) <| Within.refl _ _
    · unfold z3
      refine State.setPair_within _ (fun _ => ⟨rfl, rfl⟩) (by decide) ?_
      unfold z2
      refine Within.upd ?_
      unfold z0
      exact Within.step (State.readLines_within ..) (by decide) <| Within.refl _ _

theorem State.stationBlinkIn_within (s : State) (b : Blink) : Within [.power, .boot, .access, .time, .logic, .facets, .pair, .log, .can, .sec] s (State.stationBlinkIn s b) := by
  unfold State.stationBlinkIn
  refine Within.ite (fun _ => ?_) (fun _ => ?_)
  · exact Within.step (State.mirrorRefused_within ..) (by decide) <| Within.refl _ _
  · extract_lets z0 z1
    refine Within.ite (fun _ => ?_) (fun _ => ?_)
    · exact Within.step (State.mirrorCount_within ..) (by decide) <| Within.refl _ _
    · refine Within.ite (fun _ => ?_) (fun _ => ?_)
      · refine Within.step (State.dualClaim_within ..) (by decide) ?_
        unfold z1
        exact State.setPair_within _ (fun _ => ⟨rfl, rfl⟩) (by decide) <| Within.step (State.keyUsed_within ..) (by decide) <| Within.step (State.seqTaken_within ..) (by decide) <| Within.refl _ _
      · unfold z1
        exact State.setPair_within _ (fun _ => ⟨rfl, rfl⟩) (by decide) <| Within.step (State.keyUsed_within ..) (by decide) <| Within.step (State.seqTaken_within ..) (by decide) <| Within.refl _ _

theorem State.stationBlinkLost_within (s : State) : Within [.pair] s (State.stationBlinkLost s) := by
  unfold State.stationBlinkLost
  exact Within.step (State.judgeDark_within ..) (by decide) <| Within.step (State.mirrorCount_within ..) (by decide) <| State.setPair_within _ (fun _ => ⟨rfl, rfl⟩) (by decide) <| Within.refl _ _

theorem State.takeoverFails_within (s : State) : Within [.power, .boot, .access, .time, .logic, .facets, .pair, .log, .health, .can] s (State.takeoverFails s) := by
  unfold State.takeoverFails
  extract_lets z0 z1
  refine Within.ite (fun _ => ?_) (fun _ => ?_)
  · refine Within.step (State.settle_within ..) (by decide) <| Within.step (State.release_within ..) (by decide) ?_
    unfold z1
    refine Within.step (State.setCause_within ..) (by decide) <| Within.step (State.pairEvent_within ..) (by decide) ?_
    unfold z0
    exact State.setPair_within _ (fun _ => ⟨rfl, rfl⟩) (by decide) <| Within.refl _ _
  · refine Within.step (State.pairEvent_within ..) (by decide) <| State.setPair_within _ (fun _ => ⟨rfl, rfl⟩) (by decide) ?_
    unfold z1
    refine Within.step (State.setCause_within ..) (by decide) <| Within.step (State.pairEvent_within ..) (by decide) ?_
    unfold z0
    exact State.setPair_within _ (fun _ => ⟨rfl, rfl⟩) (by decide) <| Within.refl _ _

theorem State.leaveHold_within (s : State) : Within [.regs, .power, .goose, .facets, .pair, .log] s (State.leaveHold s) := by
  unfold State.leaveHold
  extract_lets z0
  refine Within.step (State.scanPubs_within ..) (by decide) <| Within.step (State.deliverFdo_within ..) (by decide) ?_
  unfold z0
  exact Within.step (State.pairEvent_within ..) (by decide) <| State.setPair_within _ (fun _ => ⟨rfl, rfl⟩) (by decide) <| Within.refl _ _

theorem State.lanesAre_within (s0 : State) (l0 : Bool) (l1 : Bool) : Within [.facets, .pair, .log] s0 (State.lanesAre s0 l0 l1) := by
  unfold State.lanesAre
  extract_lets z0 z1 z2 z3 z4 z5 z6
  refine Within.ite (fun _ => ?_) (fun _ => ?_)
  · refine Within.step (State.setElig_within ..) (by decide) ?_
    unfold z6
    refine Within.ite (fun _ => ?_) (fun _ => ?_)
    · refine Within.ite (fun _ => ?_) (fun _ => ?_)
      · refine Within.step (State.setElig_within ..) (by decide) ?_
        unfold z3
        refine State.setPair_within _ (fun _ => ⟨rfl, rfl⟩) (by decide) ?_
        unfold z1
        exact State.setPair_within _ (fun _ => ⟨rfl, rfl⟩) (by decide) <| Within.refl _ _
      · unfold z3
        refine State.setPair_within _ (fun _ => ⟨rfl, rfl⟩) (by decide) ?_
        unfold z1
        exact State.setPair_within _ (fun _ => ⟨rfl, rfl⟩) (by decide) <| Within.refl _ _
    · refine Within.ite (fun _ => ?_) (fun _ => ?_)
      · refine Within.step (State.setElig_within ..) (by decide) <| State.setPair_within _ (fun _ => ⟨rfl, rfl⟩) (by decide) ?_
        unfold z1
        exact State.setPair_within _ (fun _ => ⟨rfl, rfl⟩) (by decide) <| Within.refl _ _
      · refine Within.ite (fun _ => ?_) (fun _ => ?_)
        · refine Within.step (State.pairEvent_within ..) (by decide) <| Within.step (State.mirrorCount_within ..) (by decide) <| State.setPair_within _ (fun _ => ⟨rfl, rfl⟩) (by decide) ?_
          unfold z1
          exact State.setPair_within _ (fun _ => ⟨rfl, rfl⟩) (by decide) <| Within.refl _ _
        · unfold z1
          exact State.setPair_within _ (fun _ => ⟨rfl, rfl⟩) (by decide) <| Within.refl _ _
  · unfold z6
    refine Within.ite (fun _ => ?_) (fun _ => ?_)
    · refine Within.ite (fun _ => ?_) (fun _ => ?_)
      · refine Within.step (State.setElig_within ..) (by decide) ?_
        unfold z3
        refine State.setPair_within _ (fun _ => ⟨rfl, rfl⟩) (by decide) ?_
        unfold z1
        exact State.setPair_within _ (fun _ => ⟨rfl, rfl⟩) (by decide) <| Within.refl _ _
      · unfold z3
        refine State.setPair_within _ (fun _ => ⟨rfl, rfl⟩) (by decide) ?_
        unfold z1
        exact State.setPair_within _ (fun _ => ⟨rfl, rfl⟩) (by decide) <| Within.refl _ _
    · refine Within.ite (fun _ => ?_) (fun _ => ?_)
      · refine Within.step (State.setElig_within ..) (by decide) <| State.setPair_within _ (fun _ => ⟨rfl, rfl⟩) (by decide) ?_
        unfold z1
        exact State.setPair_within _ (fun _ => ⟨rfl, rfl⟩) (by decide) <| Within.refl _ _
      · refine Within.ite (fun _ => ?_) (fun _ => ?_)
        · refine Within.step (State.pairEvent_within ..) (by decide) <| Within.step (State.mirrorCount_within ..) (by decide) <| State.setPair_within _ (fun _ => ⟨rfl, rfl⟩) (by decide) ?_
          unfold z1
          exact State.setPair_within _ (fun _ => ⟨rfl, rfl⟩) (by decide) <| Within.refl _ _
        · unfold z1
          exact State.setPair_within _ (fun _ => ⟨rfl, rfl⟩) (by decide) <| Within.refl _ _

theorem State.resync_within (s : State) : Within [.facets, .pair, .log] s (State.resync s).2 := by
  unfold State.resync
  refine Within.iteR (fun _ => ?_) (fun _ => ?_)
  · dsimp only
    exact Within.refl _ _
  · dsimp only
    exact Within.step (State.setElig_within ..) (by decide) <| State.setPair_within _ (fun _ => ⟨rfl, rfl⟩) (by decide) <| Within.refl _ _

theorem State.pairClear_within (s : State) : Within [.pair] s (State.pairClear s) := by
  unfold State.pairClear
  exact State.setPair_within _ (fun _ => ⟨rfl, rfl⟩) (by decide) <| Within.refl _ _

theorem State.swapAcked_within (s : State) (unit : Nat) : Within [.power, .boot, .access, .time, .logic, .facets, .pair, .log, .can] s (State.swapAcked s unit) := by
  unfold State.swapAcked
  refine Within.ite (fun _ => ?_) (fun _ => ?_)
  · extract_lets z0
    refine Within.step (State.settle_within ..) (by decide) <| Within.step (State.release_within ..) (by decide) ?_
    unfold z0
    exact State.setPair_within _ (fun _ => ⟨rfl, rfl⟩) (by decide) <| Within.refl _ _
  · exact Within.refl _ _

theorem State.swapAbandoned_within (s : State) : Within [.reply, .boot, .pair] s (State.swapAbandoned s) := by
  unfold State.swapAbandoned
  refine Within.ite (fun _ => ?_) (fun _ => ?_)
  · exact Within.step (State.answer_within ..) (by decide) <| Within.upd <| Within.refl _ _
  · exact Within.refl _ _

end Sys2Proof.Machine
end

