-- ==== Sys2Proof/Laws/FramePower.lean ====
section
/-! SUPPORT. Frames of supplies, start-up and update: what each operation can change. -/

namespace Sys2Proof.Machine

set_option Elab.async false

theorem State.setDom_within (s : State) (d : Nat) (x : DomState) : Within [.power] s (State.setDom s d x) := by
  unfold State.setDom
  exact State.setPower_within _ (fun _ h => h) (by decide) <| Within.refl _ _

theorem State.setDoms_within (s : State) (l : List Nat) (x : DomState) : Within [.power] s (State.setDoms s l x) := by
  unfold State.setDoms
  refine Within.list _ (fun _ _ => ?_) _ _ ?_
  · exact Within.step (State.setDom_within ..) (by decide) <| Within.refl _ _
  · exact Within.refl _ _

theorem State.powerEvent_within (s : State) (event : Nat) (dom : Nat) (new : Nat) : Within [.facets, .log] s (State.powerEvent s event dom new) := by
  unfold State.powerEvent
  exact Within.step (State.logRec_within ..) (by decide) <| Within.refl _ _

theorem State.showFailed_within (s : State) : Within [.facets, .pair, .log, .health] s (State.showFailed s) := by
  unfold State.showFailed
  exact Within.step (State.setCause_within ..) (by decide) <| Within.refl _ _

theorem State.domainTo_within (s : State) (d : Nat) (x : DomState) : Within [.power, .facets, .pair, .log, .health] s (State.domainTo s d x) := by
  unfold State.domainTo
  exact Within.step (State.showFailed_within ..) (by decide) <| Within.step (State.powerEvent_within ..) (by decide) <| Within.step (State.setDom_within ..) (by decide) <| Within.refl _ _

theorem State.clusterTo_within (s : State) (d : Nat) (x : DomState) : Within [.power, .boot, .facets, .pair, .log, .health] s (State.clusterTo s d x) := by
  unfold State.clusterTo
  exact State.setBoot_within _ (by decide) <| Within.step (State.domainTo_within ..) (by decide) <| Within.refl _ _

theorem State.clusterSwitch_within (s : State) (d : Nat) (v : Nat) : Within [.power, .boot, .facets, .pair, .log, .health] s (State.clusterSwitch s d v) := by
  unfold State.clusterSwitch
  split
  · exact Within.step (State.clusterTo_within ..) (by decide) <| Within.refl _ _
  · exact Within.refl _ _
  · exact Within.step (State.clusterTo_within ..) (by decide) <| Within.refl _ _
  · exact Within.step (State.clusterTo_within ..) (by decide) <| Within.refl _ _
  · exact Within.refl _ _

theorem State.domainTested_within (s : State) (d : Nat) (pass : Bool) : Within [.power, .facets, .pair, .log, .health] s (State.domainTested s d pass) := by
  unfold State.domainTested
  refine Within.ite (fun _ => ?_) (fun _ => ?_)
  · exact Within.step (State.domainTo_within ..) (by decide) <| Within.refl _ _
  · exact Within.refl _ _

theorem State.showSupply_within (s : State) : Within [.facets, .pair, .log, .health] s (State.showSupply s) := by
  unfold State.showSupply
  extract_lets z0
  exact Within.step (State.setCause_within ..) (by decide) <| Within.refl _ _

theorem State.crossed_within (s : State) (row : Nat) (b : Bool) : Within [.power] s (State.crossed s row b) := by
  unfold State.crossed
  exact State.setPower_within _ (fun _ h => by (repeat' split at h) <;> exact h) (by decide) <| Within.refl _ _

theorem State.lastGasp_within (s : State) (kind : Nat) (cause : Nat) : Within [.log] s (State.lastGasp s kind cause) := by
  unfold State.lastGasp
  extract_lets z0 z1 z2 z3
  refine Within.ite (fun _ => ?_) (fun _ => ?_)
  · exact Within.upd <| Within.refl _ _
  · exact Within.upd <| Within.refl _ _

theorem State.cleared_within (s : State) (ddr : Bool) : Within [.reply, .freeCount, .regs, .blobs, .tickRegs, .mem, .power, .boot, .access, .time, .fabric, .lens, .phasor, .goose, .logic, .facets, .capture, .pair, .log, .health, .can, .sec] s (State.cleared s ddr) := by
  refine ⟨rfl, fun _ => rfl, fun _ => ⟨fun h => (by cases h), ⟨fun h => (by cases h), fun h => (by cases h)⟩⟩, fun p hp => ?_⟩
  cases p <;> exact absurd (by decide) hp

theorem State.startAfter_within (s : State) (c : Nat) : Within [.freeCount, .boot, .facets, .log] s (State.startAfter s c) := by
  unfold State.startAfter
  extract_lets z0
  refine Within.step (State.nextFree_within ..) (by decide) <| Within.step (State.logRec_within ..) (by decide) ?_
  unfold z0
  exact State.setBoot_within _ (by decide) <| Within.refl _ _

theorem State.resetNow_within (s : State) (c : Nat) (hold : Bool) : Within [.reply, .freeCount, .regs, .blobs, .tickRegs, .mem, .power, .boot, .access, .time, .fabric, .lens, .phasor, .goose, .logic, .facets, .capture, .pair, .log, .health, .can, .sec] s (State.resetNow s c hold) := by
  unfold State.resetNow
  extract_lets z0 z1
  refine Within.step (State.canPowerUp_within ..) (by decide) <| Within.step (State.startAfter_within ..) (by decide) ?_
  unfold z1
  refine State.setBoot_within _ (by decide) <| Within.step (State.cleared_within ..) (by decide) ?_
  unfold z0
  exact Within.step (State.openSwitches_within ..) (by decide) <| Within.step (State.release_within ..) (by decide) <| Within.refl _ _

theorem State.freeLevels_within (s : State) : Within [.freeCount, .power] s (State.freeLevels s) := by
  unfold State.freeLevels
  extract_lets z0
  exact Within.upd <| Within.refl _ _

theorem State.ioQualified_within (s : State) : Within [.freeCount, .regs, .power, .facets, .pair, .log, .health, .can] s (State.ioQualified s) := by
  unfold State.ioQualified
  extract_lets z0 z1
  split
  · refine Within.step (State.canPowerUp_within ..) (by decide) <| Within.step (State.showSupply_within ..) (by decide) <| Within.step (State.nextFree_within ..) (by decide) <| Within.step (State.setDoms_within ..) (by decide) ?_
    unfold z1
    exact State.setPower_within _ (fun _ h => h) (by decide) <| Within.refl _ _
  · exact Within.step (State.showSupply_within ..) (by decide) <| Within.step (State.nextFree_within ..) (by decide) <| State.setPower_within _ (fun _ h => h) (by decide) <| Within.refl _ _

theorem State.losePd0_within (s : State) : Within [.time, .log, .sec] s (State.losePd0 s) := by
  unfold State.losePd0
  refine Within.ite (fun _ => ?_) (fun _ => ?_)
  · exact Within.upd <| Within.refl _ _
  · exact Within.refl _ _

theorem State.riseNext_within (s : State) : Within [.power] s (State.riseNext s) := by
  unfold State.riseNext
  extract_lets z0
  refine Within.ite (fun _ => ?_) (fun _ => ?_)
  · exact State.setPower_within _ (fun _ h => h) (by decide) <| Within.step (State.setDoms_within ..) (by decide) <| Within.step (State.setDoms_within ..) (by decide) <| Within.refl _ _
  · exact Within.refl _ _

theorem State.riseRest_within (n : Nat) (s : State) : Within [.power] s (State.riseRest n s) := by
  induction n generalizing s with
  | zero => exact Within.refl _ _
  | succ n ih => exact Within.step (ih _) (fun _ => id) <| Within.step (State.riseNext_within ..) (by decide) <| Within.refl _ _

theorem State.hotSwap_within (s : State) : Within [.freeCount, .power, .time, .log, .sec] s (State.hotSwap s) := by
  unfold State.hotSwap
  extract_lets z0 z1 z2 z3 z4
  refine State.setPower_within _ (fun _ h => h) (by decide) <| Within.step (State.freeLevels_within ..) (by decide) ?_
  unfold z4
  refine Within.upd ?_
  unfold z0
  exact Within.step (State.losePd0_within ..) (by decide) <| Within.refl _ _

theorem State.powerGood_within (s : State) : Within [.freeCount, .power, .boot, .time, .facets, .log] s (State.powerGood s) := by
  unfold State.powerGood
  extract_lets z0
  refine Within.step (State.startAfter_within ..) (by decide) <| Within.upd ?_
  unfold z0
  exact State.setPower_within _ (fun _ h => h) (by decide) <| Within.step (State.riseRest_within ..) (by decide) <| Within.refl _ _

theorem State.resetEvents_within (s : State) : Within [.power, .boot, .time, .logic, .facets, .capture, .pair, .sec] s (State.resetEvents s) := by
  refine ⟨rfl, id, fun _ => ⟨fun h => (by cases h), ⟨fun h => (by cases h), fun h => (by cases h)⟩⟩, fun p hp => ?_⟩
  cases p <;> first | exact absurd (by decide) hp | rfl

theorem State.qualified_within (s : State) (cause : Nat) : Within [.power, .boot, .access, .time, .logic, .facets, .capture, .pair, .log, .can, .sec] s (State.qualified s cause) := by
  unfold State.qualified
  extract_lets z0 z1
  refine State.setPower_within _ (fun _ h => h) (by decide) <| Within.step (State.resetEvents_within ..) (by decide) ?_
  unfold z1
  refine Within.ite (fun _ => ?_) (fun _ => ?_)
  · refine Within.step (State.release_within ..) (by decide) ?_
    unfold z0
    refine Within.ite (fun _ => ?_) (fun _ => ?_)
    · exact Within.refl _ _
    · exact Within.step (State.powerEvent_within ..) (by decide) <| Within.refl _ _
  · unfold z0
    refine Within.ite (fun _ => ?_) (fun _ => ?_)
    · exact Within.refl _ _
    · exact Within.step (State.powerEvent_within ..) (by decide) <| Within.refl _ _

theorem State.domainsOff_within (s : State) : Within [.power, .lens, .phasor, .goose, .facets] s (State.domainsOff s) := by
  unfold State.domainsOff
  extract_lets z0 z1
  refine Within.upd ?_
  unfold z0
  exact Within.step (State.setDoms_within ..) (by decide) <| Within.refl _ _

theorem State.flushOff_within (s : State) : Within [.mem, .power, .time, .fabric, .logic, .capture, .log] s (State.flushOff s) := by
  unfold State.flushOff
  refine Within.updMem ?_ (fun _ => rfl)
  exact Within.step (State.setDoms_within ..) (by decide) <| Within.refl _ _

theorem State.pd0Falls_within (s : State) : Within [.sec] s (State.pd0Falls s) := by
  unfold State.pd0Falls
  exact Within.upd <| Within.refl _ _

theorem State.pd1Off_within (s : State) : Within [.power, .access, .can, .sec] s (State.pd1Off s) := by
  unfold State.pd1Off
  extract_lets z0 z1 z2 z3
  refine Within.ite (fun _ => ?_) (fun _ => ?_)
  · refine Within.step (State.pd0Falls_within ..) (by decide) ?_
    unfold z3
    refine State.setPower_within _ (fun _ h => h) (by decide) ?_
    unfold z2
    exact Within.step (State.setDom_within ..) (by decide) <| Within.upd <| Within.refl _ _
  · unfold z3
    refine State.setPower_within _ (fun _ h => h) (by decide) ?_
    unfold z2
    exact Within.step (State.setDom_within ..) (by decide) <| Within.upd <| Within.refl _ _

theorem State.pd2Off_within (s : State) : Within [.reply, .freeCount, .regs, .blobs, .tickRegs, .mem, .power, .boot, .access, .time, .fabric, .lens, .phasor, .goose, .logic, .facets, .capture, .pair, .log, .health, .can, .sec] s (State.pd2Off s) := by
  unfold State.pd2Off
  extract_lets z0 z1 z2 z3 z4
  refine Within.ite (fun _ => ?_) (fun _ => ?_)
  · refine Within.step (State.pd1Off_within ..) (by decide) ?_
    unfold z4
    refine State.setBoot_within _ (by decide) ?_
    unfold z3
    refine State.setPower_within _ (fun _ h => h) (by decide) ?_
    unfold z2
    exact Within.step (State.cleared_within ..) (by decide) <| Within.step (State.setDom_within ..) (by decide) <| Within.refl _ _
  · refine Within.step (State.canPowerUp_within ..) (by decide) ?_
    unfold z4
    refine State.setBoot_within _ (by decide) ?_
    unfold z3
    refine State.setPower_within _ (fun _ h => h) (by decide) ?_
    unfold z2
    exact Within.step (State.cleared_within ..) (by decide) <| Within.step (State.setDom_within ..) (by decide) <| Within.refl _ _

theorem State.thermalWarning_within (s : State) (j : Int) : Within [.power, .facets, .pair, .log, .health] s (State.thermalWarning s j) := by
  unfold State.thermalWarning
  extract_lets z0 z1 z2
  refine Within.step (State.setCause_within ..) (by decide) ?_
  unfold z2
  refine Within.ite (fun _ => ?_) (fun _ => ?_)
  · refine Within.step (State.powerEvent_within ..) (by decide) ?_
    unfold z1
    exact State.setPower_within _ (fun _ h => h) (by decide) <| Within.refl _ _
  · unfold z1
    exact State.setPower_within _ (fun _ h => h) (by decide) <| Within.refl _ _

theorem State.thermalShutdown_within (s : State) (j : Int) : Within [.power, .facets, .log] s (State.thermalShutdown s j) := by
  unfold State.thermalShutdown
  extract_lets z0
  refine Within.step (State.crossed_within ..) (by decide) <| Within.step (State.powerEvent_within ..) (by decide) ?_
  unfold z0
  exact State.setPower_within _ (fun _ h => h) (by decide) <| Within.refl _ _

theorem State.thermalRestart_within (s : State) : Within [.power] s (State.thermalRestart s) := by
  unfold State.thermalRestart
  refine Within.ite (fun _ => ?_) (fun _ => ?_)
  · exact State.setPower_within _ (fun _ h => h) (by decide) <| Within.refl _ _
  · exact Within.refl _ _

theorem opVinIoQualified_within (s : State) : Within [.freeCount, .regs, .power, .facets, .pair, .log, .health, .can] s (opVinIoQualified s) := by
  unfold opVinIoQualified
  exact Within.step (State.ioQualified_within ..) (by decide) <| Within.refl _ _

theorem opHotSwapTurnOn_within (s : State) : Within [.freeCount, .power, .time, .log, .sec] s (opHotSwapTurnOn s) := by
  unfold opHotSwapTurnOn
  refine Within.when _ _ (fun _ => ?_) ?_
  · exact Within.step (State.hotSwap_within ..) (by decide) <| Within.refl _ _
  · exact Within.refl _ _

theorem opPowerGood_within (s : State) : Within [.freeCount, .power, .boot, .time, .facets, .log] s (opPowerGood s) := by
  unfold opPowerGood
  refine Within.when _ _ (fun _ => ?_) ?_
  · exact Within.step (State.powerGood_within ..) (by decide) <| Within.refl _ _
  · exact Within.refl _ _

theorem opOrderingViolation_within (s : State) : Within [.power] s (opOrderingViolation s) := by
  unfold opOrderingViolation
  refine Within.when _ _ (fun _ => ?_) ?_
  · exact State.setPower_within _ (fun _ h => h) (by decide) <| Within.refl _ _
  · exact Within.refl _ _

theorem opSlotStrapConflict_within (level : Bool) (s : State) : Within [.power] s (opSlotStrapConflict level s) := by
  unfold opSlotStrapConflict
  refine Within.when _ _ (fun _ => ?_) ?_
  · exact State.setPower_within _ (fun _ h => h) (by decide) <| Within.refl _ _
  · exact Within.refl _ _

theorem State.mainReads_within (s : State) (mv : Nat) : Within [.power, .facets, .pair, .log, .health] s (State.mainReads s mv) := by
  unfold State.mainReads
  extract_lets z0 z1
  refine Within.ite (fun _ => ?_) (fun _ => ?_)
  · refine Within.step (State.crossed_within ..) (by decide) <| Within.step (State.crossed_within ..) (by decide) ?_
    unfold z1
    refine Within.step (State.showSupply_within ..) (by decide) <| State.setPower_within _ (fun _ h => h) (by decide) ?_
    unfold z0
    exact State.setPower_within _ (fun _ h => h) (by decide) <| Within.refl _ _
  · unfold z0
    exact State.setPower_within _ (fun _ h => h) (by decide) <| Within.refl _ _

theorem opVinMainUndervoltage_within (mv : Nat) (s : State) : Within [.power, .facets, .pair, .log, .health] s (opVinMainUndervoltage mv s) := by
  unfold opVinMainUndervoltage
  refine Within.when _ _ (fun _ => ?_) ?_
  · exact Within.step (State.mainReads_within ..) (by decide) <| Within.refl _ _
  · exact Within.refl _ _

theorem opVinMainOvervoltageWarning_within (mv : Nat) (s : State) : Within [.power, .facets, .pair, .log, .health] s (opVinMainOvervoltageWarning mv s) := by
  unfold opVinMainOvervoltageWarning
  refine Within.when _ _ (fun _ => ?_) ?_
  · exact Within.step (State.mainReads_within ..) (by decide) <| Within.refl _ _
  · exact Within.refl _ _

theorem opVinMainOvervoltage_within (mv : Nat) (s : State) : Within [.power, .facets, .pair, .log, .health] s (opVinMainOvervoltage mv s) := by
  unfold opVinMainOvervoltage
  refine Within.when _ _ (fun _ => ?_) ?_
  · exact Within.step (State.mainReads_within ..) (by decide) <| Within.refl _ _
  · exact Within.refl _ _

theorem State.anaReads_within (s : State) (mv : Nat) : Within [.power] s (State.anaReads s mv) := by
  unfold State.anaReads
  extract_lets z0
  refine Within.ite (fun _ => ?_) (fun _ => ?_)
  · refine Within.step (State.crossed_within ..) (by decide) ?_
    unfold z0
    exact State.setPower_within _ (fun _ h => h) (by decide) <| Within.refl _ _
  · refine Within.ite (fun _ => ?_) (fun _ => ?_)
    · refine State.setPower_within _ (fun _ h => h) (by decide) ?_
      unfold z0
      exact State.setPower_within _ (fun _ h => h) (by decide) <| Within.refl _ _
    · unfold z0
      exact State.setPower_within _ (fun _ h => h) (by decide) <| Within.refl _ _

theorem opVinAnaUndervoltage_within (mv : Nat) (s : State) : Within [.power] s (opVinAnaUndervoltage mv s) := by
  unfold opVinAnaUndervoltage
  refine Within.when _ _ (fun _ => ?_) ?_
  · exact Within.step (State.anaReads_within ..) (by decide) <| Within.refl _ _
  · exact Within.refl _ _

theorem State.ioReads_within (s : State) (mv : Nat) : Within [.power, .access, .facets, .pair, .log, .health, .can, .sec] s (State.ioReads s mv) := by
  unfold State.ioReads
  refine Within.ite (fun _ => ?_) (fun _ => ?_)
  · extract_lets z0
    refine Within.ite (fun _ => ?_) (fun _ => ?_)
    · refine Within.step (State.pd1Off_within ..) (by decide) ?_
      unfold z0
      exact State.setPower_within _ (fun _ h => h) (by decide) <| Within.refl _ _
    · unfold z0
      exact State.setPower_within _ (fun _ h => h) (by decide) <| Within.refl _ _
  · exact Within.step (State.showSupply_within ..) (by decide) <| State.setPower_within _ (fun _ h => h) (by decide) <| Within.refl _ _

theorem opVinIoLost_within (mv : Nat) (s : State) : Within [.power, .access, .facets, .pair, .log, .health, .can, .sec] s (opVinIoLost mv s) := by
  unfold opVinIoLost
  refine Within.when _ _ (fun _ => ?_) ?_
  · exact Within.step (State.ioReads_within ..) (by decide) <| Within.refl _ _
  · exact Within.refl _ _

theorem State.batReads_within (s : State) (mv : Nat) : Within [.power, .facets, .pair, .log, .health] s (State.batReads s mv) := by
  unfold State.batReads
  exact Within.step (State.showSupply_within ..) (by decide) <| State.setPower_within _ (fun _ h => h) (by decide) <| Within.refl _ _

theorem opVbatLow_within (mv : Nat) (s : State) : Within [.power, .facets, .pair, .log, .health] s (opVbatLow mv s) := by
  unfold opVbatLow
  refine Within.when _ _ (fun _ => ?_) ?_
  · exact Within.step (State.batReads_within ..) (by decide) <| Within.refl _ _
  · exact Within.refl _ _

theorem opVbatAbsent_within (mv : Nat) (s : State) : Within [.power, .facets, .pair, .log, .health] s (opVbatAbsent mv s) := by
  unfold opVbatAbsent
  refine Within.when _ _ (fun _ => ?_) ?_
  · exact Within.step (State.batReads_within ..) (by decide) <| Within.refl _ _
  · exact Within.refl _ _

theorem opPwrEnFall_within (s : State) : Within [.power] s (opPwrEnFall s) := by
  unfold opPwrEnFall
  extract_lets z0
  refine Within.ite (fun _ => ?_) (fun _ => ?_)
  · refine Within.step (State.crossed_within ..) (by decide) ?_
    unfold z0
    exact State.setPower_within _ (fun _ h => h) (by decide) <| Within.refl _ _
  · unfold z0
    exact State.setPower_within _ (fun _ h => h) (by decide) <| Within.refl _ _

theorem opPwrEnRise_within (junction : Int) (s : State) : Within [.power] s (opPwrEnRise junction s) := by
  unfold opPwrEnRise
  exact State.setPower_within _ (fun _ h => by split at h; exact h; split at h <;> exact h) (by decide) <| Within.step (State.crossed_within ..) (by decide) <| Within.refl _ _

theorem opPd0RetentionLoss_within (s : State) : Within [.power, .sec] s (opPd0RetentionLoss s) := by
  unfold opPd0RetentionLoss
  extract_lets z0
  refine Within.when _ _ (fun _ => ?_) ?_
  · refine State.setPower_within _ (fun _ h => h) (by decide) ?_
    refine Within.ite (fun _ => ?_) (fun _ => ?_)
    · exact Within.refl _ _
    · exact Within.step (State.pd0Falls_within ..) (by decide) <| Within.refl _ _
  · exact Within.refl _ _

theorem opSupplyEventQualified_within (s : State) : Within [.power, .boot, .access, .time, .logic, .facets, .capture, .pair, .log, .can, .sec] s (opSupplyEventQualified s) := by
  unfold opSupplyEventQualified
  split
  · refine Within.when _ _ (fun _ => ?_) ?_
    · exact Within.step (State.qualified_within ..) (by decide) <| Within.refl _ _
    · exact Within.refl _ _
  · exact Within.refl _ _

theorem opPfailFdoSwitchesOpen_within (s : State) : Within [.power, .pair] s (opPfailFdoSwitchesOpen s) := by
  unfold opPfailFdoSwitchesOpen
  refine Within.when _ _ (fun _ => ?_) ?_
  · exact Within.step (State.openSwitches_within ..) (by decide) <| Within.refl _ _
  · exact Within.refl _ _

theorem opPfailFrameStop_within (s : State) : Within [.power] s (opPfailFrameStop s) := by
  unfold opPfailFrameStop
  refine Within.when _ _ (fun _ => ?_) ?_
  · exact State.setPower_within _ (fun _ h => h) (by decide) <| Within.refl _ _
  · exact Within.refl _ _

theorem opLastGaspRecord_within (s : State) : Within [.power, .log] s (opLastGaspRecord s) := by
  unfold opLastGaspRecord
  refine Within.when _ _ (fun _ => ?_) ?_
  · exact State.setPower_within _ (fun _ h => h) (by decide) <| Within.step (State.lastGasp_within ..) (by decide) <| Within.refl _ _
  · exact Within.refl _ _

theorem opPfailDomainsOff_within (s : State) : Within [.power, .lens, .phasor, .goose, .facets] s (opPfailDomainsOff s) := by
  unfold opPfailDomainsOff
  refine Within.when _ _ (fun _ => ?_) ?_
  · exact Within.step (State.domainsOff_within ..) (by decide) <| Within.refl _ _
  · exact Within.refl _ _

theorem opPfailFlush_within (s : State) : Within [.mem, .power, .time, .fabric, .logic, .capture, .log] s (opPfailFlush s) := by
  unfold opPfailFlush
  refine Within.when _ _ (fun _ => ?_) ?_
  · exact Within.step (State.flushOff_within ..) (by decide) <| Within.refl _ _
  · exact Within.refl _ _

theorem opPfailPd2Off_within (s : State) : Within [.reply, .freeCount, .regs, .blobs, .tickRegs, .mem, .power, .boot, .access, .time, .fabric, .lens, .phasor, .goose, .logic, .facets, .capture, .pair, .log, .health, .can, .sec] s (opPfailPd2Off s) := by
  unfold opPfailPd2Off
  refine Within.when _ _ (fun _ => ?_) ?_
  · exact Within.step (State.pd2Off_within ..) (by decide) <| Within.refl _ _
  · exact Within.refl _ _

theorem opThermalWarning_within (junction : Int) (s : State) : Within [.power, .facets, .pair, .log, .health] s (opThermalWarning junction s) := by
  unfold opThermalWarning
  refine Within.when _ _ (fun _ => ?_) ?_
  · exact Within.step (State.thermalWarning_within ..) (by decide) <| Within.refl _ _
  · exact Within.refl _ _

theorem opThermalShutdown_within (junction : Int) (s : State) : Within [.power, .facets, .log] s (opThermalShutdown junction s) := by
  unfold opThermalShutdown
  refine Within.when _ _ (fun _ => ?_) ?_
  · exact Within.step (State.thermalShutdown_within ..) (by decide) <| Within.refl _ _
  · exact Within.refl _ _

theorem opDomainRampingDone_within (d : Nat) (s : State) : Within [.power, .facets, .pair, .log, .health] s (opDomainRampingDone d s) := by
  unfold opDomainRampingDone
  refine Within.when _ _ (fun _ => ?_) ?_
  · exact Within.step (State.domainTo_within ..) (by decide) <| Within.refl _ _
  · exact Within.refl _ _

theorem opDomainTestingDone_within (d : Nat) (pass : Bool) (s : State) : Within [.power, .facets, .pair, .log, .health] s (opDomainTestingDone d pass s) := by
  unfold opDomainTestingDone
  refine Within.when _ _ (fun _ => ?_) ?_
  · exact Within.step (State.domainTested_within ..) (by decide) <| Within.refl _ _
  · exact Within.refl _ _

theorem opInletOutsideRating_within (inlet : Int) (s : State) : Within [.power] s (opInletOutsideRating inlet s) := by
  unfold opInletOutsideRating
  refine Within.when _ _ (fun _ => ?_) ?_
  · extract_lets z0 z1
    exact State.setPower_within _ (fun _ h => h) (by decide) <| Within.refl _ _
  · exact Within.refl _ _

theorem opOcxoWarmUp_within (s : State) : Within [.power] s (opOcxoWarmUp s) := by
  unfold opOcxoWarmUp
  refine Within.when _ _ (fun _ => ?_) ?_
  · exact State.setPower_within _ (fun _ h => h) (by decide) <| Within.refl _ _
  · exact Within.refl _ _

theorem opFdoPulseTest_within (driver : Nat) (pass : Bool) (s : State) : Within [.power, .facets, .pair, .log, .health] s (opFdoPulseTest driver pass s) := by
  unfold opFdoPulseTest
  refine Within.when _ _ (fun _ => ?_) ?_
  · extract_lets z0
    refine Within.step (State.unitTest_within ..) (by decide) ?_
    unfold z0
    exact State.setPower_within _ (fun _ h => h) (by decide) <| Within.refl _ _
  · exact Within.refl _ _

theorem opOselFbStuck_within (s : State) : Within [.facets, .pair, .log, .health] s (opOselFbStuck s) := by
  unfold opOselFbStuck
  refine Within.when _ _ (fun _ => ?_) ?_
  · exact Within.step (State.testRan_within ..) (by decide) <| Within.step (State.setCause_within ..) (by decide) <| Within.refl _ _
  · exact Within.refl _ _

theorem opOselFbChange_within (high : Bool) (s : State) : Within [.power, .facets, .pair, .log, .health] s (opOselFbChange high s) := by
  unfold opOselFbChange
  refine Within.when _ _ (fun _ => ?_) ?_
  · extract_lets z0 z1
    refine Within.ite (fun _ => ?_) (fun _ => ?_)
    · refine Within.step (State.setCause_within ..) (by decide) ?_
      unfold z0
      exact State.setPower_within _ (fun _ h => h) (by decide) <| Within.refl _ _
    · refine Within.ite (fun _ => ?_) (fun _ => ?_)
      · refine State.setPair_within _ (fun _ => ⟨rfl, rfl⟩) (by decide) ?_
        unfold z0
        exact State.setPower_within _ (fun _ h => h) (by decide) <| Within.refl _ _
      · unfold z0
        exact State.setPower_within _ (fun _ h => h) (by decide) <| Within.refl _ _
  · exact Within.refl _ _

theorem opChassisReset_within (s : State) : Within [.reply, .freeCount, .regs, .blobs, .tickRegs, .mem, .power, .boot, .access, .time, .fabric, .lens, .phasor, .goose, .logic, .facets, .capture, .pair, .log, .health, .can, .sec] s (opChassisReset s) := by
  unfold opChassisReset
  refine Within.when _ _ (fun _ => ?_) ?_
  · exact Within.step (State.resetNow_within ..) (by decide) <| Within.refl _ _
  · exact Within.refl _ _

theorem opChassisResetRelease_within (s : State) : Within [.boot] s (opChassisResetRelease s) := by
  unfold opChassisResetRelease
  refine Within.when _ _ (fun _ => ?_) ?_
  · exact State.setBoot_within _ (by decide) <| Within.refl _ _
  · exact Within.refl _ _

theorem State.updateEvent_within (s : State) (kind : Nat) (new : Nat) : Within [.facets, .log] s (State.updateEvent s kind new) := by
  unfold State.updateEvent
  exact Within.step (State.logRec_within ..) (by decide) <| Within.refl _ _

theorem State.secureBoot_within (s : State) (sigA : Bool) (sigB : Bool) : Within [.boot, .facets, .log] s (State.secureBoot s sigA sigB) := by
  unfold State.secureBoot
  dsimp only
  refine Within.ite (fun _ => ?_) (fun _ => ?_)
  · refine Within.step (State.endPhase_within ..) (by decide) <| State.setBoot_within _ (by decide) ?_
    refine Within.ite (fun _ => ?_) (fun _ => ?_)
    · exact Within.step (State.updateEvent_within ..) (by decide) <| State.setBoot_within _ (by decide) <| Within.refl _ _
    · refine Within.ite (fun _ => ?_) (fun _ => ?_)
      · exact Within.step (State.updateEvent_within ..) (by decide) <| State.setBoot_within _ (by decide) <| Within.refl _ _
      · exact State.setBoot_within _ (by decide) <| Within.refl _ _
  · refine Within.ite (fun _ => ?_) (fun _ => ?_)
    · refine Within.step (State.endPhase_within ..) (by decide) <| State.setBoot_within _ (by decide) <| Within.step (State.updateEvent_within ..) (by decide) ?_
      refine Within.ite (fun _ => ?_) (fun _ => ?_)
      · exact Within.step (State.updateEvent_within ..) (by decide) <| State.setBoot_within _ (by decide) <| Within.refl _ _
      · refine Within.ite (fun _ => ?_) (fun _ => ?_)
        · exact Within.step (State.updateEvent_within ..) (by decide) <| State.setBoot_within _ (by decide) <| Within.refl _ _
        · exact State.setBoot_within _ (by decide) <| Within.refl _ _
    · refine State.setBoot_within _ (by decide) <| Within.step (State.updateEvent_within ..) (by decide) <| Within.step (State.updateEvent_within ..) (by decide) ?_
      refine Within.ite (fun _ => ?_) (fun _ => ?_)
      · exact Within.step (State.updateEvent_within ..) (by decide) <| State.setBoot_within _ (by decide) <| Within.refl _ _
      · refine Within.ite (fun _ => ?_) (fun _ => ?_)
        · exact Within.step (State.updateEvent_within ..) (by decide) <| State.setBoot_within _ (by decide) <| Within.refl _ _
        · exact State.setBoot_within _ (by decide) <| Within.refl _ _

theorem State.prepareLog_within (s : State) (crcOk : Bool) : Within [.freeCount, .facets, .pair, .log, .health] s (State.prepareLog s crcOk) := by
  unfold State.prepareLog
  extract_lets z0 z1 z2 z3 z4 z5 z6 z7 z8 z9 z10 z11 z12 z13
  refine Within.ite (fun _ => ?_) (fun _ => ?_)
  · refine Within.step (State.setCause_within ..) (by decide) <| Within.step (State.anchor_within ..) (by decide) <| Within.upd ?_
    unfold z8
    refine Within.ite (fun _ => ?_) (fun _ => ?_)
    · exact Within.step (State.nextFree_within ..) (by decide) <| Within.refl _ _
    · exact Within.refl _ _
  · refine Within.ite (fun _ => ?_) (fun _ => ?_)
    · refine Within.step (State.logLost_within ..) (by decide) ?_
      unfold z9
      refine Within.step (State.anchor_within ..) (by decide) <| Within.upd ?_
      unfold z8
      refine Within.ite (fun _ => ?_) (fun _ => ?_)
      · exact Within.step (State.nextFree_within ..) (by decide) <| Within.refl _ _
      · exact Within.refl _ _
    · refine Within.list _ (fun _ _ => ?_) _ _ ?_
      · exact Within.step (State.logLost_within ..) (by decide) <| Within.refl _ _
      · unfold z12
        refine Within.upd ?_
        unfold z9
        refine Within.step (State.anchor_within ..) (by decide) <| Within.upd ?_
        unfold z8
        refine Within.ite (fun _ => ?_) (fun _ => ?_)
        · exact Within.step (State.nextFree_within ..) (by decide) <| Within.refl _ _
        · exact Within.refl _ _

theorem State.showLive_within (s : State) : Within [.facets, .pair, .log, .health] s (State.showLive s) := by
  unfold State.showLive
  exact Within.step (State.setCause_within ..) (by decide) <| Within.step (State.setCause_within ..) (by decide) <| Within.step (State.showFailed_within ..) (by decide) <| Within.step (State.showSupply_within ..) (by decide) <| Within.refl _ _

theorem State.startLog_within (s : State) (crcOk : Bool) : Within [.freeCount, .power, .facets, .pair, .log, .health] s (State.startLog s crcOk) := by
  unfold State.startLog
  extract_lets z0 z1 z2 z3 z4
  refine Within.step (State.showLive_within ..) (by decide) <| State.setPower_within _ (fun _ h => h) (by decide) ?_
  unfold z4
  refine Within.ite (fun _ => ?_) (fun _ => ?_)
  · refine Within.step (State.powerEvent_within ..) (by decide) ?_
    unfold z3
    refine Within.list _ (fun _ _ => ?_) _ _ ?_
    · exact Within.step (State.logReq_within ..) (by decide) <| Within.refl _ _
    · refine Within.step (State.prepareLog_within ..) (by decide) ?_
      unfold z2
      exact Within.upd <| Within.refl _ _
  · unfold z3
    refine Within.list _ (fun _ _ => ?_) _ _ ?_
    · exact Within.step (State.logReq_within ..) (by decide) <| Within.refl _ _
    · refine Within.step (State.prepareLog_within ..) (by decide) ?_
      unfold z2
      exact Within.upd <| Within.refl _ _

theorem State.instTo_within (s : State) (n : Nat) : Within [.boot, .facets, .log] s (State.instTo s n) := by
  unfold State.instTo
  exact Within.step (State.updateEvent_within ..) (by decide) <| State.setBoot_within _ (by decide) <| Within.refl _ _

theorem State.instDo_within (s : State) (sess : Nat) (v : Nat) : Within [.boot, .facets, .log] s (State.instDo s sess v) := by
  unfold State.instDo
  extract_lets z0
  refine Within.ite (fun _ => ?_) (fun _ => ?_)
  · exact Within.step (State.instTo_within ..) (by decide) <| State.setBoot_within _ (by decide) <| Within.refl _ _
  · refine Within.ite (fun _ => ?_) (fun _ => ?_)
    · exact Within.step (State.instTo_within ..) (by decide) <| Within.refl _ _
    · refine Within.ite (fun _ => ?_) (fun _ => ?_)
      · exact Within.step (State.instTo_within ..) (by decide) <| Within.refl _ _
      · exact Within.refl _ _

theorem State.instTooLarge_within (s : State) : Within [.boot, .facets, .log] s (State.instTooLarge s).2 := by
  unfold State.instTooLarge
  dsimp only
  exact Within.step (State.instTo_within ..) (by decide) <| State.setBoot_within _ (by decide) <| Within.refl _ _

theorem State.instSegment_within (s : State) (sess : Nat) (data : ByteList) : Within [.boot, .facets, .log] s (State.instSegment s sess data).2 := by
  unfold State.instSegment
  extract_lets z0
  refine Within.iteR (fun _ => ?_) (fun _ => ?_)
  · dsimp only
    exact Within.refl _ _
  · refine Within.iteR (fun _ => ?_) (fun _ => ?_)
    · dsimp only
      exact Within.refl _ _
    · refine Within.iteR (fun _ => ?_) (fun _ => ?_)
      · exact Within.step (State.instTooLarge_within ..) (by decide) <| Within.refl _ _
      · dsimp only
        exact State.setBoot_within _ (by decide) <| Within.refl _ _

theorem State.instVerified_within (s : State) (result : Nat) (h : FwHeader) : Within [.boot, .facets, .log] s (State.instVerified s result h) := by
  unfold State.instVerified
  extract_lets z0 z1
  refine Within.ite (fun _ => ?_) (fun _ => ?_)
  · refine Within.step (State.instTo_within ..) (by decide) <| State.setBoot_within _ (by decide) ?_
    unfold z1
    exact State.setBoot_within _ (by decide) <| Within.refl _ _
  · refine Within.step (State.instTo_within ..) (by decide) ?_
    unfold z1
    exact State.setBoot_within _ (by decide) <| Within.refl _ _

theorem State.nameTrial_within (s : State) (n : Nat) : Within [.boot] s (State.nameTrial s n) := by
  unfold State.nameTrial
  exact State.setBoot_within _ (by decide) <| Within.refl _ _

theorem State.commitTrial_within (s : State) : Within [.boot, .facets, .log] s (State.commitTrial s) := by
  unfold State.commitTrial
  refine Within.ite (fun _ => ?_) (fun _ => ?_)
  · extract_lets z0
    exact Within.step (State.updateEvent_within ..) (by decide) <| State.setBoot_within _ (by decide) <| Within.refl _ _
  · exact Within.refl _ _

theorem State.cfgDo_within (s : State) (sess : Nat) (v : Nat) : Within [.boot] s (State.cfgDo s sess v) := by
  unfold State.cfgDo
  extract_lets z0
  refine Within.ite (fun _ => ?_) (fun _ => ?_)
  · exact State.setBoot_within _ (by decide) <| Within.refl _ _
  · refine Within.ite (fun _ => ?_) (fun _ => ?_)
    · exact State.setBoot_within _ (by decide) <| Within.refl _ _
    · refine Within.ite (fun _ => ?_) (fun _ => ?_)
      · exact State.setBoot_within _ (by decide) <| Within.refl _ _
      · refine Within.ite (fun _ => ?_) (fun _ => ?_)
        · exact State.setBoot_within _ (by decide) <| Within.refl _ _
        · refine Within.ite (fun _ => ?_) (fun _ => ?_)
          · exact State.setBoot_within _ (by decide) <| Within.refl _ _
          · exact Within.refl _ _

theorem State.cfgTooLarge_within (s : State) : Within [.boot] s (State.cfgTooLarge s).2 := by
  unfold State.cfgTooLarge
  dsimp only
  exact State.setBoot_within _ (by decide) <| Within.refl _ _

theorem State.cfgSegment_within (s : State) (sess : Nat) (data : ByteList) : Within [.boot] s (State.cfgSegment s sess data).2 := by
  unfold State.cfgSegment
  extract_lets z0
  refine Within.iteR (fun _ => ?_) (fun _ => ?_)
  · dsimp only
    exact Within.refl _ _
  · refine Within.iteR (fun _ => ?_) (fun _ => ?_)
    · dsimp only
      exact Within.refl _ _
    · refine Within.iteR (fun _ => ?_) (fun _ => ?_)
      · exact Within.step (State.cfgTooLarge_within ..) (by decide) <| Within.refl _ _
      · dsimp only
        exact State.setBoot_within _ (by decide) <| Within.refl _ _

theorem State.cfgVerified_within (s : State) (verdict : Nat) (i : CfgImage) : Within [.boot] s (State.cfgVerified s verdict i) := by
  unfold State.cfgVerified
  extract_lets z0
  exact State.setBoot_within _ (by decide) <| Within.refl _ _

theorem State.rotate_within (s : State) (markedOk : Bool) : Within [.boot, .facets, .log] s (State.rotate s markedOk) := by
  unfold State.rotate
  extract_lets z0 z1 z2 z3 z4
  refine Within.ite (fun _ => ?_) (fun _ => ?_)
  · exact Within.refl _ _
  · refine Within.ite (fun _ => ?_) (fun _ => ?_)
    · exact Within.step (State.updateEvent_within ..) (by decide) <| Within.upd <| Within.refl _ _
    · exact Within.upd <| Within.refl _ _

theorem State.orderly_within (s : State) : Within [.reply, .freeCount, .regs, .blobs, .tickRegs, .mem, .power, .boot, .access, .time, .fabric, .lens, .phasor, .goose, .logic, .facets, .capture, .pair, .log, .health, .can, .sec] s (State.orderly s) := by
  unfold State.orderly
  refine Within.ite (fun _ => ?_) (fun _ => ?_)
  · exact State.setBoot_within _ (by decide) <| Within.step (State.armSwap_within ..) (by decide) <| Within.refl _ _
  · exact Within.step (State.resetNow_within ..) (by decide) <| Within.refl _ _

end Sys2Proof.Machine
end

