-- ==== Sys2Proof/Laws/FrameAccess.lean ====
section
/-! SUPPORT. Frames of management access: what each operation can change. -/

namespace Sys2Proof.Machine

set_option Elab.async false

theorem State.putVal_within (s : State) (key : Nat) (v : Val) : Within [.regs, .blobs] s (State.putVal s key v) := by
  unfold State.putVal
  split
  · extract_lets z0
    refine Within.ite (fun _ => ?_) (fun _ => ?_)
    · refine Within.step (State.setReg_within ..) (by decide) ?_
      unfold z0
      exact Within.upd <| Within.refl _ _
    · unfold z0
      exact Within.upd <| Within.refl _ _
  · refine Within.ite (fun _ => ?_) (fun _ => ?_)
    · exact Within.refl _ _
    · exact Within.upd <| Within.refl _ _

theorem State.putVals_within (s : State) (items : ValList) : Within [.regs, .blobs] s (State.putVals s items) := by
  unfold State.putVals
  refine Within.foldl _ (fun _ _ => ?_) _ _ ?_
  · exact Within.step (State.putVal_within ..) (by decide) <| Within.refl _ _
  · exact Within.refl _ _

theorem State.noteRefusal_within (s : State) (key : Nat) (code : Nat) : Within [.regs, .time] s (State.noteRefusal s key code) := by
  unfold State.noteRefusal
  extract_lets z0 z1
  refine Within.ite (fun _ => ?_) (fun _ => ?_)
  · exact Within.step (State.setReg_within ..) (by decide) <| Within.refl _ _
  · refine Within.ite (fun _ => ?_) (fun _ => ?_)
    · exact Within.step (State.setTpo_within ..) (by decide) <| Within.refl _ _
    · exact Within.refl _ _

theorem State.tpoSettings_within (s : State) (n : Nat) : Within [.time] s (State.tpoSettings s n) := by
  unfold State.tpoSettings
  extract_lets z0
  split
  · exact Within.refl _ _
  · refine Within.ite (fun _ => ?_) (fun _ => ?_)
    · exact Within.step (State.tpoOff_within ..) (by decide) <| Within.refl _ _
    · split
      · exact Within.step (State.setTpo_within ..) (by decide) <| Within.refl _ _
      · exact Within.step (State.tpoChange_within ..) (by decide) <| Within.refl _ _

theorem State.returnImage_within (s : State) (p : Nat) : Within [.regs, .mem, .access, .logic, .facets, .log] s (State.returnImage s p) := by
  unfold State.returnImage
  extract_lets z0
  split
  · refine Within.step (State.loadImage_within ..) (by decide) ?_
    unfold z0
    refine Within.ite (fun _ => ?_) (fun _ => ?_)
    · exact Within.step (State.stopProgram_within ..) (by decide) <| Within.refl _ _
    · exact Within.refl _ _
  · split
    · refine Within.step (State.setProg_within ..) (by decide) ?_
      refine State.editMem_within _ (fun _ h => putAll_wf _ _ h) (by decide) (by decide) ?_
      unfold z0
      refine Within.ite (fun _ => ?_) (fun _ => ?_)
      · exact Within.step (State.stopProgram_within ..) (by decide) <| Within.refl _ _
      · exact Within.refl _ _
    · unfold z0
      refine Within.ite (fun _ => ?_) (fun _ => ?_)
      · exact Within.step (State.stopProgram_within ..) (by decide) <| Within.refl _ _
      · exact Within.refl _ _

theorem State.effectProg_within (s : State) (index : Nat) (sub : Nat) (n : Nat) (v : Val) : Within [.regs, .mem, .access, .logic, .facets, .log] s (State.effectProg s index sub n v) := by
  unfold State.effectProg
  extract_lets z0
  refine Within.ite (fun _ => ?_) (fun _ => ?_)
  · refine Within.ite (fun _ => ?_) (fun _ => ?_)
    · exact Within.step (State.progStart_within ..) (by decide) <| Within.refl _ _
    · exact Within.step (State.stopProgram_within ..) (by decide) <| Within.refl _ _
  · refine Within.ite (fun _ => ?_) (fun _ => ?_)
    · refine Within.ite (fun _ => ?_) (fun _ => ?_)
      · exact Within.step (State.returnImage_within ..) (by decide) <| Within.refl _ _
      · split
        · exact Within.step (State.loadImage_within ..) (by decide) <| Within.refl _ _
        · exact Within.refl _ _
    · refine Within.ite (fun _ => ?_) (fun _ => ?_)
      · exact Within.step (State.fdiFilter_within ..) (by decide) <| Within.refl _ _
      · exact Within.refl _ _

theorem State.effectFacet_within (o : State) (s : State) (index : Nat) (sub : Nat) (n : Nat) (v : Val) : Within [.regs, .time, .goose, .facets] s (State.effectFacet o s index sub n v) := by
  unfold State.effectFacet
  extract_lets z0 z1 z2
  refine Within.ite (fun _ => ?_) (fun _ => ?_)
  · exact Within.step (State.blobDownload_within ..) (by decide) <| Within.refl _ _
  · split
    · refine Within.ite (fun _ => ?_) (fun _ => ?_)
      · refine Within.ite (fun _ => ?_) (fun _ => ?_)
        · exact Within.step (State.defineFacet_within ..) (by decide) <| Within.refl _ _
        · exact Within.refl _ _
      · refine Within.ite (fun _ => ?_) (fun _ => ?_)
        · exact Within.step (State.deleteFacet_within ..) (by decide) <| Within.refl _ _
        · exact Within.refl _ _
    · refine Within.ite (fun _ => ?_) (fun _ => ?_)
      · exact Within.step (State.moveCores_within ..) (by decide) <| Within.refl _ _
      · exact Within.refl _ _
    · refine Within.ite (fun _ => ?_) (fun _ => ?_)
      · exact Within.step (State.setFacet_within ..) (by decide) <| Within.refl _ _
      · exact Within.refl _ _
    · exact Within.step (State.shareChanged_within ..) (by decide) <| Within.refl _ _
    · exact Within.step (State.shareChanged_within ..) (by decide) <| Within.refl _ _
    · exact Within.step (State.shareChanged_within ..) (by decide) <| Within.refl _ _
    · exact Within.step (State.shareChanged_within ..) (by decide) <| Within.refl _ _
    · exact Within.refl _ _

theorem State.effectCan_within (s : State) (index : Nat) (sub : Nat) (n : Nat) : Within [.regs, .facets, .log, .can] s (State.effectCan s index sub n) := by
  unfold State.effectCan
  extract_lets z0
  refine Within.ite (fun _ => ?_) (fun _ => ?_)
  · refine Within.ite (fun _ => ?_) (fun _ => ?_)
    · exact Within.step (State.canEnable_within ..) (by decide) <| Within.refl _ _
    · exact Within.step (State.canDisable_within ..) (by decide) <| Within.refl _ _
  · refine Within.ite (fun _ => ?_) (fun _ => ?_)
    · exact Within.step (State.canRestrict_within ..) (by decide) <| Within.refl _ _
    · exact Within.refl _ _

theorem State.effect_within (o : State) (s : State) (who : Nat) (key : Nat) (v : Val) : Within [.reply, .freeCount, .regs, .mem, .access, .time, .fabric, .phasor, .goose, .logic, .facets, .capture, .pair, .log, .can, .sec] s (State.effect o s who key v) := by
  unfold State.effect
  extract_lets z0 z1 z2 z3 z4 z5 z6 z7 z8 z9
  refine Within.ite (fun _ => ?_) (fun _ => ?_)
  · exact Within.refl _ _
  · refine Within.ite (fun _ => ?_) (fun _ => ?_)
    · refine Within.ite (fun _ => ?_) (fun _ => ?_)
      · refine Within.ite (fun _ => ?_) (fun _ => ?_)
        · refine Within.step (State.portOn_within ..) (by decide) ?_
          unfold z5
          exact Within.step (State.setReg_within ..) (by decide) <| Within.refl _ _
        · refine Within.step (State.portOff_within ..) (by decide) ?_
          unfold z5
          exact Within.step (State.setReg_within ..) (by decide) <| Within.refl _ _
      · exact Within.refl _ _
    · refine Within.ite (fun _ => ?_) (fun _ => ?_)
      · refine Within.ite (fun _ => ?_) (fun _ => ?_)
        · exact Within.step (State.bmca_within ..) (by decide) <| Within.refl _ _
        · exact Within.refl _ _
      · refine Within.ite (fun _ => ?_) (fun _ => ?_)
        · refine Within.ite (fun _ => ?_) (fun _ => ?_)
          · exact Within.step (State.tpoStart_within ..) (by decide) <| Within.refl _ _
          · refine Within.ite (fun _ => ?_) (fun _ => ?_)
            · exact Within.step (State.tpoGrant_within ..) (by decide) <| Within.refl _ _
            · refine Within.ite (fun _ => ?_) (fun _ => ?_)
              · exact Within.step (State.tpoSettings_within ..) (by decide) <| Within.refl _ _
              · exact Within.refl _ _
        · refine Within.ite (fun _ => ?_) (fun _ => ?_)
          · refine Within.ite (fun _ => ?_) (fun _ => ?_)
            · exact Within.step (State.laneFresh_within ..) (by decide) <| Within.refl _ _
            · exact Within.refl _ _
          · refine Within.ite (fun _ => ?_) (fun _ => ?_)
            · exact Within.step (State.setFreqGroup_within ..) (by decide) <| Within.refl _ _
            · refine Within.ite (fun _ => ?_) (fun _ => ?_)
              · exact Within.step (State.effectFacet_within ..) (by decide) <| Within.refl _ _
              · refine Within.ite (fun _ => ?_) (fun _ => ?_)
                · exact Within.step (State.effectProg_within ..) (by decide) <| Within.refl _ _
                · refine Within.ite (fun _ => ?_) (fun _ => ?_)
                  · refine Within.ite (fun _ => ?_) (fun _ => ?_)
                    · exact Within.step (State.pubOn_within ..) (by decide) <| Within.refl _ _
                    · refine Within.ite (fun _ => ?_) (fun _ => ?_)
                      · exact Within.step (State.pubOff_within ..) (by decide) <| Within.refl _ _
                      · refine Within.ite (fun _ => ?_) (fun _ => ?_)
                        · exact Within.step (State.setPub_within ..) (by decide) <| Within.refl _ _
                        · exact Within.refl _ _
                  · refine Within.ite (fun _ => ?_) (fun _ => ?_)
                    · refine Within.ite (fun _ => ?_) (fun _ => ?_)
                      · exact Within.step (State.subOn_within ..) (by decide) <| Within.refl _ _
                      · refine Within.ite (fun _ => ?_) (fun _ => ?_)
                        · exact Within.step (State.subOff_within ..) (by decide) <| Within.refl _ _
                        · exact Within.refl _ _
                    · refine Within.ite (fun _ => ?_) (fun _ => ?_)
                      · refine Within.ite (fun _ => ?_) (fun _ => ?_)
                        · refine Within.ite (fun _ => ?_) (fun _ => ?_)
                          · exact Within.step (State.arm_within ..) (by decide) <| Within.refl _ _
                          · exact Within.step (State.disarm_within ..) (by decide) <| Within.refl _ _
                        · exact Within.refl _ _
                      · refine Within.ite (fun _ => ?_) (fun _ => ?_)
                        · exact Within.step (State.fill_within ..) (by decide) <| Within.refl _ _
                        · refine Within.ite (fun _ => ?_) (fun _ => ?_)
                          · exact Within.step (State.logSec_within ..) (by decide) <| Within.upd <| Within.refl _ _
                          · refine Within.ite (fun _ => ?_) (fun _ => ?_)
                            · refine Within.ite (fun _ => ?_) (fun _ => ?_)
                              · exact Within.refl _ _
                              · exact Within.step (State.startExchange_within ..) (by decide) <| Within.step (State.logSec_within ..) (by decide) <| Within.step (State.recordBinding_within ..) (by decide) <| Within.upd <| Within.refl _ _
                            · refine Within.ite (fun _ => ?_) (fun _ => ?_)
                              · exact Within.step (State.effectCan_within ..) (by decide) <| Within.refl _ _
                              · refine Within.ite (fun _ => ?_) (fun _ => ?_)
                                · refine Within.ite (fun _ => ?_) (fun _ => ?_)
                                  · exact Within.step (State.stationOn_within ..) (by decide) <| Within.refl _ _
                                  · refine Within.ite (fun _ => ?_) (fun _ => ?_)
                                    · exact Within.step (State.stationOff_within ..) (by decide) <| Within.refl _ _
                                    · exact Within.refl _ _
                                · exact Within.refl _ _

theorem State.place_within (s : State) (who : Nat) (items : ValList) : Within [.reply, .freeCount, .regs, .blobs, .mem, .access, .time, .fabric, .phasor, .goose, .logic, .facets, .capture, .pair, .log, .can, .sec] s (State.place s who items) := by
  unfold State.place
  refine Within.foldl _ (fun _ _ => ?_) _ _ ?_
  · exact Within.step (State.effect_within ..) (by decide) <| Within.refl _ _
  · exact Within.step (State.putVals_within ..) (by decide) <| Within.refl _ _

theorem withCode_within (s : State) : Within [] s (withCode s).2 := by
  unfold withCode
  dsimp only
  exact Within.refl _ _

theorem State.logSession_within (s : State) (kind : Nat) (sess : Nat) (record : Nat) (role : Nat) : Within [.facets, .log] s (State.logSession s kind sess record role) := by
  unfold State.logSession
  exact Within.step (State.logRec_within ..) (by decide) <| Within.refl _ _

theorem State.overlaySave_within (s : State) (q : Requester) : Within [.access, .facets, .log, .can] s (State.overlaySave s q) := by
  unfold State.overlaySave
  extract_lets z0 z1
  exact Within.step (State.logSession_within ..) (by decide) <| Within.step (State.keepCan_within ..) (by decide) <| Within.upd <| Within.refl _ _

theorem State.overlayDiscard_within (s : State) (who : Nat) : Within [.reply, .freeCount, .regs, .blobs, .mem, .access, .time, .fabric, .phasor, .goose, .logic, .facets, .capture, .pair, .log, .can, .sec] s (State.overlayDiscard s who) := by
  unfold State.overlayDiscard
  extract_lets z0 z1
  exact Within.step (State.place_within ..) (by decide) <| Within.upd <| Within.refl _ _

theorem State.clearLog_within (s : State) (record : Nat) : Within [.facets, .log] s (State.clearLog s record).2 := by
  unfold State.clearLog
  extract_lets z0 z1
  refine Within.iteR (fun _ => ?_) (fun _ => ?_)
  · dsimp only
    exact Within.refl _ _
  · dsimp only
    exact Within.step (State.logRec_within ..) (by decide) <| Within.upd <| Within.refl _ _

theorem State.generateIdentity_within (s : State) : Within [.freeCount, .sec] s (State.generateIdentity s).2 := by
  unfold State.generateIdentity
  refine Within.iteR (fun _ => ?_) (fun _ => ?_)
  · dsimp only
    exact Within.refl _ _
  · dsimp only
    exact Within.upd <| Within.refl _ _

theorem State.takeBundle_within (s : State) (b : ByteList) : Within [.facets, .pair, .log, .sec] s (State.takeBundle s b).2 := by
  unfold State.takeBundle
  split
  extract_lets z0
  refine Within.iteR (fun _ => ?_) (fun _ => ?_)
  · dsimp only
    refine Within.step (State.settle_within ..) (by decide) <| Within.step (State.logSec_within ..) (by decide) ?_
    refine Within.ite (fun _ => ?_) (fun _ => ?_)
    · unfold z0
      exact Within.upd <| Within.refl _ _
    · refine Within.step (State.recordBinding_within ..) (by decide) ?_
      unfold z0
      exact Within.upd <| Within.refl _ _
  · dsimp only
    exact Within.refl _ _

theorem State.bindReceived_within (s : State) : Within [.freeCount, .facets, .pair, .log, .sec] s (State.bindReceived s).2 := by
  unfold State.bindReceived
  refine Within.iteR (fun _ => ?_) (fun _ => ?_)
  · dsimp only
    exact Within.refl _ _
  · dsimp only
    exact Within.step (State.startExchange_within ..) (by decide) <| Within.step (State.logSec_within ..) (by decide) <| Within.step (State.recordBinding_within ..) (by decide) <| Within.upd <| Within.refl _ _

theorem State.unbind_within (s : State) : Within [.freeCount, .facets, .pair, .log, .sec] s (State.unbind s) := by
  unfold State.unbind
  extract_lets z0 z1
  exact Within.step (State.startExchange_within ..) (by decide) <| Within.step (State.logSec_within ..) (by decide) <| Within.upd <| Within.refl _ _

theorem State.activateKey_within (s : State) : Within [.sec] s (State.activateKey s).2 := by
  unfold State.activateKey
  refine Within.iteR (fun _ => ?_) (fun _ => ?_)
  · dsimp only
    exact Within.refl _ _
  · refine Within.iteR (fun _ => ?_) (fun _ => ?_)
    · dsimp only
      exact Within.refl _ _
    · dsimp only
      exact Within.upd <| Within.refl _ _

theorem State.takeMirrorKey_within (s : State) (b : ByteList) : Within [.sec] s (State.takeMirrorKey s b).2 := by
  unfold State.takeMirrorKey
  extract_lets z0 z1
  refine Within.iteR (fun _ => ?_) (fun _ => ?_)
  · dsimp only
    exact Within.refl _ _
  · dsimp only
    exact Within.upd <| Within.refl _ _

theorem State.zeroRegs_within (s : State) (index : Nat) (subs : List Nat) : Within [.regs] s (State.zeroRegs s index subs) := by
  unfold State.zeroRegs
  refine Within.list _ (fun _ _ => ?_) _ _ ?_
  · exact Within.step (State.setReg_within ..) (by decide) <| Within.refl _ _
  · exact Within.refl _ _

theorem State.lensClear_within (s : State) : Within [.lens] s (State.lensClear s) := by
  unfold State.lensClear
  exact Within.upd <| Within.refl _ _

theorem State.streamClear_within (s : State) (n : Nat) : Within [.lens] s (State.streamClear s n) := by
  unfold State.streamClear
  exact Within.step (State.setStream_within ..) (by decide) <| Within.refl _ _

theorem State.sumClear_within (s : State) (g : Nat) : Within [.regs, .phasor] s (State.sumClear s g) := by
  unfold State.sumClear
  exact Within.step (State.zeroRegs_within ..) (by decide) <| Within.step (State.setSumGroup_within ..) (by decide) <| Within.refl _ _

theorem State.subClear_within (s : State) (n : Nat) : Within [.regs] s (State.subClear s n) := by
  unfold State.subClear
  exact Within.step (State.zeroRegs_within ..) (by decide) <| Within.refl _ _

theorem State.stationClear_within (s : State) (n : Nat) : Within [.regs] s (State.stationClear s n) := by
  unfold State.stationClear
  exact Within.step (State.zeroRegs_within ..) (by decide) <| Within.refl _ _

theorem State.canClear_within (s : State) (c : Nat) : Within [.regs] s (State.canClear s c) := by
  unfold State.canClear
  exact Within.step (State.zeroRegs_within ..) (by decide) <| Within.refl _ _

theorem State.actFabric_within (s : State) (index : Nat) (n : Nat) : Within [.reply, .regs, .blobs, .fabric] s (State.actFabric s index n).2 := by
  unfold State.actFabric
  refine Within.iteR (fun _ => ?_) (fun _ => ?_)
  · dsimp only
    exact Within.step (opPortClearCounters_within ..) (by decide) <| Within.refl _ _
  · refine Within.iteR (fun _ => ?_) (fun _ => ?_)
    · exact Within.step (withCode_within ..) (by decide) <| Within.step (opFlushLearned_within ..) (by decide) <| Within.refl _ _
    · refine Within.iteR (fun _ => ?_) (fun _ => ?_)
      · refine Within.step (withCode_within ..) (by decide) ?_
        split
        · exact Within.step (opDatabaseWrite_within ..) (by decide) <| Within.refl _ _
        · exact Within.step (opDatabaseDeleteByKey_within ..) (by decide) <| Within.refl _ _
        · exact Within.step (opDatabaseReadByKey_within ..) (by decide) <| Within.refl _ _
        · exact Within.step (opDatabaseReadByPosition_within ..) (by decide) <| Within.refl _ _
      · refine Within.iteR (fun _ => ?_) (fun _ => ?_)
        · refine Within.step (withCode_within ..) (by decide) ?_
          split
          · exact Within.step (opStreamTableWrite_within ..) (by decide) <| Within.refl _ _
          · exact Within.step (opStreamTableDeleteByKey_within ..) (by decide) <| Within.refl _ _
          · exact Within.step (opStreamTableReadByKey_within ..) (by decide) <| Within.refl _ _
          · exact Within.step (opStreamTableReadByPosition_within ..) (by decide) <| Within.refl _ _
        · refine Within.iteR (fun _ => ?_) (fun _ => ?_)
          · refine Within.step (withCode_within ..) (by decide) ?_
            split
            · exact Within.step (opVlanWrite_within ..) (by decide) <| Within.refl _ _
            · exact Within.step (opVlanRead_within ..) (by decide) <| Within.refl _ _
            · exact Within.step (opVlanInvalidate_within ..) (by decide) <| Within.refl _ _
          · dsimp only
            exact Within.refl _ _

theorem State.actModule_within (s : State) (q : Requester) (index : Nat) (sub : Nat) (n : Nat) (v : Val) : Within [.reply, .freeCount, .regs, .blobs, .tickRegs, .mem, .power, .boot, .access, .time, .fabric, .lens, .phasor, .goose, .logic, .facets, .capture, .pair, .log, .health, .can, .sec] s (State.actModule s q index sub n v).2 := by
  unfold State.actModule
  split
  · extract_lets z0
    dsimp only
    refine Within.ite (fun _ => ?_) (fun _ => ?_)
    · exact Within.step (State.thermalRestart_within ..) (by decide) <| Within.refl _ _
    · exact Within.refl _ _
  · extract_lets z0
    dsimp only
    refine Within.ite (fun _ => ?_) (fun _ => ?_)
    · exact Within.step (State.orderly_within ..) (by decide) <| Within.refl _ _
    · exact Within.refl _ _
  · dsimp only
    exact Within.step (State.resetNow_within ..) (by decide) <| Within.refl _ _
  · extract_lets z0
    dsimp only
    refine Within.ite (fun _ => ?_) (fun _ => ?_)
    · exact Within.step (State.instDo_within ..) (by decide) <| Within.refl _ _
    · exact Within.refl _ _
  · exact Within.step (State.instSegment_within ..) (by decide) <| Within.refl _ _
  · extract_lets z0
    dsimp only
    refine Within.ite (fun _ => ?_) (fun _ => ?_)
    · exact Within.step (State.nameTrial_within ..) (by decide) <| Within.refl _ _
    · exact Within.refl _ _
  · dsimp only
    exact Within.step (State.commitTrial_within ..) (by decide) <| Within.refl _ _
  · extract_lets z0
    dsimp only
    refine Within.ite (fun _ => ?_) (fun _ => ?_)
    · exact Within.step (State.cfgDo_within ..) (by decide) <| Within.refl _ _
    · exact Within.refl _ _
  · exact Within.step (State.cfgSegment_within ..) (by decide) <| Within.refl _ _
  · extract_lets z0
    dsimp only
    refine Within.ite (fun _ => ?_) (fun _ => ?_)
    · exact Within.step (State.setReg_within ..) (by decide) <| Within.step (State.clusterSwitch_within ..) (by decide) <| Within.refl _ _
    · exact Within.refl _ _
  · dsimp only
    exact Within.refl _ _

theorem State.actFacet_within (s : State) (index : Nat) (sub : Nat) (n : Nat) (v : Val) : Within [.regs, .mem, .boot, .time, .goose, .facets, .capture, .log, .health] s (State.actFacet s index sub n v).2 := by
  unfold State.actFacet
  extract_lets z0 z1 z2
  split
  · exact Within.step (State.facetCommand_within ..) (by decide) <| Within.refl _ _
  · refine Within.iteR (fun _ => ?_) (fun _ => ?_)
    · dsimp only
      exact Within.refl _ _
    · refine Within.iteR (fun _ => ?_) (fun _ => ?_)
      · dsimp only
        exact Within.refl _ _
      · dsimp only
        exact Within.step (State.setFacet_within ..) (by decide) <| Within.refl _ _
  · dsimp only
    exact Within.step (State.facetClear_within ..) (by decide) <| Within.refl _ _

theorem State.actProg_within (s : State) (index : Nat) (sub : Nat) (n : Nat) (v : Val) : Within [.regs, .mem, .access, .logic, .facets, .pair, .log, .health] s (State.actProg s index sub n v).2 := by
  unfold State.actProg
  extract_lets z0
  split
  · exact Within.step (State.exchangeImage_within ..) (by decide) <| Within.refl _ _
  · exact Within.step (State.exchangeCommand_within ..) (by decide) <| Within.refl _ _
  · dsimp only
    exact Within.step (State.progClear_within ..) (by decide) <| Within.refl _ _

theorem State.actPair_within (s : State) (index : Nat) (sub : Nat) : Within [.regs, .mem, .power, .time, .lens, .goose, .logic, .facets, .pair, .log, .health, .can] s (State.actPair s index sub).2 := by
  unfold State.actPair
  split
  · dsimp only
    exact Within.step (State.pairClear_within ..) (by decide) <| Within.refl _ _
  · extract_lets z0
    dsimp only
    refine Within.ite (fun _ => ?_) (fun _ => ?_)
    · exact Within.step (State.armSwap_within ..) (by decide) <| Within.refl _ _
    · exact Within.refl _ _
  · refine Within.iteR (fun _ => ?_) (fun _ => ?_)
    · dsimp only
      exact Within.step (State.settle_within ..) (by decide) <| Within.step (State.setCause_within ..) (by decide) <| State.setPair_within _ (fun _ => ⟨rfl, rfl⟩) (by decide) <| Within.refl _ _
    · dsimp only
      exact Within.refl _ _
  · refine Within.iteR (fun _ => ?_) (fun _ => ?_)
    · dsimp only
      exact Within.step (State.leaveHold_within ..) (by decide) <| Within.refl _ _
    · dsimp only
      exact Within.refl _ _
  · extract_lets z0
    dsimp only
    refine Within.ite (fun _ => ?_) (fun _ => ?_)
    · exact Within.step (State.request_within ..) (by decide) <| Within.refl _ _
    · exact Within.refl _ _
  · exact Within.step (State.resync_within ..) (by decide) <| Within.refl _ _

theorem State.actSecurity_within (s : State) (q : Requester) (index : Nat) (sub : Nat) (n : Nat) (v : Val) : Within [.reply, .freeCount, .facets, .pair, .log, .sec] s (State.actSecurity s q index sub n v).2 := by
  unfold State.actSecurity
  split
  · extract_lets z0
    dsimp only
    unfold z0
    exact Within.step (State.queueNonce_within ..) (by decide) <| Within.refl _ _
  · refine Within.iteR (fun _ => ?_) (fun _ => ?_)
    · exact Within.step (State.bindReceived_within ..) (by decide) <| Within.refl _ _
    · refine Within.iteR (fun _ => ?_) (fun _ => ?_)
      · dsimp only
        exact Within.step (State.unbind_within ..) (by decide) <| Within.refl _ _
      · exact Within.step (State.activateKey_within ..) (by decide) <| Within.refl _ _
  · exact Within.step (State.takeMirrorKey_within ..) (by decide) <| Within.refl _ _
  · dsimp only
    exact Within.upd <| Within.refl _ _
  · exact Within.step (withCode_within ..) (by decide) <| Within.step (State.unlockWith_within ..) (by decide) <| Within.refl _ _
  · dsimp only
    exact Within.upd <| Within.refl _ _
  · exact Within.step (State.generateIdentity_within ..) (by decide) <| Within.refl _ _
  · exact Within.step (State.takeBundle_within ..) (by decide) <| Within.refl _ _

theorem State.action_within (s : State) (q : Requester) (key : Nat) (v : Val) : Within [.reply, .freeCount, .regs, .blobs, .tickRegs, .mem, .power, .boot, .access, .time, .fabric, .lens, .phasor, .goose, .logic, .facets, .capture, .pair, .log, .health, .can, .sec] s (State.action s q key v).2 := by
  unfold State.action
  extract_lets z0 z1 z2 z3 z4 z5 z6 z7
  refine Within.iteR (fun _ => ?_) (fun _ => ?_)
  · dsimp only
    refine Within.ite (fun _ => ?_) (fun _ => ?_)
    · exact Within.step (State.overlaySave_within ..) (by decide) <| Within.refl _ _
    · exact Within.step (State.overlayDiscard_within ..) (by decide) <| Within.refl _ _
  · refine Within.iteR (fun _ => ?_) (fun _ => ?_)
    · dsimp only
      exact Within.upd <| Within.refl _ _
    · refine Within.iteR (fun _ => ?_) (fun _ => ?_)
      · exact Within.step (State.actModule_within ..) (by decide) <| Within.refl _ _
      · refine Within.iteR (fun _ => ?_) (fun _ => ?_)
        · exact Within.step (State.actFabric_within ..) (by decide) <| Within.refl _ _
        · refine Within.iteR (fun _ => ?_) (fun _ => ?_)
          · exact Within.step (withCode_within ..) (by decide) <| Within.step (State.setTime_within ..) (by decide) <| Within.refl _ _
          · refine Within.iteR (fun _ => ?_) (fun _ => ?_)
            · exact Within.step (withCode_within ..) (by decide) <| Within.step (State.acceptJump_within ..) (by decide) <| Within.refl _ _
            · refine Within.iteR (fun _ => ?_) (fun _ => ?_)
              · dsimp only
                exact Within.step (State.streamClear_within ..) (by decide) <| Within.refl _ _
              · refine Within.iteR (fun _ => ?_) (fun _ => ?_)
                · dsimp only
                  exact Within.step (State.sumClear_within ..) (by decide) <| Within.refl _ _
                · refine Within.iteR (fun _ => ?_) (fun _ => ?_)
                  · dsimp only
                    exact Within.step (State.lensClear_within ..) (by decide) <| Within.refl _ _
                  · refine Within.iteR (fun _ => ?_) (fun _ => ?_)
                    · dsimp only
                      exact Within.step (State.laneReset_within ..) (by decide) <| Within.refl _ _
                    · refine Within.iteR (fun _ => ?_) (fun _ => ?_)
                      · exact Within.step (State.actFacet_within ..) (by decide) <| Within.refl _ _
                      · refine Within.iteR (fun _ => ?_) (fun _ => ?_)
                        · exact Within.step (State.actProg_within ..) (by decide) <| Within.refl _ _
                        · refine Within.iteR (fun _ => ?_) (fun _ => ?_)
                          · dsimp only
                            exact Within.step (State.subClear_within ..) (by decide) <| Within.refl _ _
                          · refine Within.iteR (fun _ => ?_) (fun _ => ?_)
                            · refine Within.iteR (fun _ => ?_) (fun _ => ?_)
                              · dsimp only
                                refine Within.ite (fun _ => ?_) (fun _ => ?_)
                                · exact Within.step (State.manual_within ..) (by decide) <| Within.refl _ _
                                · exact Within.refl _ _
                              · exact Within.step (State.deleteStored_within ..) (by decide) <| Within.refl _ _
                            · refine Within.iteR (fun _ => ?_) (fun _ => ?_)
                              · exact Within.step (State.actPair_within ..) (by decide) <| Within.refl _ _
                              · refine Within.iteR (fun _ => ?_) (fun _ => ?_)
                                · exact Within.step (State.clearLog_within ..) (by decide) <| Within.refl _ _
                                · refine Within.iteR (fun _ => ?_) (fun _ => ?_)
                                  · exact Within.step (State.acknowledge_within ..) (by decide) <| Within.refl _ _
                                  · refine Within.iteR (fun _ => ?_) (fun _ => ?_)
                                    · exact Within.step (State.actSecurity_within ..) (by decide) <| Within.refl _ _
                                    · refine Within.iteR (fun _ => ?_) (fun _ => ?_)
                                      · refine Within.iteR (fun _ => ?_) (fun _ => ?_)
                                        · dsimp only
                                          refine Within.ite (fun _ => ?_) (fun _ => ?_)
                                          · exact Within.step (State.canRecover_within ..) (by decide) <| Within.refl _ _
                                          · exact Within.refl _ _
                                        · dsimp only
                                          exact Within.step (State.canClear_within ..) (by decide) <| Within.refl _ _
                                      · refine Within.iteR (fun _ => ?_) (fun _ => ?_)
                                        · dsimp only
                                          exact Within.step (State.stationClear_within ..) (by decide) <| Within.refl _ _
                                        · exact Within.step (State.actModule_within ..) (by decide) <| Within.refl _ _

theorem State.dictRead_within (s : State) (q : Requester) (key : Nat) : Within [.reply, .freeCount, .time, .sec] s (State.dictRead s q key).2.2.2 := by
  unfold State.dictRead
  extract_lets z0 z1 z2
  split
  · split
    · split
      · dsimp only
        exact Within.refl _ _
      · dsimp only
        exact Within.refl _ _
    · dsimp only
      exact Within.refl _ _
  · split
    · dsimp only
      exact Within.refl _ _
    · split
      · dsimp only
        exact Within.refl _ _
      · split
        · dsimp only
          exact Within.refl _ _
        · split
          · split
            dsimp only
            refine Within.ofEqL (by assumption) ?_
            exact Within.step (State.takeStamp_within ..) (by decide) <| Within.refl _ _
          · dsimp only
            unfold z1
            refine Within.ite (fun _ => ?_) (fun _ => ?_)
            · exact Within.step (State.newChallenge_within ..) (by decide) <| Within.refl _ _
            · refine Within.ite (fun _ => ?_) (fun _ => ?_)
              · exact Within.step (State.nextFree_within ..) (by decide) <| Within.refl _ _
              · exact Within.refl _ _

theorem State.applyItems_within (s : State) (q : Requester) (items : ValList) : Within [.reply, .freeCount, .regs, .blobs, .tickRegs, .mem, .power, .boot, .access, .time, .fabric, .lens, .phasor, .goose, .logic, .facets, .capture, .pair, .log, .health, .can, .sec] s (State.applyItems s q items).2 := by
  unfold State.applyItems
  extract_lets z0 z1 z2 z3
  refine Within.foldl2 _ (fun _ _ _ => ?_) _ _ _ ?_
  · split
    dsimp only
    refine Within.ofEq (by assumption) ?_
    refine Within.step (State.action_within ..) (by decide) ?_
    dsimp only
    exact Within.refl _ _
  · unfold z3
    refine Within.ite (fun _ => ?_) (fun _ => ?_)
    · unfold z1
      exact Within.step (State.place_within ..) (by decide) <| Within.refl _ _
    · refine Within.upd ?_
      unfold z1
      exact Within.step (State.place_within ..) (by decide) <| Within.refl _ _

theorem State.forward_within (s0 : State) (q : Requester) (items : ValList) : Within [.access, .pair] s0 (State.forward s0 q items) := by
  unfold State.forward
  extract_lets z0 z1 z2
  refine Within.upd ?_
  unfold z1
  exact Within.step (State.post_within ..) (by decide) <| Within.refl _ _

theorem State.writeItems_within (s : State) (q : Requester) (l : List WriteItem) : Within [.reply, .freeCount, .regs, .blobs, .tickRegs, .mem, .power, .boot, .access, .time, .fabric, .lens, .phasor, .goose, .logic, .facets, .capture, .pair, .log, .health, .can, .sec] s (State.writeItems s q l).st := by
  unfold State.writeItems
  extract_lets z0 z1
  split
  · dsimp only
    exact Within.step (State.noteRefusal_within ..) (by decide) <| Within.refl _ _
  · split
    split
    · dsimp only
      exact Within.refl _ _
    · split
      · dsimp only
        exact Within.refl _ _
      · split
        · dsimp only
          exact Within.step (State.forward_within ..) (by decide) <| Within.refl _ _
        · dsimp only
          refine Within.ofEq (by assumption) ?_
          exact Within.step (State.applyItems_within ..) (by decide) <| Within.refl _ _

theorem State.writeVals_within (s : State) (q : Requester) (items : ValList) : Within [.reply, .freeCount, .regs, .blobs, .tickRegs, .mem, .power, .boot, .access, .time, .fabric, .lens, .phasor, .goose, .logic, .facets, .capture, .pair, .log, .health, .can, .sec] s (State.writeVals s q items).st := by
  unfold State.writeVals
  exact Within.step (State.writeItems_within ..) (by decide) <| Within.refl _ _

theorem State.writeRaw_within (s : State) (q : Requester) (l : List RawItem) : Within [.reply, .freeCount, .regs, .blobs, .tickRegs, .mem, .power, .boot, .access, .time, .fabric, .lens, .phasor, .goose, .logic, .facets, .capture, .pair, .log, .health, .can, .sec] s (State.writeRaw s q l).st := by
  unfold State.writeRaw
  exact Within.step (State.writeItems_within ..) (by decide) <| Within.refl _ _

theorem State.writeOne_within (s : State) (q : Requester) (key : Nat) (v : Val) : Within [.reply, .freeCount, .regs, .blobs, .tickRegs, .mem, .power, .boot, .access, .time, .fabric, .lens, .phasor, .goose, .logic, .facets, .capture, .pair, .log, .health, .can, .sec] s (State.writeOne s q key v) := by
  unfold State.writeOne
  extract_lets z0
  refine Within.step (State.answer_within ..) (by decide) ?_
  unfold z0
  exact Within.step (State.writeVals_within ..) (by decide) <| Within.refl _ _

theorem State.defer_within (s : State) (w : Waiting) : Within [.reply, .access] s (State.defer s w) := by
  unfold State.defer
  refine Within.ite (fun _ => ?_) (fun _ => ?_)
  · exact Within.step (State.answer_within ..) (by decide) <| Within.refl _ _
  · exact Within.step (State.answer_within ..) (by decide) <| Within.upd <| Within.refl _ _

theorem State.inTurn_within {F : List Part} {s t : State} (w : Waiting) (f : State → State)
    (hf : ∀ u, Within F u (f u)) (hp : [.reply, .access] ⊆ F) (h : Within F s t) : Within F s (State.inTurn t w f) := by
  unfold State.inTurn
  refine Within.ite (fun _ => Within.step (State.defer_within ..) (List.Subset.trans (by decide) hp) h) (fun _ => ?_)
  exact Within.step (hf _) (fun _ => id) h

theorem State.rowWrite_within (s : State) (q : Requester) (key : Nat) (v : Val) : Within [.reply, .freeCount, .regs, .blobs, .tickRegs, .mem, .power, .boot, .access, .time, .fabric, .lens, .phasor, .goose, .logic, .facets, .capture, .pair, .log, .health, .can, .sec] s (State.rowWrite s q key v) := by
  unfold State.rowWrite
  refine Within.ite (fun _ => ?_) (fun _ => ?_)
  · exact Within.step (State.answer_within ..) (by decide) <| Within.refl _ _
  · refine Within.when _ _ (fun _ => ?_) ?_
    · refine State.inTurn_within _ _ (fun _ => ?_) (by decide) ?_
      · exact Within.step (State.writeOne_within ..) (by decide) <| Within.refl _ _
      · exact Within.refl _ _
    · exact Within.refl _ _

theorem State.setSession_within (s : State) (n : Nat) (x : Session) : Within [.access] s (State.setSession s n x) := by
  unfold State.setSession
  exact Within.upd <| Within.refl _ _

theorem State.dropTransfer_within (s : State) (t : Transfer) : Within [.boot, .logic, .capture] s (State.dropTransfer s t) := by
  unfold State.dropTransfer
  refine Within.ite (fun _ => ?_) (fun _ => ?_)
  · exact Within.step (State.downAborted_within ..) (by decide) <| Within.refl _ _
  · exact Within.step (State.uploadEnded_within ..) (by decide) <| Within.refl _ _

theorem State.abortTransfer_within (s : State) (n : Nat) : Within [.boot, .access, .logic, .capture] s (State.abortTransfer s n) := by
  unfold State.abortTransfer
  split
  · split
    · exact Within.step (State.dropTransfer_within ..) (by decide) <| Within.step (State.setSession_within ..) (by decide) <| Within.refl _ _
    · exact Within.refl _ _
  · exact Within.refl _ _

theorem State.endSession_within (s : State) (n : Nat) : Within [.boot, .access, .logic, .facets, .capture, .log, .sec] s (State.endSession s n) := by
  unfold State.endSession
  split
  · exact Within.refl _ _
  · extract_lets z0 z1 z2 z3 z4 z5 z6
    refine Within.step (State.logSession_within ..) (by decide) ?_
    unfold z6
    refine Within.ite (fun _ => ?_) (fun _ => ?_)
    · refine Within.step (State.logSession_within ..) (by decide) ?_
      unfold z5
      refine Within.upd ?_
      unfold z0
      exact Within.step (State.abortTransfer_within ..) (by decide) <| Within.refl _ _
    · unfold z5
      refine Within.upd ?_
      unfold z0
      exact Within.step (State.abortTransfer_within ..) (by decide) <| Within.refl _ _

theorem State.endSessions_within (s : State) : Within [.boot, .access, .logic, .facets, .capture, .log, .sec] s (State.endSessions s) := by
  unfold State.endSessions
  refine Within.list _ (fun _ _ => ?_) _ _ ?_
  · exact Within.step (State.endSession_within ..) (by decide) <| Within.refl _ _
  · exact Within.refl _ _

theorem State.handshake_within (s : State) (name : ByteList) (o : DtlsOffer) : Within [.reply, .access, .facets, .log] s (State.handshake s name o) := by
  unfold State.handshake
  dsimp only
  refine Within.ite (fun _ => ?_) (fun _ => ?_)
  · exact Within.refl _ _
  · refine Within.ite (fun _ => ?_) (fun _ => ?_)
    · exact Within.step (State.answer_within ..) (by decide) <| Within.step (State.logSession_within ..) (by decide) <| Within.upd <| Within.refl _ _
    · refine Within.ite (fun _ => ?_) (fun _ => ?_)
      · exact Within.step (State.answer_within ..) (by decide) <| Within.refl _ _
      · refine Within.ite (fun _ => ?_) (fun _ => ?_)
        · exact Within.step (State.answer_within ..) (by decide) <| Within.step (State.logSession_within ..) (by decide) <| Within.upd <| Within.refl _ _
        · split
          · exact Within.step (State.answer_within ..) (by decide) <| Within.step (State.logSession_within ..) (by decide) <| Within.upd <| Within.refl _ _
          · refine Within.ite (fun _ => ?_) (fun _ => ?_)
            · exact Within.step (State.answer_within ..) (by decide) <| Within.step (State.logSession_within ..) (by decide) <| Within.upd <| Within.refl _ _
            · refine Within.ite (fun _ => ?_) (fun _ => ?_)
              · exact Within.step (State.answer_within ..) (by decide) <| Within.step (State.logSession_within ..) (by decide) <| Within.upd <| Within.refl _ _
              · exact Within.step (State.answer_within ..) (by decide) <| Within.step (State.logSession_within ..) (by decide) <| Within.step (State.setSession_within ..) (by decide) <| Within.refl _ _

theorem State.respond_within (s : State) (op : Nat) (m : MapMsg) : Within [.reply] s (State.respond s op m) := by
  unfold State.respond
  extract_lets z0
  refine Within.ite (fun _ => ?_) (fun _ => ?_)
  · exact Within.refl _ _
  · exact Within.upd <| Within.refl _ _

theorem State.keepRequest_within (s : State) (op : Nat) (m : MapMsg) (digest : ByteList) : Within [.access] s (State.keepRequest s op m digest) := by
  unfold State.keepRequest
  split
  · extract_lets z0
    refine Within.ite (fun _ => ?_) (fun _ => ?_)
    · exact Within.refl _ _
    · exact Within.step (State.setSession_within ..) (by decide) <| Within.refl _ _
  · exact Within.refl _ _

theorem State.otherRequest_within (s : State) (m : MapMsg) : Within [.boot, .access, .logic, .capture] s (State.otherRequest s m) := by
  unfold State.otherRequest
  split
  · refine Within.ite (fun _ => ?_) (fun _ => ?_)
    · exact Within.step (State.abortTransfer_within ..) (by decide) <| Within.refl _ _
    · exact Within.refl _ _
  · exact Within.refl _ _

theorem State.received_within {F : List Part} {s t : State} (op : Nat) (m : MapMsg) (f : Session → State → State)
    (hf : ∀ x u, Within F u (f x u)) (hp : [.reply, .access] ⊆ F) (h : Within F s t) : Within F s (State.received t op m f) := by
  have hs : ∀ c, Within F s ((t.answer c).respond op m) := fun c =>
    Within.step (State.respond_within ..) (List.Subset.trans (by decide) hp) <|
      Within.step (State.answer_within ..) (List.Subset.trans (by decide) hp) h
  unfold State.received
  split
  · exact h
  · refine Within.ite (fun _ => hs _) (fun _ => Within.ite (fun _ => h) (fun _ => Within.ite (fun _ => ?_) (fun _ =>
      Within.ite (fun _ => hs _) (fun _ => Within.step (hf ..) (fun _ => id) h))))
    exact Within.step (State.respond_within ..) (List.Subset.trans (by decide) hp) <|
      Within.step (State.defer_within ..) (List.Subset.trans (by decide) hp) h

theorem State.request97_within {F : List Part} {s t : State} (op : Nat) (m : MapMsg) (f : Requester → State → State)
    (hf : ∀ x u, Within F u (f x u)) (hp : [.reply, .boot, .access, .logic, .capture] ⊆ F) (h : Within F s t) : Within F s (State.request97 t op m f) := by
  have hr : ∀ (u : State) c, Within F u ((u.answer c).respond op m) := fun u c =>
    Within.step (State.respond_within ..) (List.Subset.trans (by decide) hp) <|
      Within.step (State.answer_within ..) (List.Subset.trans (by decide) hp) <| Within.refl _ _
  unfold State.request97
  refine State.received_within _ _ _ (fun x u => ?_) (List.Subset.trans (by decide) hp) h
  extract_lets d
  refine Within.ite (fun _ => hr _ _) (fun _ => ?_)
  split
  · refine Within.ite (fun _ => ?_) (fun _ => hr _ _)
    exact Within.upd (Within.refl _ u) (_reply := .inl (hp (by decide))) (_access := .inl (hp (by decide)))
  · refine Within.ite (fun _ => hr _ _) (fun _ => ?_)
    exact Within.step (State.keepRequest_within ..) (List.Subset.trans (by decide) hp) <| Within.step (State.respond_within ..) (List.Subset.trans (by decide) hp) <| Within.step (hf ..) (fun _ => id) <| Within.step (State.otherRequest_within ..) (List.Subset.trans (by decide) hp) <| Within.refl _ _

theorem State.mapRead_within (s : State) (q : Requester) (m : MapMsg) : Within [.reply, .freeCount, .time, .sec] s (State.mapRead s q m) := by
  unfold State.mapRead
  split
  refine Within.ite (fun _ => ?_) (fun _ => ?_)
  · refine Within.step (State.answer_within ..) (by decide) ?_
    refine Within.ofEq4 (by assumption) ?_
    exact Within.step (State.dictRead_within ..) (by decide) <| Within.refl _ _
  · refine Within.ite (fun _ => ?_) (fun _ => ?_)
    · exact Within.step (State.answer_within ..) (by decide) <| Within.refl _ _
    · refine Within.step (State.answer_within ..) (by decide) ?_
      refine Within.ofEq4 (by assumption) ?_
      exact Within.step (State.dictRead_within ..) (by decide) <| Within.refl _ _

theorem State.mapWrite_within (s : State) (q : Requester) (m : MapMsg) : Within [.reply, .freeCount, .regs, .blobs, .tickRegs, .mem, .power, .boot, .access, .time, .fabric, .lens, .phasor, .goose, .logic, .facets, .capture, .pair, .log, .health, .can, .sec] s (State.mapWrite s q m) := by
  unfold State.mapWrite
  extract_lets z0
  refine Within.step (State.answer_within ..) (by decide) ?_
  unfold z0
  exact Within.step (State.writeRaw_within ..) (by decide) <| Within.refl _ _

theorem State.mapWriteSet_within (s : State) (q : Requester) (m : MapMsg) : Within [.reply, .freeCount, .regs, .blobs, .tickRegs, .mem, .power, .boot, .access, .time, .fabric, .lens, .phasor, .goose, .logic, .facets, .capture, .pair, .log, .health, .can, .sec] s (State.mapWriteSet s q m) := by
  unfold State.mapWriteSet
  split
  · exact Within.step (State.answer_within ..) (by decide) <| Within.refl _ _
  · refine Within.ite (fun _ => ?_) (fun _ => ?_)
    · exact Within.step (State.answer_within ..) (by decide) <| Within.refl _ _
    · extract_lets z0
      refine Within.step (State.answer_within ..) (by decide) ?_
      unfold z0
      exact Within.step (State.writeRaw_within ..) (by decide) <| Within.refl _ _

theorem State.mapDescribe_within (s : State) (q : Requester) (m : MapMsg) : Within [.reply] s (State.mapDescribe s q m) := by
  unfold State.mapDescribe
  extract_lets z0
  split
  · exact Within.step (State.answer_within ..) (by decide) <| Within.refl _ _
  · refine Within.ite (fun _ => ?_) (fun _ => ?_)
    · exact Within.step (State.answer_within ..) (by decide) <| Within.refl _ _
    · exact Within.step (State.answer_within ..) (by decide) <| Within.refl _ _

theorem State.mapLock_within (s : State) (q : Requester) (record : Nat) (m : MapMsg) : Within [.reply, .access, .facets, .log] s (State.mapLock s q record m) := by
  unfold State.mapLock
  extract_lets z0 z1
  refine Within.ite (fun _ => ?_) (fun _ => ?_)
  · exact Within.step (State.answer_within ..) (by decide) <| Within.refl _ _
  · refine Within.ite (fun _ => ?_) (fun _ => ?_)
    · exact Within.step (State.answer_within ..) (by decide) <| Within.refl _ _
    · refine Within.ite (fun _ => ?_) (fun _ => ?_)
      · exact Within.step (State.answer_within ..) (by decide) <| Within.refl _ _
      · refine Within.ite (fun _ => ?_) (fun _ => ?_)
        · exact Within.step (State.answer_within ..) (by decide) <| Within.refl _ _
        · refine Within.ite (fun _ => ?_) (fun _ => ?_)
          · exact Within.step (State.answer_within ..) (by decide) <| Within.refl _ _
          · exact Within.step (State.answer_within ..) (by decide) <| Within.step (State.logSession_within ..) (by decide) <| Within.upd <| Within.refl _ _

theorem State.mapUnlock_within (s : State) (q : Requester) (record : Nat) : Within [.reply, .access, .facets, .log] s (State.mapUnlock s q record) := by
  unfold State.mapUnlock
  extract_lets z0 z1
  refine Within.step (State.answer_within ..) (by decide) ?_
  refine Within.ite (fun _ => ?_) (fun _ => ?_)
  · refine Within.step (State.logSession_within ..) (by decide) ?_
    unfold z1
    exact Within.upd <| Within.refl _ _
  · unfold z1
    exact Within.upd <| Within.refl _ _

theorem State.lockExpires_within (s : State) (first : Nat) : Within [.access, .facets, .log] s (State.lockExpires s first) := by
  unfold State.lockExpires
  split
  · extract_lets z0 z1
    exact Within.step (State.logSession_within ..) (by decide) <| Within.upd <| Within.refl _ _
  · exact Within.refl _ _

theorem State.downStarts_within (s : State) (who : Nat) (key : Nat) (total : Nat) : Within [.boot, .logic, .facets, .log] s (State.downStarts s who key total).2 := by
  unfold State.downStarts
  extract_lets z0 z1 z2 z3 z4
  refine Within.iteR (fun _ => ?_) (fun _ => ?_)
  · refine Within.iteR (fun _ => ?_) (fun _ => ?_)
    · exact Within.step (State.instTooLarge_within ..) (by decide) <| Within.refl _ _
    · dsimp only
      exact Within.refl _ _
  · refine Within.iteR (fun _ => ?_) (fun _ => ?_)
    · refine Within.iteR (fun _ => ?_) (fun _ => ?_)
      · exact Within.step (State.cfgTooLarge_within ..) (by decide) <| Within.refl _ _
      · dsimp only
        exact Within.refl _ _
    · refine Within.iteR (fun _ => ?_) (fun _ => ?_)
      · dsimp only
        exact Within.refl _ _
      · refine Within.iteR (fun _ => ?_) (fun _ => ?_)
        · dsimp only
          exact Within.refl _ _
        · refine Within.iteR (fun _ => ?_) (fun _ => ?_)
          · exact Within.step (State.exchangeInit_within ..) (by decide) <| Within.refl _ _
          · refine Within.iteR (fun _ => ?_) (fun _ => ?_)
            · dsimp only
              exact Within.refl _ _
            · refine Within.iteR (fun _ => ?_) (fun _ => ?_)
              · dsimp only
                exact Within.refl _ _
              · refine Within.iteR (fun _ => ?_) (fun _ => ?_)
                · dsimp only
                  exact Within.refl _ _
                · dsimp only
                  exact Within.refl _ _

theorem State.downBegin_within (s : State) (q : Requester) (key : Nat) (total : Nat) (own : Option Transfer) : Within [.boot, .logic, .facets, .log] s (State.downBegin s q key total own).2 := by
  unfold State.downBegin
  extract_lets z0
  refine Within.iteR (fun _ => ?_) (fun _ => ?_)
  · dsimp only
    exact Within.refl _ _
  · refine Within.iteR (fun _ => ?_) (fun _ => ?_)
    · dsimp only
      exact Within.refl _ _
    · refine Within.iteR (fun _ => ?_) (fun _ => ?_)
      · dsimp only
        exact Within.refl _ _
      · exact Within.step (State.downStarts_within ..) (by decide) <| Within.refl _ _

theorem State.streamSegment_within (s : State) (who : Nat) (key : Nat) (data : ByteList) : Within [.boot, .facets, .log] s (State.streamSegment s who key data).2 := by
  unfold State.streamSegment
  refine Within.iteR (fun _ => ?_) (fun _ => ?_)
  · exact Within.step (State.instSegment_within ..) (by decide) <| Within.refl _ _
  · refine Within.iteR (fun _ => ?_) (fun _ => ?_)
    · exact Within.step (State.cfgSegment_within ..) (by decide) <| Within.refl _ _
    · dsimp only
      exact Within.refl _ _

theorem State.downDone_within (s : State) (q : Requester) (t : Transfer) : Within [.reply, .freeCount, .regs, .blobs, .tickRegs, .mem, .power, .boot, .access, .time, .fabric, .lens, .phasor, .goose, .logic, .facets, .capture, .pair, .log, .health, .can, .sec] s (State.downDone s q t).2 := by
  unfold State.downDone
  refine Within.iteR (fun _ => ?_) (fun _ => ?_)
  · dsimp only
    exact Within.refl _ _
  · extract_lets z0
    dsimp only
    unfold z0
    exact Within.step (State.writeVals_within ..) (by decide) <| Within.refl _ _

theorem State.mapInitDown_within (s : State) (q : Requester) (own : Option Transfer) (m : MapMsg) : Within [.reply, .boot, .access, .logic, .facets, .log] s (State.mapInitDown s q own m) := by
  unfold State.mapInitDown
  refine Within.ite (fun _ => ?_) (fun _ => ?_)
  · exact Within.step (State.answer_within ..) (by decide) <| Within.refl _ _
  · extract_lets z0 z1
    split
    refine Within.ite (fun _ => ?_) (fun _ => ?_)
    · refine Within.step (State.answer_within ..) (by decide) ?_
      refine Within.ofEq (by assumption) ?_
      exact Within.step (State.downBegin_within ..) (by decide) <| Within.refl _ _
    · extract_lets z2
      refine Within.step (State.answer_within ..) (by decide) <| Within.step (State.setSession_within ..) (by decide) ?_
      refine Within.ofEq (by assumption) ?_
      exact Within.step (State.downBegin_within ..) (by decide) <| Within.refl _ _

theorem State.ack_within (s : State) (t : Transfer) : Within [.reply] s (State.ack s t) := by
  unfold State.ack
  exact Within.upd <| Within.refl _ _

theorem State.mapDown_within (s : State) (m : MapMsg) : Within [.reply, .boot, .access, .logic, .facets, .capture, .log] s (State.mapDown s m) := by
  unfold State.mapDown
  refine State.received_within _ _ _ (fun _ _ => ?_) (by decide) ?_
  · split
    · exact Within.refl _ _
    · extract_lets z0 z1 z2 z3 z4
      refine Within.ite (fun _ => ?_) (fun _ => ?_)
      · exact Within.step (State.otherRequest_within ..) (by decide) <| Within.refl _ _
      · refine Within.ite (fun _ => ?_) (fun _ => ?_)
        · exact Within.step (State.respond_within ..) (by decide) <| Within.step (State.answer_within ..) (by decide) <| Within.refl _ _
        · refine Within.ite (fun _ => ?_) (fun _ => ?_)
          · exact Within.step (State.ack_within ..) (by decide) <| Within.step (State.setSession_within ..) (by decide) <| Within.refl _ _
          · split
            refine Within.ite (fun _ => ?_) (fun _ => ?_)
            · refine Within.step (State.setSession_within ..) (by decide) ?_
              refine Within.ofEq (by assumption) ?_
              exact Within.step (State.streamSegment_within ..) (by decide) <| Within.refl _ _
            · extract_lets z5
              refine Within.ite (fun _ => ?_) (fun _ => ?_)
              · refine Within.step (State.ack_within ..) (by decide) ?_
                unfold z5
                refine Within.step (State.setSession_within ..) (by decide) ?_
                refine Within.ofEq (by assumption) ?_
                exact Within.step (State.streamSegment_within ..) (by decide) <| Within.refl _ _
              · unfold z5
                refine Within.step (State.setSession_within ..) (by decide) ?_
                refine Within.ofEq (by assumption) ?_
                exact Within.step (State.streamSegment_within ..) (by decide) <| Within.refl _ _
  · exact Within.refl _ _

theorem State.mapEndDown_within (s : State) (q : Requester) (own : Option Transfer) (m : MapMsg) : Within [.reply, .freeCount, .regs, .blobs, .tickRegs, .mem, .power, .boot, .access, .time, .fabric, .lens, .phasor, .goose, .logic, .facets, .capture, .pair, .log, .health, .can, .sec] s (State.mapEndDown s q own m) := by
  unfold State.mapEndDown
  dsimp only
  split
  · exact Within.step (State.answer_within ..) (by decide) <| Within.refl _ _
  · refine Within.ite (fun _ => ?_) (fun _ => ?_)
    · exact Within.step (State.answer_within ..) (by decide) <| Within.refl _ _
    · refine Within.ite (fun _ => ?_) (fun _ => ?_)
      · exact Within.step (State.answer_within ..) (by decide) <| Within.refl _ _
      · refine Within.ite (fun _ => ?_) (fun _ => ?_)
        · exact Within.upd <| Within.refl _ _
        · refine Within.ite (fun _ => ?_) (fun _ => ?_)
          · exact Within.upd <| Within.step (State.downAborted_within ..) (by decide) <| Within.step (State.setSession_within ..) (by decide) <| Within.refl _ _
          · exact Within.upd <| Within.step (State.downDone_within ..) (by decide) <| Within.step (State.setSession_within ..) (by decide) <| Within.refl _ _

theorem State.upBegin_within (s : State) (q : Requester) (key : Nat) (own : Option Transfer) : Within [.reply, .freeCount, .time, .sec] s (State.upBegin s q key own).2.2 := by
  unfold State.upBegin
  split
  split
  · dsimp only
    exact Within.refl _ _
  · split
    · dsimp only
      exact Within.refl _ _
    · split
      · dsimp only
        exact Within.refl _ _
      · dsimp only
        refine Within.ofEq4 (by assumption) ?_
        exact Within.step (State.dictRead_within ..) (by decide) <| Within.refl _ _

theorem State.mapInitUp_within (s : State) (q : Requester) (own : Option Transfer) (m : MapMsg) : Within [.reply, .freeCount, .access, .time, .sec] s (State.mapInitUp s q own m) := by
  unfold State.mapInitUp
  split
  refine Within.ite (fun _ => ?_) (fun _ => ?_)
  · refine Within.step (State.answer_within ..) (by decide) ?_
    refine Within.ofEq3 (by assumption) ?_
    exact Within.step (State.upBegin_within ..) (by decide) <| Within.refl _ _
  · extract_lets z0
    refine Within.step (State.answer_within ..) (by decide) <| Within.step (State.setSession_within ..) (by decide) ?_
    refine Within.ofEq3 (by assumption) ?_
    exact Within.step (State.upBegin_within ..) (by decide) <| Within.refl _ _

theorem State.sentUpTo_within (s : State) (t : Transfer) (byte : Nat) : Within [.capture] s (State.sentUpTo s t byte) := by
  unfold State.sentUpTo
  refine Within.ite (fun _ => ?_) (fun _ => ?_)
  · exact Within.step (State.markExported_within ..) (by decide) <| Within.refl _ _
  · exact Within.refl _ _

theorem State.mapUp_within (s : State) (m : MapMsg) : Within [.reply, .access, .capture] s (State.mapUp s m) := by
  unfold State.mapUp
  refine State.received_within _ _ _ (fun _ _ => ?_) (by decide) ?_
  · split
    · exact Within.refl _ _
    · extract_lets z0 z1 z2 z3
      refine Within.ite (fun _ => ?_) (fun _ => ?_)
      · exact Within.refl _ _
      · refine Within.ite (fun _ => ?_) (fun _ => ?_)
        · exact Within.step (State.respond_within ..) (by decide) <| Within.step (State.answer_within ..) (by decide) <| Within.refl _ _
        · split
          · refine Within.step (State.sentUpTo_within ..) (by decide) ?_
            unfold z3
            exact Within.upd <| Within.refl _ _
          · unfold z3
            exact Within.upd <| Within.refl _ _
  · exact Within.refl _ _

theorem State.cabSend_within (s : State) (c : Nat) (node : Nat) (data : ByteList) : Within [.can] s (State.cabSend s c node data) := by
  unfold State.cabSend
  extract_lets z0 z1 z2
  refine Within.step (State.setCtl_within ..) (by decide) ?_
  unfold z1
  exact Within.step (State.loadObject_within ..) (by decide) <| Within.refl _ _

theorem State.completeDue_within (s : State) (who : Nat) (code : Nat) (payload : ByteList) : Within [.reply, .access, .can] s (State.completeDue s who code payload) := by
  unfold State.completeDue
  refine Within.ite (fun _ => ?_) (fun _ => ?_)
  · split
    · extract_lets z0 z1 z2 z3
      refine Within.upd ?_
      unfold z3
      exact Within.step (State.setSession_within ..) (by decide) <| Within.refl _ _
    · exact Within.refl _ _
  · refine Within.ite (fun _ => ?_) (fun _ => ?_)
    · split
      · extract_lets z0 z1
        exact Within.step (State.cabSend_within ..) (by decide) <| Within.upd <| Within.refl _ _
      · exact Within.refl _ _
    · exact Within.refl _ _

theorem State.setClient_within (s : State) (node : Nat) (x : CabClient) : Within [.access] s (State.setClient s node x) := by
  unfold State.setClient
  exact Within.upd <| Within.refl _ _

theorem State.cabinet_within {F : List Part} {s t : State} (cmd : Nat) (r : CabReq) (f : Requester → State → Nat × Nat × ByteList × State)
    (hf : ∀ x u, Within F u (f x u).2.2.2) (hp : [.reply, .access, .can] ⊆ F) (h : Within F s t) : Within F s (State.cabinet t cmd r f) := by
  have hr : [Part.reply] ⊆ F := List.Subset.trans (by decide) hp
  have hc : ∀ (u : State) (a b : Nat) (d : ByteList), Within F u (u.cabSend a b d) := fun u a b d =>
    Within.step (State.cabSend_within ..) (List.Subset.trans (by decide) hp) (Within.refl _ _)
  have ha : ∀ (u : State) (c : Nat) (b : ByteList), Within F u (u.answer c b) := fun u c b =>
    Within.step (State.answer_within ..) hr (Within.refl _ _)
  unfold State.cabinet
  have hpick : ∀ (u : State) (k : Nat), Within F u (if (!u.sec.provisioned && !(cmd == 0 && decide (0x1800 ≤ k / 256 ∧ k / 256 ≤ 0x18FF))) = true
      then (0x010F, 0, [], u) else if (!u.standbyServes k) = true then (0x0101, 0, [], u) else f
        { role := t.cabinetRole r.src, who := 512 + r.src, cabinet := true } u : Nat × Nat × ByteList × State).2.2.2 := by
    intro u k
    split
    · exact Within.refl _ _
    · split
      · exact Within.refl _ _
      · exact hf _ _
  extract_lets x req known toggle send key run
  clear_value known
  have hsend : ∀ u c, Within F u (send u c) := fun u c => Within.step (ha ..) (fun _ => id) (hc ..)
  have hset : ∀ (u : State) (n : Nat) (x : CabClient), Within F u (u.setClient n x) := fun u n x =>
    Within.step (State.setClient_within ..) (List.Subset.trans (by decide) hp) (Within.refl _ _)
  have hrun : ∀ u, Within F u (run u) := by
    intro u
    refine Within.step (ha ..) (fun _ => id) (Within.ite (fun _ => ?_) (fun _ => ?_))
    · exact Within.step (hset ..) (fun _ => id) (hpick u _)
    · exact Within.step (hc ..) (fun _ => id) (Within.step (hset ..) (fun _ => id) (hpick u _))
  refine Within.ite (fun _ => h) (fun _ => ?_)
  refine Within.ite (fun _ => Within.step (hsend ..) (fun _ => id) h) (fun _ => ?_)
  refine Within.ite (fun _ => h) (fun _ => ?_)
  refine Within.ite (fun _ => Within.ite (fun _ => Within.step (hsend ..) (fun _ => id) h) (fun _ => ?_)) (fun _ => ?_)
  · exact Within.step (State.defer_within ..) (List.Subset.trans (by decide) hp) h
  refine Within.ite (fun _ => Within.step (hsend ..) (fun _ => id) h) (fun _ => ?_)
  split
  · refine Within.ite (fun _ => Within.step (hrun ..) (fun _ => id) h) (fun _ => Within.ite (fun _ => ?_) (fun _ =>
      Within.step (hsend ..) (fun _ => id) h))
    refine Within.step (ha ..) (fun _ => id) (Within.step (hc ..) (fun _ => id) ?_)
    exact Within.upd h (_access := .inl (hp (by decide)))
  · exact Within.ite (fun _ => Within.step (hsend ..) (fun _ => id) h) (fun _ => Within.step (hrun ..) (fun _ => id) h)

theorem State.cabRead_within (s : State) (q : Requester) (r : CabReq) : Within [.reply, .freeCount, .time, .sec] s (State.cabRead s q r).2.2.2 := by
  unfold State.cabRead
  split
  split
  · dsimp only
    refine Within.ofEq4 (by assumption) ?_
    exact Within.step (State.dictRead_within ..) (by decide) <| Within.refl _ _
  · split
    · dsimp only
      exact Within.refl _ _
    · dsimp only
      refine Within.ofEq4 (by assumption) ?_
      exact Within.step (State.dictRead_within ..) (by decide) <| Within.refl _ _

theorem State.cabWrite_within (s : State) (q : Requester) (r : CabReq) : Within [.reply, .freeCount, .regs, .blobs, .tickRegs, .mem, .power, .boot, .access, .time, .fabric, .lens, .phasor, .goose, .logic, .facets, .capture, .pair, .log, .health, .can, .sec] s (State.cabWrite s q r).2.2.2 := by
  unfold State.cabWrite
  extract_lets z0 z1
  dsimp only
  unfold z1
  exact Within.step (State.writeRaw_within ..) (by decide) <| Within.refl _ _

theorem State.cabInitDown_within (s : State) (q : Requester) (r : CabReq) : Within [.boot, .access, .logic, .facets, .log] s (State.cabInitDown s q r).2.2.2 := by
  unfold State.cabInitDown
  extract_lets z0 z1
  split
  · dsimp only
    exact Within.refl _ _
  · split
    · dsimp only
      exact Within.refl _ _
    · split
      split
      · dsimp only
        refine Within.ofEq (by assumption) ?_
        exact Within.step (State.downBegin_within ..) (by decide) <| Within.refl _ _
      · dsimp only
        refine Within.step (State.setClient_within ..) (by decide) ?_
        refine Within.ofEq (by assumption) ?_
        exact Within.step (State.downBegin_within ..) (by decide) <| Within.refl _ _

theorem State.cabDown_within (s : State) (q : Requester) (r : CabReq) : Within [.boot, .access, .facets, .log] s (State.cabDown s q r).2.2.2 := by
  unfold State.cabDown
  extract_lets z0 z1
  split
  · dsimp only
    exact Within.refl _ _
  · split
    · dsimp only
      exact Within.refl _ _
    · split
      · dsimp only
        exact Within.refl _ _
      · split
        split
        · dsimp only
          refine Within.step (State.setClient_within ..) (by decide) ?_
          refine Within.ofEq (by assumption) ?_
          exact Within.step (State.streamSegment_within ..) (by decide) <| Within.refl _ _
        · dsimp only
          refine Within.step (State.setClient_within ..) (by decide) ?_
          refine Within.ofEq (by assumption) ?_
          exact Within.step (State.streamSegment_within ..) (by decide) <| Within.refl _ _

theorem State.cabEnd_within (s : State) (q : Requester) (r : CabReq) : Within [.reply, .freeCount, .regs, .blobs, .tickRegs, .mem, .power, .boot, .access, .time, .fabric, .lens, .phasor, .goose, .logic, .facets, .capture, .pair, .log, .health, .can, .sec] s (State.cabEnd s q r).2.2.2 := by
  unfold State.cabEnd
  extract_lets z0
  split
  · dsimp only
    exact Within.refl _ _
  · split
    · dsimp only
      exact Within.refl _ _
    · split
      · dsimp only
        exact Within.refl _ _
      · split
        dsimp only
        refine Within.ofEq (by assumption) ?_
        exact Within.step (State.downDone_within ..) (by decide) <| Within.step (State.setClient_within ..) (by decide) <| Within.refl _ _

theorem State.cabInitUp_within (s : State) (q : Requester) (r : CabReq) : Within [.reply, .freeCount, .access, .time, .sec] s (State.cabInitUp s q r).2.2.2 := by
  unfold State.cabInitUp
  split
  split
  · dsimp only
    refine Within.ofEq3 (by assumption) ?_
    exact Within.step (State.upBegin_within ..) (by decide) <| Within.refl _ _
  · split
    · dsimp only
      exact Within.refl _ _
    · dsimp only
      refine Within.step (State.setClient_within ..) (by decide) ?_
      refine Within.ofEq3 (by assumption) ?_
      exact Within.step (State.upBegin_within ..) (by decide) <| Within.refl _ _

theorem State.cabUp_within (s : State) (r : CabReq) : Within [.access, .capture] s (State.cabUp s r).2.2.2 := by
  unfold State.cabUp
  extract_lets z0
  split
  · dsimp only
    exact Within.refl _ _
  · split
    · dsimp only
      exact Within.refl _ _
    · extract_lets z1 z2 z3
      dsimp only
      refine Within.ite (fun _ => ?_) (fun _ => ?_)
      · refine Within.step (State.uploadEnded_within ..) (by decide) <| Within.step (State.sentUpTo_within ..) (by decide) ?_
        unfold z3
        exact Within.step (State.setClient_within ..) (by decide) <| Within.refl _ _
      · unfold z3
        exact Within.step (State.setClient_within ..) (by decide) <| Within.refl _ _

theorem State.cabAbort_within (s : State) (node : Nat) : Within [.boot, .access, .logic, .capture] s (State.cabAbort s node) := by
  unfold State.cabAbort
  split
  · exact Within.step (State.dropTransfer_within ..) (by decide) <| Within.step (State.setClient_within ..) (by decide) <| Within.refl _ _
  · exact Within.refl _ _

theorem State.cabRelease_within (s : State) (node : Nat) : Within [.boot, .access, .logic, .capture, .log] s (State.cabRelease s node) := by
  unfold State.cabRelease
  extract_lets z0 z1 z2
  refine Within.upd ?_
  unfold z0
  exact Within.step (State.cabAbort_within ..) (by decide) <| Within.refl _ _

theorem State.mapExec_within (s : State) (op : Nat) (q : Requester) (m : MapMsg) : Within [.reply, .freeCount, .regs, .blobs, .tickRegs, .mem, .power, .boot, .access, .time, .fabric, .lens, .phasor, .goose, .logic, .facets, .capture, .pair, .log, .health, .can, .sec] s (State.mapExec s op q m) := by
  unfold State.mapExec
  extract_lets z0
  split
  · exact Within.step (State.mapRead_within ..) (by decide) <| Within.refl _ _
  · exact Within.step (State.mapWrite_within ..) (by decide) <| Within.refl _ _
  · exact Within.step (State.mapWriteSet_within ..) (by decide) <| Within.refl _ _
  · exact Within.step (State.mapDescribe_within ..) (by decide) <| Within.refl _ _
  · exact Within.step (State.mapLock_within ..) (by decide) <| Within.refl _ _
  · exact Within.step (State.mapUnlock_within ..) (by decide) <| Within.refl _ _
  · exact Within.step (State.answer_within ..) (by decide) <| Within.step (State.endSession_within ..) (by decide) <| Within.refl _ _
  · exact Within.step (State.mapInitDown_within ..) (by decide) <| Within.refl _ _
  · exact Within.step (State.mapEndDown_within ..) (by decide) <| Within.refl _ _
  · exact Within.step (State.mapInitUp_within ..) (by decide) <| Within.refl _ _
  · exact Within.step (State.answer_within ..) (by decide) <| Within.step (State.abortTransfer_within ..) (by decide) <| Within.refl _ _
  · exact Within.refl _ _

theorem State.mapRequest_within (s : State) (op : Nat) (m : MapMsg) : Within [.reply, .freeCount, .regs, .blobs, .tickRegs, .mem, .power, .boot, .access, .time, .fabric, .lens, .phasor, .goose, .logic, .facets, .capture, .pair, .log, .health, .can, .sec] s (State.mapRequest s op m) := by
  unfold State.mapRequest
  split
  · exact Within.step (State.mapDown_within ..) (by decide) <| Within.refl _ _
  · exact Within.step (State.mapUp_within ..) (by decide) <| Within.refl _ _
  · refine State.request97_within _ _ _ (fun _ _ => ?_) (by decide) ?_
    · exact Within.step (State.mapExec_within ..) (by decide) <| Within.refl _ _
    · exact Within.refl _ _

theorem State.cabExec_within (s : State) (cmd : Nat) (q : Requester) (r : CabReq) : Within [.reply, .freeCount, .regs, .blobs, .tickRegs, .mem, .power, .boot, .access, .time, .fabric, .lens, .phasor, .goose, .logic, .facets, .capture, .pair, .log, .health, .can, .sec] s (State.cabExec s cmd q r).2.2.2 := by
  unfold State.cabExec
  split
  · exact Within.step (State.cabRead_within ..) (by decide) <| Within.refl _ _
  · exact Within.step (State.cabWrite_within ..) (by decide) <| Within.refl _ _
  · exact Within.step (State.cabInitDown_within ..) (by decide) <| Within.refl _ _
  · exact Within.step (State.cabDown_within ..) (by decide) <| Within.refl _ _
  · exact Within.step (State.cabEnd_within ..) (by decide) <| Within.refl _ _
  · exact Within.step (State.cabInitUp_within ..) (by decide) <| Within.refl _ _
  · exact Within.step (State.cabUp_within ..) (by decide) <| Within.refl _ _
  · dsimp only
    exact Within.step (State.cabAbort_within ..) (by decide) <| Within.refl _ _

theorem State.rowSegment_within (s : State) (sess : Nat) (key : Nat) (data : ByteList) : Within [.reply, .boot, .facets, .log] s (State.rowSegment s sess key data) := by
  unfold State.rowSegment
  split
  refine Within.step (State.answer_within ..) (by decide) ?_
  refine Within.ofEq (by assumption) ?_
  exact Within.step (State.streamSegment_within ..) (by decide) <| Within.refl _ _

theorem State.rowRead_within (s : State) (q : Requester) (key : Nat) : Within [.reply, .freeCount, .time, .sec] s (State.rowRead s q key) := by
  unfold State.rowRead
  split
  refine Within.step (State.answer_within ..) (by decide) ?_
  refine Within.ofEq4 (by assumption) ?_
  exact Within.step (State.dictRead_within ..) (by decide) <| Within.refl _ _

theorem State.runOne_within (s : State) (w : Waiting) : Within [.reply, .freeCount, .regs, .blobs, .tickRegs, .mem, .power, .boot, .access, .time, .fabric, .lens, .phasor, .goose, .logic, .facets, .capture, .pair, .log, .health, .can, .sec] s (State.runOne s w) := by
  unfold State.runOne
  split
  · exact Within.step (State.mapRequest_within ..) (by decide) <| Within.refl _ _
  · refine State.cabinet_within _ _ _ (fun _ _ => ?_) (by decide) ?_
    · exact Within.step (State.cabExec_within ..) (by decide) <| Within.refl _ _
    · exact Within.refl _ _
  · exact Within.step (State.writeOne_within ..) (by decide) <| Within.refl _ _
  · exact Within.step (State.rowRead_within ..) (by decide) <| Within.refl _ _
  · exact Within.step (State.rowSegment_within ..) (by decide) <| Within.refl _ _

theorem State.runWaiting_within (s : State) (l : List Waiting) : Within [.reply, .freeCount, .regs, .blobs, .tickRegs, .mem, .power, .boot, .access, .time, .fabric, .lens, .phasor, .goose, .logic, .facets, .capture, .pair, .log, .health, .can, .sec] s (State.runWaiting s l) := by
  induction l generalizing s with
  | nil => exact Within.refl _ _
  | cons w l ih =>
    unfold State.runWaiting
    refine Within.ite (fun _ => Within.upd <| Within.refl _ _) (fun _ => ?_)
    exact Within.step (ih _) (fun _ => id) <| Within.step (State.runOne_within ..) (by decide) <| Within.refl _ _

theorem State.finishForward_within (s : State) (f : Forward) : Within [.reply, .freeCount, .regs, .blobs, .tickRegs, .mem, .power, .boot, .access, .time, .fabric, .lens, .phasor, .goose, .logic, .facets, .capture, .pair, .log, .health, .can, .sec] s (State.finishForward s f) := by
  unfold State.finishForward
  extract_lets z0 z1
  split
  extract_lets z2 z3
  refine Within.ite (fun _ => ?_) (fun _ => ?_)
  · unfold z2
    refine Within.step (State.completeDue_within ..) (by decide) <| Within.step (State.answer_within ..) (by decide) ?_
    refine Within.ofEq (by assumption) ?_
    refine Within.step (State.applyItems_within ..) (by decide) ?_
    unfold z1
    exact Within.upd <| Within.refl _ _
  · refine Within.step (State.runWaiting_within ..) (by decide) <| Within.upd ?_
    unfold z2
    refine Within.step (State.completeDue_within ..) (by decide) <| Within.step (State.answer_within ..) (by decide) ?_
    refine Within.ofEq (by assumption) ?_
    refine Within.step (State.applyItems_within ..) (by decide) ?_
    unfold z1
    exact Within.upd <| Within.refl _ _

theorem State.agNotify_within (s : State) (n : Nat) (v : Nat) : Within [.log] s (State.agNotify s n v) := by
  unfold State.agNotify
  exact Within.upd <| Within.refl _ _

theorem State.timePage_within (s : State) (n : Nat) (offset : Nat) (v : Nat) : Within [.reply, .regs, .time, .facets, .log] s (State.timePage s n offset v) := by
  unfold State.timePage
  dsimp only
  refine Within.ite (fun _ => ?_) (fun _ => ?_)
  · exact Within.step (State.accessFault_within ..) (by decide) <| Within.refl _ _
  · split
    · refine Within.ite (fun _ => ?_) (fun _ => ?_)
      · exact Within.step (State.tpoSettings_within ..) (by decide) <| Within.step (State.setReg_within ..) (by decide) <| Within.step (State.setReg_within ..) (by decide) <| Within.step (State.setReg_within ..) (by decide) <| Within.step (State.setReg_within ..) (by decide) <| Within.step (State.setReg_within ..) (by decide) <| Within.refl _ _
      · exact Within.step (State.setTpo_within ..) (by decide) <| Within.refl _ _
    · exact Within.step (State.tpoStart_within ..) (by decide) <| Within.refl _ _
    · refine Within.ite (fun _ => ?_) (fun _ => ?_)
      · exact Within.step (State.tpoSettings_within ..) (by decide) <| Within.step (State.setReg_within ..) (by decide) <| Within.step (State.setReg_within ..) (by decide) <| Within.refl _ _
      · exact Within.step (State.setTpo_within ..) (by decide) <| Within.refl _ _
    · exact Within.refl _ _

theorem State.goosePage_within (s : State) (n : Nat) (offset : Nat) (v : Nat) : Within [.regs, .goose, .facets] s (State.goosePage s n offset v) := by
  unfold State.goosePage
  refine Within.ite (fun _ => ?_) (fun _ => ?_)
  · exact Within.step (State.mapFacet_within ..) (by decide) <| Within.refl _ _
  · refine Within.ite (fun _ => ?_) (fun _ => ?_)
    · exact Within.step (State.submit_within ..) (by decide) <| Within.refl _ _
    · refine Within.ite (fun _ => ?_) (fun _ => ?_)
      · exact Within.step (State.mapFacet_within ..) (by decide) <| Within.refl _ _
      · exact Within.refl _ _

theorem State.dispatchPage_within (s : State) (n : Nat) (offset : Nat) (v : Nat) : Within [.facets] s (State.dispatchPage s n offset v) := by
  unfold State.dispatchPage
  split
  · exact Within.step (State.mapFacet_within ..) (by decide) <| Within.refl _ _
  · exact Within.step (State.taskDone_within ..) (by decide) <| Within.refl _ _
  · exact Within.step (State.taskPost_within ..) (by decide) <| Within.refl _ _
  · exact Within.step (State.taskWord_within ..) (by decide) <| Within.refl _ _
  · exact Within.step (State.mapFacet_within ..) (by decide) <| Within.refl _ _
  · exact Within.step (State.mapFacet_within ..) (by decide) <| Within.refl _ _
  · refine Within.ite (fun _ => ?_) (fun _ => ?_)
    · exact Within.step (State.bindWrite_within ..) (by decide) <| Within.refl _ _
    · exact Within.refl _ _

theorem State.windowWrite_within (s : State) (n : Nat) (offset : Nat) (v : Nat) : Within [.reply, .freeCount, .regs, .boot, .time, .goose, .facets, .log] s (State.windowWrite s n offset v) := by
  unfold State.windowWrite
  refine Within.ite (fun _ => ?_) (fun _ => ?_)
  · exact Within.refl _ _
  · refine Within.ite (fun _ => ?_) (fun _ => ?_)
    · refine Within.ite (fun _ => ?_) (fun _ => ?_)
      · exact Within.step (State.phase9_within ..) (by decide) <| Within.step (State.setReady_within ..) (by decide) <| Within.refl _ _
      · exact Within.step (State.setReady_within ..) (by decide) <| Within.refl _ _
    · refine Within.ite (fun _ => ?_) (fun _ => ?_)
      · exact Within.step (State.mirrorSet_within ..) (by decide) <| Within.refl _ _
      · refine Within.ite (fun _ => ?_) (fun _ => ?_)
        · exact Within.step (State.mirrorSet_within ..) (by decide) <| Within.refl _ _
        · refine Within.ite (fun _ => ?_) (fun _ => ?_)
          · exact Within.step (State.outSlotWrite_within ..) (by decide) <| Within.refl _ _
          · refine Within.ite (fun _ => ?_) (fun _ => ?_)
            · exact Within.step (State.inConsWrite_within ..) (by decide) <| Within.refl _ _
            · refine Within.ite (fun _ => ?_) (fun _ => ?_)
              · exact Within.step (State.outProdWrite_within ..) (by decide) <| Within.refl _ _
              · refine Within.ite (fun _ => ?_) (fun _ => ?_)
                · exact Within.step (State.mboxCtrlWrite_within ..) (by decide) <| Within.refl _ _
                · refine Within.ite (fun _ => ?_) (fun _ => ?_)
                  · exact Within.step (State.mboxStatusWrite_within ..) (by decide) <| Within.refl _ _
                  · refine Within.ite (fun _ => ?_) (fun _ => ?_)
                    · exact Within.step (State.dmaSubmit_within ..) (by decide) <| Within.refl _ _
                    · refine Within.ite (fun _ => ?_) (fun _ => ?_)
                      · extract_lets z0
                        split
                        · exact Within.step (State.nqRingWrite_within ..) (by decide) <| Within.refl _ _
                        · exact Within.step (State.nqTxWrite_within ..) (by decide) <| Within.refl _ _
                        · exact Within.step (State.nqRxWrite_within ..) (by decide) <| Within.refl _ _
                        · exact Within.refl _ _
                      · refine Within.ite (fun _ => ?_) (fun _ => ?_)
                        · exact Within.step (State.swbOp_within ..) (by decide) <| Within.refl _ _
                        · refine Within.ite (fun _ => ?_) (fun _ => ?_)
                          · exact Within.step (State.goosePage_within ..) (by decide) <| Within.refl _ _
                          · refine Within.ite (fun _ => ?_) (fun _ => ?_)
                            · exact Within.step (State.dispatchPage_within ..) (by decide) <| Within.refl _ _
                            · refine Within.ite (fun _ => ?_) (fun _ => ?_)
                              · exact Within.step (State.fill_within ..) (by decide) <| Within.refl _ _
                              · refine Within.ite (fun _ => ?_) (fun _ => ?_)
                                · exact Within.step (State.agNotify_within ..) (by decide) <| Within.refl _ _
                                · refine Within.ite (fun _ => ?_) (fun _ => ?_)
                                  · exact Within.step (State.timePage_within ..) (by decide) <| Within.refl _ _
                                  · exact Within.refl _ _

theorem State.statusRead_within (s : State) (n : Nat) : Within [.facets] s (State.statusRead s n) := by
  unfold State.statusRead
  exact Within.step (State.mapFacet_within ..) (by decide) <| Within.refl _ _

theorem State.readWindow_within (s : State) (n : Nat) (offset : Nat) : Within [.reply, .facets, .log] s (State.readWindow s n offset) := by
  unfold State.readWindow
  extract_lets z0
  refine Within.ite (fun _ => ?_) (fun _ => ?_)
  · refine Within.step (State.statusRead_within ..) (by decide) ?_
    unfold z0
    exact Within.step (State.answer_within ..) (by decide) <| Within.refl _ _
  · refine Within.ite (fun _ => ?_) (fun _ => ?_)
    · refine Within.step (State.accessFault_within ..) (by decide) ?_
      unfold z0
      exact Within.step (State.answer_within ..) (by decide) <| Within.refl _ _
    · unfold z0
      exact Within.step (State.answer_within ..) (by decide) <| Within.refl _ _

theorem opRead_within (m : MapMsg) (s : State) : Within [.reply, .freeCount, .boot, .access, .time, .logic, .capture, .sec] s (opRead m s) := by
  unfold opRead
  refine State.request97_within _ _ _ (fun _ _ => ?_) (by decide) ?_
  · exact Within.step (State.mapRead_within ..) (by decide) <| Within.refl _ _
  · exact Within.refl _ _

theorem opWrite_within (m : MapMsg) (s : State) : Within [.reply, .freeCount, .regs, .blobs, .tickRegs, .mem, .power, .boot, .access, .time, .fabric, .lens, .phasor, .goose, .logic, .facets, .capture, .pair, .log, .health, .can, .sec] s (opWrite m s) := by
  unfold opWrite
  refine State.request97_within _ _ _ (fun _ _ => ?_) (by decide) ?_
  · exact Within.step (State.mapWrite_within ..) (by decide) <| Within.refl _ _
  · exact Within.refl _ _

theorem opWriteSet_within (m : MapMsg) (s : State) : Within [.reply, .freeCount, .regs, .blobs, .tickRegs, .mem, .power, .boot, .access, .time, .fabric, .lens, .phasor, .goose, .logic, .facets, .capture, .pair, .log, .health, .can, .sec] s (opWriteSet m s) := by
  unfold opWriteSet
  refine State.request97_within _ _ _ (fun _ _ => ?_) (by decide) ?_
  · exact Within.step (State.mapWriteSet_within ..) (by decide) <| Within.refl _ _
  · exact Within.refl _ _

theorem opDescribe_within (m : MapMsg) (s : State) : Within [.reply, .boot, .access, .logic, .capture] s (opDescribe m s) := by
  unfold opDescribe
  refine State.request97_within _ _ _ (fun _ _ => ?_) (by decide) ?_
  · exact Within.step (State.mapDescribe_within ..) (by decide) <| Within.refl _ _
  · exact Within.refl _ _

theorem opLock_within (m : MapMsg) (s : State) : Within [.reply, .boot, .access, .logic, .facets, .capture, .log] s (opLock m s) := by
  unfold opLock
  refine State.request97_within _ _ _ (fun _ _ => ?_) (by decide) ?_
  · exact Within.step (State.mapLock_within ..) (by decide) <| Within.refl _ _
  · exact Within.refl _ _

theorem opUnlock_within (m : MapMsg) (s : State) : Within [.reply, .boot, .access, .logic, .facets, .capture, .log] s (opUnlock m s) := by
  unfold opUnlock
  refine State.request97_within _ _ _ (fun _ _ => ?_) (by decide) ?_
  · exact Within.step (State.mapUnlock_within ..) (by decide) <| Within.refl _ _
  · exact Within.refl _ _

theorem opClose_within (m : MapMsg) (s : State) : Within [.reply, .boot, .access, .logic, .facets, .capture, .log, .sec] s (opClose m s) := by
  unfold opClose
  refine State.request97_within _ _ _ (fun _ _ => ?_) (by decide) ?_
  · exact Within.step (State.answer_within ..) (by decide) <| Within.step (State.endSession_within ..) (by decide) <| Within.refl _ _
  · exact Within.refl _ _

theorem opSegInitDown_within (m : MapMsg) (s : State) : Within [.reply, .boot, .access, .logic, .facets, .capture, .log] s (opSegInitDown m s) := by
  unfold opSegInitDown
  refine State.request97_within _ _ _ (fun _ _ => ?_) (by decide) ?_
  · exact Within.step (State.mapInitDown_within ..) (by decide) <| Within.refl _ _
  · exact Within.refl _ _

theorem opSegDown_within (m : MapMsg) (s : State) : Within [.reply, .boot, .access, .logic, .facets, .capture, .log] s (opSegDown m s) := by
  unfold opSegDown
  exact Within.step (State.mapDown_within ..) (by decide) <| Within.refl _ _

theorem opSegEndDown_within (m : MapMsg) (s : State) : Within [.reply, .freeCount, .regs, .blobs, .tickRegs, .mem, .power, .boot, .access, .time, .fabric, .lens, .phasor, .goose, .logic, .facets, .capture, .pair, .log, .health, .can, .sec] s (opSegEndDown m s) := by
  unfold opSegEndDown
  refine State.request97_within _ _ _ (fun _ _ => ?_) (by decide) ?_
  · exact Within.step (State.mapEndDown_within ..) (by decide) <| Within.refl _ _
  · exact Within.refl _ _

theorem opSegInitUp_within (m : MapMsg) (s : State) : Within [.reply, .freeCount, .boot, .access, .time, .logic, .capture, .sec] s (opSegInitUp m s) := by
  unfold opSegInitUp
  refine State.request97_within _ _ _ (fun _ _ => ?_) (by decide) ?_
  · exact Within.step (State.mapInitUp_within ..) (by decide) <| Within.refl _ _
  · exact Within.refl _ _

theorem opSegUp_within (m : MapMsg) (s : State) : Within [.reply, .access, .capture] s (opSegUp m s) := by
  unfold opSegUp
  exact Within.step (State.mapUp_within ..) (by decide) <| Within.refl _ _

theorem opAbort_within (m : MapMsg) (s : State) : Within [.reply, .boot, .access, .logic, .capture] s (opAbort m s) := by
  unfold opAbort
  refine State.request97_within _ _ _ (fun _ _ => ?_) (by decide) ?_
  · exact Within.step (State.answer_within ..) (by decide) <| Within.step (State.abortTransfer_within ..) (by decide) <| Within.refl _ _
  · exact Within.refl _ _

theorem opDtlsHandshake_within (identity : ByteList) (offer : DtlsOffer) (s : State) : Within [.reply, .access, .facets, .log] s (opDtlsHandshake identity offer s) := by
  unfold opDtlsHandshake
  refine Within.when _ _ (fun _ => ?_) ?_
  · exact Within.step (State.handshake_within ..) (by decide) <| Within.refl _ _
  · exact Within.refl _ _

theorem opCloseNotify_within (sess : Nat) (s : State) : Within [.boot, .access, .logic, .facets, .capture, .log, .sec] s (opCloseNotify sess s) := by
  unfold opCloseNotify
  refine Within.when _ _ (fun _ => ?_) ?_
  · exact Within.step (State.endSession_within ..) (by decide) <| Within.refl _ _
  · exact Within.refl _ _

theorem opSessionIdleTimeout_within (sess : Nat) (s : State) : Within [.boot, .access, .logic, .facets, .capture, .log, .sec] s (opSessionIdleTimeout sess s) := by
  unfold opSessionIdleTimeout
  refine Within.when _ _ (fun _ => ?_) ?_
  · exact Within.step (State.endSession_within ..) (by decide) <| Within.refl _ _
  · exact Within.refl _ _

theorem opLockExpiry_within (first : Nat) (s : State) : Within [.access, .facets, .log] s (opLockExpiry first s) := by
  unfold opLockExpiry
  refine Within.when _ _ (fun _ => ?_) ?_
  · exact Within.step (State.lockExpires_within ..) (by decide) <| Within.refl _ _
  · exact Within.refl _ _

theorem opTransferTimeout_within (sess : Nat) (s : State) : Within [.boot, .access, .logic, .capture] s (opTransferTimeout sess s) := by
  unfold opTransferTimeout
  refine Within.when _ _ (fun _ => ?_) ?_
  · exact Within.step (State.abortTransfer_within ..) (by decide) <| Within.refl _ _
  · exact Within.refl _ _

theorem opForwardedWrite_within (tag : MirrorTag) (count : Nat) (items : ValList) (s : State) : Within [.reply, .freeCount, .regs, .blobs, .tickRegs, .mem, .power, .boot, .access, .time, .fabric, .lens, .phasor, .goose, .logic, .facets, .capture, .pair, .log, .health, .can, .sec] s (opForwardedWrite tag count items s) := by
  unfold opForwardedWrite
  refine Within.when _ _ (fun _ => ?_) ?_
  · refine State.tagTakes_within _ _ _ (fun _ => ?_) (by decide) ?_
    · extract_lets z0
      refine Within.ite (fun _ => ?_) (fun _ => ?_)
      · exact Within.refl _ _
      · refine Within.ite (fun _ => ?_) (fun _ => ?_)
        · split
          refine Within.step (State.post_within ..) (by decide) <| Within.upd ?_
          refine Within.ofEq (by assumption) ?_
          exact Within.step (State.applyItems_within ..) (by decide) <| Within.refl _ _
        · refine Within.ite (fun _ => ?_) (fun _ => ?_)
          · exact Within.step (State.setElig_within ..) (by decide) <| Within.refl _ _
          · exact Within.refl _ _
    · exact Within.refl _ _
  · exact Within.refl _ _

theorem opForwardAcknowledgement_within (tag : MirrorTag) (count : Nat) (ok : Bool) (s : State) : Within [.reply, .freeCount, .regs, .blobs, .tickRegs, .mem, .power, .boot, .access, .time, .fabric, .lens, .phasor, .goose, .logic, .facets, .capture, .pair, .log, .health, .can, .sec] s (opForwardAcknowledgement tag count ok s) := by
  unfold opForwardAcknowledgement
  refine Within.when _ _ (fun _ => ?_) ?_
  · refine State.tagTakes_within _ _ _ (fun _ => ?_) (by decide) ?_
    · split
      · refine Within.ite (fun _ => ?_) (fun _ => ?_)
        · refine Within.step (State.finishForward_within ..) (by decide) ?_
          refine Within.ite (fun _ => ?_) (fun _ => ?_)
          · exact Within.refl _ _
          · exact State.setPair_within _ (fun _ => ⟨rfl, rfl⟩) (by decide) <| Within.refl _ _
        · exact Within.refl _ _
      · exact Within.refl _ _
    · exact Within.refl _ _
  · exact Within.refl _ _

theorem opForwardAckTimeout_within (s : State) : Within [.reply, .freeCount, .regs, .blobs, .tickRegs, .mem, .power, .boot, .access, .time, .fabric, .lens, .phasor, .goose, .logic, .facets, .capture, .pair, .log, .health, .can, .sec] s (opForwardAckTimeout s) := by
  unfold opForwardAckTimeout
  refine Within.when _ _ (fun _ => ?_) ?_
  · split
    · exact Within.step (State.finishForward_within ..) (by decide) <| Within.refl _ _
    · exact Within.refl _ _
  · exact Within.refl _ _

theorem opCabinetRead_within (r : CabReq) (s : State) : Within [.reply, .freeCount, .access, .time, .can, .sec] s (opCabinetRead r s) := by
  unfold opCabinetRead
  refine Within.when _ _ (fun _ => ?_) ?_
  · refine State.cabinet_within _ _ _ (fun _ _ => ?_) (by decide) ?_
    · exact Within.step (State.cabRead_within ..) (by decide) <| Within.refl _ _
    · exact Within.refl _ _
  · exact Within.refl _ _

theorem opCabinetWrite_within (r : CabReq) (s : State) : Within [.reply, .freeCount, .regs, .blobs, .tickRegs, .mem, .power, .boot, .access, .time, .fabric, .lens, .phasor, .goose, .logic, .facets, .capture, .pair, .log, .health, .can, .sec] s (opCabinetWrite r s) := by
  unfold opCabinetWrite
  refine Within.when _ _ (fun _ => ?_) ?_
  · refine State.cabinet_within _ _ _ (fun _ _ => ?_) (by decide) ?_
    · exact Within.step (State.cabWrite_within ..) (by decide) <| Within.refl _ _
    · exact Within.refl _ _
  · exact Within.refl _ _

theorem opCabinetSegmentInitDown_within (r : CabReq) (s : State) : Within [.reply, .boot, .access, .logic, .facets, .log, .can] s (opCabinetSegmentInitDown r s) := by
  unfold opCabinetSegmentInitDown
  refine Within.when _ _ (fun _ => ?_) ?_
  · refine State.cabinet_within _ _ _ (fun _ _ => ?_) (by decide) ?_
    · exact Within.step (State.cabInitDown_within ..) (by decide) <| Within.refl _ _
    · exact Within.refl _ _
  · exact Within.refl _ _

theorem opCabinetSegmentDown_within (r : CabReq) (s : State) : Within [.reply, .boot, .access, .facets, .log, .can] s (opCabinetSegmentDown r s) := by
  unfold opCabinetSegmentDown
  refine Within.when _ _ (fun _ => ?_) ?_
  · refine State.cabinet_within _ _ _ (fun _ _ => ?_) (by decide) ?_
    · exact Within.step (State.cabDown_within ..) (by decide) <| Within.refl _ _
    · exact Within.refl _ _
  · exact Within.refl _ _

theorem opCabinetSegmentEnd_within (r : CabReq) (s : State) : Within [.reply, .freeCount, .regs, .blobs, .tickRegs, .mem, .power, .boot, .access, .time, .fabric, .lens, .phasor, .goose, .logic, .facets, .capture, .pair, .log, .health, .can, .sec] s (opCabinetSegmentEnd r s) := by
  unfold opCabinetSegmentEnd
  refine Within.when _ _ (fun _ => ?_) ?_
  · refine State.cabinet_within _ _ _ (fun _ _ => ?_) (by decide) ?_
    · exact Within.step (State.cabEnd_within ..) (by decide) <| Within.refl _ _
    · exact Within.refl _ _
  · exact Within.refl _ _

theorem opCabinetSegmentInitUp_within (r : CabReq) (s : State) : Within [.reply, .freeCount, .access, .time, .can, .sec] s (opCabinetSegmentInitUp r s) := by
  unfold opCabinetSegmentInitUp
  refine Within.when _ _ (fun _ => ?_) ?_
  · refine State.cabinet_within _ _ _ (fun _ _ => ?_) (by decide) ?_
    · exact Within.step (State.cabInitUp_within ..) (by decide) <| Within.refl _ _
    · exact Within.refl _ _
  · exact Within.refl _ _

theorem opCabinetSegmentUp_within (r : CabReq) (s : State) : Within [.reply, .access, .capture, .can] s (opCabinetSegmentUp r s) := by
  unfold opCabinetSegmentUp
  refine Within.when _ _ (fun _ => ?_) ?_
  · refine State.cabinet_within _ _ _ (fun _ _ => ?_) (by decide) ?_
    · exact Within.step (State.cabUp_within ..) (by decide) <| Within.refl _ _
    · exact Within.refl _ _
  · exact Within.refl _ _

theorem opCabinetAbort_within (r : CabReq) (s : State) : Within [.reply, .boot, .access, .logic, .capture, .can] s (opCabinetAbort r s) := by
  unfold opCabinetAbort
  refine Within.when _ _ (fun _ => ?_) ?_
  · refine State.cabinet_within _ _ _ (fun _ _ => ?_) (by decide) ?_
    · dsimp only
      exact Within.step (State.cabAbort_within ..) (by decide) <| Within.refl _ _
    · exact Within.refl _ _
  · exact Within.refl _ _

theorem opCabinetNodeStateRelease_within (node : Nat) (s : State) : Within [.boot, .access, .logic, .capture, .log] s (opCabinetNodeStateRelease node s) := by
  unfold opCabinetNodeStateRelease
  refine Within.when _ _ (fun _ => ?_) ?_
  · exact Within.step (State.cabRelease_within ..) (by decide) <| Within.refl _ _
  · exact Within.refl _ _

theorem opCabinetTransferTimeout_within (node : Nat) (s : State) : Within [.boot, .access, .logic, .capture] s (opCabinetTransferTimeout node s) := by
  unfold opCabinetTransferTimeout
  refine Within.when _ _ (fun _ => ?_) ?_
  · exact Within.step (State.cabAbort_within ..) (by decide) <| Within.refl _ _
  · exact Within.refl _ _

theorem opOverlaySave_within (s : State) : Within [.reply, .freeCount, .regs, .blobs, .tickRegs, .mem, .power, .boot, .access, .time, .fabric, .lens, .phasor, .goose, .logic, .facets, .capture, .pair, .log, .health, .can, .sec] s (opOverlaySave s) := by
  unfold opOverlaySave
  exact Within.step (State.rowWrite_within ..) (by decide) <| Within.refl _ _

theorem opOverlayDiscard_within (s : State) : Within [.reply, .freeCount, .regs, .blobs, .tickRegs, .mem, .power, .boot, .access, .time, .fabric, .lens, .phasor, .goose, .logic, .facets, .capture, .pair, .log, .health, .can, .sec] s (opOverlayDiscard s) := by
  unfold opOverlayDiscard
  exact Within.step (State.rowWrite_within ..) (by decide) <| Within.refl _ _

theorem opRegisterWrite_within (tgt : RegTarget) (s : State) : Within [.reply, .freeCount, .regs, .blobs, .tickRegs, .mem, .power, .boot, .access, .time, .fabric, .lens, .phasor, .goose, .logic, .facets, .capture, .pair, .log, .health, .can, .sec] s (opRegisterWrite tgt s) := by
  unfold opRegisterWrite
  split
  · exact Within.step (State.rowWrite_within ..) (by decide) <| Within.refl _ _
  · refine Within.when _ _ (fun _ => ?_) ?_
    · exact Within.step (State.windowWrite_within ..) (by decide) <| Within.refl _ _
    · exact Within.refl _ _

theorem State.rowWriteIO_within (s : State) (key : Nat) (v : Val) : Within [.reply, .freeCount, .regs, .blobs, .tickRegs, .mem, .power, .boot, .access, .time, .fabric, .lens, .phasor, .goose, .logic, .facets, .capture, .pair, .log, .health, .can, .sec] s (State.rowWriteIO s key v) := by
  unfold State.rowWriteIO
  refine Within.ite (fun _ => ?_) (fun _ => ?_)
  · exact Within.step (State.answer_within ..) (by decide) <| Within.refl _ _
  · refine Within.when _ _ (fun _ => ?_) ?_
    · refine State.inTurn_within _ _ (fun _ => ?_) (by decide) ?_
      · exact Within.step (State.writeOne_within ..) (by decide) <| Within.refl _ _
      · exact Within.refl _ _
    · exact Within.refl _ _

theorem opClusterPairOff_within (d : Nat) (s : State) : Within [.reply, .freeCount, .regs, .blobs, .tickRegs, .mem, .power, .boot, .access, .time, .fabric, .lens, .phasor, .goose, .logic, .facets, .capture, .pair, .log, .health, .can, .sec] s (opClusterPairOff d s) := by
  unfold opClusterPairOff
  exact Within.step (State.rowWriteIO_within ..) (by decide) <| Within.refl _ _

theorem opClusterPairOn_within (d : Nat) (s : State) : Within [.reply, .freeCount, .regs, .blobs, .tickRegs, .mem, .power, .boot, .access, .time, .fabric, .lens, .phasor, .goose, .logic, .facets, .capture, .pair, .log, .health, .can, .sec] s (opClusterPairOn d s) := by
  unfold opClusterPairOn
  exact Within.step (State.rowWriteIO_within ..) (by decide) <| Within.refl _ _

theorem opOrderlyReset_within (s : State) : Within [.reply, .freeCount, .regs, .blobs, .tickRegs, .mem, .power, .boot, .access, .time, .fabric, .lens, .phasor, .goose, .logic, .facets, .capture, .pair, .log, .health, .can, .sec] s (opOrderlyReset s) := by
  unfold opOrderlyReset
  exact Within.step (State.rowWrite_within ..) (by decide) <| Within.refl _ _

theorem opForcedReset_within (s : State) : Within [.reply, .freeCount, .regs, .blobs, .tickRegs, .mem, .power, .boot, .access, .time, .fabric, .lens, .phasor, .goose, .logic, .facets, .capture, .pair, .log, .health, .can, .sec] s (opForcedReset s) := by
  unfold opForcedReset
  exact Within.step (State.rowWrite_within ..) (by decide) <| Within.refl _ _

theorem opInstallationBegin_within (sess : Nat) (s : State) : Within [.reply, .freeCount, .regs, .blobs, .tickRegs, .mem, .power, .boot, .access, .time, .fabric, .lens, .phasor, .goose, .logic, .facets, .capture, .pair, .log, .health, .can, .sec] s (opInstallationBegin sess s) := by
  unfold opInstallationBegin
  exact Within.step (State.rowWrite_within ..) (by decide) <| Within.refl _ _

theorem opInstallationAbort_within (sess : Nat) (s : State) : Within [.reply, .freeCount, .regs, .blobs, .tickRegs, .mem, .power, .boot, .access, .time, .fabric, .lens, .phasor, .goose, .logic, .facets, .capture, .pair, .log, .health, .can, .sec] s (opInstallationAbort sess s) := by
  unfold opInstallationAbort
  exact Within.step (State.rowWrite_within ..) (by decide) <| Within.refl _ _

theorem opInstallationVerify_within (sess : Nat) (s : State) : Within [.reply, .freeCount, .regs, .blobs, .tickRegs, .mem, .power, .boot, .access, .time, .fabric, .lens, .phasor, .goose, .logic, .facets, .capture, .pair, .log, .health, .can, .sec] s (opInstallationVerify sess s) := by
  unfold opInstallationVerify
  exact Within.step (State.rowWrite_within ..) (by decide) <| Within.refl _ _

theorem opTrialSlot_within (n : Nat) (s : State) : Within [.reply, .freeCount, .regs, .blobs, .tickRegs, .mem, .power, .boot, .access, .time, .fabric, .lens, .phasor, .goose, .logic, .facets, .capture, .pair, .log, .health, .can, .sec] s (opTrialSlot n s) := by
  unfold opTrialSlot
  exact Within.step (State.rowWrite_within ..) (by decide) <| Within.refl _ _

theorem opCommit_within (s : State) : Within [.reply, .freeCount, .regs, .blobs, .tickRegs, .mem, .power, .boot, .access, .time, .fabric, .lens, .phasor, .goose, .logic, .facets, .capture, .pair, .log, .health, .can, .sec] s (opCommit s) := by
  unfold opCommit
  exact Within.step (State.rowWrite_within ..) (by decide) <| Within.refl _ _

theorem opConfigurationBegin_within (sess : Nat) (s : State) : Within [.reply, .freeCount, .regs, .blobs, .tickRegs, .mem, .power, .boot, .access, .time, .fabric, .lens, .phasor, .goose, .logic, .facets, .capture, .pair, .log, .health, .can, .sec] s (opConfigurationBegin sess s) := by
  unfold opConfigurationBegin
  exact Within.step (State.rowWrite_within ..) (by decide) <| Within.refl _ _

theorem opConfigurationAbort_within (sess : Nat) (s : State) : Within [.reply, .freeCount, .regs, .blobs, .tickRegs, .mem, .power, .boot, .access, .time, .fabric, .lens, .phasor, .goose, .logic, .facets, .capture, .pair, .log, .health, .can, .sec] s (opConfigurationAbort sess s) := by
  unfold opConfigurationAbort
  exact Within.step (State.rowWrite_within ..) (by decide) <| Within.refl _ _

theorem opConfigurationVerify_within (sess : Nat) (s : State) : Within [.reply, .freeCount, .regs, .blobs, .tickRegs, .mem, .power, .boot, .access, .time, .fabric, .lens, .phasor, .goose, .logic, .facets, .capture, .pair, .log, .health, .can, .sec] s (opConfigurationVerify sess s) := by
  unfold opConfigurationVerify
  exact Within.step (State.rowWrite_within ..) (by decide) <| Within.refl _ _

theorem opActivatePending_within (s : State) : Within [.reply, .freeCount, .regs, .blobs, .tickRegs, .mem, .power, .boot, .access, .time, .fabric, .lens, .phasor, .goose, .logic, .facets, .capture, .pair, .log, .health, .can, .sec] s (opActivatePending s) := by
  unfold opActivatePending
  exact Within.step (State.rowWrite_within ..) (by decide) <| Within.refl _ _

theorem opActivatePrevious_within (s : State) : Within [.reply, .freeCount, .regs, .blobs, .tickRegs, .mem, .power, .boot, .access, .time, .fabric, .lens, .phasor, .goose, .logic, .facets, .capture, .pair, .log, .health, .can, .sec] s (opActivatePrevious s) := by
  unfold opActivatePrevious
  exact Within.step (State.rowWrite_within ..) (by decide) <| Within.refl _ _

theorem opStreamEnable_within (n : Nat) (s : State) : Within [.reply, .freeCount, .regs, .blobs, .tickRegs, .mem, .power, .boot, .access, .time, .fabric, .lens, .phasor, .goose, .logic, .facets, .capture, .pair, .log, .health, .can, .sec] s (opStreamEnable n s) := by
  unfold opStreamEnable
  exact Within.step (State.rowWrite_within ..) (by decide) <| Within.refl _ _

theorem opStreamDisable_within (n : Nat) (s : State) : Within [.reply, .freeCount, .regs, .blobs, .tickRegs, .mem, .power, .boot, .access, .time, .fabric, .lens, .phasor, .goose, .logic, .facets, .capture, .pair, .log, .health, .can, .sec] s (opStreamDisable n s) := by
  unfold opStreamDisable
  exact Within.step (State.rowWrite_within ..) (by decide) <| Within.refl _ _

theorem opStreamClearCounters_within (n : Nat) (s : State) : Within [.reply, .freeCount, .regs, .blobs, .tickRegs, .mem, .power, .boot, .access, .time, .fabric, .lens, .phasor, .goose, .logic, .facets, .capture, .pair, .log, .health, .can, .sec] s (opStreamClearCounters n s) := by
  unfold opStreamClearCounters
  exact Within.step (State.rowWrite_within ..) (by decide) <| Within.refl _ _

theorem opLensClearTotals_within (s : State) : Within [.reply, .freeCount, .regs, .blobs, .tickRegs, .mem, .power, .boot, .access, .time, .fabric, .lens, .phasor, .goose, .logic, .facets, .capture, .pair, .log, .health, .can, .sec] s (opLensClearTotals s) := by
  unfold opLensClearTotals
  exact Within.step (State.rowWrite_within ..) (by decide) <| Within.refl _ _

theorem opSummationGroupEnable_within (g : Nat) (s : State) : Within [.reply, .freeCount, .regs, .blobs, .tickRegs, .mem, .power, .boot, .access, .time, .fabric, .lens, .phasor, .goose, .logic, .facets, .capture, .pair, .log, .health, .can, .sec] s (opSummationGroupEnable g s) := by
  unfold opSummationGroupEnable
  exact Within.step (State.rowWrite_within ..) (by decide) <| Within.refl _ _

theorem opSummationGroupDisable_within (g : Nat) (s : State) : Within [.reply, .freeCount, .regs, .blobs, .tickRegs, .mem, .power, .boot, .access, .time, .fabric, .lens, .phasor, .goose, .logic, .facets, .capture, .pair, .log, .health, .can, .sec] s (opSummationGroupDisable g s) := by
  unfold opSummationGroupDisable
  exact Within.step (State.rowWrite_within ..) (by decide) <| Within.refl _ _

theorem opGroupClear_within (g : Nat) (s : State) : Within [.reply, .freeCount, .regs, .blobs, .tickRegs, .mem, .power, .boot, .access, .time, .fabric, .lens, .phasor, .goose, .logic, .facets, .capture, .pair, .log, .health, .can, .sec] s (opGroupClear g s) := by
  unfold opGroupClear
  exact Within.step (State.rowWrite_within ..) (by decide) <| Within.refl _ _

theorem opLaneEnable_within (l : Nat) (s : State) : Within [.reply, .freeCount, .regs, .blobs, .tickRegs, .mem, .power, .boot, .access, .time, .fabric, .lens, .phasor, .goose, .logic, .facets, .capture, .pair, .log, .health, .can, .sec] s (opLaneEnable l s) := by
  unfold opLaneEnable
  exact Within.step (State.rowWrite_within ..) (by decide) <| Within.refl _ _

theorem opLaneDisable_within (l : Nat) (s : State) : Within [.reply, .freeCount, .regs, .blobs, .tickRegs, .mem, .power, .boot, .access, .time, .fabric, .lens, .phasor, .goose, .logic, .facets, .capture, .pair, .log, .health, .can, .sec] s (opLaneDisable l s) := by
  unfold opLaneDisable
  exact Within.step (State.rowWrite_within ..) (by decide) <| Within.refl _ _

theorem opResetLatch_within (l : Nat) (s : State) : Within [.reply, .freeCount, .regs, .blobs, .tickRegs, .mem, .power, .boot, .access, .time, .fabric, .lens, .phasor, .goose, .logic, .facets, .capture, .pair, .log, .health, .can, .sec] s (opResetLatch l s) := by
  unfold opResetLatch
  exact Within.step (State.rowWrite_within ..) (by decide) <| Within.refl _ _

theorem opPublisherEnable_within (p : Nat) (s : State) : Within [.reply, .freeCount, .regs, .blobs, .tickRegs, .mem, .power, .boot, .access, .time, .fabric, .lens, .phasor, .goose, .logic, .facets, .capture, .pair, .log, .health, .can, .sec] s (opPublisherEnable p s) := by
  unfold opPublisherEnable
  exact Within.step (State.rowWrite_within ..) (by decide) <| Within.refl _ _

theorem opPublisherDisable_within (p : Nat) (s : State) : Within [.reply, .freeCount, .regs, .blobs, .tickRegs, .mem, .power, .boot, .access, .time, .fabric, .lens, .phasor, .goose, .logic, .facets, .capture, .pair, .log, .health, .can, .sec] s (opPublisherDisable p s) := by
  unfold opPublisherDisable
  exact Within.step (State.rowWrite_within ..) (by decide) <| Within.refl _ _

theorem opSubscriptionEnable_within (n : Nat) (s : State) : Within [.reply, .freeCount, .regs, .blobs, .tickRegs, .mem, .power, .boot, .access, .time, .fabric, .lens, .phasor, .goose, .logic, .facets, .capture, .pair, .log, .health, .can, .sec] s (opSubscriptionEnable n s) := by
  unfold opSubscriptionEnable
  exact Within.step (State.rowWrite_within ..) (by decide) <| Within.refl _ _

theorem opSubscriptionDisable_within (n : Nat) (s : State) : Within [.reply, .freeCount, .regs, .blobs, .tickRegs, .mem, .power, .boot, .access, .time, .fabric, .lens, .phasor, .goose, .logic, .facets, .capture, .pair, .log, .health, .can, .sec] s (opSubscriptionDisable n s) := by
  unfold opSubscriptionDisable
  exact Within.step (State.rowWrite_within ..) (by decide) <| Within.refl _ _

theorem opSubscriptionClearCounters_within (n : Nat) (s : State) : Within [.reply, .freeCount, .regs, .blobs, .tickRegs, .mem, .power, .boot, .access, .time, .fabric, .lens, .phasor, .goose, .logic, .facets, .capture, .pair, .log, .health, .can, .sec] s (opSubscriptionClearCounters n s) := by
  unfold opSubscriptionClearCounters
  exact Within.step (State.rowWrite_within ..) (by decide) <| Within.refl _ _

theorem opProgramStart_within (p : Nat) (s : State) : Within [.reply, .freeCount, .regs, .blobs, .tickRegs, .mem, .power, .boot, .access, .time, .fabric, .lens, .phasor, .goose, .logic, .facets, .capture, .pair, .log, .health, .can, .sec] s (opProgramStart p s) := by
  unfold opProgramStart
  exact Within.step (State.rowWrite_within ..) (by decide) <| Within.refl _ _

theorem opProgramStop_within (p : Nat) (s : State) : Within [.reply, .freeCount, .regs, .blobs, .tickRegs, .mem, .power, .boot, .access, .time, .fabric, .lens, .phasor, .goose, .logic, .facets, .capture, .pair, .log, .health, .can, .sec] s (opProgramStop p s) := by
  unfold opProgramStop
  exact Within.step (State.rowWrite_within ..) (by decide) <| Within.refl _ _

theorem opProgramClear_within (p : Nat) (s : State) : Within [.reply, .freeCount, .regs, .blobs, .tickRegs, .mem, .power, .boot, .access, .time, .fabric, .lens, .phasor, .goose, .logic, .facets, .capture, .pair, .log, .health, .can, .sec] s (opProgramClear p s) := by
  unfold opProgramClear
  exact Within.step (State.rowWrite_within ..) (by decide) <| Within.refl _ _

theorem opExchangeSwitch_within (p : Nat) (s : State) : Within [.reply, .freeCount, .regs, .blobs, .tickRegs, .mem, .power, .boot, .access, .time, .fabric, .lens, .phasor, .goose, .logic, .facets, .capture, .pair, .log, .health, .can, .sec] s (opExchangeSwitch p s) := by
  unfold opExchangeSwitch
  exact Within.step (State.rowWrite_within ..) (by decide) <| Within.refl _ _

theorem opExchangeDiscard_within (p : Nat) (s : State) : Within [.reply, .freeCount, .regs, .blobs, .tickRegs, .mem, .power, .boot, .access, .time, .fabric, .lens, .phasor, .goose, .logic, .facets, .capture, .pair, .log, .health, .can, .sec] s (opExchangeDiscard p s) := by
  unfold opExchangeDiscard
  exact Within.step (State.rowWrite_within ..) (by decide) <| Within.refl _ _

theorem opStationEnable_within (n : Nat) (s : State) : Within [.reply, .freeCount, .regs, .blobs, .tickRegs, .mem, .power, .boot, .access, .time, .fabric, .lens, .phasor, .goose, .logic, .facets, .capture, .pair, .log, .health, .can, .sec] s (opStationEnable n s) := by
  unfold opStationEnable
  exact Within.step (State.rowWrite_within ..) (by decide) <| Within.refl _ _

theorem opStationDisable_within (n : Nat) (s : State) : Within [.reply, .freeCount, .regs, .blobs, .tickRegs, .mem, .power, .boot, .access, .time, .fabric, .lens, .phasor, .goose, .logic, .facets, .capture, .pair, .log, .health, .can, .sec] s (opStationDisable n s) := by
  unfold opStationDisable
  exact Within.step (State.rowWrite_within ..) (by decide) <| Within.refl _ _

theorem opStationClear_within (n : Nat) (s : State) : Within [.reply, .freeCount, .regs, .blobs, .tickRegs, .mem, .power, .boot, .access, .time, .fabric, .lens, .phasor, .goose, .logic, .facets, .capture, .pair, .log, .health, .can, .sec] s (opStationClear n s) := by
  unfold opStationClear
  exact Within.step (State.rowWrite_within ..) (by decide) <| Within.refl _ _

theorem opFacetDefine_within (n : Nat) (s : State) : Within [.reply, .freeCount, .regs, .blobs, .tickRegs, .mem, .power, .boot, .access, .time, .fabric, .lens, .phasor, .goose, .logic, .facets, .capture, .pair, .log, .health, .can, .sec] s (opFacetDefine n s) := by
  unfold opFacetDefine
  exact Within.step (State.rowWrite_within ..) (by decide) <| Within.refl _ _

theorem opFacetDelete_within (n : Nat) (s : State) : Within [.reply, .freeCount, .regs, .blobs, .tickRegs, .mem, .power, .boot, .access, .time, .fabric, .lens, .phasor, .goose, .logic, .facets, .capture, .pair, .log, .health, .can, .sec] s (opFacetDelete n s) := by
  unfold opFacetDelete
  exact Within.step (State.rowWrite_within ..) (by decide) <| Within.refl _ _

theorem opLaunch_within (n : Nat) (s : State) : Within [.reply, .freeCount, .regs, .blobs, .tickRegs, .mem, .power, .boot, .access, .time, .fabric, .lens, .phasor, .goose, .logic, .facets, .capture, .pair, .log, .health, .can, .sec] s (opLaunch n s) := by
  unfold opLaunch
  exact Within.step (State.rowWrite_within ..) (by decide) <| Within.refl _ _

theorem opFreeze_within (n : Nat) (s : State) : Within [.reply, .freeCount, .regs, .blobs, .tickRegs, .mem, .power, .boot, .access, .time, .fabric, .lens, .phasor, .goose, .logic, .facets, .capture, .pair, .log, .health, .can, .sec] s (opFreeze n s) := by
  unfold opFreeze
  exact Within.step (State.rowWrite_within ..) (by decide) <| Within.refl _ _

theorem opThaw_within (n : Nat) (s : State) : Within [.reply, .freeCount, .regs, .blobs, .tickRegs, .mem, .power, .boot, .access, .time, .fabric, .lens, .phasor, .goose, .logic, .facets, .capture, .pair, .log, .health, .can, .sec] s (opThaw n s) := by
  unfold opThaw
  exact Within.step (State.rowWrite_within ..) (by decide) <| Within.refl _ _

theorem opSave_within (n : Nat) (s : State) : Within [.reply, .freeCount, .regs, .blobs, .tickRegs, .mem, .power, .boot, .access, .time, .fabric, .lens, .phasor, .goose, .logic, .facets, .capture, .pair, .log, .health, .can, .sec] s (opSave n s) := by
  unfold opSave
  exact Within.step (State.rowWrite_within ..) (by decide) <| Within.refl _ _

theorem opRestore_within (n : Nat) (s : State) : Within [.reply, .freeCount, .regs, .blobs, .tickRegs, .mem, .power, .boot, .access, .time, .fabric, .lens, .phasor, .goose, .logic, .facets, .capture, .pair, .log, .health, .can, .sec] s (opRestore n s) := by
  unfold opRestore
  exact Within.step (State.rowWrite_within ..) (by decide) <| Within.refl _ _

theorem opFacetReset_within (n : Nat) (s : State) : Within [.reply, .freeCount, .regs, .blobs, .tickRegs, .mem, .power, .boot, .access, .time, .fabric, .lens, .phasor, .goose, .logic, .facets, .capture, .pair, .log, .health, .can, .sec] s (opFacetReset n s) := by
  unfold opFacetReset
  exact Within.step (State.rowWrite_within ..) (by decide) <| Within.refl _ _

theorem opFacetClear_within (n : Nat) (s : State) : Within [.reply, .freeCount, .regs, .blobs, .tickRegs, .mem, .power, .boot, .access, .time, .fabric, .lens, .phasor, .goose, .logic, .facets, .capture, .pair, .log, .health, .can, .sec] s (opFacetClear n s) := by
  unfold opFacetClear
  exact Within.step (State.rowWrite_within ..) (by decide) <| Within.refl _ _

theorem opShareChange_within (n : Nat) (sub : Nat) (v : Nat) (s : State) : Within [.reply, .freeCount, .regs, .blobs, .tickRegs, .mem, .power, .boot, .access, .time, .fabric, .lens, .phasor, .goose, .logic, .facets, .capture, .pair, .log, .health, .can, .sec] s (opShareChange n sub v s) := by
  unfold opShareChange
  exact Within.step (State.rowWrite_within ..) (by decide) <| Within.refl _ _

theorem opArm_within (r : Nat) (s : State) : Within [.reply, .freeCount, .regs, .blobs, .tickRegs, .mem, .power, .boot, .access, .time, .fabric, .lens, .phasor, .goose, .logic, .facets, .capture, .pair, .log, .health, .can, .sec] s (opArm r s) := by
  unfold opArm
  exact Within.step (State.rowWrite_within ..) (by decide) <| Within.refl _ _

theorem opDisarm_within (r : Nat) (s : State) : Within [.reply, .freeCount, .regs, .blobs, .tickRegs, .mem, .power, .boot, .access, .time, .fabric, .lens, .phasor, .goose, .logic, .facets, .capture, .pair, .log, .health, .can, .sec] s (opDisarm r s) := by
  unfold opDisarm
  exact Within.step (State.rowWrite_within ..) (by decide) <| Within.refl _ _

theorem opManualTrigger_within (r : Nat) (s : State) : Within [.reply, .freeCount, .regs, .blobs, .tickRegs, .mem, .power, .boot, .access, .time, .fabric, .lens, .phasor, .goose, .logic, .facets, .capture, .pair, .log, .health, .can, .sec] s (opManualTrigger r s) := by
  unfold opManualTrigger
  exact Within.step (State.rowWrite_within ..) (by decide) <| Within.refl _ _

theorem opDeleteSelected_within (s : State) : Within [.reply, .freeCount, .regs, .blobs, .tickRegs, .mem, .power, .boot, .access, .time, .fabric, .lens, .phasor, .goose, .logic, .facets, .capture, .pair, .log, .health, .can, .sec] s (opDeleteSelected s) := by
  unfold opDeleteSelected
  exact Within.step (State.rowWrite_within ..) (by decide) <| Within.refl _ _

theorem opDeleteExported_within (s : State) : Within [.reply, .freeCount, .regs, .blobs, .tickRegs, .mem, .power, .boot, .access, .time, .fabric, .lens, .phasor, .goose, .logic, .facets, .capture, .pair, .log, .health, .can, .sec] s (opDeleteExported s) := by
  unfold opDeleteExported
  exact Within.step (State.rowWrite_within ..) (by decide) <| Within.refl _ _

theorem opPlannedSwap_within (s : State) : Within [.reply, .freeCount, .regs, .blobs, .tickRegs, .mem, .power, .boot, .access, .time, .fabric, .lens, .phasor, .goose, .logic, .facets, .capture, .pair, .log, .health, .can, .sec] s (opPlannedSwap s) := by
  unfold opPlannedSwap
  exact Within.step (State.rowWrite_within ..) (by decide) <| Within.refl _ _

theorem opClearTakeoverFault_within (s : State) : Within [.reply, .freeCount, .regs, .blobs, .tickRegs, .mem, .power, .boot, .access, .time, .fabric, .lens, .phasor, .goose, .logic, .facets, .capture, .pair, .log, .health, .can, .sec] s (opClearTakeoverFault s) := by
  unfold opClearTakeoverFault
  exact Within.step (State.rowWrite_within ..) (by decide) <| Within.refl _ _

theorem opLeaveSafeHold_within (s : State) : Within [.reply, .freeCount, .regs, .blobs, .tickRegs, .mem, .power, .boot, .access, .time, .fabric, .lens, .phasor, .goose, .logic, .facets, .capture, .pair, .log, .health, .can, .sec] s (opLeaveSafeHold s) := by
  unfold opLeaveSafeHold
  exact Within.step (State.rowWrite_within ..) (by decide) <| Within.refl _ _

theorem opResynchronise_within (s : State) : Within [.reply, .freeCount, .regs, .blobs, .tickRegs, .mem, .power, .boot, .access, .time, .fabric, .lens, .phasor, .goose, .logic, .facets, .capture, .pair, .log, .health, .can, .sec] s (opResynchronise s) := by
  unfold opResynchronise
  exact Within.step (State.rowWrite_within ..) (by decide) <| Within.refl _ _

theorem opPairClear_within (s : State) : Within [.reply, .freeCount, .regs, .blobs, .tickRegs, .mem, .power, .boot, .access, .time, .fabric, .lens, .phasor, .goose, .logic, .facets, .capture, .pair, .log, .health, .can, .sec] s (opPairClear s) := by
  unfold opPairClear
  exact Within.step (State.rowWrite_within ..) (by decide) <| Within.refl _ _

theorem opClearLog_within (sess : Nat) (s : State) : Within [.reply, .freeCount, .regs, .blobs, .tickRegs, .mem, .power, .boot, .access, .time, .fabric, .lens, .phasor, .goose, .logic, .facets, .capture, .pair, .log, .health, .can, .sec] s (opClearLog sess s) := by
  unfold opClearLog
  exact Within.step (State.rowWrite_within ..) (by decide) <| Within.refl _ _

theorem opHealthAcknowledge_within (mask : Nat) (s : State) : Within [.reply, .freeCount, .regs, .blobs, .tickRegs, .mem, .power, .boot, .access, .time, .fabric, .lens, .phasor, .goose, .logic, .facets, .capture, .pair, .log, .health, .can, .sec] s (opHealthAcknowledge mask s) := by
  unfold opHealthAcknowledge
  exact Within.step (State.rowWrite_within ..) (by decide) <| Within.refl _ _

theorem opRecoverFromBusOff_within (c : Nat) (s : State) : Within [.reply, .freeCount, .regs, .blobs, .tickRegs, .mem, .power, .boot, .access, .time, .fabric, .lens, .phasor, .goose, .logic, .facets, .capture, .pair, .log, .health, .can, .sec] s (opRecoverFromBusOff c s) := by
  unfold opRecoverFromBusOff
  exact Within.step (State.rowWrite_within ..) (by decide) <| Within.refl _ _

theorem opRestrictedOperationOn_within (c : Nat) (s : State) : Within [.reply, .freeCount, .regs, .blobs, .tickRegs, .mem, .power, .boot, .access, .time, .fabric, .lens, .phasor, .goose, .logic, .facets, .capture, .pair, .log, .health, .can, .sec] s (opRestrictedOperationOn c s) := by
  unfold opRestrictedOperationOn
  exact Within.step (State.rowWrite_within ..) (by decide) <| Within.refl _ _

theorem opRestrictedOperationOff_within (c : Nat) (s : State) : Within [.reply, .freeCount, .regs, .blobs, .tickRegs, .mem, .power, .boot, .access, .time, .fabric, .lens, .phasor, .goose, .logic, .facets, .capture, .pair, .log, .health, .can, .sec] s (opRestrictedOperationOff c s) := by
  unfold opRestrictedOperationOff
  exact Within.step (State.rowWrite_within ..) (by decide) <| Within.refl _ _

theorem opControllerEnable_within (c : Nat) (s : State) : Within [.reply, .freeCount, .regs, .blobs, .tickRegs, .mem, .power, .boot, .access, .time, .fabric, .lens, .phasor, .goose, .logic, .facets, .capture, .pair, .log, .health, .can, .sec] s (opControllerEnable c s) := by
  unfold opControllerEnable
  exact Within.step (State.rowWrite_within ..) (by decide) <| Within.refl _ _

theorem opControllerDisable_within (c : Nat) (s : State) : Within [.reply, .freeCount, .regs, .blobs, .tickRegs, .mem, .power, .boot, .access, .time, .fabric, .lens, .phasor, .goose, .logic, .facets, .capture, .pair, .log, .health, .can, .sec] s (opControllerDisable c s) := by
  unfold opControllerDisable
  exact Within.step (State.rowWrite_within ..) (by decide) <| Within.refl _ _

theorem opControllerClear_within (c : Nat) (s : State) : Within [.reply, .freeCount, .regs, .blobs, .tickRegs, .mem, .power, .boot, .access, .time, .fabric, .lens, .phasor, .goose, .logic, .facets, .capture, .pair, .log, .health, .can, .sec] s (opControllerClear c s) := by
  unfold opControllerClear
  exact Within.step (State.rowWrite_within ..) (by decide) <| Within.refl _ _

theorem opAttestationNonce_within (sess : Nat) (nonce : ByteList) (s : State) : Within [.reply, .freeCount, .regs, .blobs, .tickRegs, .mem, .power, .boot, .access, .time, .fabric, .lens, .phasor, .goose, .logic, .facets, .capture, .pair, .log, .health, .can, .sec] s (opAttestationNonce sess nonce s) := by
  unfold opAttestationNonce
  exact Within.step (State.rowWrite_within ..) (by decide) <| Within.refl _ _

theorem opUnlockResponse_within (data : ByteList) (s : State) : Within [.reply, .freeCount, .regs, .blobs, .tickRegs, .mem, .power, .boot, .access, .time, .fabric, .lens, .phasor, .goose, .logic, .facets, .capture, .pair, .log, .health, .can, .sec] s (opUnlockResponse data s) := by
  unfold opUnlockResponse
  exact Within.step (State.rowWrite_within ..) (by decide) <| Within.refl _ _

theorem opLockDebugPort_within (s : State) : Within [.reply, .freeCount, .regs, .blobs, .tickRegs, .mem, .power, .boot, .access, .time, .fabric, .lens, .phasor, .goose, .logic, .facets, .capture, .pair, .log, .health, .can, .sec] s (opLockDebugPort s) := by
  unfold opLockDebugPort
  exact Within.step (State.rowWrite_within ..) (by decide) <| Within.refl _ _

theorem opGenerateIdentity_within (s : State) : Within [.reply, .freeCount, .regs, .blobs, .tickRegs, .mem, .power, .boot, .access, .time, .fabric, .lens, .phasor, .goose, .logic, .facets, .capture, .pair, .log, .health, .can, .sec] s (opGenerateIdentity s) := by
  unfold opGenerateIdentity
  exact Within.step (State.rowWrite_within ..) (by decide) <| Within.refl _ _

theorem opBindReceived_within (s : State) : Within [.reply, .freeCount, .regs, .blobs, .tickRegs, .mem, .power, .boot, .access, .time, .fabric, .lens, .phasor, .goose, .logic, .facets, .capture, .pair, .log, .health, .can, .sec] s (opBindReceived s) := by
  unfold opBindReceived
  exact Within.step (State.rowWrite_within ..) (by decide) <| Within.refl _ _

theorem opUnbind_within (s : State) : Within [.reply, .freeCount, .regs, .blobs, .tickRegs, .mem, .power, .boot, .access, .time, .fabric, .lens, .phasor, .goose, .logic, .facets, .capture, .pair, .log, .health, .can, .sec] s (opUnbind s) := by
  unfold opUnbind
  exact Within.step (State.rowWrite_within ..) (by decide) <| Within.refl _ _

theorem opActivatePendingMirrorKey_within (s : State) : Within [.reply, .freeCount, .regs, .blobs, .tickRegs, .mem, .power, .boot, .access, .time, .fabric, .lens, .phasor, .goose, .logic, .facets, .capture, .pair, .log, .health, .can, .sec] s (opActivatePendingMirrorKey s) := by
  unfold opActivatePendingMirrorKey
  exact Within.step (State.rowWrite_within ..) (by decide) <| Within.refl _ _

theorem opMirrorKey_within (data : ByteList) (s : State) : Within [.reply, .freeCount, .regs, .blobs, .tickRegs, .mem, .power, .boot, .access, .time, .fabric, .lens, .phasor, .goose, .logic, .facets, .capture, .pair, .log, .health, .can, .sec] s (opMirrorKey data s) := by
  unfold opMirrorKey
  exact Within.step (State.rowWrite_within ..) (by decide) <| Within.refl _ _

theorem opMigrationKey_within (data : ByteList) (s : State) : Within [.reply, .freeCount, .regs, .blobs, .tickRegs, .mem, .power, .boot, .access, .time, .fabric, .lens, .phasor, .goose, .logic, .facets, .capture, .pair, .log, .health, .can, .sec] s (opMigrationKey data s) := by
  unfold opMigrationKey
  exact Within.step (State.rowWrite_within ..) (by decide) <| Within.refl _ _

theorem opConfigurationRoot_within (i : Nat) (data : ByteList) (s : State) : Within [.reply, .freeCount, .regs, .blobs, .tickRegs, .mem, .power, .boot, .access, .time, .fabric, .lens, .phasor, .goose, .logic, .facets, .capture, .pair, .log, .health, .can, .sec] s (opConfigurationRoot i data s) := by
  unfold opConfigurationRoot
  exact Within.step (State.rowWrite_within ..) (by decide) <| Within.refl _ _

theorem opThermalRestart_within (junction : Int) (s : State) : Within [.reply, .freeCount, .regs, .blobs, .tickRegs, .mem, .power, .boot, .access, .time, .fabric, .lens, .phasor, .goose, .logic, .facets, .capture, .pair, .log, .health, .can, .sec] s (opThermalRestart junction s) := by
  unfold opThermalRestart
  exact Within.step (State.rowWriteIO_within ..) (by decide) <| State.setPower_within _ (fun _ h => h) (by decide) <| Within.refl _ _

theorem opFirmwareSegment_within (sess : Nat) (data : ByteList) (s : State) : Within [.reply, .boot, .access, .facets, .log] s (opFirmwareSegment sess data s) := by
  unfold opFirmwareSegment
  refine Within.when _ _ (fun _ => ?_) ?_
  · refine State.inTurn_within _ _ (fun _ => ?_) (by decide) ?_
    · exact Within.step (State.rowSegment_within ..) (by decide) <| Within.refl _ _
    · exact Within.refl _ _
  · exact Within.refl _ _

theorem opConfigurationSegment_within (sess : Nat) (data : ByteList) (s : State) : Within [.reply, .boot, .access, .facets, .log] s (opConfigurationSegment sess data s) := by
  unfold opConfigurationSegment
  refine Within.when _ _ (fun _ => ?_) ?_
  · refine State.inTurn_within _ _ (fun _ => ?_) (by decide) ?_
    · exact Within.step (State.rowSegment_within ..) (by decide) <| Within.refl _ _
    · exact Within.refl _ _
  · exact Within.refl _ _

theorem opForceOwnership_within (lines : Lines) (s : State) : Within [.reply, .freeCount, .regs, .blobs, .tickRegs, .mem, .power, .boot, .access, .time, .fabric, .lens, .phasor, .goose, .logic, .facets, .capture, .pair, .log, .health, .can, .sec] s (opForceOwnership lines s) := by
  unfold opForceOwnership
  exact Within.step (State.rowWrite_within ..) (by decide) <| Within.step (State.readLines_within ..) (by decide) <| Within.refl _ _

theorem opUnlockChallenge_within (s : State) : Within [.reply, .freeCount, .access, .time, .sec] s (opUnlockChallenge s) := by
  unfold opUnlockChallenge
  refine Within.when _ _ (fun _ => ?_) ?_
  · refine State.inTurn_within _ _ (fun _ => ?_) (by decide) ?_
    · exact Within.step (State.rowRead_within ..) (by decide) <| Within.refl _ _
    · exact Within.refl _ _
  · exact Within.refl _ _

end Sys2Proof.Machine
end

