-- ==== Sys2Proof/Laws/FrameBoot.lean ====
section
/-! SUPPORT. Frames of loading, role, log and pair commands: what each operation can change. -/

namespace Sys2Proof.Machine

set_option Elab.async false

theorem State.loadTables_within (s : State) (i : CfgImage) : Within [.fabric] s (State.loadTables s i) := by
  unfold State.loadTables
  exact Within.upd <| Within.refl _ _

theorem State.loadEngines_within (s : State) (i : CfgImage) (all : Map Val) : Within [.reply, .freeCount, .regs, .blobs, .tickRegs, .mem, .access, .time, .fabric, .phasor, .goose, .logic, .facets, .capture, .pair, .log, .can, .sec] s (State.loadEngines s i all) := by
  unfold State.loadEngines
  extract_lets z0 z1 z2
  refine Within.step (State.latchClasses_within ..) (by decide) <| Within.upd ?_
  unfold z2
  refine Within.step (State.place_within ..) (by decide) <| Within.step (State.place_within ..) (by decide) ?_
  unfold z1
  refine Within.list _ (fun _ _ => ?_) _ _ ?_
  · exact Within.step (State.loadImage_within ..) (by decide) <| Within.refl _ _
  · exact Within.step (State.loadTables_within ..) (by decide) <| Within.refl _ _

theorem State.overlayLost_within (s : State) : Within [.freeCount, .access, .facets, .log] s (State.overlayLost s) := by
  unfold State.overlayLost
  extract_lets z0 z1 z2
  refine Within.step (State.logRec_within ..) (by decide) ?_
  unfold z2
  exact Within.upd <| Within.refl _ _

theorem State.loadConfig_within (s : State) (activeOk : Bool) (markedOk : Bool) : Within [.reply, .freeCount, .regs, .blobs, .tickRegs, .mem, .boot, .access, .time, .fabric, .phasor, .goose, .logic, .facets, .capture, .pair, .log, .can, .sec] s (State.loadConfig s activeOk markedOk) := by
  unfold State.loadConfig
  extract_lets z0 z1 z2 z3 z4 z5 z6 z7 z8 z9 z10 z11
  refine Within.ite (fun _ => ?_) (fun _ => ?_)
  · refine Within.ite (fun _ => ?_) (fun _ => ?_)
    · refine Within.step (State.endPhase_within ..) (by decide) ?_
      unfold z11
      refine Within.step (State.endPhase_within ..) (by decide) <| Within.upd ?_
      unfold z9
      refine State.setBoot_within _ (by decide) <| Within.step (State.loadEngines_within ..) (by decide) ?_
      unfold z8
      refine Within.ite (fun _ => ?_) (fun _ => ?_)
      · refine Within.step (State.overlayLost_within ..) (by decide) ?_
        unfold z7
        refine Within.upd ?_
        unfold z1
        exact Within.step (State.rotate_within ..) (by decide) <| Within.refl _ _
      · unfold z7
        refine Within.upd ?_
        unfold z1
        exact Within.step (State.rotate_within ..) (by decide) <| Within.refl _ _
    · unfold z11
      refine Within.step (State.endPhase_within ..) (by decide) <| Within.upd ?_
      unfold z9
      refine State.setBoot_within _ (by decide) <| Within.step (State.loadEngines_within ..) (by decide) ?_
      unfold z8
      refine Within.ite (fun _ => ?_) (fun _ => ?_)
      · refine Within.step (State.overlayLost_within ..) (by decide) ?_
        unfold z7
        refine Within.upd ?_
        unfold z1
        exact Within.step (State.rotate_within ..) (by decide) <| Within.refl _ _
      · unfold z7
        refine Within.upd ?_
        unfold z1
        exact Within.step (State.rotate_within ..) (by decide) <| Within.refl _ _
  · refine State.setBoot_within _ (by decide) ?_
    unfold z1
    exact Within.step (State.rotate_within ..) (by decide) <| Within.refl _ _

theorem State.endRole_within (s : State) : Within [.boot, .lens, .facets, .log] s (State.endRole s) := by
  unfold State.endRole
  refine Within.ite (fun _ => ?_) (fun _ => ?_)
  · extract_lets z0 z1
    refine Within.upd ?_
    unfold z0
    exact Within.step (State.endPhase_within ..) (by decide) <| Within.refl _ _
  · exact Within.refl _ _

theorem State.becomeStandby_within (s : State) (h : s.pair.role ≠ 1) : Within [.boot, .lens, .facets, .pair, .log] s (State.becomeStandby s) := by
  unfold State.becomeStandby
  extract_lets s1
  exact Within.step (State.endRole_within ..) (by decide) <| Within.step (State.settle_within ..) (by decide) <| Within.step (State.setRole_within _ _ (by decide) h) (by decide) <| State.setPair_within _ (fun _ => ⟨rfl, rfl⟩) (by decide) <| Within.refl _ _

theorem State.decideRole_within (s : State) (lines : Lines) (h : s.pair.role ≠ 1) : Within [.regs, .mem, .power, .boot, .time, .lens, .goose, .logic, .facets, .pair, .log, .health, .can] s (State.decideRole s lines) := by
  unfold State.decideRole
  extract_lets s1 s2
  have h1 : Within [.regs, .mem, .power, .boot, .time, .lens, .goose, .logic, .facets, .pair, .log, .health, .can] s s1 := Within.step (State.readLines_within ..) (by decide) (Within.refl _ _)
  have h2 : Within [.regs, .mem, .power, .boot, .time, .lens, .goose, .logic, .facets, .pair, .log, .health, .can] s s2 := Within.step (State.request_within ..) (by decide) h1
  refine Within.ite (fun _ => ?_) (fun _ => Within.ite (fun _ => Within.ite (fun _ => ?_) (fun _ => h2)) (fun _ =>
    Within.ite (fun _ => ?_) (fun _ => h1)))
  · exact Within.step (State.becomeStandby_within _ h) (by decide) h1
  · exact Within.step (State.endRole_within ..) (by decide) h2
  · exact Within.step (State.becomeStandby_within _ h) (by decide) h1

theorem State.trainingTimeout_within (s : State) : Within [.boot, .lens, .facets, .pair, .log] s (State.trainingTimeout s) := by
  unfold State.trainingTimeout
  have h1 : Within [.boot, .lens, .facets, .pair, .log] s (s.setElig 6 true) := Within.step (State.setElig_within ..) (by decide) (Within.refl _ _)
  refine Within.ite (fun _ => Within.refl _ _) (fun _ => Within.ite (fun h0 => Within.ite (fun _ => ?_) (fun _ => Within.refl _ _))
    (fun _ => h1))
  refine Within.step (State.becomeStandby_within _ ?_) (by decide) h1
  unfold State.setElig
  exact State.settle_role _ (by rw [show _ = (0 : Nat) from h0]; decide)

theorem State.protectionRuns_within (s : State) : Within [.regs, .mem, .power, .boot, .time, .goose, .logic, .facets, .pair, .log, .can] s (State.protectionRuns s) := by
  unfold State.protectionRuns
  have h1 : Within [.regs, .mem, .power, .boot, .time, .goose, .logic, .facets, .pair, .log, .can] s (s.endPhase 8) := Within.step (State.endPhase_within ..) (by decide) (Within.refl _ _)
  have h2 : ∀ f, Within [.regs, .mem, .power, .boot, .time, .goose, .logic, .facets, .pair, .log, .can] s ((s.endPhase 8).setBoot f) := fun f => State.setBoot_within f (by decide) h1
  extract_lets s1
  have h3 : Within [.regs, .mem, .power, .boot, .time, .goose, .logic, .facets, .pair, .log, .can] s s1 := h2 _
  clear_value s1
  refine Within.ite (fun h => ?_) (fun _ => h3)
  refine Within.step (State.bmca_within ..) (by decide) ?_
  exact Within.step (State.activate_within _ (by simpa [State.lit] using h)) (by decide) h3

theorem State.gridTick_within (s0 : State) : Within [.regs, .tickRegs, .mem, .time, .lens, .phasor, .facets, .capture, .log] s0 (State.gridTick s0) := by
  unfold State.gridTick
  extract_lets z0 z1 z2 z3 z4 z5 z6 z7
  refine Within.ite (fun _ => ?_) (fun _ => ?_)
  · refine Within.step (State.captureTick_within ..) (by decide) ?_
    unfold z7
    refine Within.step (State.grantTick_within ..) (by decide) ?_
    refine Within.ite (fun _ => ?_) (fun _ => ?_)
    · refine Within.step (State.sealRows_within ..) (by decide) ?_
      unfold z6
      refine Within.ite (fun _ => ?_) (fun _ => ?_)
      · refine Within.step (State.openRow_within ..) (by decide) ?_
        unfold z5
        refine Within.ite (fun _ => ?_) (fun _ => ?_)
        · refine Within.step (State.markUnsubscribed_within ..) (by decide) <| Within.step (State.tickStreams_within ..) (by decide) ?_
          unfold z4
          refine Within.upd ?_
          unfold z2
          exact Within.step (State.advanceTo_within ..) (by decide) <| Within.refl _ _
        · unfold z4
          refine Within.upd ?_
          unfold z2
          exact Within.step (State.advanceTo_within ..) (by decide) <| Within.refl _ _
      · unfold z5
        refine Within.ite (fun _ => ?_) (fun _ => ?_)
        · refine Within.step (State.markUnsubscribed_within ..) (by decide) <| Within.step (State.tickStreams_within ..) (by decide) ?_
          unfold z4
          refine Within.upd ?_
          unfold z2
          exact Within.step (State.advanceTo_within ..) (by decide) <| Within.refl _ _
        · unfold z4
          refine Within.upd ?_
          unfold z2
          exact Within.step (State.advanceTo_within ..) (by decide) <| Within.refl _ _
    · unfold z6
      refine Within.ite (fun _ => ?_) (fun _ => ?_)
      · refine Within.step (State.openRow_within ..) (by decide) ?_
        unfold z5
        refine Within.ite (fun _ => ?_) (fun _ => ?_)
        · refine Within.step (State.markUnsubscribed_within ..) (by decide) <| Within.step (State.tickStreams_within ..) (by decide) ?_
          unfold z4
          refine Within.upd ?_
          unfold z2
          exact Within.step (State.advanceTo_within ..) (by decide) <| Within.refl _ _
        · unfold z4
          refine Within.upd ?_
          unfold z2
          exact Within.step (State.advanceTo_within ..) (by decide) <| Within.refl _ _
      · unfold z5
        refine Within.ite (fun _ => ?_) (fun _ => ?_)
        · refine Within.step (State.markUnsubscribed_within ..) (by decide) <| Within.step (State.tickStreams_within ..) (by decide) ?_
          unfold z4
          refine Within.upd ?_
          unfold z2
          exact Within.step (State.advanceTo_within ..) (by decide) <| Within.refl _ _
        · unfold z4
          refine Within.upd ?_
          unfold z2
          exact Within.step (State.advanceTo_within ..) (by decide) <| Within.refl _ _
  · unfold z7
    refine Within.step (State.grantTick_within ..) (by decide) ?_
    refine Within.ite (fun _ => ?_) (fun _ => ?_)
    · refine Within.step (State.sealRows_within ..) (by decide) ?_
      unfold z6
      refine Within.ite (fun _ => ?_) (fun _ => ?_)
      · refine Within.step (State.openRow_within ..) (by decide) ?_
        unfold z5
        refine Within.ite (fun _ => ?_) (fun _ => ?_)
        · refine Within.step (State.markUnsubscribed_within ..) (by decide) <| Within.step (State.tickStreams_within ..) (by decide) ?_
          unfold z4
          refine Within.upd ?_
          unfold z2
          exact Within.step (State.advanceTo_within ..) (by decide) <| Within.refl _ _
        · unfold z4
          refine Within.upd ?_
          unfold z2
          exact Within.step (State.advanceTo_within ..) (by decide) <| Within.refl _ _
      · unfold z5
        refine Within.ite (fun _ => ?_) (fun _ => ?_)
        · refine Within.step (State.markUnsubscribed_within ..) (by decide) <| Within.step (State.tickStreams_within ..) (by decide) ?_
          unfold z4
          refine Within.upd ?_
          unfold z2
          exact Within.step (State.advanceTo_within ..) (by decide) <| Within.refl _ _
        · unfold z4
          refine Within.upd ?_
          unfold z2
          exact Within.step (State.advanceTo_within ..) (by decide) <| Within.refl _ _
    · unfold z6
      refine Within.ite (fun _ => ?_) (fun _ => ?_)
      · refine Within.step (State.openRow_within ..) (by decide) ?_
        unfold z5
        refine Within.ite (fun _ => ?_) (fun _ => ?_)
        · refine Within.step (State.markUnsubscribed_within ..) (by decide) <| Within.step (State.tickStreams_within ..) (by decide) ?_
          unfold z4
          refine Within.upd ?_
          unfold z2
          exact Within.step (State.advanceTo_within ..) (by decide) <| Within.refl _ _
        · unfold z4
          refine Within.upd ?_
          unfold z2
          exact Within.step (State.advanceTo_within ..) (by decide) <| Within.refl _ _
      · unfold z5
        refine Within.ite (fun _ => ?_) (fun _ => ?_)
        · refine Within.step (State.markUnsubscribed_within ..) (by decide) <| Within.step (State.tickStreams_within ..) (by decide) ?_
          unfold z4
          refine Within.upd ?_
          unfold z2
          exact Within.step (State.advanceTo_within ..) (by decide) <| Within.refl _ _
        · unfold z4
          refine Within.upd ?_
          unfold z2
          exact Within.step (State.advanceTo_within ..) (by decide) <| Within.refl _ _

theorem opBootRom_within (s : State) : Within [.boot, .facets, .log] s (opBootRom s) := by
  unfold opBootRom
  refine Within.when _ _ (fun _ => ?_) ?_
  · exact Within.step (State.endPhase_within ..) (by decide) <| Within.refl _ _
  · exact Within.refl _ _

theorem opSecureBoot_within (sigA : Bool) (sigB : Bool) (s : State) : Within [.boot, .facets, .log] s (opSecureBoot sigA sigB s) := by
  unfold opSecureBoot
  refine Within.when _ _ (fun _ => ?_) ?_
  · exact Within.step (State.secureBoot_within ..) (by decide) <| Within.refl _ _
  · exact Within.refl _ _

theorem opKeyStoreUnlock_within (s : State) : Within [.boot, .facets, .log] s (opKeyStoreUnlock s) := by
  unfold opKeyStoreUnlock
  refine Within.when _ _ (fun _ => ?_) ?_
  · exact Within.step (State.endPhase_within ..) (by decide) <| Within.refl _ _
  · exact Within.refl _ _

theorem opStewardStart_within (crcOk : Bool) (s : State) : Within [.freeCount, .power, .boot, .facets, .pair, .log, .health] s (opStewardStart crcOk s) := by
  unfold opStewardStart
  refine Within.when _ _ (fun _ => ?_) ?_
  · exact Within.step (State.endPhase_within ..) (by decide) <| Within.step (State.startLog_within ..) (by decide) <| Within.refl _ _
  · exact Within.refl _ _

theorem opConfigurationLoad_within (activeOk : Bool) (markedOk : Bool) (s : State) : Within [.reply, .freeCount, .regs, .blobs, .tickRegs, .mem, .boot, .access, .time, .fabric, .phasor, .goose, .logic, .facets, .capture, .pair, .log, .can, .sec] s (opConfigurationLoad activeOk markedOk s) := by
  unfold opConfigurationLoad
  refine Within.when _ _ (fun _ => ?_) ?_
  · exact Within.step (State.loadConfig_within ..) (by decide) <| Within.refl _ _
  · exact Within.refl _ _

theorem opTimeAcquisitionWaitExpired_within (s : State) : Within [.freeCount, .boot, .facets, .log] s (opTimeAcquisitionWaitExpired s) := by
  unfold opTimeAcquisitionWaitExpired
  refine Within.when _ _ (fun _ => ?_) ?_
  · refine Within.ite (fun _ => ?_) (fun _ => ?_)
    · exact Within.step (State.endPhase_within ..) (by decide) <| Within.refl _ _
    · refine Within.ite (fun _ => ?_) (fun _ => ?_)
      · exact Within.step (State.nextFree_within ..) (by decide) <| Within.step (State.logRec_within ..) (by decide) <| Within.refl _ _
      · exact State.setBoot_within _ (by decide) <| Within.refl _ _
  · exact Within.refl _ _

theorem opRoleDecision_within (lines : Lines) (s : State) : Within [.regs, .mem, .power, .boot, .time, .lens, .goose, .logic, .facets, .pair, .log, .health, .can] s (opRoleDecision lines s) := by
  unfold opRoleDecision State.when
  refine Within.ite (fun h => ?_) (fun _ => Within.refl _ _)
  simp only [Bool.and_eq_true, beq_iff_eq] at h
  exact State.decideRole_within s lines (by rw [h.1.2]; decide)

theorem opMirrorLinkTrainingTimeout_within (s : State) : Within [.boot, .lens, .facets, .pair, .log] s (opMirrorLinkTrainingTimeout s) := by
  unfold opMirrorLinkTrainingTimeout
  refine Within.when _ _ (fun _ => ?_) ?_
  · exact Within.step (State.trainingTimeout_within ..) (by decide) <| Within.refl _ _
  · exact Within.refl _ _

theorem opLensStart_within (s : State) : Within [.mem, .time, .lens] s (opLensStart s) := by
  unfold opLensStart
  refine Within.when _ _ (fun _ => ?_) ?_
  · exact Within.step (State.lensStart_within ..) (by decide) <| Within.step (State.advanceTo_within ..) (by decide) <| Within.refl _ _
  · exact Within.refl _ _

theorem opProtectionStart_within (s : State) : Within [.regs, .mem, .power, .boot, .time, .goose, .logic, .facets, .pair, .log, .can] s (opProtectionStart s) := by
  unfold opProtectionStart
  refine Within.when _ _ (fun _ => ?_) ?_
  · exact Within.step (State.protectionRuns_within ..) (by decide) <| Within.refl _ _
  · exact Within.refl _ _

theorem opFacetAutostart_within (s : State) : Within [.regs, .mem, .boot, .time, .goose, .facets, .capture, .log, .health] s (opFacetAutostart s) := by
  unfold opFacetAutostart
  refine Within.when _ _ (fun _ => ?_) ?_
  · exact Within.step (State.phase9_within ..) (by decide) <| State.setBoot_within _ (by decide) <| Within.step (State.autostart_within ..) (by decide) <| Within.refl _ _
  · exact Within.refl _ _

theorem opStewardWatchdogExpiry_within (s : State) : Within [.reply, .freeCount, .regs, .blobs, .tickRegs, .mem, .power, .boot, .access, .time, .fabric, .lens, .phasor, .goose, .logic, .facets, .capture, .pair, .log, .health, .can, .sec] s (opStewardWatchdogExpiry s) := by
  unfold opStewardWatchdogExpiry
  refine Within.when _ _ (fun _ => ?_) ?_
  · exact Within.step (State.resetNow_within ..) (by decide) <| Within.step (State.lastGasp_within ..) (by decide) <| Within.refl _ _
  · exact Within.refl _ _

theorem opFatalError_within (x0 : Bool) (s : State) : Within [.reply, .freeCount, .regs, .blobs, .tickRegs, .mem, .power, .boot, .access, .time, .fabric, .lens, .phasor, .goose, .logic, .facets, .capture, .pair, .log, .health, .can, .sec] s (opFatalError x0 s) := by
  unfold opFatalError
  refine Within.when _ _ (fun _ => ?_) ?_
  · exact Within.step (State.resetNow_within ..) (by decide) <| Within.step (State.lastGasp_within ..) (by decide) <| Within.refl _ _
  · exact Within.refl _ _

theorem opFirmwareVerificationDone_within (result : Nat) (hdr : FwHeader) (s : State) : Within [.boot, .facets, .log] s (opFirmwareVerificationDone result hdr s) := by
  unfold opFirmwareVerificationDone
  refine Within.when _ _ (fun _ => ?_) ?_
  · exact Within.step (State.instVerified_within ..) (by decide) <| Within.refl _ _
  · exact Within.refl _ _

theorem opConfigurationVerificationDone_within (result : Nat) (img : CfgImage) (s : State) : Within [.boot] s (opConfigurationVerificationDone result img s) := by
  unfold opConfigurationVerificationDone
  refine Within.when _ _ (fun _ => ?_) ?_
  · exact Within.step (State.cfgVerified_within ..) (by decide) <| Within.refl _ _
  · exact Within.refl _ _

theorem opTrialPeriodExpired_within (s : State) : Within [.boot, .facets, .log] s (opTrialPeriodExpired s) := by
  unfold opTrialPeriodExpired
  refine Within.when _ _ (fun _ => ?_) ?_
  · exact Within.step (State.commitTrial_within ..) (by decide) <| Within.refl _ _
  · exact Within.refl _ _

theorem opGridTick_within (s : State) : Within [.regs, .tickRegs, .mem, .time, .lens, .phasor, .facets, .capture, .log] s (opGridTick s) := by
  unfold opGridTick
  refine Within.when _ _ (fun _ => ?_) ?_
  · exact Within.step (State.gridTick_within ..) (by decide) <| Within.refl _ _
  · exact Within.refl _ _

theorem State.suppressionSecond_within (s : State) : Within [.facets, .pair, .log, .health] s (State.suppressionSecond s) := by
  unfold State.suppressionSecond
  extract_lets z0 z1 z2
  refine Within.step (State.showDdr_within ..) (by decide) ?_
  refine Within.list _ (fun _ _ => ?_) _ _ ?_
  · exact Within.step (State.logRec_within ..) (by decide) <| Within.refl _ _
  · unfold z2
    exact Within.upd <| Within.refl _ _

theorem State.exportLog_within (s : State) : Within [.log] s (State.exportLog s) := by
  unfold State.exportLog
  exact Within.upd <| Within.refl _ _

theorem State.logFails_within (s : State) (addr : Nat) : Within [.facets, .pair, .log, .health] s (State.logFails s addr) := by
  unfold State.logFails
  extract_lets z0 z1
  refine Within.step (State.setCause_within ..) (by decide) <| Within.step (State.logRec_within ..) (by decide) ?_
  unfold z1
  exact Within.upd <| Within.refl _ _

theorem State.remapLog_within (s : State) : Within [.facets, .pair, .log, .health] s (State.remapLog s) := by
  unfold State.remapLog
  extract_lets z0 z1 z2 z3 z4 z5 z6 z7
  refine Within.step (State.setCause_within ..) (by decide) <| Within.upd ?_
  unfold z6
  refine Within.step (State.logRec_within ..) (by decide) ?_
  unfold z5
  split
  · refine Within.step (State.logLost_within ..) (by decide) ?_
    unfold z4
    refine Within.step (State.logLost_within ..) (by decide) ?_
    unfold z3
    exact Within.upd <| Within.refl _ _
  · unfold z4
    refine Within.step (State.logLost_within ..) (by decide) ?_
    unfold z3
    exact Within.upd <| Within.refl _ _

theorem State.partnerReport_within (s : State) (tag : MirrorTag) (data : ByteList) : Within [.facets, .pair, .log, .health, .sec] s (State.partnerReport s tag data) := by
  unfold State.partnerReport
  extract_lets z0 z1 z2
  refine Within.ite (fun _ => ?_) (fun _ => ?_)
  · exact Within.step (State.mirrorRefused_within ..) (by decide) <| Within.refl _ _
  · refine Within.ite (fun _ => ?_) (fun _ => ?_)
    · exact Within.step (State.mirrorCount_within ..) (by decide) <| Within.refl _ _
    · refine Within.upd ?_
      unfold z1
      exact Within.step (State.keyUsed_within ..) (by decide) <| Within.step (State.seqTaken_within ..) (by decide) <| Within.refl _ _

theorem State.zeroised_within (s : State) (sensors : Nat) : Within [.power, .boot, .access, .time, .logic, .facets, .capture, .pair, .log, .can, .sec] s (State.zeroised s sensors) := by
  unfold State.zeroised
  extract_lets z0 z1
  refine Within.step (State.logSec_within ..) (by decide) ?_
  unfold z1
  refine Within.step (State.endSessions_within ..) (by decide) <| Within.step (State.setElig_within ..) (by decide) ?_
  unfold z0
  refine Within.ite (fun _ => ?_) (fun _ => ?_)
  · exact State.setPair_within _ (fun _ => ⟨rfl, rfl⟩) (by decide) <| Within.step (State.release_within ..) (by decide) <| Within.refl _ _
  · exact Within.refl _ _

theorem opLogRecord_within (r : LogReq) (s : State) : Within [.facets, .log] s (opLogRecord r s) := by
  unfold opLogRecord
  refine Within.when _ _ (fun _ => ?_) ?_
  · exact Within.step (State.logReq_within ..) (by decide) <| Within.refl _ _
  · exact Within.refl _ _

theorem opSuppressionSecond_within (s : State) : Within [.facets, .pair, .log, .health] s (opSuppressionSecond s) := by
  unfold opSuppressionSecond
  refine Within.when _ _ (fun _ => ?_) ?_
  · exact Within.step (State.suppressionSecond_within ..) (by decide) <| Within.refl _ _
  · exact Within.refl _ _

theorem opLogExport_within (s : State) : Within [.log] s (opLogExport s) := by
  unfold opLogExport
  refine Within.when _ _ (fun _ => ?_) ?_
  · exact Within.step (State.exportLog_within ..) (by decide) <| Within.refl _ _
  · exact Within.refl _ _

theorem opAgCursor_within (n : Nat) (v : Nat) (s : State) : Within [.log] s (opAgCursor n v s) := by
  unfold opAgCursor
  refine Within.when _ _ (fun _ => ?_) ?_
  · exact Within.step (State.fill_within ..) (by decide) <| Within.refl _ _
  · exact Within.refl _ _

theorem opAgNotify_within (n : Nat) (v : Nat) (s : State) : Within [.log] s (opAgNotify n v s) := by
  unfold opAgNotify
  refine Within.when _ _ (fun _ => ?_) ?_
  · exact Within.step (State.agNotify_within ..) (by decide) <| Within.refl _ _
  · exact Within.refl _ _

theorem opSessionCursor_within (c : Nat) (v : Nat) (s : State) : Within [.reply, .log] s (opSessionCursor c v s) := by
  unfold opSessionCursor
  refine Within.when _ _ (fun _ => ?_) ?_
  · exact Within.step (State.answer_within ..) (by decide) <| Within.step (State.fill_within ..) (by decide) <| Within.refl _ _
  · exact Within.refl _ _

theorem opLogMemoryFailure_within (addr : Nat) (s : State) : Within [.facets, .pair, .log, .health] s (opLogMemoryFailure addr s) := by
  unfold opLogMemoryFailure
  refine Within.when _ _ (fun _ => ?_) ?_
  · exact Within.step (State.logFails_within ..) (by decide) <| Within.refl _ _
  · exact Within.refl _ _

theorem opLogRemap_within (ok : Bool) (s : State) : Within [.facets, .pair, .log, .health] s (opLogRemap ok s) := by
  unfold opLogRemap
  refine Within.when _ _ (fun _ => ?_) ?_
  · refine Within.ite (fun _ => ?_) (fun _ => ?_)
    · exact Within.step (State.remapLog_within ..) (by decide) <| Within.refl _ _
    · exact Within.upd <| Within.refl _ _
  · exact Within.refl _ _

theorem opHealthReportTransmit_within (s : State) : Within [.pair, .health] s (opHealthReportTransmit s) := by
  unfold opHealthReportTransmit
  refine Within.when _ _ (fun _ => ?_) ?_
  · extract_lets z0 z1
    exact Within.step (State.post_within ..) (by decide) <| Within.upd <| Within.refl _ _
  · exact Within.refl _ _

theorem opHealthReportReceived_within (tag : MirrorTag) (data : ByteList) (s : State) : Within [.facets, .pair, .log, .health, .sec] s (opHealthReportReceived tag data s) := by
  unfold opHealthReportReceived
  refine Within.when _ _ (fun _ => ?_) ?_
  · exact Within.step (State.partnerReport_within ..) (by decide) <| Within.refl _ _
  · exact Within.refl _ _

theorem opPartnerReportTimeout_within (s : State) : Within [.health] s (opPartnerReportTimeout s) := by
  unfold opPartnerReportTimeout
  refine Within.when _ _ (fun _ => ?_) ?_
  · exact Within.upd <| Within.refl _ _
  · exact Within.refl _ _

theorem opDdrEccError_within (correctable : Bool) (addr : Nat) (s : State) : Within [.facets, .pair, .log, .health] s (opDdrEccError correctable addr s) := by
  unfold opDdrEccError
  refine Within.when _ _ (fun _ => ?_) ?_
  · refine Within.ite (fun _ => ?_) (fun _ => ?_)
    · extract_lets z0 z1
      exact Within.step (State.showDdr_within ..) (by decide) <| Within.upd <| Within.refl _ _
    · exact Within.step (State.latchCause_within ..) (by decide) <| Within.refl _ _
  · exact Within.refl _ _

theorem opDdrScrubPass_within (ok : Bool) (s : State) : Within [.facets, .log, .health] s (opDdrScrubPass ok s) := by
  unfold opDdrScrubPass
  refine Within.when _ _ (fun _ => ?_) ?_
  · refine Within.ite (fun _ => ?_) (fun _ => ?_)
    · exact Within.step (State.testRan_within ..) (by decide) <| Within.upd <| Within.refl _ _
    · exact Within.step (State.testRan_within ..) (by decide) <| Within.refl _ _
  · exact Within.refl _ _

theorem opSramScrub_within (ok : Bool) (addr : Nat) (s : State) : Within [.facets, .pair, .log, .health] s (opSramScrub ok addr s) := by
  unfold opSramScrub
  refine Within.when _ _ (fun _ => ?_) ?_
  · refine Within.ite (fun _ => ?_) (fun _ => ?_)
    · exact Within.step (State.testRan_within ..) (by decide) <| Within.upd <| Within.refl _ _
    · exact Within.step (State.testRan_within ..) (by decide) <| Within.step (State.latchCause_within ..) (by decide) <| Within.refl _ _
  · exact Within.refl _ _

theorem opCoreCrossCheck_within (core : Nat) (pass : Bool) (s : State) : Within [.facets, .pair, .log, .health] s (opCoreCrossCheck core pass s) := by
  unfold opCoreCrossCheck
  refine Within.when _ _ (fun _ => ?_) ?_
  · exact Within.step (State.unitTest_within ..) (by decide) <| Within.refl _ _
  · exact Within.refl _ _

theorem opLogicProcessorTest_within (lp : Nat) (pass : Bool) (s : State) : Within [.facets, .pair, .log, .health] s (opLogicProcessorTest lp pass s) := by
  unfold opLogicProcessorTest
  refine Within.when _ _ (fun _ => ?_) ?_
  · exact Within.step (State.unitTest_within ..) (by decide) <| Within.refl _ _
  · exact Within.refl _ _

theorem opSerdesErrorRate_within (lane : Nat) (above : Bool) (s : State) : Within [.facets, .pair, .log, .health] s (opSerdesErrorRate lane above s) := by
  unfold opSerdesErrorRate
  refine Within.when _ _ (fun _ => ?_) ?_
  · extract_lets z0 z1 z2
    refine Within.ite (fun _ => ?_) (fun _ => ?_)
    · refine Within.step (State.testRan_within ..) (by decide) ?_
      unfold z2
      exact Within.step (State.setCause_within ..) (by decide) <| Within.upd <| Within.refl _ _
    · refine Within.ite (fun _ => ?_) (fun _ => ?_)
      · refine Within.step (State.testRan_within ..) (by decide) ?_
        unfold z2
        exact Within.step (State.setCause_within ..) (by decide) <| Within.upd <| Within.refl _ _
      · unfold z2
        exact Within.step (State.setCause_within ..) (by decide) <| Within.upd <| Within.refl _ _
  · exact Within.refl _ _

theorem opAccessFault_within (n : Nat) (access : AccessAt) (s : State) : Within [.reply, .facets, .log] s (opAccessFault n access s) := by
  unfold opAccessFault
  split
  · refine Within.ite (fun _ => ?_) (fun _ => ?_)
    · refine Within.when _ _ (fun _ => ?_) ?_
      · exact Within.step (State.stewardAccess_within ..) (by decide) <| Within.refl _ _
      · exact Within.refl _ _
    · refine Within.when _ _ (fun _ => ?_) ?_
      · exact Within.step (State.guestAccess_within ..) (by decide) <| Within.refl _ _
      · exact Within.refl _ _
  · refine Within.when _ _ (fun _ => ?_) ?_
    · exact Within.step (State.readWindow_within ..) (by decide) <| Within.refl _ _
    · exact Within.refl _ _

theorem opTamperEvent_within (sensors : Nat) (s : State) : Within [.power, .boot, .access, .time, .logic, .facets, .capture, .pair, .log, .can, .sec] s (opTamperEvent sensors s) := by
  unfold opTamperEvent
  refine Within.when _ _ (fun _ => ?_) ?_
  · extract_lets z0 z1
    refine Within.ite (fun _ => ?_) (fun _ => ?_)
    · unfold z0
      exact Within.upd <| Within.refl _ _
    · refine Within.step (State.zeroised_within ..) (by decide) <| Within.upd ?_
      unfold z0
      exact Within.upd <| Within.refl _ _
  · exact Within.refl _ _

theorem opReportSigned_within (s : State) : Within [.reply, .access, .facets, .log, .can, .sec] s (opReportSigned s) := by
  unfold opReportSigned
  refine Within.when _ _ (fun _ => ?_) ?_
  · split
    · exact Within.refl _ _
    · extract_lets z0
      refine Within.ite (fun _ => ?_) (fun _ => ?_)
      · unfold z0
        exact Within.step (State.signNext_within ..) (by decide) <| Within.refl _ _
      · refine Within.step (State.completeDue_within ..) (by decide) ?_
        unfold z0
        exact Within.step (State.signNext_within ..) (by decide) <| Within.refl _ _
  · exact Within.refl _ _

theorem opTokenGain_within (s : State) : Within [.sec] s (opTokenGain s) := by
  unfold opTokenGain
  refine Within.when _ _ (fun _ => ?_) ?_
  · exact Within.upd <| Within.refl _ _
  · exact Within.refl _ _

theorem opDebugPortTimeout_within (s : State) : Within [.sec] s (opDebugPortTimeout s) := by
  unfold opDebugPortTimeout
  refine Within.when _ _ (fun _ => ?_) ?_
  · exact Within.upd <| Within.refl _ _
  · exact Within.refl _ _

theorem opIdentityExchange_within (s : State) : Within [.freeCount, .facets, .pair, .log, .sec] s (opIdentityExchange s) := by
  unfold opIdentityExchange
  refine Within.when _ _ (fun _ => ?_) ?_
  · exact Within.step (State.startExchange_within ..) (by decide) <| Within.refl _ _
  · exact Within.refl _ _

theorem opIdentityReportReceived_within (data : ByteList) (s : State) : Within [.facets, .pair, .log, .sec] s (opIdentityReportReceived data s) := by
  unfold opIdentityReportReceived
  refine Within.when _ _ (fun _ => ?_) ?_
  · exact Within.step (State.takeReport_within ..) (by decide) <| Within.refl _ _
  · exact Within.refl _ _

theorem opLivenessProbe_within (answers : UnitBits) (s : State) : Within [.pair] s (opLivenessProbe answers s) := by
  unfold opLivenessProbe
  refine Within.when _ _ (fun _ => ?_) ?_
  · extract_lets z0 z1 z2
    exact State.setPair_within _ (fun _ => ⟨rfl, rfl⟩) (by decide) <| Within.refl _ _
  · exact Within.refl _ _

theorem opBlinkTransmit_within (s : State) : Within [.pair] s (opBlinkTransmit s) := by
  unfold opBlinkTransmit
  refine Within.when _ _ (fun _ => ?_) ?_
  · exact Within.step (State.sendBlink_within ..) (by decide) <| Within.refl _ _
  · exact Within.refl _ _

theorem State.resetAfterSwap_within (s : State) : Within [.reply, .freeCount, .regs, .blobs, .tickRegs, .mem, .power, .boot, .access, .time, .fabric, .lens, .phasor, .goose, .logic, .facets, .capture, .pair, .log, .health, .can, .sec] s (State.resetAfterSwap s) := by
  unfold State.resetAfterSwap
  refine Within.ite (fun _ => ?_) (fun _ => ?_)
  · exact Within.step (State.resetNow_within ..) (by decide) <| Within.refl _ _
  · exact Within.refl _ _

theorem opBlinkReceived_within (b : Blink) (lines : Lines) (s : State) : Within [.reply, .freeCount, .regs, .blobs, .tickRegs, .mem, .power, .boot, .access, .time, .fabric, .lens, .phasor, .goose, .logic, .facets, .capture, .pair, .log, .health, .can, .sec] s (opBlinkReceived b lines s) := by
  unfold opBlinkReceived
  refine Within.when _ _ (fun _ => ?_) ?_
  · exact Within.step (State.resetAfterSwap_within ..) (by decide) <| Within.step (State.blinkIn_within ..) (by decide) <| Within.step (State.advanceTo_within ..) (by decide) <| Within.refl _ _
  · exact Within.refl _ _

theorem opBlinkMissed_within (lines : Lines) (s : State) : Within [.regs, .mem, .power, .time, .lens, .goose, .logic, .facets, .pair, .log, .health, .can] s (opBlinkMissed lines s) := by
  unfold opBlinkMissed
  refine Within.when _ _ (fun _ => ?_) ?_
  · exact Within.step (State.blinkMissed_within ..) (by decide) <| Within.refl _ _
  · exact Within.refl _ _

theorem opPeerPresentChange_within (present : Bool) (lines : Lines) (s : State) : Within [.regs, .mem, .power, .time, .lens, .goose, .logic, .facets, .pair, .log, .health, .can] s (opPeerPresentChange present lines s) := by
  unfold opPeerPresentChange
  refine Within.when _ _ (fun _ => ?_) ?_
  · exact Within.step (State.peerChange_within ..) (by decide) <| Within.refl _ _
  · exact Within.refl _ _

theorem opHandshakeSetFault_within (x0 : Nat) (s : State) : Within [.facets, .pair, .log, .health] s (opHandshakeSetFault x0 s) := by
  unfold opHandshakeSetFault
  refine Within.when _ _ (fun _ => ?_) ?_
  · exact Within.step (State.setFaulted_within ..) (by decide) <| Within.refl _ _
  · exact Within.refl _ _

theorem opSelfFence_within (s : State) : Within [.power, .boot, .access, .time, .logic, .facets, .pair, .log, .can] s (opSelfFence s) := by
  unfold opSelfFence
  refine Within.when _ _ (fun _ => ?_) ?_
  · exact State.setPair_within _ (fun _ => ⟨rfl, rfl⟩) (by decide) <| Within.step (State.release_within ..) (by decide) <| Within.refl _ _
  · exact Within.refl _ _

theorem opReleaseSwitchesOpen_within (s : State) : Within [.power, .pair] s (opReleaseSwitchesOpen s) := by
  unfold opReleaseSwitchesOpen
  refine Within.when _ _ (fun _ => ?_) ?_
  · exact Within.step (State.openSwitches_within ..) (by decide) <| Within.refl _ _
  · exact Within.refl _ _

theorem opFence_within (s : State) : Within [.fabric, .pair] s (opFence s) := by
  unfold opFence
  refine Within.when _ _ (fun _ => ?_) ?_
  · exact Within.step (State.fence_within ..) (by decide) <| Within.refl _ _
  · exact Within.refl _ _

theorem opStationBlinkTransmit_within (s : State) : Within [.pair] s (opStationBlinkTransmit s) := by
  unfold opStationBlinkTransmit
  refine Within.when _ _ (fun _ => ?_) ?_
  · exact Within.step (State.sendStationBlink_within ..) (by decide) <| Within.refl _ _
  · exact Within.refl _ _

theorem opStationBlinkReceived_within (b : Blink) (s : State) : Within [.power, .boot, .access, .time, .logic, .facets, .pair, .log, .can, .sec] s (opStationBlinkReceived b s) := by
  unfold opStationBlinkReceived
  refine Within.when _ _ (fun _ => ?_) ?_
  · exact Within.step (State.stationBlinkIn_within ..) (by decide) <| Within.refl _ _
  · exact Within.refl _ _

theorem opStationBlinkLost_within (s : State) : Within [.pair] s (opStationBlinkLost s) := by
  unfold opStationBlinkLost
  refine Within.when _ _ (fun _ => ?_) ?_
  · exact Within.step (State.stationBlinkLost_within ..) (by decide) <| Within.refl _ _
  · exact Within.refl _ _

theorem opLaneMove_within (lane0 : Bool) (lane1 : Bool) (s : State) : Within [.facets, .pair, .log] s (opLaneMove lane0 lane1 s) := by
  unfold opLaneMove
  refine Within.when _ _ (fun _ => ?_) ?_
  · exact Within.step (State.lanesAre_within ..) (by decide) <| Within.refl _ _
  · exact Within.refl _ _

theorem opSpareLaneTestFrame_within (ok : Bool) (s : State) : Within [.facets, .pair, .log, .health] s (opSpareLaneTestFrame ok s) := by
  unfold opSpareLaneTestFrame
  refine Within.when _ _ (fun _ => ?_) ?_
  · exact Within.step (State.testRan_within ..) (by decide) <| Within.step (State.setCause_within ..) (by decide) <| Within.refl _ _
  · exact Within.refl _ _

theorem opLinkMeasurement_within (lane : Nat) (roundTrip : Nat) (s : State) : Within [.pair] s (opLinkMeasurement lane roundTrip s) := by
  unfold opLinkMeasurement
  refine Within.when _ _ (fun _ => ?_) ?_
  · exact State.setPair_within _ (fun _ => ⟨rfl, rfl⟩) (by decide) <| Within.refl _ _
  · exact Within.refl _ _

theorem opTickMirror_within (s : State) : Within [.pair] s (opTickMirror s) := by
  unfold opTickMirror
  refine Within.when _ _ (fun _ => ?_) ?_
  · exact Within.step (State.sendTick_within ..) (by decide) <| Within.refl _ _
  · exact Within.refl _ _

theorem opTickMirrorApplied_within (m : MirrorMsg) (s : State) : Within [.mem, .access, .goose, .logic, .facets, .pair, .log, .sec] s (opTickMirrorApplied m s) := by
  unfold opTickMirrorApplied
  refine Within.when _ _ (fun _ => ?_) ?_
  · exact Within.step (State.takeTick_within ..) (by decide) <| Within.refl _ _
  · exact Within.refl _ _

theorem opLateMirrorExpiry_within (s : State) : Within [.pair] s (opLateMirrorExpiry s) := by
  unfold opLateMirrorExpiry
  exact State.setPair_within _ (fun _ => ⟨rfl, rfl⟩) (by decide) <| Within.refl _ _

theorem opBulkMirror_within (s : State) : Within [.pair] s (opBulkMirror s) := by
  unfold opBulkMirror
  refine Within.when _ _ (fun _ => ?_) ?_
  · exact Within.step (State.sendBulk_within ..) (by decide) <| Within.refl _ _
  · exact Within.refl _ _

theorem opBulkMirrorReceived_within (m : MirrorMsg) (s : State) : Within [.mem, .goose, .logic, .facets, .pair, .log, .sec] s (opBulkMirrorReceived m s) := by
  unfold opBulkMirrorReceived
  refine Within.when _ _ (fun _ => ?_) ?_
  · exact Within.step (State.takeBulk_within ..) (by decide) <| Within.refl _ _
  · exact Within.refl _ _

theorem opFirstSynchronisation_within (m : MirrorMsg) (s : State) : Within [.mem, .goose, .logic, .facets, .pair, .log, .sec] s (opFirstSynchronisation m s) := by
  unfold opFirstSynchronisation
  refine Within.when _ _ (fun _ => ?_) ?_
  · refine Within.ite (fun _ => ?_) (fun _ => ?_)
    · refine Within.ite (fun _ => ?_) (fun _ => ?_)
      · exact Within.step (State.sendBulk_within ..) (by decide) <| Within.refl _ _
      · exact Within.refl _ _
    · exact Within.step (State.takeSync_within ..) (by decide) <| Within.refl _ _
  · exact Within.refl _ _

theorem State.takeOverlay_within (s : State) (m : OverlayMsg) : Within [.reply, .freeCount, .regs, .blobs, .mem, .access, .time, .fabric, .phasor, .goose, .logic, .facets, .capture, .pair, .log, .can, .sec] s (State.takeOverlay s m) := by
  unfold State.takeOverlay
  extract_lets z0 z1 z2
  refine Within.step (State.place_within ..) (by decide) ?_
  unfold z2
  exact Within.upd <| Within.refl _ _

theorem opOverlayCopy_within (m : OverlayMsg) (s : State) : Within [.reply, .freeCount, .regs, .blobs, .tickRegs, .mem, .power, .boot, .access, .time, .fabric, .lens, .phasor, .goose, .logic, .facets, .capture, .pair, .log, .health, .can, .sec] s (opOverlayCopy m s) := by
  unfold opOverlayCopy
  refine Within.when _ _ (fun _ => ?_) ?_
  · refine State.tagTakes_within _ _ _ (fun _ => ?_) (by decide) ?_
    · refine Within.ite (fun _ => ?_) (fun _ => ?_)
      · exact Within.refl _ _
      · extract_lets z0 z1 z2 z3
        refine Within.step (State.setElig_within ..) (by decide) ?_
        unfold z3
        refine Within.upd ?_
        unfold z0
        refine Within.ite (fun _ => ?_) (fun _ => ?_)
        · exact Within.step (State.takeOverlay_within ..) (by decide) <| Within.refl _ _
        · exact Within.step (State.applyItems_within ..) (by decide) <| Within.refl _ _
    · exact Within.refl _ _
  · exact Within.refl _ _

theorem opTakeoverCheck_within (s : State) : Within [.power, .boot, .access, .time, .logic, .facets, .pair, .log, .health, .can] s (opTakeoverCheck s) := by
  unfold opTakeoverCheck
  refine Within.when _ _ (fun _ => ?_) ?_
  · exact Within.step (State.takeoverFails_within ..) (by decide) <| Within.refl _ _
  · exact Within.refl _ _

theorem opSwapAcknowledgement_within (tag : MirrorTag) (unit : Nat) (s : State) : Within [.power, .boot, .access, .time, .logic, .facets, .pair, .log, .can, .sec] s (opSwapAcknowledgement tag unit s) := by
  unfold opSwapAcknowledgement
  refine Within.when _ _ (fun _ => ?_) ?_
  · refine State.tagTakes_within _ _ _ (fun _ => ?_) (by decide) ?_
    · exact Within.step (State.swapAcked_within ..) (by decide) <| Within.refl _ _
    · exact Within.refl _ _
  · exact Within.refl _ _

theorem opSwapTimeout_within (s : State) : Within [.reply, .boot, .pair] s (opSwapTimeout s) := by
  unfold opSwapTimeout
  refine Within.when _ _ (fun _ => ?_) ?_
  · exact Within.step (State.swapAbandoned_within ..) (by decide) <| Within.refl _ _
  · exact Within.refl _ _

theorem State.idle_within (s : State) : Within [.power, .time, .pair] s (State.idle s) := by
  unfold State.idle
  refine Within.ite (fun _ => ?_) (fun _ => ?_)
  · exact Within.step (State.riseNext_within ..) (by decide) <| Within.refl _ _
  · refine Within.ite (fun _ => ?_) (fun _ => ?_)
    · exact Within.step (State.laneStep_within ..) (by decide) <| Within.upd <| Within.refl _ _
    · exact Within.upd <| Within.refl _ _

end Sys2Proof.Machine
end

