-- ==== Sys2Proof/Laws/State.lean ====
section
/-! SUPPORT. Reading a table after writing it, and what each named update of the state leaves: one lemma for each field, and
one for each accessor. -/

namespace Sys2Proof.Machine

set_option Elab.async false

/-! ### Tables -/

theorem mapFind_mapPut {α : Type} (m : Map α) (i j : Nat) (v : α) :
    mapFind (mapPut i v m) j = if i = j then some v else mapFind m j := by
  induction m with
  | nil => simp [mapPut, mapFind]
  | cons p m ih =>
    obtain ⟨k, w⟩ := p
    simp only [mapPut]
    split
    · simp [mapFind]
    · split
      · subst k; simp only [mapFind]; split <;> rfl
      · simp only [mapFind, ih]; split
        · subst k; simp [Ne.symm ‹¬_›]
        · rfl

@[simp] theorem mapFind_mapPut_same {α : Type} (m : Map α) (i : Nat) (v : α) : mapFind (mapPut i v m) i = some v := by
  simp [mapFind_mapPut]

theorem mapFind_mapPut_other {α : Type} (m : Map α) {i j : Nat} (v : α) (h : i ≠ j) :
    mapFind (mapPut i v m) j = mapFind m j := by
  simp [mapFind_mapPut, h]

@[simp] theorem mapGet_mapPut_same {α : Type} (m : Map α) (i : Nat) (v d : α) : mapGet (mapPut i v m) i d = v := by
  simp [mapGet]

theorem mapGet_mapPut_other {α : Type} (m : Map α) {i j : Nat} (v d : α) (h : i ≠ j) :
    mapGet (mapPut i v m) j d = mapGet m j d := by
  simp [mapGet, mapFind_mapPut_other _ _ h]

theorem mapGet_mapPut {α : Type} (m : Map α) (i j : Nat) (v d : α) :
    mapGet (mapPut i v m) j d = if i = j then v else mapGet m j d := by
  simp only [mapGet, mapFind_mapPut]; split <;> rfl

@[simp] theorem regIn_mapPut_same (m : Map Int) (k : Nat) (v : Int) : regIn (mapPut k v m) k = v := by
  simp [regIn]

theorem regIn_mapPut_other (m : Map Int) {k j : Nat} (v : Int) (h : k ≠ j) : regIn (mapPut k v m) j = regIn m j := by
  simp [regIn, mapFind_mapPut_other _ _ h]

theorem mapPut_mapPut {α : Type} (m : Map α) (i : Nat) (v w : α) : mapPut i v (mapPut i w m) = mapPut i v m := by
  induction m with
  | nil => simp [mapPut]
  | cons p m ih =>
    obtain ⟨k, x⟩ := p
    simp only [mapPut]
    by_cases h : i < k
    · simp [h, mapPut]
    · by_cases g : k = i
      · simp [g, mapPut]
      · simp [h, g, mapPut, ih]

/-! ### Accessors -/

@[simp] theorem State.reg_setReg (s : State) (i j : Nat) (v : Int) : (s.setReg i j v).reg i j = v := by
  simp [State.reg, State.setReg]

theorem State.reg_setReg_other (s : State) {i j k l : Nat} (v : Int) (h : ek i j ≠ ek k l) :
    (s.setReg i j v).reg k l = s.reg k l := regIn_mapPut_other _ _ h

@[simp] theorem State.blob_setBlob (s : State) (i j : Nat) (v : ByteList) : (s.setBlob i j v).blob i j = v := by
  simp [State.blob, State.setBlob, blobIn]

@[simp] theorem State.port_setPort (s : State) (n : Nat) (x : PtpPort) : (s.setPort n x).port n = x := mapGet_mapPut_same _ _ _ _
theorem State.port_setPort_other (s : State) {n m : Nat} (x : PtpPort) (h : n ≠ m) : (s.setPort n x).port m = s.port m :=
  mapGet_mapPut_other _ _ _ h

@[simp] theorem State.tpo_setTpo (s : State) (n : Nat) (x : Tpo) : (s.setTpo n x).tpo n = x := mapGet_mapPut_same _ _ _ _
theorem State.tpo_setTpo_other (s : State) {n m : Nat} (x : Tpo) (h : n ≠ m) : (s.setTpo n x).tpo m = s.tpo m :=
  mapGet_mapPut_other _ _ _ h

@[simp] theorem State.tci_setTci (s : State) (n : Nat) (x : Tci) : (s.setTci n x).tci n = x := mapGet_mapPut_same _ _ _ _
theorem State.tci_setTci_other (s : State) {n m : Nat} (x : Tci) (h : n ≠ m) : (s.setTci n x).tci m = s.tci m :=
  mapGet_mapPut_other _ _ _ h

@[simp] theorem State.linkState_setLink (s : State) (n v : Nat) : (s.setLink n v).linkState n = v := mapGet_mapPut_same _ _ _ _
theorem State.linkState_setLink_other (s : State) {n m : Nat} (v : Nat) (h : n ≠ m) : (s.setLink n v).linkState m = s.linkState m :=
  mapGet_mapPut_other _ _ _ h

@[simp] theorem State.fabricFrame_setFrame (s : State) (n : Nat) (x : Frame) : (s.setFrame n x).fabricFrame n = x := mapGet_mapPut_same _ _ _ _
theorem State.fabricFrame_setFrame_other (s : State) {n m : Nat} (x : Frame) (h : n ≠ m) : (s.setFrame n x).fabricFrame m = s.fabricFrame m :=
  mapGet_mapPut_other _ _ _ h

@[simp] theorem State.stream_setStream (s : State) (n : Nat) (x : Stream) : (s.setStream n x).stream n = x := mapGet_mapPut_same _ _ _ _
theorem State.stream_setStream_other (s : State) {n m : Nat} (x : Stream) (h : n ≠ m) : (s.setStream n x).stream m = s.stream m :=
  mapGet_mapPut_other _ _ _ h

@[simp] theorem State.freqGroup_setFreqGroup (s : State) (n : Nat) (x : FreqGroup) : (s.setFreqGroup n x).freqGroup n = x := mapGet_mapPut_same _ _ _ _
theorem State.freqGroup_setFreqGroup_other (s : State) {n m : Nat} (x : FreqGroup) (h : n ≠ m) : (s.setFreqGroup n x).freqGroup m = s.freqGroup m :=
  mapGet_mapPut_other _ _ _ h

@[simp] theorem State.sumGroup_setSumGroup (s : State) (n : Nat) (x : SumGroup) : (s.setSumGroup n x).sumGroup n = x := mapGet_mapPut_same _ _ _ _
theorem State.sumGroup_setSumGroup_other (s : State) {n m : Nat} (x : SumGroup) (h : n ≠ m) : (s.setSumGroup n x).sumGroup m = s.sumGroup m :=
  mapGet_mapPut_other _ _ _ h

@[simp] theorem State.lane_setLane (s : State) (n : Nat) (x : Lane) : (s.setLane n x).lane n = x := mapGet_mapPut_same _ _ _ _
theorem State.lane_setLane_other (s : State) {n m : Nat} (x : Lane) (h : n ≠ m) : (s.setLane n x).lane m = s.lane m :=
  mapGet_mapPut_other _ _ _ h

@[simp] theorem State.pub_setPub (s : State) (n : Nat) (x : Publisher) : (s.setPub n x).pub n = x := mapGet_mapPut_same _ _ _ _
theorem State.pub_setPub_other (s : State) {n m : Nat} (x : Publisher) (h : n ≠ m) : (s.setPub n x).pub m = s.pub m :=
  mapGet_mapPut_other _ _ _ h

@[simp] theorem State.sub_setSub (s : State) (n : Nat) (x : Sub) : (s.setSub n x).sub n = x := mapGet_mapPut_same _ _ _ _
theorem State.sub_setSub_other (s : State) {n m : Nat} (x : Sub) (h : n ≠ m) : (s.setSub n x).sub m = s.sub m :=
  mapGet_mapPut_other _ _ _ h

@[simp] theorem State.prog_setProg (s : State) (n : Nat) (x : Prog) : (s.setProg n x).prog n = x := mapGet_mapPut_same _ _ _ _
theorem State.prog_setProg_other (s : State) {n m : Nat} (x : Prog) (h : n ≠ m) : (s.setProg n x).prog m = s.prog m :=
  mapGet_mapPut_other _ _ _ h

@[simp] theorem State.station_setStation (s : State) (n : Nat) (x : Station) : (s.setStation n x).station n = x := mapGet_mapPut_same _ _ _ _
theorem State.station_setStation_other (s : State) {n m : Nat} (x : Station) (h : n ≠ m) : (s.setStation n x).station m = s.station m :=
  mapGet_mapPut_other _ _ _ h

@[simp] theorem State.facet_setFacet (s : State) (n : Nat) (x : Facet) : (s.setFacet n x).facet n = x := mapGet_mapPut_same _ _ _ _
theorem State.facet_setFacet_other (s : State) {n m : Nat} (x : Facet) (h : n ≠ m) : (s.setFacet n x).facet m = s.facet m :=
  mapGet_mapPut_other _ _ _ h

@[simp] theorem State.task_setTask (s : State) (n : Nat) (x : Task) : (s.setTask n x).task n = x := mapGet_mapPut_same _ _ _ _
theorem State.task_setTask_other (s : State) {n m : Nat} (x : Task) (h : n ≠ m) : (s.setTask n x).task m = s.task m :=
  mapGet_mapPut_other _ _ _ h

@[simp] theorem State.blobOf_setBlobOf (s : State) (n : Nat) (x : Blob) : (s.setBlobOf n x).blobOf n = x := mapGet_mapPut_same _ _ _ _
theorem State.blobOf_setBlobOf_other (s : State) {n m : Nat} (x : Blob) (h : n ≠ m) : (s.setBlobOf n x).blobOf m = s.blobOf m :=
  mapGet_mapPut_other _ _ _ h

@[simp] theorem State.slot_setSlot (s : State) (n : Nat) (x : CapSlot) : (s.setSlot n x).slot n = x := mapGet_mapPut_same _ _ _ _
theorem State.slot_setSlot_other (s : State) {n m : Nat} (x : CapSlot) (h : n ≠ m) : (s.setSlot n x).slot m = s.slot m :=
  mapGet_mapPut_other _ _ _ h

@[simp] theorem State.ctl_setCtl (s : State) (n : Nat) (x : CanCtl) : (s.setCtl n x).ctl n = x := mapGet_mapPut_same _ _ _ _
theorem State.ctl_setCtl_other (s : State) {n m : Nat} (x : CanCtl) (h : n ≠ m) : (s.setCtl n x).ctl m = s.ctl m :=
  mapGet_mapPut_other _ _ _ h

@[simp] theorem State.dom_setDom (s : State) (d : Nat) (x : DomState) : (s.setDom d x).dom d = x := mapGet_mapPut_same _ _ _ _
theorem State.dom_setDom_other (s : State) {d e : Nat} (x : DomState) (h : d ≠ e) : (s.setDom d x).dom e = s.dom e :=
  mapGet_mapPut_other _ _ _ h

/-! ### setReg -/

@[simp] theorem State.setReg_pending (s : State) (index sub : Nat) (v : Int) : (s.setReg index sub v).pending = s.pending := rfl
@[simp] theorem State.setReg_reply (s : State) (index sub : Nat) (v : Int) : (s.setReg index sub v).reply = s.reply := rfl
@[simp] theorem State.setReg_freeCount (s : State) (index sub : Nat) (v : Int) : (s.setReg index sub v).freeCount = s.freeCount := rfl
@[simp] theorem State.setReg_blobs (s : State) (index sub : Nat) (v : Int) : (s.setReg index sub v).blobs = s.blobs := rfl
@[simp] theorem State.setReg_tickRegs (s : State) (index sub : Nat) (v : Int) : (s.setReg index sub v).tickRegs = s.tickRegs := rfl
@[simp] theorem State.setReg_mem (s : State) (index sub : Nat) (v : Int) : (s.setReg index sub v).mem = s.mem := rfl
@[simp] theorem State.setReg_power (s : State) (index sub : Nat) (v : Int) : (s.setReg index sub v).power = s.power := rfl
@[simp] theorem State.setReg_boot (s : State) (index sub : Nat) (v : Int) : (s.setReg index sub v).boot = s.boot := rfl
@[simp] theorem State.setReg_access (s : State) (index sub : Nat) (v : Int) : (s.setReg index sub v).access = s.access := rfl
@[simp] theorem State.setReg_time (s : State) (index sub : Nat) (v : Int) : (s.setReg index sub v).time = s.time := rfl
@[simp] theorem State.setReg_fabric (s : State) (index sub : Nat) (v : Int) : (s.setReg index sub v).fabric = s.fabric := rfl
@[simp] theorem State.setReg_lens (s : State) (index sub : Nat) (v : Int) : (s.setReg index sub v).lens = s.lens := rfl
@[simp] theorem State.setReg_phasor (s : State) (index sub : Nat) (v : Int) : (s.setReg index sub v).phasor = s.phasor := rfl
@[simp] theorem State.setReg_goose (s : State) (index sub : Nat) (v : Int) : (s.setReg index sub v).goose = s.goose := rfl
@[simp] theorem State.setReg_logic (s : State) (index sub : Nat) (v : Int) : (s.setReg index sub v).logic = s.logic := rfl
@[simp] theorem State.setReg_facets (s : State) (index sub : Nat) (v : Int) : (s.setReg index sub v).facets = s.facets := rfl
@[simp] theorem State.setReg_capture (s : State) (index sub : Nat) (v : Int) : (s.setReg index sub v).capture = s.capture := rfl
@[simp] theorem State.setReg_pair (s : State) (index sub : Nat) (v : Int) : (s.setReg index sub v).pair = s.pair := rfl
@[simp] theorem State.setReg_log (s : State) (index sub : Nat) (v : Int) : (s.setReg index sub v).log = s.log := rfl
@[simp] theorem State.setReg_health (s : State) (index sub : Nat) (v : Int) : (s.setReg index sub v).health = s.health := rfl
@[simp] theorem State.setReg_can (s : State) (index sub : Nat) (v : Int) : (s.setReg index sub v).can = s.can := rfl
@[simp] theorem State.setReg_sec (s : State) (index sub : Nat) (v : Int) : (s.setReg index sub v).sec = s.sec := rfl

/-! ### setBlob -/

@[simp] theorem State.setBlob_pending (s : State) (index sub : Nat) (v : ByteList) : (s.setBlob index sub v).pending = s.pending := rfl
@[simp] theorem State.setBlob_reply (s : State) (index sub : Nat) (v : ByteList) : (s.setBlob index sub v).reply = s.reply := rfl
@[simp] theorem State.setBlob_freeCount (s : State) (index sub : Nat) (v : ByteList) : (s.setBlob index sub v).freeCount = s.freeCount := rfl
@[simp] theorem State.setBlob_regs (s : State) (index sub : Nat) (v : ByteList) : (s.setBlob index sub v).regs = s.regs := rfl
@[simp] theorem State.setBlob_tickRegs (s : State) (index sub : Nat) (v : ByteList) : (s.setBlob index sub v).tickRegs = s.tickRegs := rfl
@[simp] theorem State.setBlob_mem (s : State) (index sub : Nat) (v : ByteList) : (s.setBlob index sub v).mem = s.mem := rfl
@[simp] theorem State.setBlob_power (s : State) (index sub : Nat) (v : ByteList) : (s.setBlob index sub v).power = s.power := rfl
@[simp] theorem State.setBlob_boot (s : State) (index sub : Nat) (v : ByteList) : (s.setBlob index sub v).boot = s.boot := rfl
@[simp] theorem State.setBlob_access (s : State) (index sub : Nat) (v : ByteList) : (s.setBlob index sub v).access = s.access := rfl
@[simp] theorem State.setBlob_time (s : State) (index sub : Nat) (v : ByteList) : (s.setBlob index sub v).time = s.time := rfl
@[simp] theorem State.setBlob_fabric (s : State) (index sub : Nat) (v : ByteList) : (s.setBlob index sub v).fabric = s.fabric := rfl
@[simp] theorem State.setBlob_lens (s : State) (index sub : Nat) (v : ByteList) : (s.setBlob index sub v).lens = s.lens := rfl
@[simp] theorem State.setBlob_phasor (s : State) (index sub : Nat) (v : ByteList) : (s.setBlob index sub v).phasor = s.phasor := rfl
@[simp] theorem State.setBlob_goose (s : State) (index sub : Nat) (v : ByteList) : (s.setBlob index sub v).goose = s.goose := rfl
@[simp] theorem State.setBlob_logic (s : State) (index sub : Nat) (v : ByteList) : (s.setBlob index sub v).logic = s.logic := rfl
@[simp] theorem State.setBlob_facets (s : State) (index sub : Nat) (v : ByteList) : (s.setBlob index sub v).facets = s.facets := rfl
@[simp] theorem State.setBlob_capture (s : State) (index sub : Nat) (v : ByteList) : (s.setBlob index sub v).capture = s.capture := rfl
@[simp] theorem State.setBlob_pair (s : State) (index sub : Nat) (v : ByteList) : (s.setBlob index sub v).pair = s.pair := rfl
@[simp] theorem State.setBlob_log (s : State) (index sub : Nat) (v : ByteList) : (s.setBlob index sub v).log = s.log := rfl
@[simp] theorem State.setBlob_health (s : State) (index sub : Nat) (v : ByteList) : (s.setBlob index sub v).health = s.health := rfl
@[simp] theorem State.setBlob_can (s : State) (index sub : Nat) (v : ByteList) : (s.setBlob index sub v).can = s.can := rfl
@[simp] theorem State.setBlob_sec (s : State) (index sub : Nat) (v : ByteList) : (s.setBlob index sub v).sec = s.sec := rfl

/-! ### answer -/

@[simp] theorem State.answer_pending (s : State) (code : Nat) (payload : ByteList) : (s.answer code payload).pending = s.pending := rfl
@[simp] theorem State.answer_freeCount (s : State) (code : Nat) (payload : ByteList) : (s.answer code payload).freeCount = s.freeCount := rfl
@[simp] theorem State.answer_regs (s : State) (code : Nat) (payload : ByteList) : (s.answer code payload).regs = s.regs := rfl
@[simp] theorem State.answer_blobs (s : State) (code : Nat) (payload : ByteList) : (s.answer code payload).blobs = s.blobs := rfl
@[simp] theorem State.answer_tickRegs (s : State) (code : Nat) (payload : ByteList) : (s.answer code payload).tickRegs = s.tickRegs := rfl
@[simp] theorem State.answer_mem (s : State) (code : Nat) (payload : ByteList) : (s.answer code payload).mem = s.mem := rfl
@[simp] theorem State.answer_power (s : State) (code : Nat) (payload : ByteList) : (s.answer code payload).power = s.power := rfl
@[simp] theorem State.answer_boot (s : State) (code : Nat) (payload : ByteList) : (s.answer code payload).boot = s.boot := rfl
@[simp] theorem State.answer_access (s : State) (code : Nat) (payload : ByteList) : (s.answer code payload).access = s.access := rfl
@[simp] theorem State.answer_time (s : State) (code : Nat) (payload : ByteList) : (s.answer code payload).time = s.time := rfl
@[simp] theorem State.answer_fabric (s : State) (code : Nat) (payload : ByteList) : (s.answer code payload).fabric = s.fabric := rfl
@[simp] theorem State.answer_lens (s : State) (code : Nat) (payload : ByteList) : (s.answer code payload).lens = s.lens := rfl
@[simp] theorem State.answer_phasor (s : State) (code : Nat) (payload : ByteList) : (s.answer code payload).phasor = s.phasor := rfl
@[simp] theorem State.answer_goose (s : State) (code : Nat) (payload : ByteList) : (s.answer code payload).goose = s.goose := rfl
@[simp] theorem State.answer_logic (s : State) (code : Nat) (payload : ByteList) : (s.answer code payload).logic = s.logic := rfl
@[simp] theorem State.answer_facets (s : State) (code : Nat) (payload : ByteList) : (s.answer code payload).facets = s.facets := rfl
@[simp] theorem State.answer_capture (s : State) (code : Nat) (payload : ByteList) : (s.answer code payload).capture = s.capture := rfl
@[simp] theorem State.answer_pair (s : State) (code : Nat) (payload : ByteList) : (s.answer code payload).pair = s.pair := rfl
@[simp] theorem State.answer_log (s : State) (code : Nat) (payload : ByteList) : (s.answer code payload).log = s.log := rfl
@[simp] theorem State.answer_health (s : State) (code : Nat) (payload : ByteList) : (s.answer code payload).health = s.health := rfl
@[simp] theorem State.answer_can (s : State) (code : Nat) (payload : ByteList) : (s.answer code payload).can = s.can := rfl
@[simp] theorem State.answer_sec (s : State) (code : Nat) (payload : ByteList) : (s.answer code payload).sec = s.sec := rfl

/-! ### nextFree -/

@[simp] theorem State.nextFree_pending (s : State) : s.nextFree.pending = s.pending := rfl
@[simp] theorem State.nextFree_reply (s : State) : s.nextFree.reply = s.reply := rfl
@[simp] theorem State.nextFree_regs (s : State) : s.nextFree.regs = s.regs := rfl
@[simp] theorem State.nextFree_blobs (s : State) : s.nextFree.blobs = s.blobs := rfl
@[simp] theorem State.nextFree_tickRegs (s : State) : s.nextFree.tickRegs = s.tickRegs := rfl
@[simp] theorem State.nextFree_mem (s : State) : s.nextFree.mem = s.mem := rfl
@[simp] theorem State.nextFree_power (s : State) : s.nextFree.power = s.power := rfl
@[simp] theorem State.nextFree_boot (s : State) : s.nextFree.boot = s.boot := rfl
@[simp] theorem State.nextFree_access (s : State) : s.nextFree.access = s.access := rfl
@[simp] theorem State.nextFree_time (s : State) : s.nextFree.time = s.time := rfl
@[simp] theorem State.nextFree_fabric (s : State) : s.nextFree.fabric = s.fabric := rfl
@[simp] theorem State.nextFree_lens (s : State) : s.nextFree.lens = s.lens := rfl
@[simp] theorem State.nextFree_phasor (s : State) : s.nextFree.phasor = s.phasor := rfl
@[simp] theorem State.nextFree_goose (s : State) : s.nextFree.goose = s.goose := rfl
@[simp] theorem State.nextFree_logic (s : State) : s.nextFree.logic = s.logic := rfl
@[simp] theorem State.nextFree_facets (s : State) : s.nextFree.facets = s.facets := rfl
@[simp] theorem State.nextFree_capture (s : State) : s.nextFree.capture = s.capture := rfl
@[simp] theorem State.nextFree_pair (s : State) : s.nextFree.pair = s.pair := rfl
@[simp] theorem State.nextFree_log (s : State) : s.nextFree.log = s.log := rfl
@[simp] theorem State.nextFree_health (s : State) : s.nextFree.health = s.health := rfl
@[simp] theorem State.nextFree_can (s : State) : s.nextFree.can = s.can := rfl
@[simp] theorem State.nextFree_sec (s : State) : s.nextFree.sec = s.sec := rfl

/-! ### setPower -/

@[simp] theorem State.setPower_pending (s : State) (f : Power → Power) : (s.setPower f).pending = s.pending := rfl
@[simp] theorem State.setPower_reply (s : State) (f : Power → Power) : (s.setPower f).reply = s.reply := rfl
@[simp] theorem State.setPower_freeCount (s : State) (f : Power → Power) : (s.setPower f).freeCount = s.freeCount := rfl
@[simp] theorem State.setPower_regs (s : State) (f : Power → Power) : (s.setPower f).regs = s.regs := rfl
@[simp] theorem State.setPower_blobs (s : State) (f : Power → Power) : (s.setPower f).blobs = s.blobs := rfl
@[simp] theorem State.setPower_tickRegs (s : State) (f : Power → Power) : (s.setPower f).tickRegs = s.tickRegs := rfl
@[simp] theorem State.setPower_mem (s : State) (f : Power → Power) : (s.setPower f).mem = s.mem := rfl
@[simp] theorem State.setPower_boot (s : State) (f : Power → Power) : (s.setPower f).boot = s.boot := rfl
@[simp] theorem State.setPower_access (s : State) (f : Power → Power) : (s.setPower f).access = s.access := rfl
@[simp] theorem State.setPower_time (s : State) (f : Power → Power) : (s.setPower f).time = s.time := rfl
@[simp] theorem State.setPower_fabric (s : State) (f : Power → Power) : (s.setPower f).fabric = s.fabric := rfl
@[simp] theorem State.setPower_lens (s : State) (f : Power → Power) : (s.setPower f).lens = s.lens := rfl
@[simp] theorem State.setPower_phasor (s : State) (f : Power → Power) : (s.setPower f).phasor = s.phasor := rfl
@[simp] theorem State.setPower_goose (s : State) (f : Power → Power) : (s.setPower f).goose = s.goose := rfl
@[simp] theorem State.setPower_logic (s : State) (f : Power → Power) : (s.setPower f).logic = s.logic := rfl
@[simp] theorem State.setPower_facets (s : State) (f : Power → Power) : (s.setPower f).facets = s.facets := rfl
@[simp] theorem State.setPower_capture (s : State) (f : Power → Power) : (s.setPower f).capture = s.capture := rfl
@[simp] theorem State.setPower_pair (s : State) (f : Power → Power) : (s.setPower f).pair = s.pair := rfl
@[simp] theorem State.setPower_log (s : State) (f : Power → Power) : (s.setPower f).log = s.log := rfl
@[simp] theorem State.setPower_health (s : State) (f : Power → Power) : (s.setPower f).health = s.health := rfl
@[simp] theorem State.setPower_can (s : State) (f : Power → Power) : (s.setPower f).can = s.can := rfl
@[simp] theorem State.setPower_sec (s : State) (f : Power → Power) : (s.setPower f).sec = s.sec := rfl
@[simp] theorem State.setPower_power (s : State) (f : Power → Power) : (s.setPower f).power = f s.power := rfl

/-! ### setBoot -/

@[simp] theorem State.setBoot_pending (s : State) (f : Boot → Boot) : (s.setBoot f).pending = s.pending := rfl
@[simp] theorem State.setBoot_reply (s : State) (f : Boot → Boot) : (s.setBoot f).reply = s.reply := rfl
@[simp] theorem State.setBoot_freeCount (s : State) (f : Boot → Boot) : (s.setBoot f).freeCount = s.freeCount := rfl
@[simp] theorem State.setBoot_regs (s : State) (f : Boot → Boot) : (s.setBoot f).regs = s.regs := rfl
@[simp] theorem State.setBoot_blobs (s : State) (f : Boot → Boot) : (s.setBoot f).blobs = s.blobs := rfl
@[simp] theorem State.setBoot_tickRegs (s : State) (f : Boot → Boot) : (s.setBoot f).tickRegs = s.tickRegs := rfl
@[simp] theorem State.setBoot_mem (s : State) (f : Boot → Boot) : (s.setBoot f).mem = s.mem := rfl
@[simp] theorem State.setBoot_power (s : State) (f : Boot → Boot) : (s.setBoot f).power = s.power := rfl
@[simp] theorem State.setBoot_access (s : State) (f : Boot → Boot) : (s.setBoot f).access = s.access := rfl
@[simp] theorem State.setBoot_time (s : State) (f : Boot → Boot) : (s.setBoot f).time = s.time := rfl
@[simp] theorem State.setBoot_fabric (s : State) (f : Boot → Boot) : (s.setBoot f).fabric = s.fabric := rfl
@[simp] theorem State.setBoot_lens (s : State) (f : Boot → Boot) : (s.setBoot f).lens = s.lens := rfl
@[simp] theorem State.setBoot_phasor (s : State) (f : Boot → Boot) : (s.setBoot f).phasor = s.phasor := rfl
@[simp] theorem State.setBoot_goose (s : State) (f : Boot → Boot) : (s.setBoot f).goose = s.goose := rfl
@[simp] theorem State.setBoot_logic (s : State) (f : Boot → Boot) : (s.setBoot f).logic = s.logic := rfl
@[simp] theorem State.setBoot_facets (s : State) (f : Boot → Boot) : (s.setBoot f).facets = s.facets := rfl
@[simp] theorem State.setBoot_capture (s : State) (f : Boot → Boot) : (s.setBoot f).capture = s.capture := rfl
@[simp] theorem State.setBoot_pair (s : State) (f : Boot → Boot) : (s.setBoot f).pair = s.pair := rfl
@[simp] theorem State.setBoot_log (s : State) (f : Boot → Boot) : (s.setBoot f).log = s.log := rfl
@[simp] theorem State.setBoot_health (s : State) (f : Boot → Boot) : (s.setBoot f).health = s.health := rfl
@[simp] theorem State.setBoot_can (s : State) (f : Boot → Boot) : (s.setBoot f).can = s.can := rfl
@[simp] theorem State.setBoot_sec (s : State) (f : Boot → Boot) : (s.setBoot f).sec = s.sec := rfl
@[simp] theorem State.setBoot_boot (s : State) (f : Boot → Boot) : (s.setBoot f).boot = f s.boot := rfl

/-! ### setPair -/

@[simp] theorem State.setPair_pending (s : State) (f : Pair → Pair) : (s.setPair f).pending = s.pending := rfl
@[simp] theorem State.setPair_reply (s : State) (f : Pair → Pair) : (s.setPair f).reply = s.reply := rfl
@[simp] theorem State.setPair_freeCount (s : State) (f : Pair → Pair) : (s.setPair f).freeCount = s.freeCount := rfl
@[simp] theorem State.setPair_regs (s : State) (f : Pair → Pair) : (s.setPair f).regs = s.regs := rfl
@[simp] theorem State.setPair_blobs (s : State) (f : Pair → Pair) : (s.setPair f).blobs = s.blobs := rfl
@[simp] theorem State.setPair_tickRegs (s : State) (f : Pair → Pair) : (s.setPair f).tickRegs = s.tickRegs := rfl
@[simp] theorem State.setPair_mem (s : State) (f : Pair → Pair) : (s.setPair f).mem = s.mem := rfl
@[simp] theorem State.setPair_power (s : State) (f : Pair → Pair) : (s.setPair f).power = s.power := rfl
@[simp] theorem State.setPair_boot (s : State) (f : Pair → Pair) : (s.setPair f).boot = s.boot := rfl
@[simp] theorem State.setPair_access (s : State) (f : Pair → Pair) : (s.setPair f).access = s.access := rfl
@[simp] theorem State.setPair_time (s : State) (f : Pair → Pair) : (s.setPair f).time = s.time := rfl
@[simp] theorem State.setPair_fabric (s : State) (f : Pair → Pair) : (s.setPair f).fabric = s.fabric := rfl
@[simp] theorem State.setPair_lens (s : State) (f : Pair → Pair) : (s.setPair f).lens = s.lens := rfl
@[simp] theorem State.setPair_phasor (s : State) (f : Pair → Pair) : (s.setPair f).phasor = s.phasor := rfl
@[simp] theorem State.setPair_goose (s : State) (f : Pair → Pair) : (s.setPair f).goose = s.goose := rfl
@[simp] theorem State.setPair_logic (s : State) (f : Pair → Pair) : (s.setPair f).logic = s.logic := rfl
@[simp] theorem State.setPair_facets (s : State) (f : Pair → Pair) : (s.setPair f).facets = s.facets := rfl
@[simp] theorem State.setPair_capture (s : State) (f : Pair → Pair) : (s.setPair f).capture = s.capture := rfl
@[simp] theorem State.setPair_log (s : State) (f : Pair → Pair) : (s.setPair f).log = s.log := rfl
@[simp] theorem State.setPair_health (s : State) (f : Pair → Pair) : (s.setPair f).health = s.health := rfl
@[simp] theorem State.setPair_can (s : State) (f : Pair → Pair) : (s.setPair f).can = s.can := rfl
@[simp] theorem State.setPair_sec (s : State) (f : Pair → Pair) : (s.setPair f).sec = s.sec := rfl
@[simp] theorem State.setPair_pair (s : State) (f : Pair → Pair) : (s.setPair f).pair = f s.pair := rfl

/-! ### setDom -/

@[simp] theorem State.setDom_pending (s : State) (d : Nat) (x : DomState) : (s.setDom d x).pending = s.pending := rfl
@[simp] theorem State.setDom_reply (s : State) (d : Nat) (x : DomState) : (s.setDom d x).reply = s.reply := rfl
@[simp] theorem State.setDom_freeCount (s : State) (d : Nat) (x : DomState) : (s.setDom d x).freeCount = s.freeCount := rfl
@[simp] theorem State.setDom_regs (s : State) (d : Nat) (x : DomState) : (s.setDom d x).regs = s.regs := rfl
@[simp] theorem State.setDom_blobs (s : State) (d : Nat) (x : DomState) : (s.setDom d x).blobs = s.blobs := rfl
@[simp] theorem State.setDom_tickRegs (s : State) (d : Nat) (x : DomState) : (s.setDom d x).tickRegs = s.tickRegs := rfl
@[simp] theorem State.setDom_mem (s : State) (d : Nat) (x : DomState) : (s.setDom d x).mem = s.mem := rfl
@[simp] theorem State.setDom_boot (s : State) (d : Nat) (x : DomState) : (s.setDom d x).boot = s.boot := rfl
@[simp] theorem State.setDom_access (s : State) (d : Nat) (x : DomState) : (s.setDom d x).access = s.access := rfl
@[simp] theorem State.setDom_time (s : State) (d : Nat) (x : DomState) : (s.setDom d x).time = s.time := rfl
@[simp] theorem State.setDom_fabric (s : State) (d : Nat) (x : DomState) : (s.setDom d x).fabric = s.fabric := rfl
@[simp] theorem State.setDom_lens (s : State) (d : Nat) (x : DomState) : (s.setDom d x).lens = s.lens := rfl
@[simp] theorem State.setDom_phasor (s : State) (d : Nat) (x : DomState) : (s.setDom d x).phasor = s.phasor := rfl
@[simp] theorem State.setDom_goose (s : State) (d : Nat) (x : DomState) : (s.setDom d x).goose = s.goose := rfl
@[simp] theorem State.setDom_logic (s : State) (d : Nat) (x : DomState) : (s.setDom d x).logic = s.logic := rfl
@[simp] theorem State.setDom_facets (s : State) (d : Nat) (x : DomState) : (s.setDom d x).facets = s.facets := rfl
@[simp] theorem State.setDom_capture (s : State) (d : Nat) (x : DomState) : (s.setDom d x).capture = s.capture := rfl
@[simp] theorem State.setDom_pair (s : State) (d : Nat) (x : DomState) : (s.setDom d x).pair = s.pair := rfl
@[simp] theorem State.setDom_log (s : State) (d : Nat) (x : DomState) : (s.setDom d x).log = s.log := rfl
@[simp] theorem State.setDom_health (s : State) (d : Nat) (x : DomState) : (s.setDom d x).health = s.health := rfl
@[simp] theorem State.setDom_can (s : State) (d : Nat) (x : DomState) : (s.setDom d x).can = s.can := rfl
@[simp] theorem State.setDom_sec (s : State) (d : Nat) (x : DomState) : (s.setDom d x).sec = s.sec := rfl

/-! ### setSession -/

@[simp] theorem State.setSession_pending (s : State) (n : Nat) (x : Session) : (s.setSession n x).pending = s.pending := rfl
@[simp] theorem State.setSession_reply (s : State) (n : Nat) (x : Session) : (s.setSession n x).reply = s.reply := rfl
@[simp] theorem State.setSession_freeCount (s : State) (n : Nat) (x : Session) : (s.setSession n x).freeCount = s.freeCount := rfl
@[simp] theorem State.setSession_regs (s : State) (n : Nat) (x : Session) : (s.setSession n x).regs = s.regs := rfl
@[simp] theorem State.setSession_blobs (s : State) (n : Nat) (x : Session) : (s.setSession n x).blobs = s.blobs := rfl
@[simp] theorem State.setSession_tickRegs (s : State) (n : Nat) (x : Session) : (s.setSession n x).tickRegs = s.tickRegs := rfl
@[simp] theorem State.setSession_mem (s : State) (n : Nat) (x : Session) : (s.setSession n x).mem = s.mem := rfl
@[simp] theorem State.setSession_power (s : State) (n : Nat) (x : Session) : (s.setSession n x).power = s.power := rfl
@[simp] theorem State.setSession_boot (s : State) (n : Nat) (x : Session) : (s.setSession n x).boot = s.boot := rfl
@[simp] theorem State.setSession_time (s : State) (n : Nat) (x : Session) : (s.setSession n x).time = s.time := rfl
@[simp] theorem State.setSession_fabric (s : State) (n : Nat) (x : Session) : (s.setSession n x).fabric = s.fabric := rfl
@[simp] theorem State.setSession_lens (s : State) (n : Nat) (x : Session) : (s.setSession n x).lens = s.lens := rfl
@[simp] theorem State.setSession_phasor (s : State) (n : Nat) (x : Session) : (s.setSession n x).phasor = s.phasor := rfl
@[simp] theorem State.setSession_goose (s : State) (n : Nat) (x : Session) : (s.setSession n x).goose = s.goose := rfl
@[simp] theorem State.setSession_logic (s : State) (n : Nat) (x : Session) : (s.setSession n x).logic = s.logic := rfl
@[simp] theorem State.setSession_facets (s : State) (n : Nat) (x : Session) : (s.setSession n x).facets = s.facets := rfl
@[simp] theorem State.setSession_capture (s : State) (n : Nat) (x : Session) : (s.setSession n x).capture = s.capture := rfl
@[simp] theorem State.setSession_pair (s : State) (n : Nat) (x : Session) : (s.setSession n x).pair = s.pair := rfl
@[simp] theorem State.setSession_log (s : State) (n : Nat) (x : Session) : (s.setSession n x).log = s.log := rfl
@[simp] theorem State.setSession_health (s : State) (n : Nat) (x : Session) : (s.setSession n x).health = s.health := rfl
@[simp] theorem State.setSession_can (s : State) (n : Nat) (x : Session) : (s.setSession n x).can = s.can := rfl
@[simp] theorem State.setSession_sec (s : State) (n : Nat) (x : Session) : (s.setSession n x).sec = s.sec := rfl

/-! ### setClient -/

@[simp] theorem State.setClient_pending (s : State) (n : Nat) (x : CabClient) : (s.setClient n x).pending = s.pending := rfl
@[simp] theorem State.setClient_reply (s : State) (n : Nat) (x : CabClient) : (s.setClient n x).reply = s.reply := rfl
@[simp] theorem State.setClient_freeCount (s : State) (n : Nat) (x : CabClient) : (s.setClient n x).freeCount = s.freeCount := rfl
@[simp] theorem State.setClient_regs (s : State) (n : Nat) (x : CabClient) : (s.setClient n x).regs = s.regs := rfl
@[simp] theorem State.setClient_blobs (s : State) (n : Nat) (x : CabClient) : (s.setClient n x).blobs = s.blobs := rfl
@[simp] theorem State.setClient_tickRegs (s : State) (n : Nat) (x : CabClient) : (s.setClient n x).tickRegs = s.tickRegs := rfl
@[simp] theorem State.setClient_mem (s : State) (n : Nat) (x : CabClient) : (s.setClient n x).mem = s.mem := rfl
@[simp] theorem State.setClient_power (s : State) (n : Nat) (x : CabClient) : (s.setClient n x).power = s.power := rfl
@[simp] theorem State.setClient_boot (s : State) (n : Nat) (x : CabClient) : (s.setClient n x).boot = s.boot := rfl
@[simp] theorem State.setClient_time (s : State) (n : Nat) (x : CabClient) : (s.setClient n x).time = s.time := rfl
@[simp] theorem State.setClient_fabric (s : State) (n : Nat) (x : CabClient) : (s.setClient n x).fabric = s.fabric := rfl
@[simp] theorem State.setClient_lens (s : State) (n : Nat) (x : CabClient) : (s.setClient n x).lens = s.lens := rfl
@[simp] theorem State.setClient_phasor (s : State) (n : Nat) (x : CabClient) : (s.setClient n x).phasor = s.phasor := rfl
@[simp] theorem State.setClient_goose (s : State) (n : Nat) (x : CabClient) : (s.setClient n x).goose = s.goose := rfl
@[simp] theorem State.setClient_logic (s : State) (n : Nat) (x : CabClient) : (s.setClient n x).logic = s.logic := rfl
@[simp] theorem State.setClient_facets (s : State) (n : Nat) (x : CabClient) : (s.setClient n x).facets = s.facets := rfl
@[simp] theorem State.setClient_capture (s : State) (n : Nat) (x : CabClient) : (s.setClient n x).capture = s.capture := rfl
@[simp] theorem State.setClient_pair (s : State) (n : Nat) (x : CabClient) : (s.setClient n x).pair = s.pair := rfl
@[simp] theorem State.setClient_log (s : State) (n : Nat) (x : CabClient) : (s.setClient n x).log = s.log := rfl
@[simp] theorem State.setClient_health (s : State) (n : Nat) (x : CabClient) : (s.setClient n x).health = s.health := rfl
@[simp] theorem State.setClient_can (s : State) (n : Nat) (x : CabClient) : (s.setClient n x).can = s.can := rfl
@[simp] theorem State.setClient_sec (s : State) (n : Nat) (x : CabClient) : (s.setClient n x).sec = s.sec := rfl

/-! ### setPort -/

@[simp] theorem State.setPort_pending (s : State) (n : Nat) (x : PtpPort) : (s.setPort n x).pending = s.pending := rfl
@[simp] theorem State.setPort_reply (s : State) (n : Nat) (x : PtpPort) : (s.setPort n x).reply = s.reply := rfl
@[simp] theorem State.setPort_freeCount (s : State) (n : Nat) (x : PtpPort) : (s.setPort n x).freeCount = s.freeCount := rfl
@[simp] theorem State.setPort_regs (s : State) (n : Nat) (x : PtpPort) : (s.setPort n x).regs = s.regs := rfl
@[simp] theorem State.setPort_blobs (s : State) (n : Nat) (x : PtpPort) : (s.setPort n x).blobs = s.blobs := rfl
@[simp] theorem State.setPort_tickRegs (s : State) (n : Nat) (x : PtpPort) : (s.setPort n x).tickRegs = s.tickRegs := rfl
@[simp] theorem State.setPort_mem (s : State) (n : Nat) (x : PtpPort) : (s.setPort n x).mem = s.mem := rfl
@[simp] theorem State.setPort_power (s : State) (n : Nat) (x : PtpPort) : (s.setPort n x).power = s.power := rfl
@[simp] theorem State.setPort_boot (s : State) (n : Nat) (x : PtpPort) : (s.setPort n x).boot = s.boot := rfl
@[simp] theorem State.setPort_access (s : State) (n : Nat) (x : PtpPort) : (s.setPort n x).access = s.access := rfl
@[simp] theorem State.setPort_fabric (s : State) (n : Nat) (x : PtpPort) : (s.setPort n x).fabric = s.fabric := rfl
@[simp] theorem State.setPort_lens (s : State) (n : Nat) (x : PtpPort) : (s.setPort n x).lens = s.lens := rfl
@[simp] theorem State.setPort_phasor (s : State) (n : Nat) (x : PtpPort) : (s.setPort n x).phasor = s.phasor := rfl
@[simp] theorem State.setPort_goose (s : State) (n : Nat) (x : PtpPort) : (s.setPort n x).goose = s.goose := rfl
@[simp] theorem State.setPort_logic (s : State) (n : Nat) (x : PtpPort) : (s.setPort n x).logic = s.logic := rfl
@[simp] theorem State.setPort_facets (s : State) (n : Nat) (x : PtpPort) : (s.setPort n x).facets = s.facets := rfl
@[simp] theorem State.setPort_capture (s : State) (n : Nat) (x : PtpPort) : (s.setPort n x).capture = s.capture := rfl
@[simp] theorem State.setPort_pair (s : State) (n : Nat) (x : PtpPort) : (s.setPort n x).pair = s.pair := rfl
@[simp] theorem State.setPort_log (s : State) (n : Nat) (x : PtpPort) : (s.setPort n x).log = s.log := rfl
@[simp] theorem State.setPort_health (s : State) (n : Nat) (x : PtpPort) : (s.setPort n x).health = s.health := rfl
@[simp] theorem State.setPort_can (s : State) (n : Nat) (x : PtpPort) : (s.setPort n x).can = s.can := rfl
@[simp] theorem State.setPort_sec (s : State) (n : Nat) (x : PtpPort) : (s.setPort n x).sec = s.sec := rfl

/-! ### setTpo -/

@[simp] theorem State.setTpo_pending (s : State) (n : Nat) (x : Tpo) : (s.setTpo n x).pending = s.pending := rfl
@[simp] theorem State.setTpo_reply (s : State) (n : Nat) (x : Tpo) : (s.setTpo n x).reply = s.reply := rfl
@[simp] theorem State.setTpo_freeCount (s : State) (n : Nat) (x : Tpo) : (s.setTpo n x).freeCount = s.freeCount := rfl
@[simp] theorem State.setTpo_regs (s : State) (n : Nat) (x : Tpo) : (s.setTpo n x).regs = s.regs := rfl
@[simp] theorem State.setTpo_blobs (s : State) (n : Nat) (x : Tpo) : (s.setTpo n x).blobs = s.blobs := rfl
@[simp] theorem State.setTpo_tickRegs (s : State) (n : Nat) (x : Tpo) : (s.setTpo n x).tickRegs = s.tickRegs := rfl
@[simp] theorem State.setTpo_mem (s : State) (n : Nat) (x : Tpo) : (s.setTpo n x).mem = s.mem := rfl
@[simp] theorem State.setTpo_power (s : State) (n : Nat) (x : Tpo) : (s.setTpo n x).power = s.power := rfl
@[simp] theorem State.setTpo_boot (s : State) (n : Nat) (x : Tpo) : (s.setTpo n x).boot = s.boot := rfl
@[simp] theorem State.setTpo_access (s : State) (n : Nat) (x : Tpo) : (s.setTpo n x).access = s.access := rfl
@[simp] theorem State.setTpo_fabric (s : State) (n : Nat) (x : Tpo) : (s.setTpo n x).fabric = s.fabric := rfl
@[simp] theorem State.setTpo_lens (s : State) (n : Nat) (x : Tpo) : (s.setTpo n x).lens = s.lens := rfl
@[simp] theorem State.setTpo_phasor (s : State) (n : Nat) (x : Tpo) : (s.setTpo n x).phasor = s.phasor := rfl
@[simp] theorem State.setTpo_goose (s : State) (n : Nat) (x : Tpo) : (s.setTpo n x).goose = s.goose := rfl
@[simp] theorem State.setTpo_logic (s : State) (n : Nat) (x : Tpo) : (s.setTpo n x).logic = s.logic := rfl
@[simp] theorem State.setTpo_facets (s : State) (n : Nat) (x : Tpo) : (s.setTpo n x).facets = s.facets := rfl
@[simp] theorem State.setTpo_capture (s : State) (n : Nat) (x : Tpo) : (s.setTpo n x).capture = s.capture := rfl
@[simp] theorem State.setTpo_pair (s : State) (n : Nat) (x : Tpo) : (s.setTpo n x).pair = s.pair := rfl
@[simp] theorem State.setTpo_log (s : State) (n : Nat) (x : Tpo) : (s.setTpo n x).log = s.log := rfl
@[simp] theorem State.setTpo_health (s : State) (n : Nat) (x : Tpo) : (s.setTpo n x).health = s.health := rfl
@[simp] theorem State.setTpo_can (s : State) (n : Nat) (x : Tpo) : (s.setTpo n x).can = s.can := rfl
@[simp] theorem State.setTpo_sec (s : State) (n : Nat) (x : Tpo) : (s.setTpo n x).sec = s.sec := rfl

/-! ### setTci -/

@[simp] theorem State.setTci_pending (s : State) (n : Nat) (x : Tci) : (s.setTci n x).pending = s.pending := rfl
@[simp] theorem State.setTci_reply (s : State) (n : Nat) (x : Tci) : (s.setTci n x).reply = s.reply := rfl
@[simp] theorem State.setTci_freeCount (s : State) (n : Nat) (x : Tci) : (s.setTci n x).freeCount = s.freeCount := rfl
@[simp] theorem State.setTci_regs (s : State) (n : Nat) (x : Tci) : (s.setTci n x).regs = s.regs := rfl
@[simp] theorem State.setTci_blobs (s : State) (n : Nat) (x : Tci) : (s.setTci n x).blobs = s.blobs := rfl
@[simp] theorem State.setTci_tickRegs (s : State) (n : Nat) (x : Tci) : (s.setTci n x).tickRegs = s.tickRegs := rfl
@[simp] theorem State.setTci_mem (s : State) (n : Nat) (x : Tci) : (s.setTci n x).mem = s.mem := rfl
@[simp] theorem State.setTci_power (s : State) (n : Nat) (x : Tci) : (s.setTci n x).power = s.power := rfl
@[simp] theorem State.setTci_boot (s : State) (n : Nat) (x : Tci) : (s.setTci n x).boot = s.boot := rfl
@[simp] theorem State.setTci_access (s : State) (n : Nat) (x : Tci) : (s.setTci n x).access = s.access := rfl
@[simp] theorem State.setTci_fabric (s : State) (n : Nat) (x : Tci) : (s.setTci n x).fabric = s.fabric := rfl
@[simp] theorem State.setTci_lens (s : State) (n : Nat) (x : Tci) : (s.setTci n x).lens = s.lens := rfl
@[simp] theorem State.setTci_phasor (s : State) (n : Nat) (x : Tci) : (s.setTci n x).phasor = s.phasor := rfl
@[simp] theorem State.setTci_goose (s : State) (n : Nat) (x : Tci) : (s.setTci n x).goose = s.goose := rfl
@[simp] theorem State.setTci_logic (s : State) (n : Nat) (x : Tci) : (s.setTci n x).logic = s.logic := rfl
@[simp] theorem State.setTci_facets (s : State) (n : Nat) (x : Tci) : (s.setTci n x).facets = s.facets := rfl
@[simp] theorem State.setTci_capture (s : State) (n : Nat) (x : Tci) : (s.setTci n x).capture = s.capture := rfl
@[simp] theorem State.setTci_pair (s : State) (n : Nat) (x : Tci) : (s.setTci n x).pair = s.pair := rfl
@[simp] theorem State.setTci_log (s : State) (n : Nat) (x : Tci) : (s.setTci n x).log = s.log := rfl
@[simp] theorem State.setTci_health (s : State) (n : Nat) (x : Tci) : (s.setTci n x).health = s.health := rfl
@[simp] theorem State.setTci_can (s : State) (n : Nat) (x : Tci) : (s.setTci n x).can = s.can := rfl
@[simp] theorem State.setTci_sec (s : State) (n : Nat) (x : Tci) : (s.setTci n x).sec = s.sec := rfl

/-! ### setLink -/

@[simp] theorem State.setLink_pending (s : State) (n v : Nat) : (s.setLink n v).pending = s.pending := rfl
@[simp] theorem State.setLink_reply (s : State) (n v : Nat) : (s.setLink n v).reply = s.reply := rfl
@[simp] theorem State.setLink_freeCount (s : State) (n v : Nat) : (s.setLink n v).freeCount = s.freeCount := rfl
@[simp] theorem State.setLink_regs (s : State) (n v : Nat) : (s.setLink n v).regs = s.regs := rfl
@[simp] theorem State.setLink_blobs (s : State) (n v : Nat) : (s.setLink n v).blobs = s.blobs := rfl
@[simp] theorem State.setLink_tickRegs (s : State) (n v : Nat) : (s.setLink n v).tickRegs = s.tickRegs := rfl
@[simp] theorem State.setLink_mem (s : State) (n v : Nat) : (s.setLink n v).mem = s.mem := rfl
@[simp] theorem State.setLink_power (s : State) (n v : Nat) : (s.setLink n v).power = s.power := rfl
@[simp] theorem State.setLink_boot (s : State) (n v : Nat) : (s.setLink n v).boot = s.boot := rfl
@[simp] theorem State.setLink_access (s : State) (n v : Nat) : (s.setLink n v).access = s.access := rfl
@[simp] theorem State.setLink_time (s : State) (n v : Nat) : (s.setLink n v).time = s.time := rfl
@[simp] theorem State.setLink_lens (s : State) (n v : Nat) : (s.setLink n v).lens = s.lens := rfl
@[simp] theorem State.setLink_phasor (s : State) (n v : Nat) : (s.setLink n v).phasor = s.phasor := rfl
@[simp] theorem State.setLink_goose (s : State) (n v : Nat) : (s.setLink n v).goose = s.goose := rfl
@[simp] theorem State.setLink_logic (s : State) (n v : Nat) : (s.setLink n v).logic = s.logic := rfl
@[simp] theorem State.setLink_facets (s : State) (n v : Nat) : (s.setLink n v).facets = s.facets := rfl
@[simp] theorem State.setLink_capture (s : State) (n v : Nat) : (s.setLink n v).capture = s.capture := rfl
@[simp] theorem State.setLink_pair (s : State) (n v : Nat) : (s.setLink n v).pair = s.pair := rfl
@[simp] theorem State.setLink_log (s : State) (n v : Nat) : (s.setLink n v).log = s.log := rfl
@[simp] theorem State.setLink_health (s : State) (n v : Nat) : (s.setLink n v).health = s.health := rfl
@[simp] theorem State.setLink_can (s : State) (n v : Nat) : (s.setLink n v).can = s.can := rfl
@[simp] theorem State.setLink_sec (s : State) (n v : Nat) : (s.setLink n v).sec = s.sec := rfl

/-! ### setFdb -/

@[simp] theorem State.setFdb_pending (s : State) (m : Map Nat) : (s.setFdb m).pending = s.pending := rfl
@[simp] theorem State.setFdb_reply (s : State) (m : Map Nat) : (s.setFdb m).reply = s.reply := rfl
@[simp] theorem State.setFdb_freeCount (s : State) (m : Map Nat) : (s.setFdb m).freeCount = s.freeCount := rfl
@[simp] theorem State.setFdb_regs (s : State) (m : Map Nat) : (s.setFdb m).regs = s.regs := rfl
@[simp] theorem State.setFdb_blobs (s : State) (m : Map Nat) : (s.setFdb m).blobs = s.blobs := rfl
@[simp] theorem State.setFdb_tickRegs (s : State) (m : Map Nat) : (s.setFdb m).tickRegs = s.tickRegs := rfl
@[simp] theorem State.setFdb_mem (s : State) (m : Map Nat) : (s.setFdb m).mem = s.mem := rfl
@[simp] theorem State.setFdb_power (s : State) (m : Map Nat) : (s.setFdb m).power = s.power := rfl
@[simp] theorem State.setFdb_boot (s : State) (m : Map Nat) : (s.setFdb m).boot = s.boot := rfl
@[simp] theorem State.setFdb_access (s : State) (m : Map Nat) : (s.setFdb m).access = s.access := rfl
@[simp] theorem State.setFdb_time (s : State) (m : Map Nat) : (s.setFdb m).time = s.time := rfl
@[simp] theorem State.setFdb_lens (s : State) (m : Map Nat) : (s.setFdb m).lens = s.lens := rfl
@[simp] theorem State.setFdb_phasor (s : State) (m : Map Nat) : (s.setFdb m).phasor = s.phasor := rfl
@[simp] theorem State.setFdb_goose (s : State) (m : Map Nat) : (s.setFdb m).goose = s.goose := rfl
@[simp] theorem State.setFdb_logic (s : State) (m : Map Nat) : (s.setFdb m).logic = s.logic := rfl
@[simp] theorem State.setFdb_facets (s : State) (m : Map Nat) : (s.setFdb m).facets = s.facets := rfl
@[simp] theorem State.setFdb_capture (s : State) (m : Map Nat) : (s.setFdb m).capture = s.capture := rfl
@[simp] theorem State.setFdb_pair (s : State) (m : Map Nat) : (s.setFdb m).pair = s.pair := rfl
@[simp] theorem State.setFdb_log (s : State) (m : Map Nat) : (s.setFdb m).log = s.log := rfl
@[simp] theorem State.setFdb_health (s : State) (m : Map Nat) : (s.setFdb m).health = s.health := rfl
@[simp] theorem State.setFdb_can (s : State) (m : Map Nat) : (s.setFdb m).can = s.can := rfl
@[simp] theorem State.setFdb_sec (s : State) (m : Map Nat) : (s.setFdb m).sec = s.sec := rfl

/-! ### setStreamTab -/

@[simp] theorem State.setStreamTab_pending (s : State) (m : Map Nat) : (s.setStreamTab m).pending = s.pending := rfl
@[simp] theorem State.setStreamTab_reply (s : State) (m : Map Nat) : (s.setStreamTab m).reply = s.reply := rfl
@[simp] theorem State.setStreamTab_freeCount (s : State) (m : Map Nat) : (s.setStreamTab m).freeCount = s.freeCount := rfl
@[simp] theorem State.setStreamTab_regs (s : State) (m : Map Nat) : (s.setStreamTab m).regs = s.regs := rfl
@[simp] theorem State.setStreamTab_blobs (s : State) (m : Map Nat) : (s.setStreamTab m).blobs = s.blobs := rfl
@[simp] theorem State.setStreamTab_tickRegs (s : State) (m : Map Nat) : (s.setStreamTab m).tickRegs = s.tickRegs := rfl
@[simp] theorem State.setStreamTab_mem (s : State) (m : Map Nat) : (s.setStreamTab m).mem = s.mem := rfl
@[simp] theorem State.setStreamTab_power (s : State) (m : Map Nat) : (s.setStreamTab m).power = s.power := rfl
@[simp] theorem State.setStreamTab_boot (s : State) (m : Map Nat) : (s.setStreamTab m).boot = s.boot := rfl
@[simp] theorem State.setStreamTab_access (s : State) (m : Map Nat) : (s.setStreamTab m).access = s.access := rfl
@[simp] theorem State.setStreamTab_time (s : State) (m : Map Nat) : (s.setStreamTab m).time = s.time := rfl
@[simp] theorem State.setStreamTab_lens (s : State) (m : Map Nat) : (s.setStreamTab m).lens = s.lens := rfl
@[simp] theorem State.setStreamTab_phasor (s : State) (m : Map Nat) : (s.setStreamTab m).phasor = s.phasor := rfl
@[simp] theorem State.setStreamTab_goose (s : State) (m : Map Nat) : (s.setStreamTab m).goose = s.goose := rfl
@[simp] theorem State.setStreamTab_logic (s : State) (m : Map Nat) : (s.setStreamTab m).logic = s.logic := rfl
@[simp] theorem State.setStreamTab_facets (s : State) (m : Map Nat) : (s.setStreamTab m).facets = s.facets := rfl
@[simp] theorem State.setStreamTab_capture (s : State) (m : Map Nat) : (s.setStreamTab m).capture = s.capture := rfl
@[simp] theorem State.setStreamTab_pair (s : State) (m : Map Nat) : (s.setStreamTab m).pair = s.pair := rfl
@[simp] theorem State.setStreamTab_log (s : State) (m : Map Nat) : (s.setStreamTab m).log = s.log := rfl
@[simp] theorem State.setStreamTab_health (s : State) (m : Map Nat) : (s.setStreamTab m).health = s.health := rfl
@[simp] theorem State.setStreamTab_can (s : State) (m : Map Nat) : (s.setStreamTab m).can = s.can := rfl
@[simp] theorem State.setStreamTab_sec (s : State) (m : Map Nat) : (s.setStreamTab m).sec = s.sec := rfl

/-! ### setVlan -/

@[simp] theorem State.setVlan_pending (s : State) (n v : Nat) : (s.setVlan n v).pending = s.pending := rfl
@[simp] theorem State.setVlan_reply (s : State) (n v : Nat) : (s.setVlan n v).reply = s.reply := rfl
@[simp] theorem State.setVlan_freeCount (s : State) (n v : Nat) : (s.setVlan n v).freeCount = s.freeCount := rfl
@[simp] theorem State.setVlan_regs (s : State) (n v : Nat) : (s.setVlan n v).regs = s.regs := rfl
@[simp] theorem State.setVlan_blobs (s : State) (n v : Nat) : (s.setVlan n v).blobs = s.blobs := rfl
@[simp] theorem State.setVlan_tickRegs (s : State) (n v : Nat) : (s.setVlan n v).tickRegs = s.tickRegs := rfl
@[simp] theorem State.setVlan_mem (s : State) (n v : Nat) : (s.setVlan n v).mem = s.mem := rfl
@[simp] theorem State.setVlan_power (s : State) (n v : Nat) : (s.setVlan n v).power = s.power := rfl
@[simp] theorem State.setVlan_boot (s : State) (n v : Nat) : (s.setVlan n v).boot = s.boot := rfl
@[simp] theorem State.setVlan_access (s : State) (n v : Nat) : (s.setVlan n v).access = s.access := rfl
@[simp] theorem State.setVlan_time (s : State) (n v : Nat) : (s.setVlan n v).time = s.time := rfl
@[simp] theorem State.setVlan_lens (s : State) (n v : Nat) : (s.setVlan n v).lens = s.lens := rfl
@[simp] theorem State.setVlan_phasor (s : State) (n v : Nat) : (s.setVlan n v).phasor = s.phasor := rfl
@[simp] theorem State.setVlan_goose (s : State) (n v : Nat) : (s.setVlan n v).goose = s.goose := rfl
@[simp] theorem State.setVlan_logic (s : State) (n v : Nat) : (s.setVlan n v).logic = s.logic := rfl
@[simp] theorem State.setVlan_facets (s : State) (n v : Nat) : (s.setVlan n v).facets = s.facets := rfl
@[simp] theorem State.setVlan_capture (s : State) (n v : Nat) : (s.setVlan n v).capture = s.capture := rfl
@[simp] theorem State.setVlan_pair (s : State) (n v : Nat) : (s.setVlan n v).pair = s.pair := rfl
@[simp] theorem State.setVlan_log (s : State) (n v : Nat) : (s.setVlan n v).log = s.log := rfl
@[simp] theorem State.setVlan_health (s : State) (n v : Nat) : (s.setVlan n v).health = s.health := rfl
@[simp] theorem State.setVlan_can (s : State) (n v : Nat) : (s.setVlan n v).can = s.can := rfl
@[simp] theorem State.setVlan_sec (s : State) (n v : Nat) : (s.setVlan n v).sec = s.sec := rfl

/-! ### setFrame -/

@[simp] theorem State.setFrame_pending (s : State) (n : Nat) (x : Frame) : (s.setFrame n x).pending = s.pending := rfl
@[simp] theorem State.setFrame_reply (s : State) (n : Nat) (x : Frame) : (s.setFrame n x).reply = s.reply := rfl
@[simp] theorem State.setFrame_freeCount (s : State) (n : Nat) (x : Frame) : (s.setFrame n x).freeCount = s.freeCount := rfl
@[simp] theorem State.setFrame_regs (s : State) (n : Nat) (x : Frame) : (s.setFrame n x).regs = s.regs := rfl
@[simp] theorem State.setFrame_blobs (s : State) (n : Nat) (x : Frame) : (s.setFrame n x).blobs = s.blobs := rfl
@[simp] theorem State.setFrame_tickRegs (s : State) (n : Nat) (x : Frame) : (s.setFrame n x).tickRegs = s.tickRegs := rfl
@[simp] theorem State.setFrame_mem (s : State) (n : Nat) (x : Frame) : (s.setFrame n x).mem = s.mem := rfl
@[simp] theorem State.setFrame_power (s : State) (n : Nat) (x : Frame) : (s.setFrame n x).power = s.power := rfl
@[simp] theorem State.setFrame_boot (s : State) (n : Nat) (x : Frame) : (s.setFrame n x).boot = s.boot := rfl
@[simp] theorem State.setFrame_access (s : State) (n : Nat) (x : Frame) : (s.setFrame n x).access = s.access := rfl
@[simp] theorem State.setFrame_time (s : State) (n : Nat) (x : Frame) : (s.setFrame n x).time = s.time := rfl
@[simp] theorem State.setFrame_lens (s : State) (n : Nat) (x : Frame) : (s.setFrame n x).lens = s.lens := rfl
@[simp] theorem State.setFrame_phasor (s : State) (n : Nat) (x : Frame) : (s.setFrame n x).phasor = s.phasor := rfl
@[simp] theorem State.setFrame_goose (s : State) (n : Nat) (x : Frame) : (s.setFrame n x).goose = s.goose := rfl
@[simp] theorem State.setFrame_logic (s : State) (n : Nat) (x : Frame) : (s.setFrame n x).logic = s.logic := rfl
@[simp] theorem State.setFrame_facets (s : State) (n : Nat) (x : Frame) : (s.setFrame n x).facets = s.facets := rfl
@[simp] theorem State.setFrame_capture (s : State) (n : Nat) (x : Frame) : (s.setFrame n x).capture = s.capture := rfl
@[simp] theorem State.setFrame_pair (s : State) (n : Nat) (x : Frame) : (s.setFrame n x).pair = s.pair := rfl
@[simp] theorem State.setFrame_log (s : State) (n : Nat) (x : Frame) : (s.setFrame n x).log = s.log := rfl
@[simp] theorem State.setFrame_health (s : State) (n : Nat) (x : Frame) : (s.setFrame n x).health = s.health := rfl
@[simp] theorem State.setFrame_can (s : State) (n : Nat) (x : Frame) : (s.setFrame n x).can = s.can := rfl
@[simp] theorem State.setFrame_sec (s : State) (n : Nat) (x : Frame) : (s.setFrame n x).sec = s.sec := rfl

/-! ### setStream -/

@[simp] theorem State.setStream_pending (s : State) (n : Nat) (x : Stream) : (s.setStream n x).pending = s.pending := rfl
@[simp] theorem State.setStream_reply (s : State) (n : Nat) (x : Stream) : (s.setStream n x).reply = s.reply := rfl
@[simp] theorem State.setStream_freeCount (s : State) (n : Nat) (x : Stream) : (s.setStream n x).freeCount = s.freeCount := rfl
@[simp] theorem State.setStream_regs (s : State) (n : Nat) (x : Stream) : (s.setStream n x).regs = s.regs := rfl
@[simp] theorem State.setStream_blobs (s : State) (n : Nat) (x : Stream) : (s.setStream n x).blobs = s.blobs := rfl
@[simp] theorem State.setStream_tickRegs (s : State) (n : Nat) (x : Stream) : (s.setStream n x).tickRegs = s.tickRegs := rfl
@[simp] theorem State.setStream_mem (s : State) (n : Nat) (x : Stream) : (s.setStream n x).mem = s.mem := rfl
@[simp] theorem State.setStream_power (s : State) (n : Nat) (x : Stream) : (s.setStream n x).power = s.power := rfl
@[simp] theorem State.setStream_boot (s : State) (n : Nat) (x : Stream) : (s.setStream n x).boot = s.boot := rfl
@[simp] theorem State.setStream_access (s : State) (n : Nat) (x : Stream) : (s.setStream n x).access = s.access := rfl
@[simp] theorem State.setStream_time (s : State) (n : Nat) (x : Stream) : (s.setStream n x).time = s.time := rfl
@[simp] theorem State.setStream_fabric (s : State) (n : Nat) (x : Stream) : (s.setStream n x).fabric = s.fabric := rfl
@[simp] theorem State.setStream_phasor (s : State) (n : Nat) (x : Stream) : (s.setStream n x).phasor = s.phasor := rfl
@[simp] theorem State.setStream_goose (s : State) (n : Nat) (x : Stream) : (s.setStream n x).goose = s.goose := rfl
@[simp] theorem State.setStream_logic (s : State) (n : Nat) (x : Stream) : (s.setStream n x).logic = s.logic := rfl
@[simp] theorem State.setStream_facets (s : State) (n : Nat) (x : Stream) : (s.setStream n x).facets = s.facets := rfl
@[simp] theorem State.setStream_capture (s : State) (n : Nat) (x : Stream) : (s.setStream n x).capture = s.capture := rfl
@[simp] theorem State.setStream_pair (s : State) (n : Nat) (x : Stream) : (s.setStream n x).pair = s.pair := rfl
@[simp] theorem State.setStream_log (s : State) (n : Nat) (x : Stream) : (s.setStream n x).log = s.log := rfl
@[simp] theorem State.setStream_health (s : State) (n : Nat) (x : Stream) : (s.setStream n x).health = s.health := rfl
@[simp] theorem State.setStream_can (s : State) (n : Nat) (x : Stream) : (s.setStream n x).can = s.can := rfl
@[simp] theorem State.setStream_sec (s : State) (n : Nat) (x : Stream) : (s.setStream n x).sec = s.sec := rfl

/-! ### setFreqGroup -/

@[simp] theorem State.setFreqGroup_pending (s : State) (n : Nat) (x : FreqGroup) : (s.setFreqGroup n x).pending = s.pending := rfl
@[simp] theorem State.setFreqGroup_reply (s : State) (n : Nat) (x : FreqGroup) : (s.setFreqGroup n x).reply = s.reply := rfl
@[simp] theorem State.setFreqGroup_freeCount (s : State) (n : Nat) (x : FreqGroup) : (s.setFreqGroup n x).freeCount = s.freeCount := rfl
@[simp] theorem State.setFreqGroup_regs (s : State) (n : Nat) (x : FreqGroup) : (s.setFreqGroup n x).regs = s.regs := rfl
@[simp] theorem State.setFreqGroup_blobs (s : State) (n : Nat) (x : FreqGroup) : (s.setFreqGroup n x).blobs = s.blobs := rfl
@[simp] theorem State.setFreqGroup_tickRegs (s : State) (n : Nat) (x : FreqGroup) : (s.setFreqGroup n x).tickRegs = s.tickRegs := rfl
@[simp] theorem State.setFreqGroup_mem (s : State) (n : Nat) (x : FreqGroup) : (s.setFreqGroup n x).mem = s.mem := rfl
@[simp] theorem State.setFreqGroup_power (s : State) (n : Nat) (x : FreqGroup) : (s.setFreqGroup n x).power = s.power := rfl
@[simp] theorem State.setFreqGroup_boot (s : State) (n : Nat) (x : FreqGroup) : (s.setFreqGroup n x).boot = s.boot := rfl
@[simp] theorem State.setFreqGroup_access (s : State) (n : Nat) (x : FreqGroup) : (s.setFreqGroup n x).access = s.access := rfl
@[simp] theorem State.setFreqGroup_time (s : State) (n : Nat) (x : FreqGroup) : (s.setFreqGroup n x).time = s.time := rfl
@[simp] theorem State.setFreqGroup_fabric (s : State) (n : Nat) (x : FreqGroup) : (s.setFreqGroup n x).fabric = s.fabric := rfl
@[simp] theorem State.setFreqGroup_lens (s : State) (n : Nat) (x : FreqGroup) : (s.setFreqGroup n x).lens = s.lens := rfl
@[simp] theorem State.setFreqGroup_goose (s : State) (n : Nat) (x : FreqGroup) : (s.setFreqGroup n x).goose = s.goose := rfl
@[simp] theorem State.setFreqGroup_logic (s : State) (n : Nat) (x : FreqGroup) : (s.setFreqGroup n x).logic = s.logic := rfl
@[simp] theorem State.setFreqGroup_facets (s : State) (n : Nat) (x : FreqGroup) : (s.setFreqGroup n x).facets = s.facets := rfl
@[simp] theorem State.setFreqGroup_capture (s : State) (n : Nat) (x : FreqGroup) : (s.setFreqGroup n x).capture = s.capture := rfl
@[simp] theorem State.setFreqGroup_pair (s : State) (n : Nat) (x : FreqGroup) : (s.setFreqGroup n x).pair = s.pair := rfl
@[simp] theorem State.setFreqGroup_log (s : State) (n : Nat) (x : FreqGroup) : (s.setFreqGroup n x).log = s.log := rfl
@[simp] theorem State.setFreqGroup_health (s : State) (n : Nat) (x : FreqGroup) : (s.setFreqGroup n x).health = s.health := rfl
@[simp] theorem State.setFreqGroup_can (s : State) (n : Nat) (x : FreqGroup) : (s.setFreqGroup n x).can = s.can := rfl
@[simp] theorem State.setFreqGroup_sec (s : State) (n : Nat) (x : FreqGroup) : (s.setFreqGroup n x).sec = s.sec := rfl

/-! ### setSumGroup -/

@[simp] theorem State.setSumGroup_pending (s : State) (n : Nat) (x : SumGroup) : (s.setSumGroup n x).pending = s.pending := rfl
@[simp] theorem State.setSumGroup_reply (s : State) (n : Nat) (x : SumGroup) : (s.setSumGroup n x).reply = s.reply := rfl
@[simp] theorem State.setSumGroup_freeCount (s : State) (n : Nat) (x : SumGroup) : (s.setSumGroup n x).freeCount = s.freeCount := rfl
@[simp] theorem State.setSumGroup_regs (s : State) (n : Nat) (x : SumGroup) : (s.setSumGroup n x).regs = s.regs := rfl
@[simp] theorem State.setSumGroup_blobs (s : State) (n : Nat) (x : SumGroup) : (s.setSumGroup n x).blobs = s.blobs := rfl
@[simp] theorem State.setSumGroup_tickRegs (s : State) (n : Nat) (x : SumGroup) : (s.setSumGroup n x).tickRegs = s.tickRegs := rfl
@[simp] theorem State.setSumGroup_mem (s : State) (n : Nat) (x : SumGroup) : (s.setSumGroup n x).mem = s.mem := rfl
@[simp] theorem State.setSumGroup_power (s : State) (n : Nat) (x : SumGroup) : (s.setSumGroup n x).power = s.power := rfl
@[simp] theorem State.setSumGroup_boot (s : State) (n : Nat) (x : SumGroup) : (s.setSumGroup n x).boot = s.boot := rfl
@[simp] theorem State.setSumGroup_access (s : State) (n : Nat) (x : SumGroup) : (s.setSumGroup n x).access = s.access := rfl
@[simp] theorem State.setSumGroup_time (s : State) (n : Nat) (x : SumGroup) : (s.setSumGroup n x).time = s.time := rfl
@[simp] theorem State.setSumGroup_fabric (s : State) (n : Nat) (x : SumGroup) : (s.setSumGroup n x).fabric = s.fabric := rfl
@[simp] theorem State.setSumGroup_lens (s : State) (n : Nat) (x : SumGroup) : (s.setSumGroup n x).lens = s.lens := rfl
@[simp] theorem State.setSumGroup_goose (s : State) (n : Nat) (x : SumGroup) : (s.setSumGroup n x).goose = s.goose := rfl
@[simp] theorem State.setSumGroup_logic (s : State) (n : Nat) (x : SumGroup) : (s.setSumGroup n x).logic = s.logic := rfl
@[simp] theorem State.setSumGroup_facets (s : State) (n : Nat) (x : SumGroup) : (s.setSumGroup n x).facets = s.facets := rfl
@[simp] theorem State.setSumGroup_capture (s : State) (n : Nat) (x : SumGroup) : (s.setSumGroup n x).capture = s.capture := rfl
@[simp] theorem State.setSumGroup_pair (s : State) (n : Nat) (x : SumGroup) : (s.setSumGroup n x).pair = s.pair := rfl
@[simp] theorem State.setSumGroup_log (s : State) (n : Nat) (x : SumGroup) : (s.setSumGroup n x).log = s.log := rfl
@[simp] theorem State.setSumGroup_health (s : State) (n : Nat) (x : SumGroup) : (s.setSumGroup n x).health = s.health := rfl
@[simp] theorem State.setSumGroup_can (s : State) (n : Nat) (x : SumGroup) : (s.setSumGroup n x).can = s.can := rfl
@[simp] theorem State.setSumGroup_sec (s : State) (n : Nat) (x : SumGroup) : (s.setSumGroup n x).sec = s.sec := rfl

/-! ### setLane -/

@[simp] theorem State.setLane_pending (s : State) (n : Nat) (x : Lane) : (s.setLane n x).pending = s.pending := rfl
@[simp] theorem State.setLane_reply (s : State) (n : Nat) (x : Lane) : (s.setLane n x).reply = s.reply := rfl
@[simp] theorem State.setLane_freeCount (s : State) (n : Nat) (x : Lane) : (s.setLane n x).freeCount = s.freeCount := rfl
@[simp] theorem State.setLane_regs (s : State) (n : Nat) (x : Lane) : (s.setLane n x).regs = s.regs := rfl
@[simp] theorem State.setLane_blobs (s : State) (n : Nat) (x : Lane) : (s.setLane n x).blobs = s.blobs := rfl
@[simp] theorem State.setLane_tickRegs (s : State) (n : Nat) (x : Lane) : (s.setLane n x).tickRegs = s.tickRegs := rfl
@[simp] theorem State.setLane_mem (s : State) (n : Nat) (x : Lane) : (s.setLane n x).mem = s.mem := rfl
@[simp] theorem State.setLane_power (s : State) (n : Nat) (x : Lane) : (s.setLane n x).power = s.power := rfl
@[simp] theorem State.setLane_boot (s : State) (n : Nat) (x : Lane) : (s.setLane n x).boot = s.boot := rfl
@[simp] theorem State.setLane_access (s : State) (n : Nat) (x : Lane) : (s.setLane n x).access = s.access := rfl
@[simp] theorem State.setLane_time (s : State) (n : Nat) (x : Lane) : (s.setLane n x).time = s.time := rfl
@[simp] theorem State.setLane_fabric (s : State) (n : Nat) (x : Lane) : (s.setLane n x).fabric = s.fabric := rfl
@[simp] theorem State.setLane_lens (s : State) (n : Nat) (x : Lane) : (s.setLane n x).lens = s.lens := rfl
@[simp] theorem State.setLane_phasor (s : State) (n : Nat) (x : Lane) : (s.setLane n x).phasor = s.phasor := rfl
@[simp] theorem State.setLane_logic (s : State) (n : Nat) (x : Lane) : (s.setLane n x).logic = s.logic := rfl
@[simp] theorem State.setLane_facets (s : State) (n : Nat) (x : Lane) : (s.setLane n x).facets = s.facets := rfl
@[simp] theorem State.setLane_capture (s : State) (n : Nat) (x : Lane) : (s.setLane n x).capture = s.capture := rfl
@[simp] theorem State.setLane_pair (s : State) (n : Nat) (x : Lane) : (s.setLane n x).pair = s.pair := rfl
@[simp] theorem State.setLane_log (s : State) (n : Nat) (x : Lane) : (s.setLane n x).log = s.log := rfl
@[simp] theorem State.setLane_health (s : State) (n : Nat) (x : Lane) : (s.setLane n x).health = s.health := rfl
@[simp] theorem State.setLane_can (s : State) (n : Nat) (x : Lane) : (s.setLane n x).can = s.can := rfl
@[simp] theorem State.setLane_sec (s : State) (n : Nat) (x : Lane) : (s.setLane n x).sec = s.sec := rfl

/-! ### setPub -/

@[simp] theorem State.setPub_pending (s : State) (n : Nat) (x : Publisher) : (s.setPub n x).pending = s.pending := rfl
@[simp] theorem State.setPub_reply (s : State) (n : Nat) (x : Publisher) : (s.setPub n x).reply = s.reply := rfl
@[simp] theorem State.setPub_freeCount (s : State) (n : Nat) (x : Publisher) : (s.setPub n x).freeCount = s.freeCount := rfl
@[simp] theorem State.setPub_regs (s : State) (n : Nat) (x : Publisher) : (s.setPub n x).regs = s.regs := rfl
@[simp] theorem State.setPub_blobs (s : State) (n : Nat) (x : Publisher) : (s.setPub n x).blobs = s.blobs := rfl
@[simp] theorem State.setPub_tickRegs (s : State) (n : Nat) (x : Publisher) : (s.setPub n x).tickRegs = s.tickRegs := rfl
@[simp] theorem State.setPub_mem (s : State) (n : Nat) (x : Publisher) : (s.setPub n x).mem = s.mem := rfl
@[simp] theorem State.setPub_power (s : State) (n : Nat) (x : Publisher) : (s.setPub n x).power = s.power := rfl
@[simp] theorem State.setPub_boot (s : State) (n : Nat) (x : Publisher) : (s.setPub n x).boot = s.boot := rfl
@[simp] theorem State.setPub_access (s : State) (n : Nat) (x : Publisher) : (s.setPub n x).access = s.access := rfl
@[simp] theorem State.setPub_time (s : State) (n : Nat) (x : Publisher) : (s.setPub n x).time = s.time := rfl
@[simp] theorem State.setPub_fabric (s : State) (n : Nat) (x : Publisher) : (s.setPub n x).fabric = s.fabric := rfl
@[simp] theorem State.setPub_lens (s : State) (n : Nat) (x : Publisher) : (s.setPub n x).lens = s.lens := rfl
@[simp] theorem State.setPub_phasor (s : State) (n : Nat) (x : Publisher) : (s.setPub n x).phasor = s.phasor := rfl
@[simp] theorem State.setPub_logic (s : State) (n : Nat) (x : Publisher) : (s.setPub n x).logic = s.logic := rfl
@[simp] theorem State.setPub_facets (s : State) (n : Nat) (x : Publisher) : (s.setPub n x).facets = s.facets := rfl
@[simp] theorem State.setPub_capture (s : State) (n : Nat) (x : Publisher) : (s.setPub n x).capture = s.capture := rfl
@[simp] theorem State.setPub_pair (s : State) (n : Nat) (x : Publisher) : (s.setPub n x).pair = s.pair := rfl
@[simp] theorem State.setPub_log (s : State) (n : Nat) (x : Publisher) : (s.setPub n x).log = s.log := rfl
@[simp] theorem State.setPub_health (s : State) (n : Nat) (x : Publisher) : (s.setPub n x).health = s.health := rfl
@[simp] theorem State.setPub_can (s : State) (n : Nat) (x : Publisher) : (s.setPub n x).can = s.can := rfl
@[simp] theorem State.setPub_sec (s : State) (n : Nat) (x : Publisher) : (s.setPub n x).sec = s.sec := rfl

/-! ### setSub -/

@[simp] theorem State.setSub_pending (s : State) (n : Nat) (x : Sub) : (s.setSub n x).pending = s.pending := rfl
@[simp] theorem State.setSub_reply (s : State) (n : Nat) (x : Sub) : (s.setSub n x).reply = s.reply := rfl
@[simp] theorem State.setSub_freeCount (s : State) (n : Nat) (x : Sub) : (s.setSub n x).freeCount = s.freeCount := rfl
@[simp] theorem State.setSub_regs (s : State) (n : Nat) (x : Sub) : (s.setSub n x).regs = s.regs := rfl
@[simp] theorem State.setSub_blobs (s : State) (n : Nat) (x : Sub) : (s.setSub n x).blobs = s.blobs := rfl
@[simp] theorem State.setSub_tickRegs (s : State) (n : Nat) (x : Sub) : (s.setSub n x).tickRegs = s.tickRegs := rfl
@[simp] theorem State.setSub_mem (s : State) (n : Nat) (x : Sub) : (s.setSub n x).mem = s.mem := rfl
@[simp] theorem State.setSub_power (s : State) (n : Nat) (x : Sub) : (s.setSub n x).power = s.power := rfl
@[simp] theorem State.setSub_boot (s : State) (n : Nat) (x : Sub) : (s.setSub n x).boot = s.boot := rfl
@[simp] theorem State.setSub_access (s : State) (n : Nat) (x : Sub) : (s.setSub n x).access = s.access := rfl
@[simp] theorem State.setSub_time (s : State) (n : Nat) (x : Sub) : (s.setSub n x).time = s.time := rfl
@[simp] theorem State.setSub_fabric (s : State) (n : Nat) (x : Sub) : (s.setSub n x).fabric = s.fabric := rfl
@[simp] theorem State.setSub_lens (s : State) (n : Nat) (x : Sub) : (s.setSub n x).lens = s.lens := rfl
@[simp] theorem State.setSub_phasor (s : State) (n : Nat) (x : Sub) : (s.setSub n x).phasor = s.phasor := rfl
@[simp] theorem State.setSub_logic (s : State) (n : Nat) (x : Sub) : (s.setSub n x).logic = s.logic := rfl
@[simp] theorem State.setSub_facets (s : State) (n : Nat) (x : Sub) : (s.setSub n x).facets = s.facets := rfl
@[simp] theorem State.setSub_capture (s : State) (n : Nat) (x : Sub) : (s.setSub n x).capture = s.capture := rfl
@[simp] theorem State.setSub_pair (s : State) (n : Nat) (x : Sub) : (s.setSub n x).pair = s.pair := rfl
@[simp] theorem State.setSub_log (s : State) (n : Nat) (x : Sub) : (s.setSub n x).log = s.log := rfl
@[simp] theorem State.setSub_health (s : State) (n : Nat) (x : Sub) : (s.setSub n x).health = s.health := rfl
@[simp] theorem State.setSub_can (s : State) (n : Nat) (x : Sub) : (s.setSub n x).can = s.can := rfl
@[simp] theorem State.setSub_sec (s : State) (n : Nat) (x : Sub) : (s.setSub n x).sec = s.sec := rfl

/-! ### setProg -/

@[simp] theorem State.setProg_pending (s : State) (n : Nat) (x : Prog) : (s.setProg n x).pending = s.pending := rfl
@[simp] theorem State.setProg_reply (s : State) (n : Nat) (x : Prog) : (s.setProg n x).reply = s.reply := rfl
@[simp] theorem State.setProg_freeCount (s : State) (n : Nat) (x : Prog) : (s.setProg n x).freeCount = s.freeCount := rfl
@[simp] theorem State.setProg_regs (s : State) (n : Nat) (x : Prog) : (s.setProg n x).regs = s.regs := rfl
@[simp] theorem State.setProg_blobs (s : State) (n : Nat) (x : Prog) : (s.setProg n x).blobs = s.blobs := rfl
@[simp] theorem State.setProg_tickRegs (s : State) (n : Nat) (x : Prog) : (s.setProg n x).tickRegs = s.tickRegs := rfl
@[simp] theorem State.setProg_mem (s : State) (n : Nat) (x : Prog) : (s.setProg n x).mem = s.mem := rfl
@[simp] theorem State.setProg_power (s : State) (n : Nat) (x : Prog) : (s.setProg n x).power = s.power := rfl
@[simp] theorem State.setProg_boot (s : State) (n : Nat) (x : Prog) : (s.setProg n x).boot = s.boot := rfl
@[simp] theorem State.setProg_access (s : State) (n : Nat) (x : Prog) : (s.setProg n x).access = s.access := rfl
@[simp] theorem State.setProg_time (s : State) (n : Nat) (x : Prog) : (s.setProg n x).time = s.time := rfl
@[simp] theorem State.setProg_fabric (s : State) (n : Nat) (x : Prog) : (s.setProg n x).fabric = s.fabric := rfl
@[simp] theorem State.setProg_lens (s : State) (n : Nat) (x : Prog) : (s.setProg n x).lens = s.lens := rfl
@[simp] theorem State.setProg_phasor (s : State) (n : Nat) (x : Prog) : (s.setProg n x).phasor = s.phasor := rfl
@[simp] theorem State.setProg_goose (s : State) (n : Nat) (x : Prog) : (s.setProg n x).goose = s.goose := rfl
@[simp] theorem State.setProg_facets (s : State) (n : Nat) (x : Prog) : (s.setProg n x).facets = s.facets := rfl
@[simp] theorem State.setProg_capture (s : State) (n : Nat) (x : Prog) : (s.setProg n x).capture = s.capture := rfl
@[simp] theorem State.setProg_pair (s : State) (n : Nat) (x : Prog) : (s.setProg n x).pair = s.pair := rfl
@[simp] theorem State.setProg_log (s : State) (n : Nat) (x : Prog) : (s.setProg n x).log = s.log := rfl
@[simp] theorem State.setProg_health (s : State) (n : Nat) (x : Prog) : (s.setProg n x).health = s.health := rfl
@[simp] theorem State.setProg_can (s : State) (n : Nat) (x : Prog) : (s.setProg n x).can = s.can := rfl
@[simp] theorem State.setProg_sec (s : State) (n : Nat) (x : Prog) : (s.setProg n x).sec = s.sec := rfl

/-! ### setStation -/

@[simp] theorem State.setStation_pending (s : State) (n : Nat) (x : Station) : (s.setStation n x).pending = s.pending := rfl
@[simp] theorem State.setStation_reply (s : State) (n : Nat) (x : Station) : (s.setStation n x).reply = s.reply := rfl
@[simp] theorem State.setStation_freeCount (s : State) (n : Nat) (x : Station) : (s.setStation n x).freeCount = s.freeCount := rfl
@[simp] theorem State.setStation_regs (s : State) (n : Nat) (x : Station) : (s.setStation n x).regs = s.regs := rfl
@[simp] theorem State.setStation_blobs (s : State) (n : Nat) (x : Station) : (s.setStation n x).blobs = s.blobs := rfl
@[simp] theorem State.setStation_tickRegs (s : State) (n : Nat) (x : Station) : (s.setStation n x).tickRegs = s.tickRegs := rfl
@[simp] theorem State.setStation_mem (s : State) (n : Nat) (x : Station) : (s.setStation n x).mem = s.mem := rfl
@[simp] theorem State.setStation_power (s : State) (n : Nat) (x : Station) : (s.setStation n x).power = s.power := rfl
@[simp] theorem State.setStation_boot (s : State) (n : Nat) (x : Station) : (s.setStation n x).boot = s.boot := rfl
@[simp] theorem State.setStation_access (s : State) (n : Nat) (x : Station) : (s.setStation n x).access = s.access := rfl
@[simp] theorem State.setStation_time (s : State) (n : Nat) (x : Station) : (s.setStation n x).time = s.time := rfl
@[simp] theorem State.setStation_fabric (s : State) (n : Nat) (x : Station) : (s.setStation n x).fabric = s.fabric := rfl
@[simp] theorem State.setStation_lens (s : State) (n : Nat) (x : Station) : (s.setStation n x).lens = s.lens := rfl
@[simp] theorem State.setStation_phasor (s : State) (n : Nat) (x : Station) : (s.setStation n x).phasor = s.phasor := rfl
@[simp] theorem State.setStation_goose (s : State) (n : Nat) (x : Station) : (s.setStation n x).goose = s.goose := rfl
@[simp] theorem State.setStation_facets (s : State) (n : Nat) (x : Station) : (s.setStation n x).facets = s.facets := rfl
@[simp] theorem State.setStation_capture (s : State) (n : Nat) (x : Station) : (s.setStation n x).capture = s.capture := rfl
@[simp] theorem State.setStation_pair (s : State) (n : Nat) (x : Station) : (s.setStation n x).pair = s.pair := rfl
@[simp] theorem State.setStation_log (s : State) (n : Nat) (x : Station) : (s.setStation n x).log = s.log := rfl
@[simp] theorem State.setStation_health (s : State) (n : Nat) (x : Station) : (s.setStation n x).health = s.health := rfl
@[simp] theorem State.setStation_can (s : State) (n : Nat) (x : Station) : (s.setStation n x).can = s.can := rfl
@[simp] theorem State.setStation_sec (s : State) (n : Nat) (x : Station) : (s.setStation n x).sec = s.sec := rfl

/-! ### setFacet -/

@[simp] theorem State.setFacet_pending (s : State) (n : Nat) (x : Facet) : (s.setFacet n x).pending = s.pending := rfl
@[simp] theorem State.setFacet_reply (s : State) (n : Nat) (x : Facet) : (s.setFacet n x).reply = s.reply := rfl
@[simp] theorem State.setFacet_freeCount (s : State) (n : Nat) (x : Facet) : (s.setFacet n x).freeCount = s.freeCount := rfl
@[simp] theorem State.setFacet_regs (s : State) (n : Nat) (x : Facet) : (s.setFacet n x).regs = s.regs := rfl
@[simp] theorem State.setFacet_blobs (s : State) (n : Nat) (x : Facet) : (s.setFacet n x).blobs = s.blobs := rfl
@[simp] theorem State.setFacet_tickRegs (s : State) (n : Nat) (x : Facet) : (s.setFacet n x).tickRegs = s.tickRegs := rfl
@[simp] theorem State.setFacet_mem (s : State) (n : Nat) (x : Facet) : (s.setFacet n x).mem = s.mem := rfl
@[simp] theorem State.setFacet_power (s : State) (n : Nat) (x : Facet) : (s.setFacet n x).power = s.power := rfl
@[simp] theorem State.setFacet_boot (s : State) (n : Nat) (x : Facet) : (s.setFacet n x).boot = s.boot := rfl
@[simp] theorem State.setFacet_access (s : State) (n : Nat) (x : Facet) : (s.setFacet n x).access = s.access := rfl
@[simp] theorem State.setFacet_time (s : State) (n : Nat) (x : Facet) : (s.setFacet n x).time = s.time := rfl
@[simp] theorem State.setFacet_fabric (s : State) (n : Nat) (x : Facet) : (s.setFacet n x).fabric = s.fabric := rfl
@[simp] theorem State.setFacet_lens (s : State) (n : Nat) (x : Facet) : (s.setFacet n x).lens = s.lens := rfl
@[simp] theorem State.setFacet_phasor (s : State) (n : Nat) (x : Facet) : (s.setFacet n x).phasor = s.phasor := rfl
@[simp] theorem State.setFacet_goose (s : State) (n : Nat) (x : Facet) : (s.setFacet n x).goose = s.goose := rfl
@[simp] theorem State.setFacet_logic (s : State) (n : Nat) (x : Facet) : (s.setFacet n x).logic = s.logic := rfl
@[simp] theorem State.setFacet_capture (s : State) (n : Nat) (x : Facet) : (s.setFacet n x).capture = s.capture := rfl
@[simp] theorem State.setFacet_pair (s : State) (n : Nat) (x : Facet) : (s.setFacet n x).pair = s.pair := rfl
@[simp] theorem State.setFacet_log (s : State) (n : Nat) (x : Facet) : (s.setFacet n x).log = s.log := rfl
@[simp] theorem State.setFacet_health (s : State) (n : Nat) (x : Facet) : (s.setFacet n x).health = s.health := rfl
@[simp] theorem State.setFacet_can (s : State) (n : Nat) (x : Facet) : (s.setFacet n x).can = s.can := rfl
@[simp] theorem State.setFacet_sec (s : State) (n : Nat) (x : Facet) : (s.setFacet n x).sec = s.sec := rfl

/-! ### setTask -/

@[simp] theorem State.setTask_pending (s : State) (n : Nat) (x : Task) : (s.setTask n x).pending = s.pending := rfl
@[simp] theorem State.setTask_reply (s : State) (n : Nat) (x : Task) : (s.setTask n x).reply = s.reply := rfl
@[simp] theorem State.setTask_freeCount (s : State) (n : Nat) (x : Task) : (s.setTask n x).freeCount = s.freeCount := rfl
@[simp] theorem State.setTask_regs (s : State) (n : Nat) (x : Task) : (s.setTask n x).regs = s.regs := rfl
@[simp] theorem State.setTask_blobs (s : State) (n : Nat) (x : Task) : (s.setTask n x).blobs = s.blobs := rfl
@[simp] theorem State.setTask_tickRegs (s : State) (n : Nat) (x : Task) : (s.setTask n x).tickRegs = s.tickRegs := rfl
@[simp] theorem State.setTask_mem (s : State) (n : Nat) (x : Task) : (s.setTask n x).mem = s.mem := rfl
@[simp] theorem State.setTask_power (s : State) (n : Nat) (x : Task) : (s.setTask n x).power = s.power := rfl
@[simp] theorem State.setTask_boot (s : State) (n : Nat) (x : Task) : (s.setTask n x).boot = s.boot := rfl
@[simp] theorem State.setTask_access (s : State) (n : Nat) (x : Task) : (s.setTask n x).access = s.access := rfl
@[simp] theorem State.setTask_time (s : State) (n : Nat) (x : Task) : (s.setTask n x).time = s.time := rfl
@[simp] theorem State.setTask_fabric (s : State) (n : Nat) (x : Task) : (s.setTask n x).fabric = s.fabric := rfl
@[simp] theorem State.setTask_lens (s : State) (n : Nat) (x : Task) : (s.setTask n x).lens = s.lens := rfl
@[simp] theorem State.setTask_phasor (s : State) (n : Nat) (x : Task) : (s.setTask n x).phasor = s.phasor := rfl
@[simp] theorem State.setTask_goose (s : State) (n : Nat) (x : Task) : (s.setTask n x).goose = s.goose := rfl
@[simp] theorem State.setTask_logic (s : State) (n : Nat) (x : Task) : (s.setTask n x).logic = s.logic := rfl
@[simp] theorem State.setTask_capture (s : State) (n : Nat) (x : Task) : (s.setTask n x).capture = s.capture := rfl
@[simp] theorem State.setTask_pair (s : State) (n : Nat) (x : Task) : (s.setTask n x).pair = s.pair := rfl
@[simp] theorem State.setTask_log (s : State) (n : Nat) (x : Task) : (s.setTask n x).log = s.log := rfl
@[simp] theorem State.setTask_health (s : State) (n : Nat) (x : Task) : (s.setTask n x).health = s.health := rfl
@[simp] theorem State.setTask_can (s : State) (n : Nat) (x : Task) : (s.setTask n x).can = s.can := rfl
@[simp] theorem State.setTask_sec (s : State) (n : Nat) (x : Task) : (s.setTask n x).sec = s.sec := rfl

/-! ### setBlobOf -/

@[simp] theorem State.setBlobOf_pending (s : State) (n : Nat) (x : Blob) : (s.setBlobOf n x).pending = s.pending := rfl
@[simp] theorem State.setBlobOf_reply (s : State) (n : Nat) (x : Blob) : (s.setBlobOf n x).reply = s.reply := rfl
@[simp] theorem State.setBlobOf_freeCount (s : State) (n : Nat) (x : Blob) : (s.setBlobOf n x).freeCount = s.freeCount := rfl
@[simp] theorem State.setBlobOf_regs (s : State) (n : Nat) (x : Blob) : (s.setBlobOf n x).regs = s.regs := rfl
@[simp] theorem State.setBlobOf_blobs (s : State) (n : Nat) (x : Blob) : (s.setBlobOf n x).blobs = s.blobs := rfl
@[simp] theorem State.setBlobOf_tickRegs (s : State) (n : Nat) (x : Blob) : (s.setBlobOf n x).tickRegs = s.tickRegs := rfl
@[simp] theorem State.setBlobOf_mem (s : State) (n : Nat) (x : Blob) : (s.setBlobOf n x).mem = s.mem := rfl
@[simp] theorem State.setBlobOf_power (s : State) (n : Nat) (x : Blob) : (s.setBlobOf n x).power = s.power := rfl
@[simp] theorem State.setBlobOf_boot (s : State) (n : Nat) (x : Blob) : (s.setBlobOf n x).boot = s.boot := rfl
@[simp] theorem State.setBlobOf_access (s : State) (n : Nat) (x : Blob) : (s.setBlobOf n x).access = s.access := rfl
@[simp] theorem State.setBlobOf_time (s : State) (n : Nat) (x : Blob) : (s.setBlobOf n x).time = s.time := rfl
@[simp] theorem State.setBlobOf_fabric (s : State) (n : Nat) (x : Blob) : (s.setBlobOf n x).fabric = s.fabric := rfl
@[simp] theorem State.setBlobOf_lens (s : State) (n : Nat) (x : Blob) : (s.setBlobOf n x).lens = s.lens := rfl
@[simp] theorem State.setBlobOf_phasor (s : State) (n : Nat) (x : Blob) : (s.setBlobOf n x).phasor = s.phasor := rfl
@[simp] theorem State.setBlobOf_goose (s : State) (n : Nat) (x : Blob) : (s.setBlobOf n x).goose = s.goose := rfl
@[simp] theorem State.setBlobOf_logic (s : State) (n : Nat) (x : Blob) : (s.setBlobOf n x).logic = s.logic := rfl
@[simp] theorem State.setBlobOf_capture (s : State) (n : Nat) (x : Blob) : (s.setBlobOf n x).capture = s.capture := rfl
@[simp] theorem State.setBlobOf_pair (s : State) (n : Nat) (x : Blob) : (s.setBlobOf n x).pair = s.pair := rfl
@[simp] theorem State.setBlobOf_log (s : State) (n : Nat) (x : Blob) : (s.setBlobOf n x).log = s.log := rfl
@[simp] theorem State.setBlobOf_health (s : State) (n : Nat) (x : Blob) : (s.setBlobOf n x).health = s.health := rfl
@[simp] theorem State.setBlobOf_can (s : State) (n : Nat) (x : Blob) : (s.setBlobOf n x).can = s.can := rfl
@[simp] theorem State.setBlobOf_sec (s : State) (n : Nat) (x : Blob) : (s.setBlobOf n x).sec = s.sec := rfl

/-! ### setSlot -/

@[simp] theorem State.setSlot_pending (s : State) (n : Nat) (x : CapSlot) : (s.setSlot n x).pending = s.pending := rfl
@[simp] theorem State.setSlot_reply (s : State) (n : Nat) (x : CapSlot) : (s.setSlot n x).reply = s.reply := rfl
@[simp] theorem State.setSlot_freeCount (s : State) (n : Nat) (x : CapSlot) : (s.setSlot n x).freeCount = s.freeCount := rfl
@[simp] theorem State.setSlot_regs (s : State) (n : Nat) (x : CapSlot) : (s.setSlot n x).regs = s.regs := rfl
@[simp] theorem State.setSlot_blobs (s : State) (n : Nat) (x : CapSlot) : (s.setSlot n x).blobs = s.blobs := rfl
@[simp] theorem State.setSlot_tickRegs (s : State) (n : Nat) (x : CapSlot) : (s.setSlot n x).tickRegs = s.tickRegs := rfl
@[simp] theorem State.setSlot_mem (s : State) (n : Nat) (x : CapSlot) : (s.setSlot n x).mem = s.mem := rfl
@[simp] theorem State.setSlot_power (s : State) (n : Nat) (x : CapSlot) : (s.setSlot n x).power = s.power := rfl
@[simp] theorem State.setSlot_boot (s : State) (n : Nat) (x : CapSlot) : (s.setSlot n x).boot = s.boot := rfl
@[simp] theorem State.setSlot_access (s : State) (n : Nat) (x : CapSlot) : (s.setSlot n x).access = s.access := rfl
@[simp] theorem State.setSlot_time (s : State) (n : Nat) (x : CapSlot) : (s.setSlot n x).time = s.time := rfl
@[simp] theorem State.setSlot_fabric (s : State) (n : Nat) (x : CapSlot) : (s.setSlot n x).fabric = s.fabric := rfl
@[simp] theorem State.setSlot_lens (s : State) (n : Nat) (x : CapSlot) : (s.setSlot n x).lens = s.lens := rfl
@[simp] theorem State.setSlot_phasor (s : State) (n : Nat) (x : CapSlot) : (s.setSlot n x).phasor = s.phasor := rfl
@[simp] theorem State.setSlot_goose (s : State) (n : Nat) (x : CapSlot) : (s.setSlot n x).goose = s.goose := rfl
@[simp] theorem State.setSlot_logic (s : State) (n : Nat) (x : CapSlot) : (s.setSlot n x).logic = s.logic := rfl
@[simp] theorem State.setSlot_facets (s : State) (n : Nat) (x : CapSlot) : (s.setSlot n x).facets = s.facets := rfl
@[simp] theorem State.setSlot_pair (s : State) (n : Nat) (x : CapSlot) : (s.setSlot n x).pair = s.pair := rfl
@[simp] theorem State.setSlot_log (s : State) (n : Nat) (x : CapSlot) : (s.setSlot n x).log = s.log := rfl
@[simp] theorem State.setSlot_health (s : State) (n : Nat) (x : CapSlot) : (s.setSlot n x).health = s.health := rfl
@[simp] theorem State.setSlot_can (s : State) (n : Nat) (x : CapSlot) : (s.setSlot n x).can = s.can := rfl
@[simp] theorem State.setSlot_sec (s : State) (n : Nat) (x : CapSlot) : (s.setSlot n x).sec = s.sec := rfl

/-! ### setCtl -/

@[simp] theorem State.setCtl_pending (s : State) (n : Nat) (x : CanCtl) : (s.setCtl n x).pending = s.pending := rfl
@[simp] theorem State.setCtl_reply (s : State) (n : Nat) (x : CanCtl) : (s.setCtl n x).reply = s.reply := rfl
@[simp] theorem State.setCtl_freeCount (s : State) (n : Nat) (x : CanCtl) : (s.setCtl n x).freeCount = s.freeCount := rfl
@[simp] theorem State.setCtl_regs (s : State) (n : Nat) (x : CanCtl) : (s.setCtl n x).regs = s.regs := rfl
@[simp] theorem State.setCtl_blobs (s : State) (n : Nat) (x : CanCtl) : (s.setCtl n x).blobs = s.blobs := rfl
@[simp] theorem State.setCtl_tickRegs (s : State) (n : Nat) (x : CanCtl) : (s.setCtl n x).tickRegs = s.tickRegs := rfl
@[simp] theorem State.setCtl_mem (s : State) (n : Nat) (x : CanCtl) : (s.setCtl n x).mem = s.mem := rfl
@[simp] theorem State.setCtl_power (s : State) (n : Nat) (x : CanCtl) : (s.setCtl n x).power = s.power := rfl
@[simp] theorem State.setCtl_boot (s : State) (n : Nat) (x : CanCtl) : (s.setCtl n x).boot = s.boot := rfl
@[simp] theorem State.setCtl_access (s : State) (n : Nat) (x : CanCtl) : (s.setCtl n x).access = s.access := rfl
@[simp] theorem State.setCtl_time (s : State) (n : Nat) (x : CanCtl) : (s.setCtl n x).time = s.time := rfl
@[simp] theorem State.setCtl_fabric (s : State) (n : Nat) (x : CanCtl) : (s.setCtl n x).fabric = s.fabric := rfl
@[simp] theorem State.setCtl_lens (s : State) (n : Nat) (x : CanCtl) : (s.setCtl n x).lens = s.lens := rfl
@[simp] theorem State.setCtl_phasor (s : State) (n : Nat) (x : CanCtl) : (s.setCtl n x).phasor = s.phasor := rfl
@[simp] theorem State.setCtl_goose (s : State) (n : Nat) (x : CanCtl) : (s.setCtl n x).goose = s.goose := rfl
@[simp] theorem State.setCtl_logic (s : State) (n : Nat) (x : CanCtl) : (s.setCtl n x).logic = s.logic := rfl
@[simp] theorem State.setCtl_facets (s : State) (n : Nat) (x : CanCtl) : (s.setCtl n x).facets = s.facets := rfl
@[simp] theorem State.setCtl_capture (s : State) (n : Nat) (x : CanCtl) : (s.setCtl n x).capture = s.capture := rfl
@[simp] theorem State.setCtl_pair (s : State) (n : Nat) (x : CanCtl) : (s.setCtl n x).pair = s.pair := rfl
@[simp] theorem State.setCtl_log (s : State) (n : Nat) (x : CanCtl) : (s.setCtl n x).log = s.log := rfl
@[simp] theorem State.setCtl_health (s : State) (n : Nat) (x : CanCtl) : (s.setCtl n x).health = s.health := rfl
@[simp] theorem State.setCtl_sec (s : State) (n : Nat) (x : CanCtl) : (s.setCtl n x).sec = s.sec := rfl

/-! ### setBlock -/

@[simp] theorem State.setBlock_pending (s : State) (o c : Nat) (b : ClassBlock) : (s.setBlock o c b).pending = s.pending := rfl
@[simp] theorem State.setBlock_reply (s : State) (o c : Nat) (b : ClassBlock) : (s.setBlock o c b).reply = s.reply := rfl
@[simp] theorem State.setBlock_freeCount (s : State) (o c : Nat) (b : ClassBlock) : (s.setBlock o c b).freeCount = s.freeCount := rfl
@[simp] theorem State.setBlock_regs (s : State) (o c : Nat) (b : ClassBlock) : (s.setBlock o c b).regs = s.regs := rfl
@[simp] theorem State.setBlock_blobs (s : State) (o c : Nat) (b : ClassBlock) : (s.setBlock o c b).blobs = s.blobs := rfl
@[simp] theorem State.setBlock_tickRegs (s : State) (o c : Nat) (b : ClassBlock) : (s.setBlock o c b).tickRegs = s.tickRegs := rfl
@[simp] theorem State.setBlock_mem (s : State) (o c : Nat) (b : ClassBlock) : (s.setBlock o c b).mem = s.mem := rfl
@[simp] theorem State.setBlock_power (s : State) (o c : Nat) (b : ClassBlock) : (s.setBlock o c b).power = s.power := rfl
@[simp] theorem State.setBlock_boot (s : State) (o c : Nat) (b : ClassBlock) : (s.setBlock o c b).boot = s.boot := rfl
@[simp] theorem State.setBlock_access (s : State) (o c : Nat) (b : ClassBlock) : (s.setBlock o c b).access = s.access := rfl
@[simp] theorem State.setBlock_time (s : State) (o c : Nat) (b : ClassBlock) : (s.setBlock o c b).time = s.time := rfl
@[simp] theorem State.setBlock_lens (s : State) (o c : Nat) (b : ClassBlock) : (s.setBlock o c b).lens = s.lens := rfl
@[simp] theorem State.setBlock_phasor (s : State) (o c : Nat) (b : ClassBlock) : (s.setBlock o c b).phasor = s.phasor := rfl
@[simp] theorem State.setBlock_goose (s : State) (o c : Nat) (b : ClassBlock) : (s.setBlock o c b).goose = s.goose := rfl
@[simp] theorem State.setBlock_logic (s : State) (o c : Nat) (b : ClassBlock) : (s.setBlock o c b).logic = s.logic := rfl
@[simp] theorem State.setBlock_facets (s : State) (o c : Nat) (b : ClassBlock) : (s.setBlock o c b).facets = s.facets := rfl
@[simp] theorem State.setBlock_capture (s : State) (o c : Nat) (b : ClassBlock) : (s.setBlock o c b).capture = s.capture := rfl
@[simp] theorem State.setBlock_pair (s : State) (o c : Nat) (b : ClassBlock) : (s.setBlock o c b).pair = s.pair := rfl
@[simp] theorem State.setBlock_log (s : State) (o c : Nat) (b : ClassBlock) : (s.setBlock o c b).log = s.log := rfl
@[simp] theorem State.setBlock_health (s : State) (o c : Nat) (b : ClassBlock) : (s.setBlock o c b).health = s.health := rfl
@[simp] theorem State.setBlock_can (s : State) (o c : Nat) (b : ClassBlock) : (s.setBlock o c b).can = s.can := rfl
@[simp] theorem State.setBlock_sec (s : State) (o c : Nat) (b : ClassBlock) : (s.setBlock o c b).sec = s.sec := rfl

theorem State.block_setBlock (s : State) (o c p d : Nat) (b : ClassBlock) :
    (s.setBlock o c b).block p d = if o * 8 + c = p * 8 + d then b else s.block p d := by
  simp only [State.block, State.setBlock, mapGet_mapPut]

/-! ### editMem -/

@[simp] theorem State.editMem_pending (s : State) (f : Mem → Mem) : (s.editMem f).pending = s.pending := rfl
@[simp] theorem State.editMem_reply (s : State) (f : Mem → Mem) : (s.editMem f).reply = s.reply := rfl
@[simp] theorem State.editMem_freeCount (s : State) (f : Mem → Mem) : (s.editMem f).freeCount = s.freeCount := rfl
@[simp] theorem State.editMem_regs (s : State) (f : Mem → Mem) : (s.editMem f).regs = s.regs := rfl
@[simp] theorem State.editMem_blobs (s : State) (f : Mem → Mem) : (s.editMem f).blobs = s.blobs := rfl
@[simp] theorem State.editMem_tickRegs (s : State) (f : Mem → Mem) : (s.editMem f).tickRegs = s.tickRegs := rfl
@[simp] theorem State.editMem_power (s : State) (f : Mem → Mem) : (s.editMem f).power = s.power := rfl
@[simp] theorem State.editMem_boot (s : State) (f : Mem → Mem) : (s.editMem f).boot = s.boot := rfl
@[simp] theorem State.editMem_access (s : State) (f : Mem → Mem) : (s.editMem f).access = s.access := rfl
@[simp] theorem State.editMem_time (s : State) (f : Mem → Mem) : (s.editMem f).time = s.time := rfl
@[simp] theorem State.editMem_fabric (s : State) (f : Mem → Mem) : (s.editMem f).fabric = s.fabric := rfl
@[simp] theorem State.editMem_lens (s : State) (f : Mem → Mem) : (s.editMem f).lens = s.lens := rfl
@[simp] theorem State.editMem_phasor (s : State) (f : Mem → Mem) : (s.editMem f).phasor = s.phasor := rfl
@[simp] theorem State.editMem_goose (s : State) (f : Mem → Mem) : (s.editMem f).goose = s.goose := rfl
@[simp] theorem State.editMem_facets (s : State) (f : Mem → Mem) : (s.editMem f).facets = s.facets := rfl
@[simp] theorem State.editMem_capture (s : State) (f : Mem → Mem) : (s.editMem f).capture = s.capture := rfl
@[simp] theorem State.editMem_pair (s : State) (f : Mem → Mem) : (s.editMem f).pair = s.pair := rfl
@[simp] theorem State.editMem_log (s : State) (f : Mem → Mem) : (s.editMem f).log = s.log := rfl
@[simp] theorem State.editMem_health (s : State) (f : Mem → Mem) : (s.editMem f).health = s.health := rfl
@[simp] theorem State.editMem_can (s : State) (f : Mem → Mem) : (s.editMem f).can = s.can := rfl
@[simp] theorem State.editMem_sec (s : State) (f : Mem → Mem) : (s.editMem f).sec = s.sec := rfl
@[simp] theorem State.editMem_mem (s : State) (f : Mem → Mem) : (s.editMem f).mem = f s.mem := rfl

end Sys2Proof.Machine
end

