-- ==== Sys2Proof/Laws/Accepted.lean ====
section
/-! SUPPORT. The answer of exec on a well-formed command, and what a write that passes every check does. -/

namespace Sys2Proof.Machine

set_option Elab.async false

theorem checked_wf {c : Instr} (h : c.wf = true) (t : State) : checked c t = .next t := by simp [checked, h]

theorem exec_next {c : Instr} {s t : State} {P : State → Prop} (h : exec c s = checked c t) (w : c.wf = true) (p : P t) :
    ∃ t, exec c s = .next t ∧ P t := ⟨t, h.trans (checked_wf w t), p⟩

theorem State.when_true {s : State} {b : Bool} {f : State → State} (h : b = true) : s.when b f = f s := by subst h; rfl

theorem State.when_false {s : State} {b : Bool} {f : State → State} (h : b = false) : s.when b f = s := by subst h; rfl

/-- One item that its checks and its owner admit is not refused. -/
theorem firstFault_one {s t : State} {key : Nat} {v : Val} (h : configEntry key = true → s.ownerCode t key v = 0) :
    firstFault s t [{ key := key, code := 0, val := some v }] = none := by
  by_cases c : configEntry key = true
  · simp [firstFault, c, h c]
  · simp [firstFault, c]

/-- An accepted write is applied, and its code answered. -/
theorem writeVals_accepted {s : State} {q : Requester} {key : Nat} {v : Val} (h : Accepted s q key v) :
    s.writeVals q [(key, v)] =
      ⟨key % 256, (s.applyItems q [(key, v)]).1, (s.applyItems q [(key, v)]).2⟩ := by
  have h1 : (if s.writeCode q key ≠ 0 then s.writeCode q key else valueCode key v) = 0 := by rw [h.entry, h.value]; rfl
  have h2 : firstFault s (s.putVals ([(key, v)].filter fun p => configEntry p.1)) [{ key := key, code := 0, val := some v }] = none :=
    firstFault_one fun c => by simpa [c, State.putVals] using h.owner c
  have h3 : ¬((s.applyItems q [(key, v)]).1 = 0 ∧ s.lit = true ∧ s.pair.partnerRole = 2 ∧
      [(key, v)].any (fun p => forwardedItem p.1 p.2) = true) := by
    rintro ⟨-, l, r, x⟩
    simp [h.here l r] at x
  unfold State.writeVals State.writeItems
  simp only [List.map_cons, List.map_nil, h1, List.filterMap_cons, Option.map_some, List.filterMap_nil]
  rw [h2]
  dsimp only
  rw [if_neg (by simp [h.budget]), if_neg (by simp [h.room]), if_neg h3]
  rfl

/-- A power-fail sequence serves nobody (R38). -/
theorem serves_outside {s : State} {who : Nat} (h : s.serves who = true) : s.inSequence = false := by
  unfold State.serves State.stewardUp State.stuck State.inPhase State.supplied at h
  unfold State.inSequence
  unfold Power.failing at *
  cases hs : s.power.stage <;> simp_all

/-- With no operation in progress, one that arrives is executed at once (R91). -/
theorem inTurn_idle {s : State} {w : Waiting} {f : State → State} (h : s.access.pendingForwards = []) : s.inTurn w f = f s := by
  simp [State.inTurn, State.busy, h]

theorem rowWrite_accepted {s : State} {q : Requester} {key : Nat} {v : Val} (h : Accepted s q key v) :
    s.rowWrite q key v = (s.applyItems q [(key, v)]).2.answer (s.applyItems q [(key, v)]).1 := by
  unfold State.rowWrite State.when State.writeOne
  rw [serves_outside h.serves, if_neg (by decide), if_pos h.serves]
  dsimp only
  rw [inTurn_idle h.idle]
  simp only [writeVals_accepted h]

theorem applyItems_config {s : State} {q : Requester} {key : Nat} {v : Val} (c : configEntry key = true) :
    s.applyItems q [(key, v)] =
      (0, { s.place q.who [(key, v)] with
        access := { (s.place q.who [(key, v)]).access with
          overlay := (s.place q.who [(key, v)]).overlayWith [(key, v)], savedDiscarded := false } }) := by
  simp [State.applyItems, c]

theorem applyItems_action {s : State} {q : Requester} {key : Nat} {v : Val} (c : configEntry key = false) :
    s.applyItems q [(key, v)] = s.action q key v := by
  have : s.place q.who [] = s := rfl
  simp [State.applyItems, c, this]

/-- A configuration write places its value, puts it into the overlay and answers 0. -/
theorem rowWrite_config {s : State} {q : Requester} {key : Nat} {v : Val} (h : Accepted s q key v) (c : configEntry key = true) :
    s.rowWrite q key v = ({ s.place q.who [(key, v)] with
        access := { (s.place q.who [(key, v)]).access with
          overlay := (s.place q.who [(key, v)]).overlayWith [(key, v)], savedDiscarded := false } } : State).answer 0 := by
  rw [rowWrite_accepted h, applyItems_config c]

/-- An action answers its code. -/
theorem rowWrite_action {s : State} {q : Requester} {key : Nat} {v : Val} (h : Accepted s q key v) (c : configEntry key = false) :
    s.rowWrite q key v = (s.action q key v).2.answer (s.action q key v).1 := by
  rw [rowWrite_accepted h, applyItems_action c]

end Sys2Proof.Machine
end

