-- ==== Sys2Proof/Laws/Dict.lean ====
section
/-! SUPPORT. The dictionary over a range of indices: one search answers for all of them; and which entries that a command
names are configuration entries (RW, RWS) and which are actions (WO, CMD). -/

namespace Sys2Proof.Machine

set_option Elab.async false

/-- The row that covers every index from lo to hi at a subindex; none where the rows differ within the range. -/
def uniformEntry (lo hi sub : Nat) : List Entry → Option (Option Entry)
  | [] => some none
  | e :: l =>
    if sub < e.s0 ∨ e.s1 < sub ∨ hi < e.lo ∨ e.hi < lo then uniformEntry lo hi sub l
    else if e.lo ≤ lo ∧ hi ≤ e.hi then some (some e) else none

def uniformPart (lo hi sub : Nat) : List (Nat × Nat × List Entry) → Option (Option Entry)
  | [] => some none
  | (a, b, es) :: l =>
    if hi < a ∨ b < lo then uniformPart lo hi sub l
    else if a ≤ lo ∧ hi ≤ b then
      match uniformEntry lo hi sub es with
      | some (some e) => some (some e)
      | some none => uniformPart lo hi sub l
      | none => none
    else none

theorem findEntry_uniform {lo hi sub i : Nat} (h1 : lo ≤ i) (h2 : i ≤ hi) (es : List Entry) {r : Option Entry}
    (h : uniformEntry lo hi sub es = some r) : findEntry i sub es = r := by
  induction es with
  | nil => simpa [uniformEntry, findEntry] using h
  | cons e l ih =>
    simp only [uniformEntry] at h
    simp only [findEntry]
    split at h
    · rw [if_neg (by omega)]; exact ih h
    · split at h
      · rw [if_pos (by omega)]; simpa using h
      · cases h

theorem findPart_uniform {lo hi sub i : Nat} (h1 : lo ≤ i) (h2 : i ≤ hi) (ps : List (Nat × Nat × List Entry)) {r : Option Entry}
    (h : uniformPart lo hi sub ps = some r) : findPart i sub ps = r := by
  induction ps with
  | nil => simpa [uniformPart, findPart] using h
  | cons p l ih =>
    obtain ⟨a, b, es⟩ := p
    simp only [uniformPart] at h
    simp only [findPart]
    split at h
    · rw [if_neg (by omega)]; exact ih h
    · split at h
      · rw [if_pos (by omega)]
        split at h
        · rw [findEntry_uniform h1 h2 es ‹_›]; simpa using h
        · rw [findEntry_uniform h1 h2 es ‹_›]; exact ih h
        · cases h
      · cases h

/-- The entries of base + n at one subindex share their row. -/
theorem entryOf_uniform {base n N sub : Nat} {r : Option Entry} (hs : sub < 256) (hn : n < N)
    (h : uniformPart base (base + (N - 1)) sub dictionary = some r) : entryOf (ek (base + n) sub) = r := by
  have h1 : ek (base + n) sub / 256 = base + n := by unfold ek; omega
  have h2 : ek (base + n) sub % 256 = sub := by unfold ek; omega
  unfold entryOf
  rw [h1, h2]
  exact findPart_uniform (by omega) (by omega) _ h

/-- They are configuration entries, or none of them is. -/
theorem configEntry_uniform {base n N sub : Nat} {b : Bool} (hs : sub < 256) (hn : n < N)
    (h : ((uniformPart base (base + (N - 1)) sub dictionary).map fun r =>
      match r with
      | some e => e.acc == 1 || e.acc == 3
      | none => false) = some b) : configEntry (ek (base + n) sub) = b := by
  simp only [Option.map_eq_some_iff] at h
  obtain ⟨r, h, k⟩ := h
  unfold configEntry
  rw [entryOf_uniform hs hn h]
  exact k

theorem stream_01_kind {n : Nat} (h : n < 1024) : configEntry (ek (0x4000 + n) 0x01) = true :=
  configEntry_uniform (by decide) h (by decide +kernel)
theorem stream_23_kind {n : Nat} (h : n < 1024) : configEntry (ek (0x4000 + n) 0x23) = false :=
  configEntry_uniform (by decide) h (by decide +kernel)
theorem group_01_kind {n : Nat} (h : n < 512) : configEntry (ek (0x4400 + n) 0x01) = true :=
  configEntry_uniform (by decide) h (by decide +kernel)
theorem group_0C_kind {n : Nat} (h : n < 512) : configEntry (ek (0x4400 + n) 0x0C) = false :=
  configEntry_uniform (by decide) h (by decide +kernel)
theorem lane_01_kind {n : Nat} (h : n < 1024) : configEntry (ek (0x4800 + n) 0x01) = true :=
  configEntry_uniform (by decide) h (by decide +kernel)
theorem lane_11_kind {n : Nat} (h : n < 1024) : configEntry (ek (0x4800 + n) 0x11) = false :=
  configEntry_uniform (by decide) h (by decide +kernel)
theorem pub_01_kind {n : Nat} (h : n < 512) : configEntry (ek (0x5800 + n) 0x01) = true :=
  configEntry_uniform (by decide) h (by decide +kernel)
theorem sub_01_kind {n : Nat} (h : n < 4096) : configEntry (ek (0x6000 + n) 0x01) = true :=
  configEntry_uniform (by decide) h (by decide +kernel)
theorem sub_2C_kind {n : Nat} (h : n < 4096) : configEntry (ek (0x6000 + n) 0x2C) = false :=
  configEntry_uniform (by decide) h (by decide +kernel)
theorem prog_01_kind {n : Nat} (h : n < 1024) : configEntry (ek (0x5400 + n) 0x01) = true :=
  configEntry_uniform (by decide) h (by decide +kernel)
theorem prog_2F_kind {n : Nat} (h : n < 1024) : configEntry (ek (0x5400 + n) 0x2F) = false :=
  configEntry_uniform (by decide) h (by decide +kernel)
theorem prog_23_kind {n : Nat} (h : n < 1024) : configEntry (ek (0x5400 + n) 0x23) = false :=
  configEntry_uniform (by decide) h (by decide +kernel)
theorem station_01_kind {n : Nat} (h : n < 64) : configEntry (ek (0xB040 + n) 0x01) = true :=
  configEntry_uniform (by decide) h (by decide +kernel)
theorem station_11_kind {n : Nat} (h : n < 64) : configEntry (ek (0xB040 + n) 0x11) = false :=
  configEntry_uniform (by decide) h (by decide +kernel)
theorem facet_01_kind {n : Nat} (h : n < 256) : configEntry (ek (0x5000 + n) 0x01) = true :=
  configEntry_uniform (by decide) h (by decide +kernel)
theorem facet_02_kind {n : Nat} (h : n < 256) : configEntry (ek (0x5000 + n) 0x02) = false :=
  configEntry_uniform (by decide) h (by decide +kernel)
theorem facet_0B_kind {n : Nat} (h : n < 256) : configEntry (ek (0x5000 + n) 0x0B) = true :=
  configEntry_uniform (by decide) h (by decide +kernel)
theorem facet_0C_kind {n : Nat} (h : n < 256) : configEntry (ek (0x5000 + n) 0x0C) = true :=
  configEntry_uniform (by decide) h (by decide +kernel)
theorem facet_0D_kind {n : Nat} (h : n < 256) : configEntry (ek (0x5000 + n) 0x0D) = true :=
  configEntry_uniform (by decide) h (by decide +kernel)
theorem facet_0E_kind {n : Nat} (h : n < 256) : configEntry (ek (0x5000 + n) 0x0E) = true :=
  configEntry_uniform (by decide) h (by decide +kernel)
theorem facet_23_kind {n : Nat} (h : n < 256) : configEntry (ek (0x5000 + n) 0x23) = false :=
  configEntry_uniform (by decide) h (by decide +kernel)
theorem slot_01_kind {n : Nat} (h : n < 32) : configEntry (ek (0x7000 + n) 0x01) = true :=
  configEntry_uniform (by decide) h (by decide +kernel)
theorem slot_14_kind {n : Nat} (h : n < 32) : configEntry (ek (0x7000 + n) 0x14) = false :=
  configEntry_uniform (by decide) h (by decide +kernel)
theorem can_01_kind {n : Nat} (h : n < 2) : configEntry (ek (0xB000 + n) 0x01) = true :=
  configEntry_uniform (by decide) h (by decide +kernel)
theorem can_0E_kind {n : Nat} (h : n < 2) : configEntry (ek (0xB000 + n) 0x0E) = true :=
  configEntry_uniform (by decide) h (by decide +kernel)
theorem can_10_kind {n : Nat} (h : n < 2) : configEntry (ek (0xB000 + n) 0x10) = false :=
  configEntry_uniform (by decide) h (by decide +kernel)
theorem can_1F_kind {n : Nat} (h : n < 2) : configEntry (ek (0xB000 + n) 0x1F) = false :=
  configEntry_uniform (by decide) h (by decide +kernel)
theorem port_01_kind {n : Nat} (h : n < 52) : configEntry (ek (0x2000 + n) 0x01) = true :=
  configEntry_uniform (by decide) h (by decide +kernel)
theorem port_21_kind {n : Nat} (h : n < 52) : configEntry (ek (0x2000 + n) 0x21) = false :=
  configEntry_uniform (by decide) h (by decide +kernel)
theorem entry_1802_01_kind : configEntry (ek 0x1802 0x01) = false := by decide +kernel
theorem entry_1802_02_kind : configEntry (ek 0x1802 0x02) = false := by decide +kernel
theorem entry_1802_03_kind : configEntry (ek 0x1802 0x03) = false := by decide +kernel
theorem entry_1802_04_kind : configEntry (ek 0x1802 0x04) = false := by decide +kernel
theorem entry_1803_08_kind : configEntry (ek 0x1803 0x08) = false := by decide +kernel
theorem entry_C002_01_kind : configEntry (ek 0xC002 0x01) = false := by decide +kernel
theorem entry_C002_02_kind : configEntry (ek 0xC002 0x02) = false := by decide +kernel
theorem entry_C010_01_kind : configEntry (ek 0xC010 0x01) = false := by decide +kernel
theorem entry_C011_01_kind : configEntry (ek 0xC011 0x01) = false := by decide +kernel
theorem entry_C011_02_kind : configEntry (ek 0xC011 0x02) = false := by decide +kernel
theorem entry_C030_01_kind : configEntry (ek 0xC030 0x01) = false := by decide +kernel
theorem entry_47F0_11_kind : configEntry (ek 0x47F0 0x11) = false := by decide +kernel
theorem entry_7000_89_kind : configEntry (ek 0x7000 0x89) = false := by decide +kernel
theorem entry_8002_01_kind : configEntry (ek 0x8002 0x01) = false := by decide +kernel
theorem entry_8002_02_kind : configEntry (ek 0x8002 0x02) = false := by decide +kernel
theorem entry_8002_03_kind : configEntry (ek 0x8002 0x03) = false := by decide +kernel
theorem entry_8002_04_kind : configEntry (ek 0x8002 0x04) = false := by decide +kernel
theorem entry_8002_05_kind : configEntry (ek 0x8002 0x05) = false := by decide +kernel
theorem entry_8000_0D_kind : configEntry (ek 0x8000 0x0D) = false := by decide +kernel
theorem entry_9000_0A_kind : configEntry (ek 0x9000 0x0A) = false := by decide +kernel
theorem entry_9010_05_kind : configEntry (ek 0x9010 0x05) = false := by decide +kernel
theorem entry_A010_01_kind : configEntry (ek 0xA010 0x01) = false := by decide +kernel
theorem entry_A040_02_kind : configEntry (ek 0xA040 0x02) = false := by decide +kernel
theorem entry_A040_04_kind : configEntry (ek 0xA040 0x04) = false := by decide +kernel
theorem entry_A050_01_kind : configEntry (ek 0xA050 0x01) = false := by decide +kernel
theorem entry_A020_04_kind : configEntry (ek 0xA020 0x04) = false := by decide +kernel
theorem entry_A020_05_kind : configEntry (ek 0xA020 0x05) = false := by decide +kernel
theorem entry_A020_08_kind : configEntry (ek 0xA020 0x08) = false := by decide +kernel
theorem entry_A001_01_kind : configEntry (ek 0xA001 0x01) = true := by decide +kernel
theorem entry_A001_02_kind : configEntry (ek 0xA001 0x02) = true := by decide +kernel

end Sys2Proof.Machine
end

