-- ==== Sys2Proof/Laws/Effects.lean ====
section
/-! SUPPORT. What the operations that many commands share do: a bit set or cleared, a cause, a role, ownership gained and
released, a record, domains. -/

namespace Sys2Proof.Machine

set_option Elab.async false

/-! ### Bits -/

theorem testBit_add_two_pow (i : Nat) : ∀ n : Nat, n.testBit i = false → ∀ j, (n + 2 ^ i).testBit j = (decide (j = i) || n.testBit j) := by
  induction i with
  | zero =>
    intro n h j
    have h : n % 2 = 0 := by simpa [Nat.testBit_zero] using h
    cases j with
    | zero => simp [Nat.testBit_zero]; omega
    | succ j =>
      have : (n + 1) / 2 = n / 2 := by omega
      simp [Nat.testBit_succ, this]
  | succ i ih =>
    intro n h j
    rw [Nat.testBit_succ] at h
    cases j with
    | zero =>
      have : (n + 2 ^ (i + 1)) % 2 = n % 2 := by rw [Nat.pow_succ]; omega
      simp [Nat.testBit_zero, this]
    | succ j =>
      have : (n + 2 ^ (i + 1)) / 2 = n / 2 + 2 ^ i := by rw [Nat.pow_succ]; omega
      rw [Nat.testBit_succ, this, ih _ h, Nat.testBit_succ]
      simp

theorem testBit_sub_two_pow (i : Nat) : ∀ n : Nat, n.testBit i = true → ∀ j, (n - 2 ^ i).testBit j = (decide (j ≠ i) && n.testBit j) := by
  induction i with
  | zero =>
    intro n h j
    have h : n % 2 = 1 := by simpa [Nat.testBit_zero] using h
    cases j with
    | zero => simp [Nat.testBit_zero]; omega
    | succ j =>
      have : (n - 1) / 2 = n / 2 := by omega
      simp [Nat.testBit_succ, this]
  | succ i ih =>
    intro n h j
    have g := Nat.ge_two_pow_of_testBit h
    rw [Nat.testBit_succ] at h
    cases j with
    | zero =>
      have : (n - 2 ^ (i + 1)) % 2 = n % 2 := by rw [Nat.pow_succ] at *; omega
      simp [Nat.testBit_zero, this]
    | succ j =>
      have : (n - 2 ^ (i + 1)) / 2 = n / 2 - 2 ^ i := by rw [Nat.pow_succ] at *; omega
      rw [Nat.testBit_succ, this, ih _ h, Nat.testBit_succ]
      simp

theorem testBit_withBit (n i j : Nat) (b : Bool) : (withBit n i b).testBit j = if j = i then b else n.testBit j := by
  unfold withBit
  split
  · split
    · subst j; assumption
    · rfl
  · rename_i h
    cases b
    · rw [if_neg (by decide), testBit_sub_two_pow i n (by simpa using h)]
      split
      · simp_all
      · simp_all
    · rw [if_pos rfl, testBit_add_two_pow i n (by simpa using h)]
      split
      · simp_all
      · simp_all

@[simp] theorem testBit_withBit_same (n i : Nat) (b : Bool) : (withBit n i b).testBit i = b := by simp [testBit_withBit]

theorem testBit_withBit_other (n : Nat) {i j : Nat} (b : Bool) (h : j ≠ i) : (withBit n i b).testBit j = n.testBit j := by
  simp [testBit_withBit, h]

/-! ### Causes (R402) -/

theorem State.setCause_health (s : State) (bit : Nat) (b : Bool) :
    (s.setCause bit b).health = { s.health with causes := withBit s.health.causes bit b } := by
  unfold State.setCause
  split
  · rename_i h
    simp only [withBit, h, if_true]
  · dsimp only
    rw [(State.settle_within _).same_health, (State.logRec_within _ _ _ _ _ _ _).same_health]

theorem State.setCause_bit (s : State) (bit : Nat) (b : Bool) (j : Nat) :
    (s.setCause bit b).health.causes.testBit j = if j = bit then b else s.health.causes.testBit j := by
  rw [State.setCause_health]; exact testBit_withBit _ _ _ _

theorem State.latchCause_health (s : State) (bit : Nat) (p : Bool) :
    (s.latchCause bit p).health =
      { s.health with causes := withBit s.health.causes bit true, present := withBit s.health.present bit p } := by
  unfold State.latchCause; dsimp only; rw [State.setCause_health]

/-! ### Records (R384, R386, R387) -/

theorem applyAll_keeps {α β : Type} (f : α → State → State) (g : State → β) (h : ∀ a s, g (f a s) = g s) (l : List α) (s : State) :
    g (applyAll f l s) = g s := by
  induction l generalizing s with
  | nil => rfl
  | cons a l ih => exact (ih _).trans (h a s)

theorem State.notice_log (s : State) (n code : Nat) (p : List Nat) : (s.notice n code p).log = s.log :=
  (State.notice_within s n code p).same_log

theorem State.tellReader_held (r : LogRecord) (c : Nat × Cursor) (s : State) :
    (s.tellReader r c).log.held = s.log.held ∧ (s.tellReader r c).log.next = s.log.next ∧
      (s.tellReader r c).log.second = s.log.second ∧ (s.tellReader r c).log.ready = s.log.ready := by
  unfold State.tellReader
  split
  · dsimp only; split
    · rw [State.notice_log]; exact ⟨rfl, rfl, rfl, rfl⟩
    · exact ⟨rfl, rfl, rfl, rfl⟩
  · exact ⟨rfl, rfl, rfl, rfl⟩

/-- A record that the second has room for, in a log that is ready and not in bank mode, is the newest of the ring under the
next number. -/
theorem State.logReq_enters (s : State) (q : LogReq) (hr : s.log.ready = true) (hb : s.log.bankMode = false)
    (hs : logUnlimited q.typ = true ∨ mapGet s.log.second q.typ 0 < 256) :
    (s.logReq q).log.next = s.log.next + 1 ∧
      (s.logReq q).log.held = (s.recordOf q s.log.next :: s.log.held).take ringSize := by
  unfold State.logReq
  dsimp only
  rw [if_neg (by simp [hr]), if_neg (by rcases hs with h | h <;> simp [h] <;> omega)]
  constructor
  · rw [applyAll_keeps _ (fun t => t.log.next) (fun c t => (State.tellReader_held _ c t).2.1)]
    rfl
  · rw [applyAll_keeps _ (fun t => t.log.held) (fun c t => (State.tellReader_held _ c t).1)]
    simp [State.enter, Log.place, hb]

/-! ### Domains -/

theorem State.setDoms_dom (l : List Nat) (x : DomState) (s : State) (d : Nat) :
    (s.setDoms l x).dom d = if d ∈ l then x else s.dom d := by
  unfold State.setDoms
  induction l generalizing s with
  | nil => simp [applyAll]
  | cons a l ih =>
    simp only [applyAll]
    rw [ih]
    by_cases h : d ∈ l
    · simp [h]
    · by_cases g : a = d
      · subst g; simp [h]
      · simp [h, State.dom_setDom_other _ _ g, Ne.symm g]

theorem State.setDoms_power (l : List Nat) (x : DomState) (s : State) :
    (s.setDoms l x).power = { s.power with dom := (s.setDoms l x).power.dom } := by
  unfold State.setDoms
  induction l generalizing s with
  | nil => rfl
  | cons a l ih => simp only [applyAll]; rw [ih]; rfl

/-! ### Role and ownership (R353, R355, R357) -/

theorem State.settle_pair (s : State) (h : s.pair.role ≠ 2) (h' : s.pair.role ≠ 3) :
    s.settle.pair = { s.pair with elig := s.eligNow } := by
  unfold State.settle
  simp [h, h']

theorem State.setRole_role (s : State) (r : Nat) : (s.setRole r).pair.role = r := by rw [State.setRole_pair]

theorem State.setRole_power (s : State) (r : Nat) : (s.setRole r).power = s.power := (State.setRole_keeps s r).rest .power (by decide)

theorem State.release_owns (s : State) (hb : Bool) (r : Nat) :
    (s.release hb r).pair.own = false ∧ (s.release hb r).pair.role = r ∧ (s.release hb r).power.oselOwn = false ∧
      (s.release hb r).pair.req = false ∧ (s.release hb r).pair.fenceDue = true := by
  unfold State.release
  dsimp only
  rw [(State.bmca_within _).same_pair, (State.bmca_within _).same_power, State.setRole_pair, State.setRole_power,
    (State.abortShared_within _).same_pair, (State.abortShared_within _).same_power, (State.cancelStations_within _).same_pair,
    (State.cancelStations_within _).same_power]
  exact ⟨rfl, rfl, rfl, rfl, rfl⟩

theorem State.settle_lit (s : State) (h : s.pair.role = 1) : ∃ e, s.settle.pair = { s.pair with elig := e } :=
  ⟨_, State.settle_pair s (by omega) (by omega)⟩

theorem State.setCause_lit (s : State) (bit : Nat) (b : Bool) (h : s.pair.role = 1) :
    ∃ e, (s.setCause bit b).pair = { s.pair with elig := e } := by
  unfold State.setCause
  split
  · exact ⟨s.pair.elig, rfl⟩
  · dsimp only
    have k := (State.logRec_within ({ s with health := { s.health with causes := withBit s.health.causes bit b } } : State) 0x0B06
      (if ({ s.health with causes := withBit s.health.causes bit b } : Health).faults ≠ 0 then 2 else if ({ s.health with causes := withBit s.health.causes bit b } : Health).warnings ≠ 0 then 1 else 0)
      noFacet 0 0 ([byteOf ({ s.health with causes := withBit s.health.causes bit b } : Health).flags] ++ List.replicate 7 (byteOf 0) ++ leBytes 8 ({ s.health with causes := withBit s.health.causes bit b } : Health).warnings ++ leBytes 8 ({ s.health with causes := withBit s.health.causes bit b } : Health).faults ++ leBytes 8 (2 ^ bit))).same_pair
    obtain ⟨e, he⟩ := State.settle_lit _ (by rw [k]; exact h)
    exact ⟨e, by rw [he, k]⟩

theorem State.setServo_lit (s : State) (n : Nat) (h : s.pair.role = 1) : ∃ e, (s.setServo n).pair = { s.pair with elig := e } := by
  unfold State.setServo
  split
  · exact ⟨s.pair.elig, rfl⟩
  · extract_lets was time s1 s2 s3
    have k : s2.pair = s.pair := (State.logAll_within _ _).same_pair
    obtain ⟨e, he⟩ := State.setCause_lit s2 3 (n == 5) (by rw [k]; exact h)
    refine ⟨e, ?_⟩
    split
    · exact he.trans (by rw [k])
    · rw [(State.tellTime_within _ _).same_pair]; exact he.trans (by rw [k])

theorem State.takeServo_lit (s : State) (h : s.pair.role = 1) : ∃ e, s.takeServo.pair = { s.pair with elig := e } := by
  unfold State.takeServo
  split
  · exact ⟨s.pair.elig, rfl⟩
  · rename_i b hb
    extract_lets t held t1 s1 s2
    obtain ⟨e, he⟩ := State.setServo_lit s1 b.servo h
    refine ⟨e, ?_⟩
    split
    · rw [(State.stepBy_within _ _ _).same_pair]; exact he
    · exact he

/-- A module that gains ownership is LIT and owns; its outputs follow where phase 8 has ended. -/
theorem State.gain_owns (s : State) (c : Nat) :
    (s.gain c).pair.role = 1 ∧ (s.gain c).pair.own = true ∧ (s.gain c).pair.req = false ∧ (s.gain c).pair.cause = c ∧
      (s.gain c).pair.takeovers = wrap 32 (s.pair.takeovers + 1) := by
  unfold State.gain
  extract_lets was s1 s2
  rw [(State.bmca_within _).same_pair]
  obtain ⟨e1, h1⟩ := State.setCause_lit (s1.setRole 1) 20 false (State.setRole_role _ _)
  obtain ⟨e2, h2⟩ := State.takeServo_lit ((s1.setRole 1).setCause 20 false) (by rw [h1, State.setRole_pair])
  have h3 : s2.pair = { s1.pair with role := 1, elig := e2 } := by
    show ((s1.setRole 1).setCause 20 false).takeServo.pair = _
    rw [h2, h1, State.setRole_pair]
  have key : ∀ p : Pair, p = s2.pair → p.role = 1 ∧ p.own = true ∧ p.req = false ∧ p.cause = c ∧
      p.takeovers = wrap 32 (s.pair.takeovers + 1) := by
    intro p hp; subst hp; rw [h3]; exact ⟨rfl, rfl, rfl, rfl, rfl⟩
  split
  · unfold State.activate
    extract_lets _ _ u1 u2
    have hu : u2.pair = { s2.pair with checking := !s2.power.oselFb, switchesDue := false } := by
      show (u1.deliverFdo.takeoverFrames.exchangeAll).pair = _
      rw [(State.exchangeAll_within _).same_pair, (State.takeoverFrames_within _).same_pair, (State.deliverFdo_within _).same_pair]
    have k := key _ rfl
    split
    · split
      · rw [State.setPair_pair, hu]; exact k
      · rw [hu]; exact k
    · rw [hu]; exact k
  · exact key _ rfl

end Sys2Proof.Machine
end

