-- ==== Sys2Proof/Machine/Leds.lean ====
section
/-! DEFINITION. The status LEDs of the front panel (R30, Table 2.3), as functions of the state. -/

namespace Sys2Proof.Machine

inductive Led where
  | off | green | greenBlinking | amber | amberBlinking | red
  deriving DecidableEq, Repr, Inhabited

/-- VIN_IO is there. -/
def State.panelLit (s : State) : Bool := s.power.stage != .off

/-- The supply fault flag: any of bits [5:1] of 0x1800:07. -/
def State.supplyFault (s : State) : Bool := bitsAt s.power.status 1 5 != 0

/-- PWR shows the first of thermal shutdown, supply fault, standby management, all domains up; off in between, while the
power-on order or a power-fail sequence runs (log 23). -/
def State.pwrLed (s : State) : Led :=
  if !s.panelLit then .off
  else if s.power.thermal = 2 then .amberBlinking
  else if s.supplyFault then .amber
  else if s.inStandby then .greenBlinking
  else if s.power.stage = .up ∧ !s.rising then .green
  else .off

/-- ROLE: red on a takeover fault or in safe hold, else the role; off while it is not decided (R60). -/
def State.roleLed (s : State) : Led :=
  if !s.panelLit || !s.stewardUp then .off
  else if s.pair.takeoverFault || s.pair.safeHold.isSome then .red
  else match s.pair.role with
    | 1 => .green
    | 2 => .greenBlinking
    | 3 => .amber
    | _ => .off

/-- TIME: the servo state and the time status of R120 (R62, R122). -/
def State.timeLed (s : State) : Led :=
  if !s.panelLit || !s.domOn 8 then .off
  else if s.time.servo = 5 then .red
  else if s.time.servo = 2 then .green
  else if s.inSpec then .amberBlinking
  else .amber

/-- HEALTH: the flags of R402; red also where no firmware slot passes (R60) and where the active image fails (R75). With the
steward's domains off it is off (log 23). -/
def State.healthLed (s : State) : Led :=
  if !s.panelLit || !s.domOn 2 then .off
  else if s.health.fault || s.stuck || s.boot.cfgBad then .red
  else if s.health.warnings ≠ 0 then .amber
  else .green

/-- TAMPER: the key store is zeroised and awaits provisioning (R441). -/
def State.tamperLed (s : State) : Led :=
  if s.panelLit && s.sec.state == 3 then .red else .off

end Sys2Proof.Machine
end

