-- ==== Sys2Proof/Tests/Slice0.lean ====
section
/-! SUPPORT. Tests: ill-formed commands, small steps, and for each statement's clauses a state and operands that meet its
hypotheses. -/

namespace Sys2Proof.Tests

set_option Elab.async false

open Sys2Proof.Machine

/-- Every supply is up and every domain is on. -/
def onPower : Power := { Power.reset with stage := .up, pgood := true, mains := 12000, ana := 5000, io := 3300, fdoSwitches := false, dom := (List.range 12).map fun d => (d, .on) }

/-- A running LIT, provisioned, in phase 9. -/
def up : State := { State.reset with
  power := { onPower with fdoSwitches := true, oselOwn := true, oselFb := true },
  boot := { Boot.reset with phase := 9 },
  lens := { State.reset.lens with state := 2 },
  pair := { Pair.reset with role := 1, own := true, elig := 0, synced := true },
  log := { Log.reset with ready := true },
  sec := { Security.reset with state := 2, seed := List.replicate 32 (byteOf 7) } }

/-- Its SHADE. -/
def shade : State := { up with power := { up.power with fdoSwitches := false, oselOwn := false, oselFb := false }, pair := { up.pair with role := 2, own := false, partnerRole := 1 } }

theorem of_accepted {s : State} {q : Requester} {k : Nat} {v : Val} (h : s.serves q.who = true ∧ s.access.pendingForwards = [] ∧
    s.writeCode q k = 0 ∧ valueCode k v = 0 ∧ (configEntry k = true → s.ownerCode (s.putVal k v) k v = 0) ∧
    overBudget s (s.applyItems q [(k, v)]).2 = false ∧ overlayFull (s.applyItems q [(k, v)]).2.access.overlay = false ∧
    (s.lit = true → s.pair.partnerRole = 2 → forwardedItem k v = false)) : Accepted s q k v := by
  obtain ⟨h1, h2, h3, h4, h5, h6, h7, h8⟩ := h
  exact ⟨h1, h2, h3, h4, h5, h6, h7, h8⟩

theorem of_heard {s : State} {m : MapMsg} {x : Session} (h : m.sess ≤ 8 ∧ s.session m.sess = some x ∧ s.inSequence = false ∧
    s.serves m.sess = true ∧ s.access.pendingForwards = [] ∧ malformed m = false) : Heard s m x :=
  ⟨h.1, h.2.1, h.2.2.1, h.2.2.2.1, h.2.2.2.2.1, h.2.2.2.2.2⟩

theorem of_served {s : State} {m : MapMsg} {x : Session} (h : (m.sess ≤ 8 ∧ s.session m.sess = some x ∧ s.inSequence = false ∧
    s.serves m.sess = true ∧ s.access.pendingForwards = [] ∧ malformed m = false) ∧ m.tid ≠ 0 ∧
    (x.window.find? fun e => e.tid == m.tid) = none ∧
    (x.lastId = none ∨ x.lastId = some 4294967295 ∧ m.tid < 1000) ∧
    (x.transfer.all fun y => y.down || y.key != ek m.index m.sub) = true) : Served s m x where
  range := h.1.1
  opened := h.1.2.1
  power := h.1.2.2.1
  serves := h.1.2.2.2.1
  busy := h.1.2.2.2.2.1
  formed := h.1.2.2.2.2.2
  tid := h.2.1
  fresh := h.2.2.1
  later := by
    intro n hn
    rcases h.2.2.2.1 with k | k
    · simp [k] at hn
    · rw [hn] at k
      have e : n = 4294967295 := by simpa using k.1
      have l := k.2
      have z := h.2.1
      subst e
      omega
  idle := by
    intro y hy
    have k := h.2.2.2.2
    rw [hy] at k
    simpa using k

theorem of_downloadable {s : State} {q : Requester} {key total : Nat} (h : s.writeCode q key = 0 ∧ entryType key = 0x0F ∧
    s.transferring q.who key = false ∧
    (key ≠ ek 0xC010 2 → key ≠ ek 0xC030 2 → ((entryOf key).all fun e => decide ((total : Int) ≤ e.max)) = true))
    (inst : key = ek 0xC010 2 → s.boot.inst = 1 ∧ s.boot.instOwner = q.who ∧ s.boot.instBytes ≤ 1610612736 ∧ total ≤ 1610612736)
    (load : key = ek 0xC030 2 → s.boot.pend = 1 ∧ s.boot.pendOwner = q.who ∧ s.boot.pendingRaw.length ≤ 268435456 ∧ total ≤ 268435456)
    (prog : 0x5400 ≤ key / 256 → key / 256 ≤ 0x57FF → key % 256 = 2 →
      (s.prog (key / 256 - 0x5400)).state ≠ 2 ∧ (s.prog (key / 256 - 0x5400)).state ≠ 3 ∧
        (s.prog (key / 256 - 0x5400)).exState ≠ 1 ∧ (s.prog (key / 256 - 0x5400)).exState ≠ 2)
    (last : (0x5000 ≤ key / 256 → key / 256 ≤ 0x50FF → key % 256 = 0x14 → (s.facet (key / 256 - 0x5000)).state = 1) ∧
    (key = ek 0xA050 2 → s.sec.state = 1)) : Downloadable s q key total where
  entry := h.1
  domain := h.2.1
  free := h.2.2.1
  size := by
    intro a b e he
    have k := h.2.2.2 a b
    rw [he] at k
    simpa using k
  firmware := inst
  config := load
  program := prog
  facet := last.1
  bundle := last.2

theorem of_cabinetServed {s : State} {r : CabReq} (h : (r.ctrl < 2 ∧ r.dst < 256 ∧ r.src < 256 ∧ r.data.length ≤ 64) ∧ s.domOn 1 = true ∧
    r.dst = s.ownNode r.ctrl ∧ (s.ctl r.ctrl).state = 1 ∧ s.stewardUp = true ∧ s.sec.provisioned = true ∧
    s.access.pendingForwards = [] ∧ (8 ≤ r.data.length ∧ beAt r.data 5 1 ≤ 56 ∧ 8 + beAt r.data 5 1 ≤ r.data.length) ∧
    (mapFind s.access.clients r.src).isNone = true ∧ s.access.clients.length < 16) : CabinetServed s r :=
  ⟨h.1, h.2.1, h.2.2.1, h.2.2.2.1, h.2.2.2.2.1, h.2.2.2.2.2.1, h.2.2.2.2.2.2.1, h.2.2.2.2.2.2.2.1,
    ⟨by simpa using h.2.2.2.2.2.2.2.2.1, h.2.2.2.2.2.2.2.2.2⟩⟩

theorem of_cabinetGoesOn {s : State} {r : CabReq} {k : CabClient} (h : (r.ctrl < 2 ∧ r.dst < 256 ∧ r.src < 256 ∧ r.data.length ≤ 64) ∧
    s.domOn 1 = true ∧ r.dst = s.ownNode r.ctrl ∧ (s.ctl r.ctrl).state = 1 ∧ s.stewardUp = true ∧
    s.sec.provisioned = true ∧ s.access.pendingForwards = [] ∧
    (8 ≤ r.data.length ∧ beAt r.data 5 1 ≤ 56 ∧ 8 + beAt r.data 5 1 ≤ r.data.length) ∧
    mapFind s.access.clients r.src = some k ∧ k.toggle ≠ (leAt r.data 0 1).testBit 3) : CabinetGoesOn s r k :=
  ⟨h.1, h.2.1, h.2.2.1, h.2.2.2.1, h.2.2.2.2.1, h.2.2.2.2.2.1, h.2.2.2.2.2.2.1, h.2.2.2.2.2.2.2.1,
    h.2.2.2.2.2.2.2.2.1, h.2.2.2.2.2.2.2.2.2⟩

theorem of_tagTaken {s : State} {kind : Nat} {g : MirrorTag} (h : g.authentic = true ∧ s.epochKnown g.epoch = true ∧
    s.seqFresh kind g.epoch g.seq = true) : TagTaken s kind g := ⟨h.1, h.2.1, h.2.2⟩

theorem of_messageWaits {s : State} {n code k : Nat} {p : List Nat} (h : n < 256 ∧ s.stewardUp = true ∧ (s.facet n).launched = true ∧
    ((s.facet n).mbox.headCode = code ∧ (s.facet n).mbox.head % 65536 = 0 ∧ bitsAt (s.facet n).mbox.head 28 4 = p.length) ∧
    (∀ i, i < p.length → mapGet (s.facet n).mbox.outSlots (((s.facet n).mbox.outCons + 1 + i) % 16) 0 = p.getD i 0) ∧
    1 + p.length ≤ sub32 (s.facet n).mbox.outProd (s.facet n).mbox.outCons ∧ (s.facet n).mbox.held = [] ∧
    sub32 (s.facet n).mbox.inProd (s.facet n).mbox.inCons + k ≤ 16) : MessageWaits s n code p k :=
  ⟨h.1, h.2.1, h.2.2.1, h.2.2.2.1, h.2.2.2.2.1, h.2.2.2.2.2.1, h.2.2.2.2.2.2.1, h.2.2.2.2.2.2.2⟩

theorem of_onTask {s : State} {n v g : Nat} {k : Task} (h : (n < 256 ∧ v < 2 ^ 64) ∧ s.guest n = true ∧ opTask v < s.facetReg n 9 ∧
    g = s.facetReg n 8 + opTask v ∧ s.task g = k) : OnTask s n v g k := ⟨h.1, h.2.1, h.2.2.1, h.2.2.2.1, h.2.2.2.2⟩

theorem of_mirrorTaken {s : State} {m : MirrorMsg} (h : s.running = true ∧ s.lit = false ∧ m.authentic = true ∧ s.epochKnown m.epoch = true ∧
    s.seqFresh m.kind m.epoch m.seq = true) : MirrorTaken s m := ⟨h.1, h.2.1, h.2.2.1, h.2.2.2.1, h.2.2.2.2⟩

theorem of_memOk {s : State} (h : Memory.wf s.mem = true) : s.memOk := h

theorem of_inPlane {s : State} {n : Nat} (h : (strRange s.tickRegs n).1 + (strRange s.tickRegs n).2 ≤ 8192 ∧
    (∀ r ∈ s.lens.opened, ∀ k ∈ enabledStreams r.cfg, (strRange r.cfg k).1 + (strRange r.cfg k).2 ≤ 8192) ∧
    (∀ p ∈ s.lens.inUse, p.1 + p.2 ≤ 8192)) : InPlane s n := ⟨h.1, h.2.1, h.2.2⟩

theorem of_gooseTaken {s : State} {n : Nat} {fr : GooseFrame} {g : GooseMsg} (h : (s.sub n).state ≠ 0 ∧
    (pduLengthOk fr.pdu = true ∧ gooseRead fr.pdu = some g) ∧ g.gocbRef = s.blob (subIndex n) 2 ∧
    (s.blob (subIndex n) 3 = [] ∨ s.blob (subIndex n) 3 = g.goId) ∧ (s.blob (subIndex n) 4 = [] ∨ s.blob (subIndex n) 4 = g.datSet) ∧
    g.confRev = s.subReg n 5 ∧ g.ndsCom = false ∧ g.numEntries = s.subReg n 6 ∧ (g.simulation = true → s.regN 0x47F0 5 ≠ 0) ∧
    (g.simulation = false → s.regN 0x47F0 5 = 0 ∨ (s.sub n).usingSim = false) ∧ fr.tailGood = true) : GooseTaken s n fr g :=
  ⟨h.1, h.2.1, h.2.2.1, h.2.2.2.1, h.2.2.2.2.1, h.2.2.2.2.2.1, h.2.2.2.2.2.2.1, h.2.2.2.2.2.2.2.1, h.2.2.2.2.2.2.2.2.1,
    h.2.2.2.2.2.2.2.2.2.1, h.2.2.2.2.2.2.2.2.2.2⟩

namespace W02

def pw (f : Power → Power) (s : State) : State := { s with power := f s.power }

/-- States and operands that meet the hypotheses of SuppliesComeUp, clause by clause. -/
theorem witness_SuppliesComeUp :
    (∃ (s : State), s.power.stage = .off) ∧
    (∃ (s : State), s.power.stage = .standby ∧ s.power.pwrEn = true ∧ (s.power.thermal ≠ 2 ∨ (s.power.restartAsked = true ∧ s.power.junction < 900))) ∧
    (∃ (s : State), s.power.stage = .rising) ∧
    (∃ (s : State), s.supplied = false ∧ s.power.failing = false) ∧
    (∃ (s : State), s.domOn 1 = true) ∧
    (∃ (s : State), s.domOn 1 = true) ∧
    (∃ (s : State), s.domOn 1 = true) ∧
    (∃ (s : State), s.power.pwrEn = false ∧ s.power.thermal ≠ 2) ∧
    (∃ (s : State) (j : Int), s.power.pwrEn = false ∧ s.power.thermal = 2 ∧ j < 900) := by
  refine ⟨?_, ?_, ?_, ?_, ?_, ?_, ?_, ?_, ?_⟩
  · exact ⟨State.reset, by decide +kernel⟩
  · exact ⟨pw (fun p => { p with stage := .standby, pwrEn := true }) up, by decide +kernel⟩
  · exact ⟨pw (fun p => { p with stage := .rising }) up, by decide +kernel⟩
  · exact ⟨State.reset, by decide +kernel⟩
  · exact ⟨up, by decide +kernel⟩
  · exact ⟨up, by decide +kernel⟩
  · exact ⟨up, by decide +kernel⟩
  · exact ⟨pw (fun p => { p with pwrEn := false, crossing := [8] }) up, by decide +kernel⟩
  · exact ⟨{ State.reset with power := { Power.reset with pwrEn := false, thermal := 2 }, sec := Security.reset}, (-500), by decide +kernel⟩

/-- States and operands that meet the hypotheses of SupplyThresholds, clause by clause. -/
theorem witness_SupplyThresholds :
    (∃ (s : State) (mv : Nat), mv < 2 ^ 16 ∧ s.supplied = true ∧ s.domOn 1 = true ∧ mv < 10200) ∧
    (∃ (s : State) (mv : Nat), mv < 2 ^ 16 ∧ s.supplied = true ∧ s.domOn 1 = true ∧ 10200 ≤ mv ∧ mv ≤ 13200) ∧
    (∃ (s : State) (mv : Nat), mv < 2 ^ 16 ∧ s.supplied = true ∧ s.domOn 1 = true ∧ 13200 < mv ∧ mv ≤ 14000) ∧
    (∃ (s : State) (mv : Nat), mv < 2 ^ 16 ∧ s.supplied = true ∧ s.domOn 1 = true ∧ 14000 < mv) ∧
    (∃ (s : State) (mv : Nat), mv < 2 ^ 16 ∧ s.supplied = true ∧ s.domOn 1 = true) ∧
    (∃ (s : State) (mv : Nat) (j : Int), mv < 2 ^ 16 ∧ s.supplied = true ∧ s.domOn 1 = true ∧ 1100 ≤ j) ∧
    (∃ (s : State) (mv : Nat), mv < 2 ^ 16 ∧ s.power.stage = .standby ∧ s.domOn 1 = true) ∧
    (∃ (s : State) (mv : Nat), mv < 2 ^ 16 ∧ s.power.stage = .standby ∧ s.domOn 1 = true ∧ mv < 4600) ∧
    (∃ (s : State) (mv : Nat), mv < 2 ^ 16 ∧ s.power.stage = .standby ∧ s.domOn 1 = true ∧ 3000 ≤ mv) ∧
    (∃ (s : State) (mv : Nat), mv < 2 ^ 16 ∧ s.power.stage = .standby ∧ s.domOn 1 = true ∧ mv < 3000) ∧
    (∃ (s : State) (mv : Nat), mv < 2 ^ 16 ∧ s.domOn 1 = true ∧ mv < 2600) ∧
    (∃ (s : State) (mv : Nat), mv < 2 ^ 16 ∧ s.domOn 1 = true ∧ mv < 1000) ∧
    (∃ (s : State) (mv : Nat), mv < 2 ^ 16 ∧ s.domOn 1 = true ∧ s.power.thermal ≠ 2) := by
  refine ⟨?_, ?_, ?_, ?_, ?_, ?_, ?_, ?_, ?_, ?_, ?_, ?_, ?_⟩
  · exact ⟨up, 0, by decide +kernel⟩
  · exact ⟨up, 10200, by decide +kernel⟩
  · exact ⟨up, 13201, by decide +kernel⟩
  · exact ⟨up, 14001, by decide +kernel⟩
  · exact ⟨up, 0, by decide +kernel⟩
  · exact ⟨up, 0, 1100, by decide +kernel⟩
  · exact ⟨pw (fun p => { p with stage := .standby, pwrEn := true }) up, 0, by decide +kernel⟩
  · exact ⟨pw (fun p => { p with stage := .standby, pwrEn := true }) up, 0, by decide +kernel⟩
  · exact ⟨pw (fun p => { p with stage := .standby, pwrEn := true }) up, 3000, by decide +kernel⟩
  · exact ⟨pw (fun p => { p with stage := .standby, pwrEn := true }) up, 0, by decide +kernel⟩
  · exact ⟨up, 0, by decide +kernel⟩
  · exact ⟨up, 0, by decide +kernel⟩
  · exact ⟨up, 0, by decide +kernel⟩

/-- States and operands that meet the hypotheses of PowerFailSequence, clause by clause. -/
theorem witness_PowerFailSequence :
    (∃ (s : State) (c : _) (l : _), s.supplied = true ∧ s.power.crossing = c :: l) ∧
    (∃ (s : State), s.power.stage = .failing ∧ s.pair.switchesDue = true) ∧
    (∃ (s : State), s.power.stage = .failing) ∧
    (∃ (s : State), s.power.stage = .failing ∧ s.power.gasped = false ∧ s.log.bankMode = false) ∧
    (∃ (s : State), s.power.stage = .failing ∧ s.power.ioLost = true ∧ (s.power.cause = 1 ∨ s.power.cause = 3)) ∧
    (∃ (s : State), s.power.stage = .failing ∧ (s.power.ioLost = false ∨ (s.power.cause ≠ 1 ∧ s.power.cause ≠ 3))) ∧
    (∃ (s : State), s.power.stage = .off ∧ s.sec.keyStoreEmpty = true) ∧
    (∃ (s : State), s.power.stage = .off ∧ s.sec.keyStoreEmpty = false) := by
  refine ⟨?_, ?_, ?_, ?_, ?_, ?_, ?_, ?_⟩
  · exact ⟨pw (fun p => { p with crossing := [1] }) up, 1, [], by decide +kernel⟩
  · exact ⟨{ up with power := { up.power with stage := .failing, cause := 1 }, pair := {up.pair with switchesDue := true} }, by decide +kernel⟩
  · exact ⟨{ up with power := { up.power with stage := .failing, cause := 1 }, pair := {up.pair with switchesDue := true} }, by decide +kernel⟩
  · exact ⟨{ up with power := { up.power with stage := .failing, cause := 1 }, pair := {up.pair with switchesDue := true} }, by decide +kernel⟩
  · exact ⟨{ up with power := { up.power with stage := .failing, cause := 1, ioLost := true } }, by decide +kernel⟩
  · exact ⟨{ up with power := { up.power with stage := .failing, cause := 1 }, pair := {up.pair with switchesDue := true} }, by decide +kernel⟩
  · exact ⟨State.reset, by decide +kernel⟩
  · exact ⟨{ up with power := { up.power with stage := .off } }, by decide +kernel⟩

end W02

namespace W03

def ph (n : Nat) (f : State → State := id) : State := f { up with boot := { up.boot with phase := n }, pair := { Pair.reset with role := 0, own := false }, power := { up.power with oselOwn := false, fdoSwitches := false, peerPresentN := true }, log := {up.log with ready := decide (4 < n)}, lens := default}
def pw (f : Power → Power) (s : State) : State := { s with power := f s.power }
def bt (f : Boot → Boot) (s : State) : State := { s with boot := f s.boot }
def hd : FwHeader := { FwHeader.factory with secFloor := 3, secVersion := 2, version := 9 }
def img : CfgImage := { (default : CfgImage) with entries := [(ek 0x1100 1, .int 1)] }

/-- States and operands that meet the hypotheses of DomainsAndOutputs, clause by clause. -/
theorem witness_DomainsAndOutputs :
    (∃ (s : State) (d : _), Accepted s rowReq (ek 0x1802 (d - 2)) (.int 0) ∧ 3 ≤ d ∧ d ≤ 6 ∧ s.power.stage = .up ∧ s.power.thermal ≠ 2 ∧ s.dom d = .on ∧ s.domainInUse d = false ∧ 1 < ([3, 4, 5, 6].filter fun k => s.dom k == .on).length) ∧
    (∃ (s : State) (d : _), Accepted s rowReq (ek 0x1802 (d - 2)) (.int 1) ∧ 3 ≤ d ∧ d ≤ 6 ∧ s.power.stage = .up ∧ s.power.thermal ≠ 2 ∧ (s.dom d = .off ∨ s.dom d = .failed)) ∧
    (∃ (s : State) (d : _), 3 ≤ d ∧ d ≤ 6 ∧ s.supplied = true ∧ s.dom d = .ramping ∧ s.boot.phase ≠ 0) ∧
    (∃ (s : State) (d : _), 3 ≤ d ∧ d ≤ 6 ∧ s.supplied = true ∧ s.dom d = .testing) ∧
    (∃ (s : State) (j : Int), s.power.stage = .standby ∧ s.domOn 1 = true ∧ s.power.thermal = 2 ∧ j < 900) ∧
    (∃ (s : State), s.stewardUp = true ∧ s.lit = false ∧ s.power.oselFb = true) ∧
    (∃ (s : State), s.domOn 1 = true) ∧
    (∃ (s : State) (driver : _), driver < 32 ∧ s.running = true ∧ (s.pair.role = 2 ∨ s.pair.role = 3)) ∧
    (∃ (s : State) (driver : _), driver < 32 ∧ s.running = true ∧ (s.pair.role = 2 ∨ s.pair.role = 3) ∧ ((s.testEntry 5).result ≠ 3 ∨ (s.testEntry 5).unit = driver)) := by
  refine ⟨?_, ?_, ?_, ?_, ?_, ?_, ?_, ?_, ?_⟩
  · exact ⟨up, 3, of_accepted (by decide +kernel), by decide +kernel⟩
  · exact ⟨pw (fun p => { p with dom := mapPut 4 .off p.dom }) up, 4, of_accepted (by decide +kernel), by decide +kernel⟩
  · exact ⟨pw (fun p => { p with dom := mapPut 5 .ramping (mapPut 6 .failed p.dom) }) up, 5, by decide +kernel⟩
  · exact ⟨pw (fun p => { p with dom := mapPut 5 .testing p.dom }) up, 5, by decide +kernel⟩
  · exact ⟨pw (fun p => { p with stage := .standby, thermal := 2 }) up, (-500), by decide +kernel⟩
  · exact ⟨pw (fun p => { p with oselFb := true }) shade, by decide +kernel⟩
  · exact ⟨up, by decide +kernel⟩
  · exact ⟨shade, 0, by decide +kernel⟩
  · exact ⟨shade, 0, by decide +kernel⟩

/-- States and operands that meet the hypotheses of Resets, clause by clause. -/
theorem witness_Resets :
    (∃ (s : State), s.domOn 2 = true ∧ s.supplied = true) ∧
    (∃ (s : State), s.boot.held = true) ∧
    (∃ (s : State), Accepted s rowReq (ek 0xC002 1) (.int 1) ∧ s.lit = false) ∧
    (∃ (s : State), Accepted s rowReq (ek 0xC002 1) (.int 1) ∧ s.lit = true ∧ s.pair.partnerRole = 2) ∧
    (∃ (s : State), Accepted s rowReq (ek 0xC002 2) (.int 1)) ∧
    (∃ (s : State), s.executing = true) ∧
    (∃ (s : State), s.executing = true) := by
  refine ⟨?_, ?_, ?_, ?_, ?_, ?_, ?_⟩
  · exact ⟨up, by decide +kernel⟩
  · exact ⟨bt (fun b => { b with held := true}) up, by decide +kernel⟩
  · exact ⟨shade, of_accepted (by decide +kernel), by decide +kernel⟩
  · exact ⟨{ up with pair := { up.pair with partnerRole := 2 }}, of_accepted (by decide +kernel), by decide +kernel⟩
  · exact ⟨up, of_accepted (by decide +kernel)⟩
  · exact ⟨up, by decide +kernel⟩
  · exact ⟨up, by decide +kernel⟩

/-- States and operands that meet the hypotheses of StartUpPhases, clause by clause. -/
theorem witness_StartUpPhases :
    (∃ (s : State), s.inPhase 1 = true) ∧
    (∃ (s : State) (sigA : _) (sigB : _) (n : _) (st : _) (b : _), s.inPhase 2 = true ∧ s.stuck = false ∧ s.boot.choose = (n, st, b) ∧ b.slotOk n (if n = 0 then sigA else sigB) = true) ∧
    (∃ (s : State) (sigA : _) (sigB : _) (n : _) (st : _) (b : _), s.inPhase 2 = true ∧ s.stuck = false ∧ s.boot.choose = (n, st, b) ∧ b.slotOk n (if n = 0 then sigA else sigB) = false ∧ b.slotOk (1 - n) (if 1 - n = 0 then sigA else sigB) = false) ∧
    (∃ (s : State), s.inPhase 3 = true) ∧
    (∃ (s : State), s.inPhase 4 = true) ∧
    (∃ (s : State), s.inPhase 5 = true ∧ s.boot.cfgBad = false ∧ s.boot.current.marked = 0) ∧
    (∃ (s : State), s.inPhase 5 = true ∧ s.boot.cfgBad = false ∧ s.boot.current.marked = 0 ∧ s.cfgSigned s.boot.activeRaw = false) ∧
    (∃ (s : State), s.inPhase 5 = true ∧ s.boot.cfgBad = false ∧ s.boot.current.marked = 0 ∧ s.cfgSigned s.boot.activeRaw = true) ∧
    (∃ (s : State), s.inPhase 6 = true ∧ s.regN 0xC001 2 = 0) ∧
    (∃ (s : State), s.inPhase 6 = true ∧ s.regN 0xC001 2 ≠ 0) ∧
    (∃ (s : State) (lines : Lines), s.inPhase 7 = true ∧ s.pair.role = 0 ∧ s.pair.selfFenced = false ∧ s.sec.provisioned = true ∧ s.power.peerPresentN = true ∧ s.pair.takeoverFault = false ∧ linesOwner lines = false ∧ linesRequest lines = false) ∧
    (∃ (s : State), s.inPhase 7 = true ∧ s.pair.role = 0 ∧ s.pair.selfFenced = false ∧ s.sec.provisioned = false) ∧
    (∃ (s : State), s.running = true ∧ 7 ≤ s.boot.phase ∧ s.pair.trained = false ∧ (s.pair.role = 2 ∨ s.pair.role = 3)) ∧
    (∃ (s : State), s.inPhase 8 = true ∧ s.domOn 7 = true ∧ s.lens.state = 1) ∧
    (∃ (s : State), s.inPhase 8 = true ∧ s.lens.state = 2) ∧
    (∃ (s : State), s.inPhase 9 = true ∧ s.boot.launched = false) := by
  refine ⟨?_, ?_, ?_, ?_, ?_, ?_, ?_, ?_, ?_, ?_, ?_, ?_, ?_, ?_, ?_, ?_⟩
  · exact ⟨ph 1, by decide +kernel⟩
  · exact ⟨ph 2, true, false, 0, 0, { phase := 2, held := false, recA := { seq := 1, good := true, committed := 0, trial := none, attempts := 0, marked := 0 }, recB := { seq := 0, good := true, committed := 0, trial := none, attempts := 0, marked := 0 }, slotA := { hdr := some { version := 16777216, mirrorProto := 256, secVersion := 0, secFloor := 0, digest := [] }, image := [] }, slotB := { hdr := none, image := [] }, floor := 0, booted := 0, bootState := 0, failedSlots := [], lastClass := 0, startClass := 0, waited := false, resetCount := 0, startedAt := 0, startTime := 0, inst := 0, instOwner := 0, instBytes := 0, instResult := 0, active := { entries := [], programs := [], fdb := [], streams := [], vlans := [], swbStart := [], signer := [] }, pending := none, previous := none, activeRaw := [], pendingRaw := [], previousRaw := [], pend := 0, pendOwner := 0, cfgResult := 0, cfgBad := false, lensDue := false, launched := false, awaited := [], swapThenReset := false, trialSince := none }, by decide +kernel⟩
  · exact ⟨ph 2, false, false, 0, 0, { phase := 2, held := false, recA := { seq := 1, good := true, committed := 0, trial := none, attempts := 0, marked := 0 }, recB := { seq := 0, good := true, committed := 0, trial := none, attempts := 0, marked := 0 }, slotA := { hdr := some { version := 16777216, mirrorProto := 256, secVersion := 0, secFloor := 0, digest := [] }, image := [] }, slotB := { hdr := none, image := [] }, floor := 0, booted := 0, bootState := 0, failedSlots := [], lastClass := 0, startClass := 0, waited := false, resetCount := 0, startedAt := 0, startTime := 0, inst := 0, instOwner := 0, instBytes := 0, instResult := 0, active := { entries := [], programs := [], fdb := [], streams := [], vlans := [], swbStart := [], signer := [] }, pending := none, previous := none, activeRaw := [], pendingRaw := [], previousRaw := [], pend := 0, pendOwner := 0, cfgResult := 0, cfgBad := false, lensDue := false, launched := false, awaited := [], swapThenReset := false, trialSince := none }, by decide +kernel⟩
  · exact ⟨ph 3, by decide +kernel⟩
  · exact ⟨ph 4, by decide +kernel⟩
  · exact ⟨ph 5, by decide +kernel⟩
  · exact ⟨bt (fun b => { b with activeRaw := [byteOf 3] }) { ph 5 with sec := { up.sec with roots := [(1, [byteOf 1])] } }, by decide +kernel⟩
  · exact ⟨ph 5, by decide +kernel⟩
  · exact ⟨ph 6, by decide +kernel⟩
  · exact ⟨{ ph 6 with regs := [(ek 0xC001 2, 1)] }, by decide +kernel⟩
  · exact ⟨ph 7, { own0 := false, own1 := false, req0 := false, req1 := false }, by decide +kernel⟩
  · exact ⟨ph 7 (fun s => { s with sec := { s.sec with state := 1 } }), by decide +kernel⟩
  · exact ⟨shade, by decide +kernel⟩
  · exact ⟨ph 8 (fun s => { s with lens := { s.lens with state := 1, startAt := 5 } }), by decide +kernel⟩
  · exact ⟨ph 8 (fun s => { s with lens := { s.lens with state := 2 }, pair := { s.pair with role := 1, own := true } }), by decide +kernel⟩
  · exact ⟨up, by decide +kernel⟩

/-- States and operands that meet the hypotheses of FirmwareUpdate, clause by clause. -/
theorem witness_FirmwareUpdate :
    (∃ (s : State) (sess : _), Accepted s (sessReq sess) (ek 0xC010 1) (.int 1) ∧ sess ≤ 8 ∧ s.boot.bootState ≠ 1 ∧ s.boot.inst ≠ 1 ∧ s.boot.inst ≠ 2) ∧
    (∃ (s : State) (sess : _), Accepted s (sessReq sess) (ek 0xC010 1) (.int 0) ∧ sess ≤ 8 ∧ (s.boot.inst = 1 ∨ s.boot.inst = 2) ∧ s.boot.instOwner = sess) ∧
    (∃ (s : State) (sess : _), Accepted s (sessReq sess) (ek 0xC010 1) (.int 2) ∧ sess ≤ 8 ∧ s.boot.inst = 1 ∧ s.boot.instOwner = sess) ∧
    (∃ (s : State) (sess : _) (data : ByteList), sess ≤ 8 ∧ s.serves sess = true ∧ s.boot.inst = 1 ∧ s.boot.instOwner = sess ∧ s.boot.instBytes + data.length ≤ 1610612736) ∧
    (∃ (s : State) (result : Nat), s.serves 8 = true ∧ s.boot.inst = 2 ∧ result = 0) ∧
    (∃ (s : State) (result : Nat), s.serves 8 = true ∧ s.boot.inst = 2 ∧ result ≠ 0) ∧
    (∃ (s : State) (n : Nat), Accepted s rowReq (ek 0xC011 1) (.int n) ∧ n < 2 ∧ (s.boot.slot n).hdr.isSome = true) ∧
    (∃ (s : State), Accepted s rowReq (ek 0xC011 2) (.int 1) ∧ s.boot.bootState = 1) ∧
    (∃ (s : State), s.boot.bootState = 1 ∧ s.stewardUp = true ∧ s.boot.trialSince.isSome = true ∧ s.regN 0xC011 3 ≠ 0) := by
  refine ⟨?_, ?_, ?_, ?_, ?_, ?_, ?_, ?_, ?_⟩
  · exact ⟨up, 0, of_accepted (by decide +kernel), by decide +kernel⟩
  · exact ⟨bt (fun b => { b with inst := 1, instOwner := 3 }) up, 3, of_accepted (by decide +kernel), by decide +kernel⟩
  · exact ⟨bt (fun b => { b with inst := 1, instOwner := 3 }) up, 3, of_accepted (by decide +kernel), by decide +kernel⟩
  · exact ⟨bt (fun b => { b with inst := 1, instOwner := 3 }) up, 3, [], by decide +kernel⟩
  · exact ⟨bt (fun b => { b with inst := 2, floor := 1 }) up, 0, by decide +kernel⟩
  · exact ⟨bt (fun b => { b with inst := 2, floor := 1 }) up, 1, by decide +kernel⟩
  · exact ⟨up, 0, of_accepted (by decide +kernel), by decide +kernel⟩
  · exact ⟨bt (fun b => { b with slotB := ⟨some hd, []⟩, booted := 1, bootState := 1, recA := { b.recA with trial := some 1, attempts := 2 }, trialSince := some 0 }) up, of_accepted (by decide +kernel), by decide +kernel⟩
  · exact ⟨bt (fun b => { b with slotB := ⟨some hd, []⟩, booted := 1, bootState := 1, recA := { b.recA with trial := some 1, attempts := 2 }, trialSince := some 0 }) up, by decide +kernel⟩

/-- States and operands that meet the hypotheses of ConfigurationStore, clause by clause. -/
theorem witness_ConfigurationStore :
    (∃ (s : State) (sess : _), Accepted s (sessReq sess) (ek 0xC030 1) (.int 1) ∧ sess ≤ 8 ∧ s.boot.pend ≠ 1 ∧ s.boot.pend ≠ 2 ∧ s.boot.pend ≠ 5) ∧
    (∃ (s : State) (sess : _), Accepted s (sessReq sess) (ek 0xC030 1) (.int 0) ∧ sess ≤ 8 ∧ (s.boot.pend = 1 ∨ s.boot.pend = 2) ∧ s.boot.pendOwner = sess) ∧
    (∃ (s : State) (sess : _), Accepted s (sessReq sess) (ek 0xC030 1) (.int 2) ∧ sess ≤ 8 ∧ s.boot.pend = 1 ∧ s.boot.pendOwner = sess) ∧
    (∃ (s : State) (sess : _) (data : ByteList), sess ≤ 8 ∧ s.stewardUp = true ∧ s.boot.pend = 1 ∧ s.boot.pendOwner = sess ∧ s.boot.pendingRaw.length + data.length ≤ 268435456) ∧
    (∃ (s : State) (result : Nat), s.stewardUp = true ∧ s.boot.pend = 2 ∧ result = 0) ∧
    (∃ (s : State) (result : Nat), s.stewardUp = true ∧ s.boot.pend = 2 ∧ result ≠ 0) ∧
    (∃ (s : State) (img : _), Accepted s rowReq (ek 0xC030 1) (.int 3) ∧ s.boot.current.marked = 0 ∧ s.boot.pend = 3 ∧ s.boot.pending = some img ∧ cfgTripCode img = 0) ∧
    (∃ (s : State), Accepted s rowReq (ek 0xC030 1) (.int 4) ∧ s.boot.current.marked = 0 ∧ s.boot.previous.isSome = true) := by
  refine ⟨?_, ?_, ?_, ?_, ?_, ?_, ?_, ?_⟩
  · exact ⟨up, 0, of_accepted (by decide +kernel), by decide +kernel⟩
  · exact ⟨bt (fun b => { b with pend := 1, pendOwner := 3 }) up, 3, of_accepted (by decide +kernel), by decide +kernel⟩
  · exact ⟨bt (fun b => { b with pend := 1, pendOwner := 3 }) up, 3, of_accepted (by decide +kernel), by decide +kernel⟩
  · exact ⟨bt (fun b => { b with pend := 1, pendOwner := 3 }) up, 3, [], by decide +kernel⟩
  · exact ⟨bt (fun b => { b with pend := 2 }) up, 0, by decide +kernel⟩
  · exact ⟨bt (fun b => { b with pend := 2 }) up, 1, by decide +kernel⟩
  · exact ⟨bt (fun b => { b with pend := 3, pending := some img }) up, { entries := [(1114113, Val.int 1)], programs := [], fdb := [], streams := [], vlans := [], swbStart := [], signer := [] }, of_accepted (by decide +kernel), by decide +kernel⟩
  · exact ⟨bt (fun b => { b with previous := some img }) up, of_accepted (by decide +kernel), by decide +kernel⟩

end W03

namespace W04

def acc (f : Access → Access) (s : State) : State := { s with access := f s.access }
def sn : Session := { Session.fresh 2 3 with lastId := some 4294967295 }
def bt (f : Boot → Boot) (s : State) : State := { s with boot := f s.boot }
def sx (x : Session) : State := acc (fun a => { a with sessions := [(3, x)], locks := [⟨3, 0x1000, 0x1010⟩] }) up
def dn (k : Nat) (n : Nat) : Transfer := { Transfer.new true k n [] with }
def upl (k : Nat) : Transfer := Transfer.new false k 3000 (List.replicate 3000 (byteOf 8))
def st (t : Transfer) : State := sx { sn with transfer := some t }
def cab : State := { up with can := { up.can with ctl := [(0, { CanCtl.stopped with state := 1 })] }, regs := [(ek 0x1140 1, 5*256+3)] }
def cc (t : Option Transfer) : State := acc (fun a => { a with clients := [(5, ⟨true, [byteOf 1], [], t⟩)] }) cab
def up2 : State := { up with sec := { up.sec with psk := [(2, List.replicate 32 (byteOf 1))] , records := [(2, ([byteOf 65], 3, true))], epoch := 3 }, access := { up.access with sessions := [(0, sn), (8, sn)] }, regs := [(ek 0x1100 2, 8)] }
def ep (s : State) : State := { s with sec := { s.sec with epoch := 3 } }

/-- States and operands that meet the hypotheses of MapRequests, clause by clause. -/
theorem witness_MapRequests :
    (∃ (s : State) (m : MapMsg) (x : Session) (e : _), Served s m x ∧ m.sub ≠ 0 ∧ m.sub < 256 ∧ entryOf (ek m.index m.sub) = some e ∧ e.acc ≠ 2 ∧ roleOk (s.requester m.sess x).role e.rd = true ∧ s.pathOk (s.requester m.sess x) (ek m.index m.sub) false = true ∧ ¬(0x3120 ≤ m.index ∧ m.index ≤ 0x3123) ∧ ek m.index m.sub ≠ ek 0xA040 1 ∧ (valBytes e.typ (s.readEntry m.sess (ek m.index m.sub))).length ≤ 1024) ∧
    (∃ (s : State) (m : MapMsg) (x : Session) (v : _), Served s m x ∧ Accepted s (s.requester m.sess x) (ek m.index m.sub) v ∧ m.typ = entryType (ek m.index m.sub) ∧ decodeVal m.typ m.payload = some v ∧ overlaid (ek m.index m.sub) = true) ∧
    (∃ (s : State) (m : MapMsg) (x : Session) (l : List RawItem) (items : ValList), Served s m x ∧ writeGroups m.index 18 m.payload = some l ∧ l ≠ [] ∧ l.length ≤ 16 ∧ (∀ i ∈ l, s.rawCode (s.requester m.sess x) i = 0) ∧ items = (l.filterMap fun i => (decodeVal (entryType i.key) i.data).map fun v => (i.key, v)) ∧ (∀ p ∈ items, configEntry p.1 = true ∧ s.ownerCode (s.putVals items) p.1 p.2 = 0) ∧ overBudget s (s.applyItems (s.requester m.sess x) items).2 = false ∧ overlayFull (s.applyItems (s.requester m.sess x) items).2.access.overlay = false ∧ (s.lit = true → s.pair.partnerRole = 2 → ∀ p ∈ items, forwardedItem p.1 p.2 = false)) ∧
    (∃ (s : State) (m : MapMsg) (x : Session) (e : _), Served s m x ∧ m.sub ≠ 0 ∧ entryOf (ek m.index m.sub) = some e ∧ (m.sess ≠ 8 ∨ s.sec.debugOpen = true)) ∧
    (∃ (s : State) (m : MapMsg) (x : Session) (n : _), Served s m x ∧ m.sub = 0 ∧ topSub m.index = some n ∧ (m.sess ≠ 8 ∨ s.sec.debugOpen = true)) ∧
    (∃ (s : State) (m : MapMsg) (x : Session), Served s m x ∧ m.payload.length = 2 ∧ ((s.requester m.sess x).role = 3 ∨ (s.requester m.sess x).role = 5) ∧ m.index ≤ beNat m.payload ∧ (∀ l ∈ s.access.locks, l.last < m.index ∨ beNat m.payload < l.first) ∧ s.access.locks.length < 8) ∧
    (∃ (s : State) (m : MapMsg) (x : Session), Served s m x) ∧
    (∃ (s : State) (m : MapMsg) (x : Session), Served s m x ∧ m.sess < 8 ∧ x.transfer = none) ∧
    (∃ (s : State) (m : MapMsg) (x : Session), Served s m x ∧ x.transfer = none) ∧
    (∃ (s : State) (m : MapMsg) (x : Session) (t0 : Transfer), Served s m x ∧ x.transfer = some t0 ∧ t0.down = true ∧ t0.key = ek 0xC030 2) := by
  refine ⟨?_, ?_, ?_, ?_, ?_, ?_, ?_, ?_, ?_, ?_⟩
  · exact ⟨sx sn, { sess := 3, version := 1, flags := 0, tid := 1, index := 4096, sub := 1, typ := 9, len := 0, payload := [] }, { record := 2, role := 3, lastId := some 4294967295, window := [], transfer := none }, { lo := 4096, hi := 4096, s0 := 1, s1 := 1, typ := 9, acc := 0, rd := 1, wr := 0, dflt := 0, min := 25, max := 25, also := [], only := [], name := "Vendor name" }, of_served (by decide +kernel), by decide +kernel⟩
  · exact ⟨sx sn, { sess := 3, version := 1, flags := 0, tid := 1, index := 0x3001, sub := 2, typ := 6, len := 2, payload := beBytes 2 30 }, sn, .int 30, of_served (by decide +kernel), of_accepted (by decide +kernel), by decide +kernel⟩
  · exact ⟨sx sn, { sess := 3, version := 1, flags := 0, tid := 1, index := 0x3001, sub := 2, typ := 6, len := 5, payload := [2, 0, 2] ++ beBytes 2 30 }, sn, [{ key := ek 0x3001 2, typ := none, data := beBytes 2 30 }], [(ek 0x3001 2, .int 30)], of_served (by decide +kernel), rfl, List.cons_ne_nil _ _, by decide +kernel⟩
  · exact ⟨sx sn, { sess := 3, version := 1, flags := 0, tid := 1, index := 4096, sub := 1, typ := 9, len := 0, payload := [] }, { record := 2, role := 3, lastId := some 4294967295, window := [], transfer := none }, { lo := 4096, hi := 4096, s0 := 1, s1 := 1, typ := 9, acc := 0, rd := 1, wr := 0, dflt := 0, min := 25, max := 25, also := [], only := [], name := "Vendor name" }, of_served (by decide +kernel), by decide +kernel⟩
  · exact ⟨sx sn, { sess := 3, version := 1, flags := 0, tid := 1, index := 4096, sub := 0, typ := 0, len := 0, payload := [] }, { record := 2, role := 3, lastId := some 4294967295, window := [], transfer := none }, 8, of_served (by decide +kernel), by decide +kernel⟩
  · exact ⟨sx sn, { sess := 3, version := 1, flags := 0, tid := 1, index := 4352, sub := 1, typ := 6, len := 2, payload := [0x12, 0x00] }, { record := 2, role := 3, lastId := some 4294967295, window := [], transfer := none }, of_served (by decide +kernel), by decide +kernel⟩
  · exact ⟨sx sn, { sess := 3, version := 1, flags := 0, tid := 1, index := 4096, sub := 1, typ := 9, len := 0, payload := [] }, { record := 2, role := 3, lastId := some 4294967295, window := [], transfer := none }, of_served (by decide +kernel)⟩
  · exact ⟨sx sn, { sess := 3, version := 1, flags := 0, tid := 1, index := 4096, sub := 1, typ := 9, len := 0, payload := [] }, { record := 2, role := 3, lastId := some 4294967295, window := [], transfer := none }, of_served (by decide +kernel), by decide +kernel⟩
  · exact ⟨sx sn, { sess := 3, version := 1, flags := 0, tid := 1, index := 4096, sub := 1, typ := 9, len := 0, payload := [] }, { record := 2, role := 3, lastId := some 4294967295, window := [], transfer := none }, of_served (by decide +kernel), by decide +kernel⟩
  · exact ⟨st (dn (ek 0xC030 2) 0), { sess := 3, version := 1, flags := 0, tid := 1, index := 4096, sub := 1, typ := 9, len := 0, payload := [] }, { record := 2, role := 3, lastId := some 4294967295, window := [], transfer := some { down := true, key := 12595202, total := 0, next := 0, discarded := 0, data := [] } }, { down := true, key := 12595202, total := 0, next := 0, discarded := 0, data := [] }, of_served (by decide +kernel), by decide +kernel⟩

/-- States and operands that meet the hypotheses of MapTransfers, clause by clause. -/
theorem witness_MapTransfers :
    (∃ (s : State) (m : MapMsg) (x : Session), Served s m x ∧ Downloadable s (s.requester m.sess x) (ek m.index m.sub) (beNat m.payload) ∧ ¬exchangeEntry (ek m.index m.sub) ∧ m.payload.length = 4 ∧ x.transfer = none) ∧
    (∃ (s : State) (m : MapMsg) (x : Session) (p : _), Served s m x ∧ Downloadable s (s.requester m.sess x) (ek m.index m.sub) (beNat m.payload) ∧ m.payload.length = 4 ∧ x.transfer = none ∧ p < 1024 ∧ m.index = 0x5400 + p ∧ m.sub = 0x22 ∧ ((s.prog p).exState = 0 ∨ (s.prog p).exState = 3 ∨ (s.prog p).exState = 5)) ∧
    (∃ (s : State) (m : MapMsg) (x : Session) (t0 : Transfer), Served s m x ∧ x.transfer = some t0 ∧ t0.down = true ∧ t0.key = ek m.index m.sub ∧ m.payload.length = 32 ∧ segments1024 t0.total ≤ t0.next ∧ sha256 t0.data = m.payload ∧ (t0.key = ek 0xC010 2 ∨ t0.key = ek 0xC030 2)) ∧
    (∃ (s : State) (m : MapMsg) (x : Session) (t0 : Transfer), Served s m x ∧ Accepted (s.setSession m.sess { x with transfer := none }) (s.requester m.sess x) t0.key (.bytes t0.data) ∧ x.transfer = some t0 ∧ t0.down = true ∧ t0.key = ek m.index m.sub ∧ m.payload.length = 32 ∧ segments1024 t0.total ≤ t0.next ∧ sha256 t0.data = m.payload ∧ overlaid t0.key = true) ∧
    (∃ (s : State) (m : MapMsg) (x : Session) (t0 : Transfer), Served s m x ∧ x.transfer = some t0 ∧ t0.down = true ∧ t0.key = ek m.index m.sub ∧ m.payload.length = 32 ∧ t0.next < segments1024 t0.total) ∧
    (∃ (s : State) (m : MapMsg) (x : Session) (t0 : Transfer), Served s m x ∧ x.transfer = some t0 ∧ t0.down = true ∧ t0.key = ek m.index m.sub ∧ m.payload.length = 32 ∧ segments1024 t0.total ≤ t0.next ∧ sha256 t0.data ≠ m.payload) ∧
    (∃ (s : State) (m : MapMsg) (x : Session) (e : _), Served s m x ∧ x.transfer = none ∧ m.sub ≠ 0 ∧ m.sub < 256 ∧ entryOf (ek m.index m.sub) = some e ∧ e.typ = 0x0F ∧ e.acc ≠ 2 ∧ roleOk (s.requester m.sess x).role e.rd = true ∧ s.pathOk (s.requester m.sess x) (ek m.index m.sub) false = true ∧ ek m.index m.sub ≠ ek 0xA040 1) ∧
    (∃ (s : State) (m : MapMsg) (x : Session) (t0 : Transfer), Heard s m x ∧ m.tid = 0 ∧ 4 ≤ m.payload.length ∧ x.transfer = some t0 ∧ t0.down = true ∧ t0.key = ek m.index m.sub ∧ beAt m.payload 0 4 = t0.next ∧ t0.next < segments1024 t0.total ∧ (m.payload.drop 4).length = Nat.min 1024 (t0.total - 1024 * t0.next) ∧ t0.key ≠ ek 0xC010 2 ∧ t0.key ≠ ek 0xC030 2) ∧
    (∃ (s : State) (m : MapMsg) (x : Session) (t0 : Transfer), Heard s m x ∧ m.tid = 0 ∧ 4 ≤ m.payload.length ∧ x.transfer = some t0 ∧ t0.down = true ∧ t0.key = ek m.index m.sub ∧ beAt m.payload 0 4 = t0.next ∧ t0.next < segments1024 t0.total ∧ (m.payload.drop 4).length = Nat.min 1024 (t0.total - 1024 * t0.next) ∧ t0.key = ek 0xC010 2 ∧ s.boot.inst = 1 ∧ s.boot.instOwner = m.sess ∧ s.boot.instBytes + (m.payload.drop 4).length ≤ 1610612736) ∧
    (∃ (s : State) (m : MapMsg) (x : Session) (t0 : Transfer), Heard s m x ∧ m.tid = 0 ∧ 4 ≤ m.payload.length ∧ x.transfer = some t0 ∧ t0.down = true ∧ t0.key = ek m.index m.sub ∧ beAt m.payload 0 4 = t0.next ∧ t0.next < segments1024 t0.total ∧ (m.payload.drop 4).length = Nat.min 1024 (t0.total - 1024 * t0.next) ∧ t0.key = ek 0xC030 2 ∧ s.boot.pend = 1 ∧ s.boot.pendOwner = m.sess ∧ s.boot.pendingRaw.length + (m.payload.drop 4).length ≤ 268435456) ∧
    (∃ (s : State) (m : MapMsg) (x : Session) (t0 : Transfer), Heard s m x ∧ m.tid = 0 ∧ 4 ≤ m.payload.length ∧ x.transfer = some t0 ∧ t0.down = true ∧ t0.key = ek m.index m.sub ∧ beAt m.payload 0 4 ≠ t0.next) ∧
    (∃ (s : State) (m : MapMsg) (x : Session) (t0 : Transfer), Heard s m x ∧ m.tid = 0 ∧ m.payload.length = 5 ∧ x.transfer = some t0 ∧ t0.down = false ∧ t0.key = ek m.index m.sub ∧ 0 < beAt m.payload 4 1 ∧ beAt m.payload 4 1 ≤ 64 ∧ beAt m.payload 0 4 + beAt m.payload 4 1 ≤ segments1024 t0.total) ∧
    (∃ (s : State) (n : Nat) (x : Session) (t0 : Transfer), n ≤ 8 ∧ s.stewardUp = true ∧ mapFind s.access.sessions n = some x ∧ x.transfer = some t0 ∧ t0.down = true ∧ t0.key = ek 0xC010 2) ∧
    (∃ (s : State) (n : Nat) (x : Session) (t0 : Transfer), n ≤ 8 ∧ s.stewardUp = true ∧ mapFind s.access.sessions n = some x ∧ x.transfer = some t0 ∧ t0.down = true ∧ t0.key = ek 0xC030 2) ∧
    (∃ (s : State) (n : Nat) (x : Session) (t0 : Transfer), n ≤ 8 ∧ s.stewardUp = true ∧ mapFind s.access.sessions n = some x ∧ x.transfer = some t0 ∧ t0.down = true ∧ t0.key ≠ ek 0xC010 2 ∧ t0.key ≠ ek 0xC030 2) ∧
    (∃ (s : State) (n : Nat) (x : Session) (t0 : Transfer), n ≤ 8 ∧ s.stewardUp = true ∧ mapFind s.access.sessions n = some x ∧ x.transfer = some t0 ∧ t0.down = false) := by
  refine ⟨?_, ?_, ?_, ?_, ?_, ?_, ?_, ?_, ?_, ?_, ?_, ?_, ?_, ?_, ?_, ?_⟩
  · exact ⟨sx sn, { sess := 3, version := 1, flags := 0, tid := 1, index := 9249, sub := 2, typ := 15, len := 4, payload := [0x00, 0x00, 0x00, 0x03] }, { record := 2, role := 3, lastId := some 4294967295, window := [], transfer := none }, of_served (by decide +kernel), of_downloadable (by decide +kernel) (by decide +kernel) (by decide +kernel) (by decide +kernel) (by decide +kernel), by unfold exchangeEntry; decide +kernel, by decide +kernel⟩
  · exact ⟨sx sn, { sess := 3, version := 1, flags := 0, tid := 1, index := 21511, sub := 34, typ := 15, len := 4, payload := [0x00, 0x00, 0x00, 0x03] }, { record := 2, role := 3, lastId := some 4294967295, window := [], transfer := none }, 7, of_served (by decide +kernel), of_downloadable (by decide +kernel) (by decide +kernel) (by decide +kernel) (by decide +kernel) (by decide +kernel), by decide +kernel⟩
  · exact ⟨st (dn (ek 0xC030 2) 0), { sess := 3, version := 1, flags := 0, tid := 1, index := 49200, sub := 2, typ := 15, len := 32, payload := [0xe3, 0xb0, 0xc4, 0x42, 0x98, 0xfc, 0x1c, 0x14, 0x9a, 0xfb, 0xf4, 0xc8, 0x99, 0x6f, 0xb9, 0x24, 0x27, 0xae, 0x41, 0xe4, 0x64, 0x9b, 0x93, 0x4c, 0xa4, 0x95, 0x99, 0x1b, 0x78, 0x52, 0xb8, 0x55] }, { record := 2, role := 3, lastId := some 4294967295, window := [], transfer := some { down := true, key := 12595202, total := 0, next := 0, discarded := 0, data := [] } }, { down := true, key := 12595202, total := 0, next := 0, discarded := 0, data := [] }, of_served (by decide +kernel), by decide +kernel⟩
  · exact ⟨st { dn (ek 0x2421 2) 16 with data := List.replicate 16 (byteOf 0), next := 1 }, { sess := 3, version := 1, flags := 0, tid := 1, index := 9249, sub := 2, typ := 15, len := 32, payload := [0x37, 0x47, 0x08, 0xff, 0xf7, 0x71, 0x9d, 0xd5, 0x97, 0x9e, 0xc8, 0x75, 0xd5, 0x6c, 0xd2, 0x28, 0x6f, 0x6d, 0x3c, 0xf7, 0xec, 0x31, 0x7a, 0x3b, 0x25, 0x63, 0x2a, 0xab, 0x28, 0xec, 0x37, 0xbb] }, { record := 2, role := 3, lastId := some 4294967295, window := [], transfer := some { down := true, key := 2367746, total := 16, next := 1, discarded := 0, data := (List.replicate 16 0x00) } }, { down := true, key := 2367746, total := 16, next := 1, discarded := 0, data := (List.replicate 16 0x00) }, of_served (by decide +kernel), of_accepted (by decide +kernel), by decide +kernel⟩
  · exact ⟨st (dn (ek 0x5003 0x14) 1500), { sess := 3, version := 1, flags := 0, tid := 1, index := 20483, sub := 20, typ := 15, len := 32, payload := [0xe3, 0xb0, 0xc4, 0x42, 0x98, 0xfc, 0x1c, 0x14, 0x9a, 0xfb, 0xf4, 0xc8, 0x99, 0x6f, 0xb9, 0x24, 0x27, 0xae, 0x41, 0xe4, 0x64, 0x9b, 0x93, 0x4c, 0xa4, 0x95, 0x99, 0x1b, 0x78, 0x52, 0xb8, 0x55] }, { record := 2, role := 3, lastId := some 4294967295, window := [], transfer := some { down := true, key := 5243668, total := 1500, next := 0, discarded := 0, data := [] } }, { down := true, key := 5243668, total := 1500, next := 0, discarded := 0, data := [] }, of_served (by decide +kernel), by decide +kernel⟩
  · exact ⟨st (dn (ek 0xC030 2) 0), { sess := 3, version := 1, flags := 0, tid := 1, index := 49200, sub := 2, typ := 15, len := 32, payload := [0x37, 0x47, 0x08, 0xff, 0xf7, 0x71, 0x9d, 0xd5, 0x97, 0x9e, 0xc8, 0x75, 0xd5, 0x6c, 0xd2, 0x28, 0x6f, 0x6d, 0x3c, 0xf7, 0xec, 0x31, 0x7a, 0x3b, 0x25, 0x63, 0x2a, 0xab, 0x28, 0xec, 0x37, 0xbb] }, { record := 2, role := 3, lastId := some 4294967295, window := [], transfer := some { down := true, key := 12595202, total := 0, next := 0, discarded := 0, data := [] } }, { down := true, key := 12595202, total := 0, next := 0, discarded := 0, data := [] }, of_served (by decide +kernel), by decide +kernel⟩
  · exact ⟨sx sn, { sess := 3, version := 1, flags := 0, tid := 1, index := 9249, sub := 2, typ := 15, len := 0, payload := [] }, { record := 2, role := 3, lastId := some 4294967295, window := [], transfer := none }, { lo := 9249, hi := 9249, s0 := 2, s1 := 2, typ := 15, acc := 1, rd := 1, wr := 3, dflt := 0, min := 16, max := 16, also := [], only := [], name := "Database entry" }, of_served (by decide +kernel), by decide +kernel⟩
  · exact ⟨st (dn (ek 0x5003 0x14) 1500), { sess := 3, version := 1, flags := 0, tid := 0, index := 20483, sub := 20, typ := 15, len := 1028, payload := ([0x00, 0x00, 0x00, 0x00] ++ List.replicate 1024 0x04) }, { record := 2, role := 3, lastId := some 4294967295, window := [], transfer := some { down := true, key := 5243668, total := 1500, next := 0, discarded := 0, data := [] } }, { down := true, key := 5243668, total := 1500, next := 0, discarded := 0, data := [] }, of_heard (by decide +kernel), by decide +kernel⟩
  · exact ⟨bt (fun b => { b with inst := 1, instOwner := 3 }) (st { dn (ek 0xC010 2) 20000 with next := 15 }), { sess := 3, version := 1, flags := 0, tid := 0, index := 49168, sub := 2, typ := 15, len := 1028, payload := ([0x00, 0x00, 0x00, 0x0f] ++ List.replicate 1024 0x04) }, { record := 2, role := 3, lastId := some 4294967295, window := [], transfer := some { down := true, key := 12587010, total := 20000, next := 15, discarded := 0, data := [] } }, { down := true, key := 12587010, total := 20000, next := 15, discarded := 0, data := [] }, of_heard (by decide +kernel), by decide +kernel⟩
  · exact ⟨bt (fun b => { b with pend := 1, pendOwner := 3 }) (st (dn (ek 0xC030 2) 6000)), { sess := 3, version := 1, flags := 0, tid := 0, index := 49200, sub := 2, typ := 15, len := 1028, payload := ([0x00, 0x00, 0x00, 0x00] ++ List.replicate 1024 0x04) }, { record := 2, role := 3, lastId := some 4294967295, window := [], transfer := some { down := true, key := 12595202, total := 6000, next := 0, discarded := 0, data := [] } }, { down := true, key := 12595202, total := 6000, next := 0, discarded := 0, data := [] }, of_heard (by decide +kernel), by decide +kernel⟩
  · exact ⟨st (dn (ek 0xC030 2) 0), { sess := 3, version := 1, flags := 0, tid := 0, index := 49200, sub := 2, typ := 15, len := 4, payload := [0x00, 0x00, 0x00, 0x03] }, { record := 2, role := 3, lastId := some 4294967295, window := [], transfer := some { down := true, key := 12595202, total := 0, next := 0, discarded := 0, data := [] } }, { down := true, key := 12595202, total := 0, next := 0, discarded := 0, data := [] }, of_heard (by decide +kernel), by decide +kernel⟩
  · exact ⟨st (upl (ek 0x5003 0x14)), { sess := 3, version := 1, flags := 0, tid := 0, index := 20483, sub := 20, typ := 15, len := 5, payload := [0x00, 0x00, 0x00, 0x01, 0x02] }, { record := 2, role := 3, lastId := some 4294967295, window := [], transfer := some { down := false, key := 5243668, total := 3000, next := 0, discarded := 0, data := (List.replicate 3000 0x08) } }, { down := false, key := 5243668, total := 3000, next := 0, discarded := 0, data := (List.replicate 3000 0x08) }, of_heard (by decide +kernel), by decide +kernel⟩
  · exact ⟨bt (fun b => { b with inst := 1, instOwner := 3 }) (st (dn (ek 0xC010 2) 0)), 3, { record := 2, role := 3, lastId := some 4294967295, window := [], transfer := some { down := true, key := 12587010, total := 0, next := 0, discarded := 0, data := [] } }, { down := true, key := 12587010, total := 0, next := 0, discarded := 0, data := [] }, by decide +kernel⟩
  · exact ⟨st (dn (ek 0xC030 2) 0), 3, { record := 2, role := 3, lastId := some 4294967295, window := [], transfer := some { down := true, key := 12595202, total := 0, next := 0, discarded := 0, data := [] } }, { down := true, key := 12595202, total := 0, next := 0, discarded := 0, data := [] }, by decide +kernel⟩
  · exact ⟨st (dn (ek 0x5003 0x14) 1500), 3, { record := 2, role := 3, lastId := some 4294967295, window := [], transfer := some { down := true, key := 5243668, total := 1500, next := 0, discarded := 0, data := [] } }, { down := true, key := 5243668, total := 1500, next := 0, discarded := 0, data := [] }, by decide +kernel⟩
  · exact ⟨st (upl (ek 0x5003 0x14)), 3, { record := 2, role := 3, lastId := some 4294967295, window := [], transfer := some { down := false, key := 5243668, total := 3000, next := 0, discarded := 0, data := (List.replicate 3000 0x08) } }, { down := false, key := 5243668, total := 3000, next := 0, discarded := 0, data := (List.replicate 3000 0x08) }, by decide +kernel⟩

/-- States and operands that meet the hypotheses of SessionsAndOverlay, clause by clause. -/
theorem witness_SessionsAndOverlay :
    (∃ (s : State) (o : DtlsOffer), s.stewardUp = true ∧ s.reached o = true ∧ offerSupported o = false) ∧
    (∃ (s : State) (o : DtlsOffer), s.stewardUp = true ∧ s.reached o = true ∧ offerSupported o = true ∧ o.cookie = false) ∧
    (∃ (s : State) (name : ByteList) (o : DtlsOffer), s.stewardUp = true ∧ s.reached o = true ∧ offerSupported o = true ∧ o.cookie = true ∧ (s.sec.provisioned = false ∨ s.identityRecord name = none)) ∧
    (∃ (s : State) (name : ByteList) (o : DtlsOffer) (r : Nat), s.stewardUp = true ∧ s.reached o = true ∧ offerSupported o = true ∧ o.cookie = true ∧ s.sec.provisioned = true ∧ s.identityRecord name = some r ∧ o.binder = true ∧ s.regN 0x1100 2 ≤ (s.access.sessions.filter fun p => p.1 != 8).length) ∧
    (∃ (s : State) (name : ByteList) (o : DtlsOffer) (r : Nat) (n : Nat), s.stewardUp = true ∧ s.reached o = true ∧ offerSupported o = true ∧ o.cookie = true ∧ s.sec.provisioned = true ∧ s.identityRecord name = some r ∧ o.binder = true ∧ (s.access.sessions.filter fun p => p.1 != 8).length < s.regN 0x1100 2 ∧ n < 8 ∧ mapFind s.access.sessions n = none ∧ (∀ k, k < n → (mapFind s.access.sessions k).isSome = true)) ∧
    (∃ (s : State) (n : Nat) (x : Session), s.stewardUp = true ∧ n < 8 ∧ mapFind s.access.sessions n = some x ∧ x.transfer = none) ∧
    (∃ (s : State) (first : Nat) (l : Lock), s.stewardUp = true ∧ first < 65536 ∧ l ∈ s.access.locks ∧ l.first = first) ∧
    (∃ (s : State), Accepted s rowReq (ek 0x1010 1) (.int 1) ∧ s.stewardUp = true ∧ (∀ c, s.access.savedCopy = some c → c.seq + 1 < 2 ^ 32)) ∧
    (∃ (s : State), Accepted s rowReq (ek 0x1010 1) (.int 2) ∧ s.stewardUp = true ∧ (∀ p ∈ s.access.overlay, p.1 / 256 < 0x2000 ∧ p.1 / 256 ≠ 0x1140)) ∧
    (∃ (s : State) (g : MirrorTag) (n : Nat), TagTaken s 4 g ∧ s.stewardUp = true ∧ s.lit = false ∧ n = s.access.applied + 1) ∧
    (∃ (s : State) (f : Forward) (l : List Forward) (g : MirrorTag), TagTaken s 5 g ∧ s.stewardUp = true ∧ s.access.pendingForwards = f :: l) ∧
    (∃ (s : State) (f : Forward) (l : List Forward), s.stewardUp = true ∧ s.access.pendingForwards = f :: l) ∧
    (∃ (s : State) (f : Forward), s.stewardUp = true ∧ s.access.pendingForwards = [f] ∧ s.access.waiting = [] ∧ f.req.who = 255) ∧
    (∃ (s : State) (key : Nat) (v : Val), Accepted s rowReq key v ∧ s.stewardUp = true ∧ key < 2 ^ 24 ∧ overlaid key = true) ∧
    (∃ (s : State) (n : _) (v : _), s.stewardUp = true ∧ n < 256 ∧ v < 2 ^ 64 ∧ s.guest n = true) := by
  refine ⟨?_, ?_, ?_, ?_, ?_, ?_, ?_, ?_, ?_, ?_, ?_, ?_, ?_, ?_, ?_⟩
  · exact ⟨sx sn, { service := true, vlan := 0, port := 4731, modes := [1], groups := [30], suites := [4865], cookie := true, earlyData := false, binder := true }, by decide +kernel⟩
  · exact ⟨sx sn, { service := true, vlan := 0, port := 4731, modes := [1], groups := [29], suites := [4865], cookie := false, earlyData := false, binder := true }, by decide +kernel⟩
  · exact ⟨sx sn, [], { service := true, vlan := 0, port := 4731, modes := [1], groups := [29], suites := [4865], cookie := true, earlyData := false, binder := true }, by decide +kernel⟩
  · exact ⟨{ up2 with regs := [(ek 0x1100 2, 1)] }, [0x41], { service := true, vlan := 0, port := 4731, modes := [1], groups := [29], suites := [4865], cookie := true, earlyData := false, binder := true }, 2, by decide +kernel⟩
  · exact ⟨up2, [0x41], { service := true, vlan := 0, port := 4731, modes := [1], groups := [29], suites := [4865], cookie := true, earlyData := false, binder := true }, 2, 1, by decide +kernel⟩
  · exact ⟨sx sn, 3, { record := 2, role := 3, lastId := some 4294967295, window := [], transfer := none }, by decide +kernel⟩
  · exact ⟨sx sn, 4096, { sess := 3, first := 4096, last := 4112 }, by decide +kernel⟩
  · exact ⟨sx sn, of_accepted (by decide +kernel), by decide +kernel⟩
  · exact ⟨sx sn, of_accepted (by decide +kernel), by decide +kernel⟩
  · exact ⟨ep (acc (fun a => { a with applied := 4 }) shade), { authentic := true, epoch := 3, seq := 5 }, 5, of_tagTaken (by decide +kernel), by decide +kernel⟩
  · exact ⟨ep (acc (fun a => { a with pendingForwards := [⟨7, [(ek 0x4003 1, .int 1)], rowReq⟩, ⟨8, [(ek 0x4003 2, .int 1)], rowReq⟩] }) up), { count := 7, items := [(4195073, Val.int 1)], req := { role := 6, who := 255, cabinet := false } }, [{ count := 8, items := [(4195074, Val.int 1)], req := { role := 6, who := 255, cabinet := false } }], { authentic := true, epoch := 3, seq := 5 }, of_tagTaken (by decide +kernel), by decide +kernel⟩
  · exact ⟨acc (fun a => { a with overlay := [(ek 0x1100 1, .int 3)], pendingForwards := [⟨7, [(ek 0x4003 1, .int 1)], rowReq⟩] }) up, { count := 7, items := [(4195073, Val.int 1)], req := { role := 6, who := 255, cabinet := false } }, [], by decide +kernel⟩
  · exact ⟨acc (fun a => { a with overlay := [(ek 0x1100 1, .int 3)], pendingForwards := [⟨7, [(ek 0x4003 1, .int 1)], rowReq⟩] }) up, { count := 7, items := [(4195073, Val.int 1)], req := { role := 6, who := 255, cabinet := false } }, by decide +kernel⟩
  · exact ⟨sx sn, 4195073, (Val.int 0), of_accepted (by decide +kernel), by decide +kernel⟩
  · exact ⟨{ up with facets := { up.facets with facet := [(3, { Facet.none with state := 2 })] } }, 3, 0, by decide +kernel⟩

/-- States and operands that meet the hypotheses of CabinetAccess, clause by clause. -/
theorem witness_CabinetAccess :
    (∃ (s : State) (r : CabReq) (e : _), CabinetServed s r ∧ (cabKey r.data) % 256 ≠ 0 ∧ entryOf (cabKey r.data) = some e ∧ e.acc ≠ 2 ∧ roleOk (s.cabinetRequester r).role e.rd = true ∧ s.pathOk (s.cabinetRequester r) (cabKey r.data) false = true ∧ ¬(0x3120 ≤ cabKey r.data / 256 ∧ cabKey r.data / 256 ≤ 0x3123) ∧ cabKey r.data ≠ ek 0xA040 1 ∧ (valBytes e.typ (s.readEntry (512 + r.src) (cabKey r.data))).length ≤ 56) ∧
    (∃ (s : State) (r : CabReq) (v : _), CabinetServed s r ∧ Accepted s (s.cabinetRequester r) (cabKey r.data) v ∧ beAt r.data 4 1 = entryType (cabKey r.data) ∧ decodeVal (beAt r.data 4 1) (cabData r.data) = some v ∧ overlaid (cabKey r.data) = true) ∧
    (∃ (s : State) (r : CabReq), CabinetServed s r ∧ beAt r.data 5 1 = 4 ∧ beNat (cabData r.data) ≤ 65536 ∧ s.downBegin (s.cabinetRequester r) (cabKey r.data) (beNat (cabData r.data)) none = (0, s)) ∧
    (∃ (s : State) (r : CabReq) (b : _), CabinetServed s r ∧ s.upBegin (s.cabinetRequester r) (cabKey r.data) none = (0, b, s) ∧ b.length ≤ 65536) ∧
    (∃ (s : State) (r : CabReq) (k : CabClient) (t0 : Transfer), CabinetGoesOn s r k ∧ k.transfer = some t0 ∧ t0.key = cabKey r.data ∧ t0.down = true ∧ t0.key ≠ ek 0xC010 2 ∧ t0.key ≠ ek 0xC030 2 ∧ (cabData r.data).length = Nat.min 56 (t0.total - t0.data.length)) ∧
    (∃ (s : State) (r : CabReq) (k : CabClient) (t0 : Transfer), CabinetGoesOn s r k ∧ k.transfer = some t0 ∧ t0.key = cabKey r.data ∧ t0.down = true ∧ t0.key = ek 0xC010 2 ∧ t0.total ≤ t0.data.length) ∧
    (∃ (s : State) (r : CabReq) (k : CabClient) (t0 : Transfer), CabinetGoesOn s r k ∧ k.transfer = some t0 ∧ t0.key = cabKey r.data ∧ t0.down = false ∧ t0.key ≠ ek 0x7000 0x87 ∧ 56 * (t0.next + 1) < t0.total) ∧
    (∃ (s : State) (r : CabReq) (k : CabClient) (t0 : Transfer), CabinetGoesOn s r k ∧ k.transfer = some t0 ∧ t0.key = cabKey r.data ∧ t0.down = true ∧ t0.key = ek 0xC030 2) ∧
    (∃ (s : State) (node : Nat) (k : CabClient), node < 256 ∧ s.domOn 1 = true ∧ mapFind s.access.clients node = some k ∧ k.transfer = none) ∧
    (∃ (s : State) (node : Nat) (k : CabClient) (t0 : Transfer), node < 256 ∧ s.domOn 1 = true ∧ mapFind s.access.clients node = some k ∧ k.transfer = some t0 ∧ t0.down = true ∧ t0.key = ek 0xC030 2) := by
  refine ⟨?_, ?_, ?_, ?_, ?_, ?_, ?_, ?_, ?_, ?_⟩
  · exact ⟨cab, { ctrl := 0, dst := 1, src := 5, data := [0x00, 0x10, 0x00, 0x01, 0x09, 0x00, 0x00, 0x00] }, { lo := 4096, hi := 4096, s0 := 1, s1 := 1, typ := 9, acc := 0, rd := 1, wr := 0, dflt := 0, min := 25, max := 25, also := [], only := [], name := "Vendor name" }, of_cabinetServed (by decide +kernel), by decide +kernel⟩
  · exact ⟨cab, { ctrl := 0, dst := 1, src := 5, data := ([0x00, 0x24, 0x21, 0x02, 0x0f, 0x10, 0x00, 0x00] ++ List.replicate 16 0x09) }, (Val.bytes (List.replicate 16 0x09)), of_cabinetServed (by decide +kernel), of_accepted (by decide +kernel), by decide +kernel⟩
  · exact ⟨cab, { ctrl := 0, dst := 1, src := 5, data := [0x00, 0x24, 0x21, 0x02, 0x0f, 0x04, 0x00, 0x00, 0x00, 0x00, 0x00, 0x03] }, of_cabinetServed (by decide +kernel), by decide +kernel⟩
  · exact ⟨cab, { ctrl := 0, dst := 1, src := 5, data := [0x00, 0x70, 0x00, 0x87, 0x0f, 0x00, 0x00, 0x00] }, [], of_cabinetServed (by decide +kernel), by decide +kernel⟩
  · exact ⟨cc (some (dn (ek 0x5003 0x14) 3)), { ctrl := 0, dst := 1, src := 5, data := [0x00, 0x50, 0x03, 0x14, 0x0f, 0x03, 0x00, 0x00, 0x04, 0x04, 0x04] }, { toggle := true, request := [0x01], response := [], transfer := some { down := true, key := 5243668, total := 3, next := 0, discarded := 0, data := [] } }, { down := true, key := 5243668, total := 3, next := 0, discarded := 0, data := [] }, of_cabinetGoesOn (by decide +kernel), by decide +kernel⟩
  · exact ⟨cc (some (dn (ek 0xC010 2) 0)), { ctrl := 0, dst := 1, src := 5, data := [0x00, 0xc0, 0x10, 0x02, 0x0f, 0x00, 0x00, 0x00] }, { toggle := true, request := [0x01], response := [], transfer := some { down := true, key := 12587010, total := 0, next := 0, discarded := 0, data := [] } }, { down := true, key := 12587010, total := 0, next := 0, discarded := 0, data := [] }, of_cabinetGoesOn (by decide +kernel), by decide +kernel⟩
  · exact ⟨cc (some (upl (ek 0x5003 0x14))), { ctrl := 0, dst := 1, src := 5, data := [0x00, 0x50, 0x03, 0x14, 0x0f, 0x00, 0x00, 0x00] }, { toggle := true, request := [0x01], response := [], transfer := some { down := false, key := 5243668, total := 3000, next := 0, discarded := 0, data := (List.replicate 3000 0x08) } }, { down := false, key := 5243668, total := 3000, next := 0, discarded := 0, data := (List.replicate 3000 0x08) }, of_cabinetGoesOn (by decide +kernel), by decide +kernel⟩
  · exact ⟨cc (some (dn (ek 0xC030 2) 10)), { ctrl := 0, dst := 1, src := 5, data := [0x00, 0xc0, 0x30, 0x02, 0x0f, 0x00, 0x00, 0x00] }, { toggle := true, request := [0x01], response := [], transfer := some { down := true, key := 12595202, total := 10, next := 0, discarded := 0, data := [] } }, { down := true, key := 12595202, total := 10, next := 0, discarded := 0, data := [] }, of_cabinetGoesOn (by decide +kernel), by decide +kernel⟩
  · exact ⟨cc none, 5, { toggle := true, request := [0x01], response := [], transfer := none }, by decide +kernel⟩
  · exact ⟨cc (some (dn (ek 0xC030 2) 10)), 5, { toggle := true, request := [0x01], response := [], transfer := some { down := true, key := 12595202, total := 10, next := 0, discarded := 0, data := [] } }, { down := true, key := 12595202, total := 10, next := 0, discarded := 0, data := [] }, by decide +kernel⟩

end W04

namespace W05

def tm (f : Time → Time) (s : State) : State := { s with time := f s.time }
def base : State := { up with time := { up.time with sec := 7, ns := 1000, mono := 5000000 }, regs := [(ek 0x3010 8, 1), (ek 0x3040 1, 1), (ek 0x3041 1, 1)] }
def slv : State := tm (fun t => { t with servo := 2, slavePort := some 1, parent := some (77, 1), ports := [(1, { PtpPort.fresh with state := 9 })] }) base
def sy : SyncMsg := { supported := true, domain := (base.regN 0x3010 3), source := 77, seq := 3, twoStep := false, origin := 7000000500, correction := 100 }
def mst : State := tm (fun t => { t with ports := [(1, { PtpPort.fresh with state := 6 })] }) base
def stp (n : Nat) : State := tm (fun t => { t with servo := n, frozenAt := some 44, loaded := some 12345, filter := [12345] }) base
def tp (x : Tpo) (r : List (Nat × Int) := []) : State := { tm (fun t => { t with tpo := [(3, x)] }) base with regs := mapPutAll r base.regs }
def run1 : TpoRun := { mode := 1, start := 7000002000, period := 0, width := 100, count := 0, div := 1 }
def run2 : TpoRun := { mode := 2, start := 7000002000, period := 1000, width := 100, count := 2, div := 1 }
def am1 : AnnounceMsg := ⟨true, base.regN 0x3010 3, 1, 6, 0x20, 1, 1, 99, 1, 88, 2, 37, 5, []⟩
def am2 : AnnounceMsg := ⟨true, base.regN 0x3010 3, 2, 6, 0x20, 1, 1, 98, 1, 89, 2, 37, 5, []⟩

/-- States and operands that meet the hypotheses of PtpMessages, clause by clause. -/
theorem witness_PtpMessages :
    (∃ (s : State) (port : Nat) (m : SyncMsg), port < 48 ∧ s.timeUp = true ∧ s.ptpTakes port m.supported m.domain = true ∧ s.fromParent port m.source = true ∧ m.twoStep = true) ∧
    (∃ (s : State) (port : Nat) (m : SyncMsg) (o : Int), port < 48 ∧ s.timeUp = true ∧ s.ptpTakes port m.supported m.domain = true ∧ s.fromParent port m.source = true ∧ m.twoStep = false ∧ s.time.servo = 2 ∧ o = ((s.quarterStamp : Int) - m.correction) / 4 - m.origin - (s.port port).delay - s.reg (0x3040 + port) 8 ∧ o.natAbs ≤ s.regN 0x3001 1) ∧
    (∃ (s : State) (port : Nat) (m : FollowUpMsg) (y : SyncMsg) (rx : Int) (o : Int), port < 48 ∧ s.timeUp = true ∧ s.ptpTakes port m.supported m.domain = true ∧ (s.port port).pending = some (y, rx) ∧ y.seq = m.seq ∧ y.source = m.source ∧ s.time.servo = 2 ∧ o = (rx - (y.correction + m.correction)) / 4 - m.origin - (s.port port).delay - s.reg (0x3040 + port) 8 ∧ o.natAbs ≤ s.regN 0x3001 1) ∧
    (∃ (s : State) (port : Nat) (m : AnnounceMsg), port < 48 ∧ s.timeUp = true ∧ s.ptpTakes port m.supported m.domain = true ∧ (∀ p ∈ s.time.ports, p.2.foreign = []) ∧ lexLess (announceKey m) s.ownKey = true) ∧
    (∃ (s : State) (port : Nat) (m : AnnounceMsg), port < 48 ∧ s.timeUp = true ∧ s.ptpTakes port m.supported m.domain = false) ∧
    (∃ (s : State) (port : Nat) (m : PdelayReqMsg), port < 48 ∧ s.timeUp = true ∧ s.ptpTakes port m.supported m.domain = true) ∧
    (∃ (s : State) (port : Nat) (m : PdelayRespMsg), port < 48 ∧ s.timeUp = true ∧ s.ptpTakes port m.supported m.domain = true) ∧
    (∃ (s : State) (port : Nat), port < 48 ∧ s.timeUp = true ∧ (s.port port).state = 6) ∧
    (∃ (s : State) (port : Nat), port < 48 ∧ s.timeUp = true ∧ s.ptpOn port = true) := by
  refine ⟨?_, ?_, ?_, ?_, ?_, ?_, ?_, ?_, ?_⟩
  · exact ⟨slv, 1, { supported := true, domain := 0, source := 77, seq := 3, twoStep := true, origin := 7000000500, correction := 100 }, by decide +kernel⟩
  · exact ⟨slv, 1, { supported := true, domain := 0, source := 77, seq := 3, twoStep := false, origin := 7000000500, correction := 100 }, 475, by decide +kernel⟩
  · exact ⟨tm (fun t => { t with ports := [(1, { PtpPort.fresh with state := 9, pending := some ({ sy with twoStep := true}, 28000004000) })] }) slv, 1, { supported := true, domain := 0, source := 77, seq := 3, origin := 7000000500, correction := 20 }, { supported := true, domain := 0, source := 77, seq := 3, twoStep := true, origin := 7000000500, correction := 100 }, 28000004000, 470, by decide +kernel⟩
  · exact ⟨base, 0, { supported := true, domain := 0, priority1 := 2, clockClass := 6, accuracy := 32, variance := 1, priority2 := 1, gmIdentity := 98, stepsRemoved := 1, sourceClock := 89, sourcePort := 2, utcOffset := 37, inaccuracy := 5, altOffset := [] }, by decide +kernel⟩
  · exact ⟨base, 0, { supported := false, domain := 0, priority1 := 1, clockClass := 6, accuracy := 32, variance := 1, priority2 := 1, gmIdentity := 99, stepsRemoved := 1, sourceClock := 88, sourcePort := 2, utcOffset := 37, inaccuracy := 5, altOffset := [] }, by decide +kernel⟩
  · exact ⟨base, 0, { supported := true, domain := 0, source := 77, seq := 3 }, by decide +kernel⟩
  · exact ⟨base, 0, { supported := true, domain := 0, seq := 3, t1 := 10, t2 := 200, t3 := 220, t4 := 400 }, by decide +kernel⟩
  · exact ⟨mst, 1, by decide +kernel⟩
  · exact ⟨base, 0, by decide +kernel⟩

/-- States and operands that meet the hypotheses of ServoAndSteps, clause by clause. -/
theorem witness_ServoAndSteps :
    (∃ (s : State), s.timeUp = true ∧ s.time.servo = 2 ∧ s.time.frozenAt = none ∧ ({ s with time := s.time.dropMaster } : State).selected = none) ∧
    (∃ (s : State) (q : _) (m : _), s.timeUp = true ∧ ({ s with time := s.time.dropMaster } : State).selected = some (q, m)) ∧
    (∃ (s : State) (f : _), s.timeUp = true ∧ s.time.servo = 3 ∧ s.time.frozenAt = some f) ∧
    (∃ (s : State), s.timeUp = true ∧ s.time.servo = 5) ∧
    (∃ (s : State), s.timeUp = true ∧ s.time.servo ≠ 5) ∧
    (∃ (s : State) (o : Int), s.timeUp = true ∧ s.time.accepted = some o) ∧
    (∃ (s : State) (sec : _) (ns : _), s.timeUp = true ∧ sec < 2 ^ 48 ∧ ns < 1000000000 ∧ (s.time.servo = 0 ∨ s.time.servo = 3 ∨ s.time.servo = 4)) ∧
    (∃ (s : State) (sec : _) (ns : _), s.timeUp = true ∧ sec < 2 ^ 48 ∧ ns < 1000000000 ∧ (s.time.servo = 1 ∨ s.time.servo = 2 ∨ s.time.servo = 5)) ∧
    (∃ (s : State) (sec : _) (ns : _), s.timeUp = true ∧ sec < 2 ^ 48 ∧ 1000000000 ≤ ns ∧ ns < 2 ^ 32) ∧
    (∃ (s : State), s.timeUp = true ∧ s.time.servo = 2 ∧ s.time.ns < 1000000000) ∧
    (∃ (s : State), s.timeUp = true ∧ s.regN 0x3001 7 ≠ 0) := by
  refine ⟨?_, ?_, ?_, ?_, ?_, ?_, ?_, ?_, ?_, ?_, ?_⟩
  · exact ⟨slv, by decide +kernel⟩
  · exact ⟨tm (fun t => { t with ports := [(1, { PtpPort.fresh with state := 9, foreign := [am1] }), (2, { PtpPort.fresh with state := 7, foreign := [am2] })], servo := 2, parent := some (am1.sourceClock, am1.sourcePort) , slavePort := some 1}) { base with regs := (ek 0x3042 1, 1) :: base.regs }, 2, { supported := true, domain := 0, priority1 := 2, clockClass := 6, accuracy := 32, variance := 1, priority2 := 1, gmIdentity := 98, stepsRemoved := 1, sourceClock := 89, sourcePort := 2, utcOffset := 37, inaccuracy := 5, altOffset := [] }, by decide +kernel⟩
  · exact ⟨stp 3, 44, by decide +kernel⟩
  · exact ⟨stp 5, by decide +kernel⟩
  · exact ⟨base, by decide +kernel⟩
  · exact ⟨tm (fun t => { t with accepted := some 500000, ns := 5 }) slv, 500000, by decide +kernel⟩
  · exact ⟨base, 0, 0, by decide +kernel⟩
  · exact ⟨slv, 0, 0, by decide +kernel⟩
  · exact ⟨up, 2 ^ 48 - 1, 1000000000, by decide +kernel⟩
  · exact ⟨slv, by decide +kernel⟩
  · exact ⟨base, by decide +kernel⟩

/-- States and operands that meet the hypotheses of PulsesAndStamps, clause by clause. -/
theorem witness_PulsesAndStamps :
    (∃ (s : State) (n : _) (v : _) (t0 : _) (r : _), s.timeUp = true ∧ n < 16 ∧ v < 2 ^ 40 ∧ schedule s.now v = some t0 ∧ s.tpoRun n t0 = some r ∧ r.mode ≠ 0 ∧ (s.tpo n).pulse = false) ∧
    (∃ (s : State) (n : _) (v : _), s.timeUp = true ∧ n < 16 ∧ v < 2 ^ 40 ∧ schedule s.now v = none) ∧
    (∃ (s : State) (n : _) (r : _), s.timeUp = true ∧ n < 16 ∧ (s.tpo n).run = some r ∧ (s.tpo n).pulse = false ∧ (s.tpo n).finished = false ∧ (s.tpo n).passed = false ∧ s.flag (tpoIndex n) 9 = false) ∧
    (∃ (s : State) (n : _) (r : _), s.timeUp = true ∧ n < 16 ∧ (s.tpo n).run = some r ∧ (s.tpo n).pulse = false ∧ (s.tpo n).finished = false ∧ (s.tpo n).passed = true ∧ r.mode = 2 ∧ r.period ≠ 0 ∧ (s.tpo n).next ≤ s.now) ∧
    (∃ (s : State) (n : _) (r : _), s.timeUp = true ∧ n < 16 ∧ (s.tpo n).run = some r ∧ (s.tpo n).pulse = true ∧ (s.tpo n).newOwner = none ∧ (s.tpo n).change = none) ∧
    (∃ (s : State) (n : _) (owner : _), s.timeUp = true ∧ n < 16 ∧ (owner < 256 ∨ owner = 0xFFFF) ∧ (s.tpo n).pulse = false) ∧
    (∃ (s : State) (n : _) (owner : _), s.timeUp = true ∧ n < 16 ∧ (owner < 256 ∨ owner = 0xFFFF) ∧ (s.tpo n).pulse = true) ∧
    (∃ (s : State) (n : _) (owner : _), s.timeUp = true ∧ n < 16 ∧ 256 ≤ owner ∧ owner < 0xFFFF) ∧
    (∃ (s : State) (n : _), s.timeUp = true ∧ n < 4 ∧ s.flag (0x3120 + n) 1 = true ∧ (∀ l, (s.tci n).last = some l → l + 128 ≤ s.monoStamp) ∧ (s.tci n).queue.length < 16 ∧ s.regN (0x3120 + n) 5 = 0) ∧
    (∃ (s : State) (n : _), s.timeUp = true ∧ n < 4 ∧ s.flag (0x3120 + n) 1 = true ∧ (s.tci n).queue.length = 16) ∧
    (∃ (s : State) (n : _) (a : _) (l : _), s.timeUp = true ∧ n < 4 ∧ (s.tci n).queue = a :: l) ∧
    (∃ (s : State) (f : _), s.timeUp = true ∧ f < 256 ∧ (s.facet f).live = true) := by
  refine ⟨?_, ?_, ?_, ?_, ?_, ?_, ?_, ?_, ?_, ?_, ?_, ?_⟩
  · exact ⟨tp Tpo.idle [(ek 0x3103 1, 1), (ek 0x3103 4, 100)], 3, 7000002000, 7000002000, { mode := 1, start := 7000002000, period := 1000000000, width := 100, count := 0, div := 1 }, by decide +kernel⟩
  · exact ⟨base, 0, 0, by decide +kernel⟩
  · exact ⟨tp { Tpo.idle with run := some run1, next := 7000002000 } [(ek 0x3103 9, 0)], 3, { mode := 1, start := 7000002000, period := 0, width := 100, count := 0, div := 1 }, by decide +kernel⟩
  · exact ⟨tp { Tpo.idle with run := some run2, next := 6999990100, passed := true }, 3, { mode := 2, start := 7000002000, period := 1000, width := 100, count := 2, div := 1 }, by decide +kernel⟩
  · exact ⟨tp { Tpo.idle with run := some run1, next := 7000002000, pulse := true, done := 1 }, 3, { mode := 1, start := 7000002000, period := 0, width := 100, count := 0, div := 1 }, by decide +kernel⟩
  · exact ⟨base, 0, 0, by decide +kernel⟩
  · exact ⟨tp { Tpo.idle with run := some run1, next := 7000002000, pulse := true, done := 1 }, 3, 0, by decide +kernel⟩
  · exact ⟨up, 15, 256, by decide +kernel⟩
  · exact ⟨{ tm (fun t => { t with tci := [(3, ⟨[], none, 0, 0⟩)] }) base with regs := (ek 0x3123 1, 1) :: base.regs }, 3, by decide +kernel⟩
  · exact ⟨{ tm (fun t => { t with tci := [(3, ⟨List.replicate 16 4, some 9, 0, 0⟩)] }) base with regs := (ek 0x3123 1, 1) :: base.regs }, 3, by decide +kernel⟩
  · exact ⟨{ tm (fun t => { t with tci := [(3, ⟨[5,6], some 9, 0, 0⟩)] }) base with regs := (ek 0x3123 1, 1) :: base.regs }, 3, 5, [6], by decide +kernel⟩
  · exact ⟨tm (fun t => { t with tpo := [] }) { slv with facets := { slv.facets with facet := [(3, { Facet.none with state := 2, stepped := true })] } }, 3, by decide +kernel⟩

end W05

namespace W06

def fb (f : Fabric → Fabric) (s : State) : State := { s with fabric := f s.fabric }
def hd1 : FrameHead := { (default : FrameHead) with port := 2, length := 100, dst := 0x0000AABBCC01, src := 0x000011223344, tag := none, etherType := 0x0800, seq := none, appid := 0, ptp := none, cls := 0 }
def net : State := fb (fun f => { f with link := [(2, 2), (3, 2)], vlans := [(1, 2 ^ 127 + 2 ^ 54 + 2 ^ 55)], nextFrame := 4 }) { up with time := { up.time with mono := 777 } }
def fr1 (s : State) (h : FrameHead) : Frame := { s.ingressFrame h with cls := s.frameClass h none, outs := [3] }
def full : State := fb (fun f => { f with classSet := [(ek (0x2400 + net.frameClass hd1 none) 3, 0)] }) net
def oneFr : State := fb (fun f => { f with frames := [(4, { fr1 net hd1 with received := 400, cells := [1], tail := true })], copies := [⟨4, 3, 0, 0⟩], nextFrame := 5 }) net
def mac1 : Nat := 0x010203040506
def fe : Nat := 2^127 + 2^126 + 5 * 2^104 + mac1 * 2^56 + 0x30
def se : Nat := 2^127 + 5 * 2^100 + 0x4000 * 2^84 + 0x010CCD040001 * 2^36 + 7 * 2^24 + 3 * 2^119
def rg (l : List (Nat × Nat)) (b : List (Nat × ByteList)) (s : State) : State := { s with regs := mapPutAll (l.map fun p => (p.1, (p.2 : Int))) s.regs, blobs := mapPutAll b s.blobs }
def exIn (s : State) (f : State → State) : State := match exec .databaseWrite s with | .next t => f t | _ => s
def exSt (s : State) (f : State → State) : State := match exec .streamTableWrite s with | .next t => f t | _ => s
def dbw : State := rg [] [(ek 0x2421 2, beBytes 16 fe)] net
def stw : State := rg [] [(ek 0x2430 2, beBytes 16 se)] net
def fullB (x : Bool) : State := fb (fun f => { f with fdb := (List.range 8).map fun i => (fdbBucket 5 mac1 * 8 + i, if x then fdbWithAge (fdbLearned (6 + i) 9 4) i else 2^126 + fdbLearned (6 + i) 9 4 ) }) dbw
def vl (e : Nat) : State := rg [(ek 0x2440 2, 5)] [(ek 0x2440 3, beBytes 16 e)] net
def full2 := rg [(ek 0x2002 0x0D, 0)] [] full
def net2 := rg [(ek 0x2002 0x0D, 0)] [] net

/-- States and operands that meet the hypotheses of FabricFrames, clause by clause. -/
theorem witness_FabricFrames :
    (∃ (s : State) (h : FrameHead), s.fabricUp = true ∧ h.port < 48 ∧ s.portTakes h.port = true ∧ mapFind s.fabric.rx h.port = none ∧ (h.length < 64 ∨ 1536 < h.length)) ∧
    (∃ (s : State) (h : FrameHead), s.fabricUp = true ∧ h.port < 48 ∧ s.portTakes h.port = true ∧ mapFind s.fabric.rx h.port = none ∧ 64 ≤ h.length ∧ h.length ≤ 1536 ∧ h.pause = true) ∧
    (∃ (s : State) (h : FrameHead), s.fabricUp = true ∧ h.port < 48 ∧ s.portTakes h.port = true ∧ mapFind s.fabric.rx h.port = none ∧ 64 ≤ h.length ∧ h.length ≤ 1536 ∧ h.pause = false ∧ s.vlanAccepts h = false) ∧
    (∃ (s : State) (h : FrameHead) (o : Nat) (c : Nat) (f : Frame), s.fabricUp = true ∧ h.port < 48 ∧ s.portTakes h.port = true ∧ mapFind s.fabric.rx h.port = none ∧ 64 ≤ h.length ∧ h.length ≤ 1536 ∧ h.pause = false ∧ s.vlanAccepts h = true ∧ h.etherType ≠ 0x88BA ∧ h.etherType ≠ 0x88B8 ∧ h.ptp = none ∧ (∀ k, k < 8 → s.pairMode k = 0) ∧ s.portReg h.port 0x0D = 0 ∧ s.portReg h.port 9 = 0 ∧ s.fdbFind (s.frameVid h) h.dst = none ∧ s.forwardSet h none = [o] ∧ c = s.frameClass h none ∧ s.portReg o 1 ≠ 0 ∧ s.portReg o 0x0A = 0 ∧ s.inFanout o = true ∧ f = { s.ingressFrame h with cls := c, outs := [o] } ∧ (s.newFrame f).2.admits c [o] = true) ∧
    (∃ (s : State) (h : FrameHead) (o : Nat) (c : Nat) (f : Frame), s.fabricUp = true ∧ h.port < 48 ∧ s.portTakes h.port = true ∧ mapFind s.fabric.rx h.port = none ∧ 64 ≤ h.length ∧ h.length ≤ 1536 ∧ h.pause = false ∧ s.vlanAccepts h = true ∧ h.etherType ≠ 0x88BA ∧ h.etherType ≠ 0x88B8 ∧ h.ptp = none ∧ (∀ k, k < 8 → s.pairMode k = 0) ∧ s.portReg h.port 0x0D = 0 ∧ s.portReg h.port 9 = 0 ∧ s.fdbFind (s.frameVid h) h.dst = none ∧ s.forwardSet h none = [o] ∧ c = s.frameClass h none ∧ s.portReg o 1 ≠ 0 ∧ s.portReg o 0x0A = 0 ∧ s.inFanout o = true ∧ f = { s.ingressFrame h with cls := c, outs := [o] } ∧ (s.newFrame f).2.admits c [o] = false) ∧
    (∃ (s : State) (port : Nat) (k : Nat), s.fabricUp = true ∧ port < 52 ∧ mapFind s.fabric.rx port = some k ∧ s.pairOf port = none ∧ 64 ≤ (s.fabricFrame k).head.length ∧ (s.fabricFrame k).head.length ≤ 1536 ∧ (s.fabricFrame k).head.pause = false) ∧
    (∃ (s : State) (k : Copy) (f : Frame), s.fabricUp = true ∧ s.fabric.copies = [k] ∧ s.fabricFrame k.fr = f ∧ s.fabric.flight = [] ∧ s.fabric.rx = [] ∧ s.fabric.held = [] ∧ s.fabric.setups = [] ∧ s.fabric.joins = [] ∧ s.fabric.closing = [] ∧ s.fabric.egress = [] ∧ k.out < 52 ∧ f.head.port < 52 ∧ f.cls < 8 ∧ f.multi = false ∧ k.sent < f.arrived ∧ (48 ≤ k.out ∨ s.linkState k.out = 2) ∧ (s.regN (0x2400 + f.cls) 4 = 0 ∨ s.monoStamp - f.stamp ≤ 4000 * s.regN (0x2400 + f.cls) 4)) := by
  refine ⟨?_, ?_, ?_, ?_, ?_, ?_, ?_⟩
  · exact ⟨net, { port := 2, length := 63, pause := false, dst := 2864434177, src := 287454020, tag := none, etherType := 2048, appid := 0, seq := none, ptp := none, cls := 0 }, by decide +kernel⟩
  · exact ⟨net, { port := 2, length := 100, pause := true, dst := 2864434177, src := 287454020, tag := none, etherType := 2048, appid := 0, seq := none, ptp := none, cls := 0 }, by decide +kernel⟩
  · exact ⟨net, { port := 2, length := 100, pause := false, dst := 2864434177, src := 287454020, tag := some (3, 77), etherType := 2048, appid := 0, seq := none, ptp := none, cls := 0 }, by decide +kernel⟩
  · exact ⟨net2, { port := 2, length := 100, pause := false, dst := 2864434177, src := 287454020, tag := none, etherType := 2048, appid := 0, seq := none, ptp := none, cls := 0 }, 3, 0, { head := { port := 2, length := 100, pause := false, dst := 2864434177, src := 287454020, tag := none, etherType := 2048, appid := 0, seq := none, ptp := none, cls := 0 }, cls := 0, stamp := 3108, entry := none, vid := 1, prio := 0, rct := none, pairSeq := [], received := 400, tail := false, bad := false, cells := [], freed := 0, outs := [3], multi := false }, by decide +kernel⟩
  · exact ⟨full2, { port := 2, length := 100, pause := false, dst := 2864434177, src := 287454020, tag := none, etherType := 2048, appid := 0, seq := none, ptp := none, cls := 0 }, 3, 0, { head := { port := 2, length := 100, pause := false, dst := 2864434177, src := 287454020, tag := none, etherType := 2048, appid := 0, seq := none, ptp := none, cls := 0 }, cls := 0, stamp := 3108, entry := none, vid := 1, prio := 0, rct := none, pairSeq := [], received := 400, tail := false, bad := false, cells := [], freed := 0, outs := [3], multi := false }, by decide +kernel⟩
  · exact ⟨fb (fun f => { f with rx := [(2, 4)] }) oneFr, 2, 4, by decide +kernel⟩
  · exact ⟨rg [(ek 0x2000 9 + 512, 0)] [] oneFr, { fr := 4, out := 3, sent := 0, crossed := 0 }, { head := { port := 2, length := 100, pause := false, dst := 2864434177, src := 287454020, tag := none, etherType := 2048, appid := 0, seq := none, ptp := none, cls := 0 }, cls := 0, stamp := 3108, entry := none, vid := 1, prio := 0, rct := none, pairSeq := [], received := 400, tail := true, bad := false, cells := [1], freed := 0, outs := [3], multi := false }, by decide +kernel⟩

/-- States and operands that meet the hypotheses of LinksAndAudit, clause by clause. -/
theorem witness_LinksAndAudit :
    (∃ (s : State) (port : _), s.fabricUp = true ∧ port < 48 ∧ s.linkState port = 2) ∧
    (∃ (s : State) (port : _), s.fabricUp = true ∧ port < 48 ∧ s.linkState port = 3 ∧ (s.egressOf port).current = none) ∧
    (∃ (s : State) (port : _), s.fabricUp = true ∧ port < 48 ∧ s.linkState port ≠ 2 ∧ s.portReg port 1 ≠ 0) ∧
    (∃ (s : State) (port : _), s.fabricUp = true ∧ port < 48 ∧ s.portReg port 1 = 0) ∧
    (∃ (s : State) (port : _), s.fabricUp = true ∧ port < 48 ∧ s.portReg port 1 ≠ 0) ∧
    (∃ (s : State) (port : _), s.fabricUp = true ∧ 48 ≤ port ∧ port < 52) ∧
    (∃ (s : State) (cells : PairList), s.fabricUp = true ∧ (∀ x ∈ cells, x.1 < 65536) ∧ (∀ x ∈ cells, x ∉ s.fabric.suspects)) ∧
    (∃ (s : State) (cells : PairList), s.fabricUp = true ∧ (∀ x ∈ cells, x.1 < 65536) ∧ cells ≠ [] ∧ (∀ x ∈ cells, x ∈ s.fabric.suspects)) := by
  refine ⟨?_, ?_, ?_, ?_, ?_, ?_, ?_, ?_⟩
  · exact ⟨net, 2, by decide +kernel⟩
  · exact ⟨fb (fun f => { f with link := [(2, 3), (3, 2)] }) oneFr, 2, by decide +kernel⟩
  · exact ⟨net, 0, by decide +kernel⟩
  · exact ⟨rg [(ek 0x2002 1, 0), (ek 0x2003 1, 0)] [] net, 2, by decide +kernel⟩
  · exact ⟨net, 0, by decide +kernel⟩
  · exact ⟨net, 51, by decide +kernel⟩
  · exact ⟨net, [], by decide +kernel⟩
  · exact ⟨fb (fun f => { f with suspects := [(1, 2), (3, 4)] }) net, [(1, 2), (3, 4)], by decide +kernel⟩

/-- States and operands that meet the hypotheses of FabricTables, clause by clause. -/
theorem witness_FabricTables :
    (∃ (s : State) (e : _), s.stewardUp = true ∧ e = beNat (s.blob 0x2421 2) ∧ fdbWordOk e = true ∧ fdbRepl e ≠ 3 ∧ (s.fdbFind (fdbVid e) (fdbMac e) ≠ none ∨ bucketFree s.fabric.fdb (fdbBucket (fdbVid e) (fdbMac e)) ≠ none ∨ (fdbStatic e = true ∧ oldestLearned s.fabric.fdb (fdbBucket (fdbVid e) (fdbMac e)) ≠ none))) ∧
    (∃ (s : State) (e : _), s.stewardUp = true ∧ e = beNat (s.blob 0x2421 2) ∧ fdbWordOk e = true ∧ fdbRepl e ≠ 3 ∧ s.fdbFind (fdbVid e) (fdbMac e) = none ∧ bucketFree s.fabric.fdb (fdbBucket (fdbVid e) (fdbMac e)) = none ∧ oldestLearned s.fabric.fdb (fdbBucket (fdbVid e) (fdbMac e)) = none) ∧
    (∃ (s : State) (e : _), s.stewardUp = true ∧ e = beNat (s.blob 0x2421 2) ∧ fdbWordOk e = true ∧ fdbRepl e = 3) ∧
    (∃ (s : State) (e : _), s.stewardUp = true ∧ e = beNat (s.blob 0x2421 2) ∧ fdbWordOk e = false) ∧
    (∃ (s : State) (e : _) (p : _) (x : _), s.stewardUp = true ∧ e = beNat (s.blob 0x2421 2) ∧ s.fdbFind (fdbVid e) (fdbMac e) = some p ∧ mapFind s.fabric.fdb p = some x) ∧
    (∃ (s : State) (e : _), s.stewardUp = true ∧ e = beNat (s.blob 0x2421 2) ∧ s.fdbFind (fdbVid e) (fdbMac e) = none) ∧
    (∃ (s : State) (x : _), s.stewardUp = true ∧ mapFind s.fabric.fdb (s.regN 0x2421 3) = some x) ∧
    (∃ (s : State) (e : _), s.stewardUp = true ∧ e = beNat (s.blob 0x2430 2) ∧ stWordOk e = true ∧ s.streamFind (stVid e) (stAppid e) (stMac e) = none ∧ bucketFree s.fabric.streamTab (stBucket (stVid e) (stAppid e) (stMac e)) ≠ none) ∧
    (∃ (s : State) (e : _) (p : _) (x : _), s.stewardUp = true ∧ e = beNat (s.blob 0x2430 2) ∧ s.streamFind (stVid e) (stAppid e) (stMac e) = some p ∧ mapFind s.fabric.streamTab p = some x) ∧
    (∃ (s : State) (x : _), s.stewardUp = true ∧ mapFind s.fabric.streamTab (s.regN 0x2430 3) = some x) ∧
    (∃ (s : State) (vid : _) (e : _), s.stewardUp = true ∧ vid = s.regN 0x2440 2 ∧ e = beNat (s.blob 0x2440 3) ∧ vlanValid e = true) ∧
    (∃ (s : State) (vid : _) (e : _), s.stewardUp = true ∧ vid = s.regN 0x2440 2 ∧ e = beNat (s.blob 0x2440 3) ∧ vlanValid e = false) ∧
    (∃ (s : State) (vid : _) (e : _), s.stewardUp = true ∧ vid = s.regN 0x2440 2 ∧ e = beNat (s.blob 0x2440 3) ∧ vlanValid (s.vlan vid) = true) ∧
    (∃ (s : State) (vid : _) (e : _), s.stewardUp = true ∧ vid = s.regN 0x2440 2 ∧ e = beNat (s.blob 0x2440 3) ∧ vlanValid (s.vlan vid) = false) ∧
    (∃ (s : State), s.stewardUp = true) ∧
    (∃ (s : State) (port : _), s.stewardUp = true ∧ port < 52) := by
  refine ⟨?_, ?_, ?_, ?_, ?_, ?_, ?_, ?_, ?_, ?_, ?_, ?_, ?_, ?_, ?_, ?_⟩
  · exact ⟨dbw, 255211876682602644149380944339956400176, by decide +kernel⟩
  · exact ⟨fullB false, 255211876682602644149380944339956400176, by decide +kernel⟩
  · exact ⟨rg [] [(ek 0x2421 2, beBytes 16 (fe + 3 * 2 ^ 124))] net, 319014820480278606048763683233412939824, by decide +kernel⟩
  · exact ⟨net, 0, by decide +kernel⟩
  · exact ⟨exIn dbw fun t => rg [(ek 0x2421 3, fdbBucket 5 mac1 * 8), (ek 0x2421 3, (t.fdbFind 5 mac1).getD 0)] [] t, 255211876682602644149380944339956400176, 12872, 255211876682602644149380944339956400176, by decide +kernel⟩
  · exact ⟨net, 0, by decide +kernel⟩
  · exact ⟨exIn dbw fun t => rg [(ek 0x2421 3, fdbBucket 5 mac1 * 8), (ek 0x2421 3, (t.fdbFind 5 mac1).getD 0)] [] t, 255211876682602644149380944339956400176, by decide +kernel⟩
  · exact ⟨stw, 172135032109312336075252883142303809536, by decide +kernel⟩
  · exact ⟨exSt stw fun t => rg [(ek 0x2430 3, (t.streamFind 5 0x4000 0x010CCD040001).getD 0)] [] t, 172135032109312336075252883142303809536, 16136, 172135032109312336075252883142303809536, by decide +kernel⟩
  · exact ⟨exSt stw fun t => rg [(ek 0x2430 3, (t.streamFind 5 0x4000 0x010CCD040001).getD 0)] [] t, 172135032109312336075252883142303809536, by decide +kernel⟩
  · exact ⟨vl (2^127 + 2^56 + 2^110 + 2^30), 5, 170142481534683865438666493935078080512, by decide +kernel⟩
  · exact ⟨net, 1, 0, by decide +kernel⟩
  · exact ⟨net, 1, 0, by decide +kernel⟩
  · exact ⟨vl (2^127 + 2^56 + 2^110 + 2^30), 5, 170142481534683865438666493935078080512, by decide +kernel⟩
  · exact ⟨net, by decide +kernel⟩
  · exact ⟨net, 0, by decide +kernel⟩

/-- States and operands that meet the hypotheses of FabricAgeing, clause by clause. -/
theorem witness_FabricAgeing :
    (∃ (s : State), s.fabricUp = true) ∧
    (∃ (s : State) (pair : _), s.fabricUp = true ∧ pair < 8 ∧ s.pairMode pair ≠ 0) ∧
    (∃ (s : State) (pair : _) (mac : _) (n : _), s.fabricUp = true ∧ pair < 8 ∧ mac < 2 ^ 48 ∧ mapFind s.fabric.nodes (nodeKey pair mac) = some n) := by
  refine ⟨?_, ?_, ?_⟩
  · exact ⟨net, by decide +kernel⟩
  · exact ⟨fb (fun f => { f with nodes := [(nodeKey 2 5, ⟨[1,2], 0, 0⟩)] }) (rg [(ek 0x2462 1, 1)] [] net), 2, by decide +kernel⟩
  · exact ⟨fb (fun f => { f with nodes := [(nodeKey 2 5, ⟨[1,2], 0, 0⟩)] }) (rg [(ek 0x2462 1, 1)] [] net), 2, 5, { window := [1, 2], refreshed := 0, seen := 0 }, by decide +kernel⟩

end W06

namespace W07

def rg (l : List (Nat × Nat)) (b : List (Nat × ByteList)) (s : State) : State := { s with regs := mapPutAll (l.map fun p => (p.1, (p.2 : Int))) s.regs, blobs := mapPutAll b s.blobs }
def fb (f : Fabric → Fabric) (s : State) : State := { s with fabric := f s.fabric }
def tick (s : State) : State := { s with tickRegs := s.regs }
def base0 : State := fb (fun f => { f with streamTab := [(7, 2^127 + 3 * 2^24), (9, 2^127 + 2^125 + 3 * 2^24)] }) { up with time := { up.time with sec := 5, ns := 1000, mono := 5000001000 } }
def G : Nat := State.reset.grid
def base : State := tick (rg [(ek 0x4003 4, G), (ek 0x4003 5, 1), (ek 0x4003 6, 1), (ek 0x4003 7, 1), (ek 0x4003 3, 1), (ek 0x4003 8, 40), (ek 0x4403 4, 0x3F800000)] [(ek 0x4003 2, [byteOf 65])] base0)
def lens (f : Lens → Lens) (s : State) : State := { s with lens := f s.lens }
def row (num tick : Nat) (m : Map Int) : Row := { num := num, inst := tickInstant G tick, tick := tick, deadline := tickInstant G tick + 2000000, disc := false, oos := false, cfg := m, delivered := [], off := [], freqs := [] }
def run : State := lens (fun l => { l with opened := [row 12 (5 * G) base.regs, row 13 (5*G+1) base.regs], next := 14, lastTick := some (5*G+1), streams := [(3, { Stream.idle with state := 1 })] }) base
def srow := row 12 (5*G) base.regs
def pub1 : State := rg [(ek 0x5803 2, 0xFFFF), (ek 0x5803 5, 1)] [(ek 0x5803 9, [byteOf 65]), (ek 0x5803 0x0A, [byteOf 66]), (ek 0x5803 4, [byteOf 1, byteOf 0x0C, byteOf 0xCD, byteOf 1, byteOf 0, byteOf 1])] base
def pubOn : State := match exec (.publisherEnable 3) pub1 with | .next t => t | _ => pub1
def gs (f : Goose → Goose) (s : State) : State := { s with goose := f s.goose }
def fct (s : State) : State := { (rg [(ek 0x5803 2, 4)] [] s) with facets := { s.facets with facet := [(4, { Facet.none with state := 3, units := [1], gooseBits := 1 })] } }
def sub1 : State := rg [(ek 0x6003 5, 1), (ek 0x6003 6, 3), (ek 0x6003 7, 2), (ek 0x6003 9, 5), (ek 0x6003 0x10, 2^31), (ek 0x6003 0x11, 2^31 + 2 * 2^29+ 2^22)] [(ek 0x6003 2, [byteOf 65])] base
def subSt (n : Nat) : State := gs (fun g => { g with subs := [(3, { (sub1.sub 3) with state := n, lastSt := 4, lastSq := 7, deadline := 9999999999 })] }) (rg [(ek 0x6003 1, 1)] [] sub1)
def ns : List Nat := [0, 3]

/-- States and operands that meet the hypotheses of StreamGroupLaneSwitches, clause by clause. -/
theorem witness_StreamGroupLaneSwitches :
    (∃ (s : State) (i : Instr) (index : Nat) (v : Int), ((∃ n, n < 1024 ∧ index = 0x4000 + n ∧ (i = .streamEnable n ∧ v = 1 ∨ i = .streamDisable n ∧ v = 0)) ∨ (∃ g, g < 512 ∧ index = 0x4400 + g ∧ (i = .summationGroupEnable g ∧ v = 1 ∨ i = .summationGroupDisable g ∧ v = 0)) ∨ (∃ l, l < 1024 ∧ index = 0x4800 + l ∧ (i = .laneEnable l ∧ v = 1 ∨ i = .laneDisable l ∧ v = 0))) ∧ Accepted s rowReq (ek index 1) (.int v)) ∧
    (∃ (s : State) (n : _), Accepted s rowReq (ek (0x4000 + n) 0x23) (.int 1) ∧ n < 1024) ∧
    (∃ (s : State), Accepted s rowReq (ek 0x47F0 0x11) (.int 1)) ∧
    (∃ (s : State) (g : _), Accepted s rowReq (ek (0x4400 + g) 0x0C) (.int 1) ∧ g < 512) ∧
    (∃ (s : State) (l : _), Accepted s rowReq (ek (0x4800 + l) 0x11) (.int 1) ∧ l < 1024) := by
  refine ⟨?_, ?_, ?_, ?_, ?_⟩
  · exact ⟨base, (Instr.streamEnable 3), 16387, 1, Or.inl ⟨3, by decide, rfl, Or.inl ⟨rfl, rfl⟩⟩, of_accepted (by decide +kernel)⟩
  · exact ⟨base, 24, of_accepted (by decide +kernel), by decide +kernel⟩
  · exact ⟨base, of_accepted (by decide +kernel)⟩
  · exact ⟨base, 24, of_accepted (by decide +kernel), by decide +kernel⟩
  · exact ⟨base, 24, of_accepted (by decide +kernel), by decide +kernel⟩

/-- States and operands that meet the hypotheses of SamplePath, clause by clause. -/
theorem witness_SamplePath :
    (∃ (s : State), s.running = true ∧ s.domOn 8 = true) ∧
    (∃ (s : State) (fr : SvFrame) (e : Nat) (n : Nat) (c : _), s.domOn 7 = true ∧ fr.entry < 16384 ∧ mapFind s.fabric.streamTab fr.entry = some e ∧ stKind e = 0 ∧ stHandle e = n ∧ n < 1024 ∧ s.lens.state = 2 ∧ (s.stream n).state ≠ 0 ∧ s.frameCheck n fr.pdu = some c) ∧
    (∃ (s : State) (fr : SvFrame) (e : Nat) (n : Nat), s.domOn 7 = true ∧ fr.entry < 16384 ∧ mapFind s.fabric.streamTab fr.entry = some e ∧ stKind e = 0 ∧ stHandle e = n ∧ n < 1024 ∧ s.lens.state = 2 ∧ (s.stream n).state ≠ 0 ∧ s.frameCheck n fr.pdu = none ∧ fr.tailGood = false) ∧
    (∃ (s : State) (fr : SvFrame) (e : Nat) (n : Nat), InPlane s n ∧ s.domOn 7 = true ∧ fr.entry < 16384 ∧ mapFind s.fabric.streamTab fr.entry = some e ∧ stKind e = 0 ∧ stHandle e = n ∧ n < 1024 ∧ s.lens.state = 2 ∧ (s.stream n).state ≠ 0 ∧ s.frameCheck n fr.pdu = none ∧ fr.tailGood = true) ∧
    (∃ (s : State) (r : _) (l : _) (n : _), InPlane s n ∧ s.domOn 7 = true ∧ s.lens.state = 2 ∧ s.lens.opened = r :: l) ∧
    (∃ (s : State) (r : _) (l : _), s.domOn 7 = true ∧ s.phasor.row = none ∧ s.lens.sealedQueue = r :: l ∧ (∀ p ∈ s.lens.inUse, p.1 + p.2 ≤ 8192)) ∧
    (∃ (s : State) (r : _), s.domOn 7 = true ∧ s.phasor.row = some r ∧ s.phasor.posted = false) := by
  refine ⟨?_, ?_, ?_, ?_, ?_, ?_, ?_⟩
  · exact ⟨base, by decide +kernel⟩
  · exact ⟨run, { entry := 7, pdu := [0x00, 0x05, 0x00, 0x2b, 0x00, 0x00, 0x00, 0x00, 0x60, 0x21, 0x80, 0x01, 0x02, 0xa2, 0x1c, 0x30, 0x1a, 0x80, 0x01, 0x41, 0x82, 0x02, 0x00, 0x00, 0x83, 0x04, 0x00, 0x00, 0x00, 0x01, 0x85, 0x01, 0x02, 0x87, 0x08, 0x00, 0x00, 0x00, 0x4d, 0x00, 0x00, 0x00, 0x00], tailGood := true, arrival := 5000000500 }, 170141183460469231731687303715934437376, 3, 24, by decide +kernel⟩
  · exact ⟨run, { entry := 7, pdu := [0x00, 0x05, 0x00, 0x2b, 0x00, 0x00, 0x00, 0x00, 0x60, 0x21, 0x80, 0x01, 0x01, 0xa2, 0x1c, 0x30, 0x1a, 0x80, 0x01, 0x41, 0x82, 0x02, 0x00, 0x00, 0x83, 0x04, 0x00, 0x00, 0x00, 0x01, 0x85, 0x01, 0x02, 0x87, 0x08, 0x00, 0x00, 0x00, 0x4d, 0x00, 0x00, 0x00, 0x00], tailGood := false, arrival := 5000000500 }, 170141183460469231731687303715934437376, 3, by decide +kernel⟩
  · exact ⟨run, { entry := 7, pdu := [0x00, 0x05, 0x00, 0x2b, 0x00, 0x00, 0x00, 0x00, 0x60, 0x21, 0x80, 0x01, 0x01, 0xa2, 0x1c, 0x30, 0x1a, 0x80, 0x01, 0x41, 0x82, 0x02, 0x00, 0x00, 0x83, 0x04, 0x00, 0x00, 0x00, 0x01, 0x85, 0x01, 0x02, 0x87, 0x08, 0x00, 0x00, 0x00, 0x4d, 0x00, 0x00, 0x00, 0x00], tailGood := true, arrival := 5000000500 }, 170141183460469231731687303715934437376, 3, of_inPlane (by decide +kernel), by decide +kernel⟩
  · exact ⟨run, { num := 12, inst := 5000000000, tick := 24000, deadline := 5002000000, disc := false, oos := false, cfg := [(4195075, 1), (4195076, 4800), (4195077, 1), (4195078, 1), (4195079, 1), (4195080, 40), (4457220, 1065353216)], delivered := [], off := [], freqs := [] }, [{ num := 13, inst := 5000208333, tick := 24001, deadline := 5002208333, disc := false, oos := false, cfg := [(4195075, 1), (4195076, 4800), (4195077, 1), (4195078, 1), (4195079, 1), (4195080, 40), (4457220, 1065353216)], delivered := [], off := [], freqs := [] }], 24, of_inPlane (by decide +kernel), by decide +kernel⟩
  · exact ⟨lens (fun l => { l with sealedQueue := [srow] }) base, { num := 12, inst := 5000000000, tick := 24000, deadline := 5002000000, disc := false, oos := false, cfg := [(4195075, 1), (4195076, 4800), (4195077, 1), (4195078, 1), (4195079, 1), (4195080, 40), (4457220, 1065353216)], delivered := [], off := [], freqs := [] }, [], by decide +kernel⟩
  · exact ⟨{ base with phasor := { base.phasor with row := some srow } }, { num := 12, inst := 5000000000, tick := 24000, deadline := 5002000000, disc := false, oos := false, cfg := [(4195075, 1), (4195076, 4800), (4195077, 1), (4195078, 1), (4195079, 1), (4195080, 40), (4457220, 1065353216)], delivered := [], off := [], freqs := [] }, by decide +kernel⟩

/-- States and operands that meet the hypotheses of Publishers, clause by clause. -/
theorem witness_Publishers :
    (∃ (s : State) (p : _), Accepted s rowReq (ek (0x5800 + p) 1) (.int 1) ∧ p < 512 ∧ s.flag (0x5800 + p) 1 = false ∧ (s.pub p).queue = []) ∧
    (∃ (s : State) (p : _), Accepted s rowReq (ek (0x5800 + p) 1) (.int 0) ∧ p < 512 ∧ s.flag (0x5800 + p) 1 = true) ∧
    (∃ (s : State) (p : _), p < 512 ∧ s.domOn 7 = true ∧ (s.pub p).on = true ∧ (s.pub p).modeChange = false) ∧
    (∃ (s : State) (f : _) (v : _) (p : _) (vals : _), f < 256 ∧ v < 2 ^ 64 ∧ p = v % 512 ∧ s.domOn 7 = true ∧ (s.facet f).live = true ∧ s.pubOwner p = f ∧ vals = ((enumFrom' 0 (s.pubDescs p)).map fun d => (s.facet f).staged (pmKind d.1) d.2) ∧ (s.pub p).on = false ∧ (s.pub p).queue.length < 4) ∧
    (∃ (s : State) (f : _) (v : _) (p : _) (vals : _), f < 256 ∧ v < 2 ^ 64 ∧ p = v % 512 ∧ s.domOn 7 = true ∧ (s.facet f).live = true ∧ s.pubOwner p = f ∧ vals = ((enumFrom' 0 (s.pubDescs p)).map fun d => (s.facet f).staged (pmKind d.1) d.2) ∧ (s.pub p).on = true ∧ (s.pub p).queue = [] ∧ vals ≠ (s.pub p).values) := by
  refine ⟨?_, ?_, ?_, ?_, ?_⟩
  · exact ⟨pub1, 3, of_accepted (by decide +kernel), by decide +kernel⟩
  · exact ⟨pubOn, 3, of_accepted (by decide +kernel), by decide +kernel⟩
  · exact ⟨pubOn, 3, by decide +kernel⟩
  · exact ⟨fct pub1, 4, 16387, 3, [1], by decide +kernel⟩
  · exact ⟨fct pubOn, 4, 16387, 3, [1], by decide +kernel⟩

/-- States and operands that meet the hypotheses of Subscriptions, clause by clause. -/
theorem witness_Subscriptions :
    (∃ (s : State) (n : Nat), s.memOk ∧ Accepted s rowReq (ek (0x6000 + n) 1) (.int 1) ∧ n < 4096 ∧ s.flag (0x6000 + n) 1 = false) ∧
    (∃ (s : State) (n : Nat), s.memOk ∧ Accepted s rowReq (ek (0x6000 + n) 1) (.int 0) ∧ n < 4096 ∧ s.flag (0x6000 + n) 1 = true ∧ (s.sub n).state ≠ 0) ∧
    (∃ (s : State) (n : Nat), s.memOk ∧ Accepted s rowReq (ek (0x6000 + n) 0x2C) (.int 1) ∧ n < 4096) ∧
    (∃ (s : State) (n : Nat) (fr : GooseFrame) (g : GooseMsg) (e : Nat), s.memOk ∧ GooseTaken s n fr g ∧ n < 4096 ∧ s.domOn 7 = true ∧ fr.entry < 16384 ∧ mapFind s.fabric.streamTab fr.entry = some e ∧ stKind e = 1 ∧ stHandle e = n ∧ ((s.sub n).state = 1 ∨ (s.sub n).state = 3)) ∧
    (∃ (s : State) (n : Nat) (fr : GooseFrame) (g : GooseMsg) (e : Nat), s.memOk ∧ GooseTaken s n fr g ∧ n < 4096 ∧ s.domOn 7 = true ∧ fr.entry < 16384 ∧ mapFind s.fabric.streamTab fr.entry = some e ∧ stKind e = 1 ∧ stHandle e = n ∧ (s.sub n).state = 2 ∧ g.stNum = (s.sub n).lastSt ∧ g.sqNum = (s.sub n).lastSq + 1 ∧ g.sqNum < 2 ^ 32) ∧
    (∃ (s : State) (n : Nat), s.memOk ∧ n < 4096 ∧ s.domOn 7 = true ∧ (s.sub n).state = 2) := by
  refine ⟨?_, ?_, ?_, ?_, ?_, ?_⟩
  · exact ⟨sub1, 3, of_memOk (by decide +kernel), of_accepted (by decide +kernel), by decide +kernel⟩
  · exact ⟨subSt 1, 3, of_memOk (by decide +kernel), of_accepted (by decide +kernel), by decide +kernel⟩
  · exact ⟨base, 24, of_memOk (by decide +kernel), of_accepted (by decide +kernel), by decide +kernel⟩
  · exact ⟨subSt 1, 3, { entry := 9, pdu := ([0x00, 0x05, 0x00, 0x41, 0x00, 0x00, 0x00, 0x00, 0x61, 0x37, 0x80, 0x01, 0x41, 0x81, 0x02, 0x03, 0xe8, 0x82, 0x01, 0x42, 0x84, 0x08] ++ List.replicate 8 0x00 ++ [0x85, 0x04, 0x00, 0x00, 0x00, 0x04, 0x86, 0x04, 0x00, 0x00, 0x00, 0x08, 0x88, 0x01, 0x01, 0x89, 0x01, 0x00, 0x8a, 0x01, 0x03, 0xab, 0x0c, 0x83, 0x01, 0x01, 0x84, 0x02, 0x06, 0x40, 0x84, 0x03, 0x03, 0x00, 0x00]), tailGood := true }, { gocbRef := [0x41], goId := [0x41], datSet := [0x42], confRev := 1, ndsCom := false, numEntries := 3, simulation := false, stNum := 4, sqNum := 8, tal := 1000, data := [GooseData.boolean true, GooseData.dbpos 1, GooseData.quality 0 false] }, 212676479325586539664609129644905463808, of_memOk (by decide +kernel), of_gooseTaken (by decide +kernel), by decide +kernel⟩
  · exact ⟨subSt 2, 3, { entry := 9, pdu := ([0x00, 0x05, 0x00, 0x41, 0x00, 0x00, 0x00, 0x00, 0x61, 0x37, 0x80, 0x01, 0x41, 0x81, 0x02, 0x03, 0xe8, 0x82, 0x01, 0x42, 0x84, 0x08] ++ List.replicate 8 0x00 ++ [0x85, 0x04, 0x00, 0x00, 0x00, 0x04, 0x86, 0x04, 0x00, 0x00, 0x00, 0x08, 0x88, 0x01, 0x01, 0x89, 0x01, 0x00, 0x8a, 0x01, 0x03, 0xab, 0x0c, 0x83, 0x01, 0x01, 0x84, 0x02, 0x06, 0x40, 0x84, 0x03, 0x03, 0x00, 0x00]), tailGood := true }, { gocbRef := [0x41], goId := [0x41], datSet := [0x42], confRev := 1, ndsCom := false, numEntries := 3, simulation := false, stNum := 4, sqNum := 8, tal := 1000, data := [GooseData.boolean true, GooseData.dbpos 1, GooseData.quality 0 false] }, 212676479325586539664609129644905463808, of_memOk (by decide +kernel), of_gooseTaken (by decide +kernel), by decide +kernel⟩
  · exact ⟨subSt 2, 3, of_memOk (by decide +kernel), by decide +kernel⟩

end W07

namespace W08

def rg (l : List (Nat × Nat)) (b : List (Nat × ByteList)) (s : State) : State := { s with regs := mapPutAll (l.map fun p => (p.1, (p.2 : Int))) s.regs, blobs := mapPutAll b s.blobs }
def lg (f : Logic → Logic) (s : State) : State := { s with logic := f s.logic }
def im0 : ProgImage := { (default : ProgImage) with cls := 2, number := 3, code := [0x10400800, 0x19000001, 0x20000000 + 7*2^20 + 5], claims := [(7, 5, 2), (16, 3, 1), (4, 2048, 1)], retStart := [], rwdStart := []}
def im (c : Nat) (lp : Nat := 1) : ProgImage := { im0 with cls := c, lp := lp }
def pr (p : Prog) (s : State := up) : State := lg (fun l => { l with progs := [(3, p)] }) s
def P (c st : Nat) : Prog := { Prog.empty with image := some (im c), state := st }
def mm (s : State) : State := { s with mem := memWriteList s.mem (areaByte 7 5) [byteOf 1, byteOf 2], time := { s.time with mono := 500000 } }
def srow : Row := { num := 12, inst := 1000, tick := 5, deadline := 1000000, disc := false, oos := false, cfg := [], delivered := [], off := [], freqs := [] }
def bat (s : State) : State := { s with phasor := { s.phasor with row := some srow, posted := true } }
def ex (st e : Nat) : State := pr { P 2 st with exState := e, exImage := some { im 2 with claims := [(7, 4, 3)], raw := [byteOf 9] } } (mm up)
def sta (x : Station) (l : List (Nat × Nat) := []) (s : State := mm up) : State := rg ([(ek 0xB042 1, if x.state = 0 then 0 else 1), (ek 0xB042 2, 0), (ek 0xB042 3, 7), (ek 0xB042 4, 20), (ek 0xB042 5, 600), (ek 0xB042 8, 2)] ++ l) [] (lg (fun g => { g with stations := [(2, x)] }) s)
def can1 (s : State) : State := { s with can := { s.can with ctl := [(0, { CanCtl.stopped with state := 1 })], pool := [(2, [2, 3])] } }
def S (n : Nat) : Station := { Station.off with state := n }

/-- States and operands that meet the hypotheses of Programs, clause by clause. -/
theorem witness_Programs :
    (∃ (s : State) (p : _), Accepted s rowReq (ek (0x5400 + p) 1) (.int 1) ∧ p < 1024) ∧
    (∃ (s : State) (p : _), Accepted s rowReq (ek (0x5400 + p) 1) (.int 0) ∧ p < 1024 ∧ (s.prog p).exState ≠ 4) ∧
    (∃ (s : State) (p : _) (old : _) (new : _), Accepted s rowReq (ek (0x5400 + p) 1) (.int 0) ∧ p < 1024 ∧ (s.prog p).exState = 4 ∧ (s.prog p).state = 2 ∧ (s.prog p).image = some old ∧ (s.prog p).exImage = some new) ∧
    (∃ (s : State) (p : _), Accepted s rowReq (ek (0x5400 + p) 0x2F) (.int 1) ∧ p < 1024) ∧
    (∃ (s : State) (c : Instr) (p : Nat) (cls : Nat) (i : ProgImage), p < 1024 ∧ s.domOn 11 = true ∧ (c = .fastCycle p ∧ cls = 1 ∨ c = .normalCycle p ∧ cls = 2 ∨ c = .slowCycle p ∧ cls = 3) ∧ (s.prog p).image = some i ∧ i.cls = cls ∧ ((s.prog p).state = 2 ∧ (s.prog p).endsAt ≤ s.mono * 4 ∨ (s.prog p).state = 1 ∧ (s.prog p).startDue = true)) ∧
    (∃ (s : State) (c : Instr) (p : Nat) (cls : Nat) (i : ProgImage), p < 1024 ∧ s.domOn 11 = true ∧ (c = .fastCycle p ∧ cls = 1 ∨ c = .normalCycle p ∧ cls = 2 ∨ c = .slowCycle p ∧ cls = 3) ∧ (s.prog p).image = some i ∧ i.cls = cls ∧ (s.prog p).state = 2 ∧ s.mono * 4 < (s.prog p).endsAt) ∧
    (∃ (s : State) (lp : _) (row : _), lp < 16 ∧ s.domOn 11 = true ∧ s.phasor.row = some row ∧ s.phasor.posted = true ∧ lp ∉ s.phasor.batches) := by
  refine ⟨?_, ?_, ?_, ?_, ?_, ?_, ?_⟩
  · exact ⟨mm (pr (P 2 1)), 3, of_accepted (by decide +kernel), by decide +kernel⟩
  · exact ⟨mm (pr (P 2 1)), 0, of_accepted (by decide +kernel), by decide +kernel⟩
  · exact ⟨ex 2 4, 3, { raw := [], number := 3, form := 0, cls := 2, period := 0, lp := 1, flags := 0, cost := 0, count := 0, instData := 0, retData := 0, name := [], code := [272631808, 419430401, 544210949], types := [], insts := [], pool := [], claims := [(7, 5, 2), (16, 3, 1), (4, 2048, 1)], retStart := [], rwdStart := [], reserved := false }, { raw := [0x09], number := 3, form := 0, cls := 2, period := 0, lp := 1, flags := 0, cost := 0, count := 0, instData := 0, retData := 0, name := [], code := [272631808, 419430401, 544210949], types := [], insts := [], pool := [], claims := [(7, 4, 3)], retStart := [], rwdStart := [], reserved := false }, of_accepted (by decide +kernel), by decide +kernel⟩
  · exact ⟨mm (pr (P 2 1)), 0, of_accepted (by decide +kernel), by decide +kernel⟩
  · exact ⟨mm (pr (P 2 2)), (Instr.normalCycle 3), 3, 2, { raw := [], number := 3, form := 0, cls := 2, period := 0, lp := 1, flags := 0, cost := 0, count := 0, instData := 0, retData := 0, name := [], code := [272631808, 419430401, 544210949], types := [], insts := [], pool := [], claims := [(7, 5, 2), (16, 3, 1), (4, 2048, 1)], retStart := [], rwdStart := [], reserved := false }, by decide +kernel⟩
  · exact ⟨mm (pr { P 1 2 with endsAt := 4000000 }), (Instr.fastCycle 3), 3, 1, { raw := [], number := 3, form := 0, cls := 1, period := 0, lp := 1, flags := 0, cost := 0, count := 0, instData := 0, retData := 0, name := [], code := [272631808, 419430401, 544210949], types := [], insts := [], pool := [], claims := [(7, 5, 2), (16, 3, 1), (4, 2048, 1)], retStart := [], rwdStart := [], reserved := false }, by decide +kernel⟩
  · exact ⟨bat (mm (pr (P 0 2))), 0, { num := 12, inst := 1000, tick := 5, deadline := 1000000, disc := false, oos := false, cfg := [], delivered := [], off := [], freqs := [] }, by decide +kernel⟩

/-- States and operands that meet the hypotheses of InputsAndExchange, clause by clause. -/
theorem witness_InputsAndExchange :
    (∃ (s : State) (pin : _), s.memOk ∧ pin < 32 ∧ s.domOn 11 = true ∧ s.regN 0x5400 (0x80 + pin) = 0) ∧
    (∃ (s : State) (pin : _) (level : _), pin < 32 ∧ s.domOn 11 = true ∧ s.regN 0x5400 (0x80 + pin) ≠ 0 ∧ areaBit s.mem 3 pin ≠ level) ∧
    (∃ (s : State) (pin : _) (level : _) (since : _), s.memOk ∧ pin < 32 ∧ s.domOn 11 = true ∧ mapFind s.logic.fdiWait pin = some (level, since)) ∧
    (∃ (s : State) (p : _) (old : _) (new : _), Accepted s rowReq (ek (0x5400 + p) 0x23) (.int 1) ∧ p < 1024 ∧ (s.prog p).image = some old ∧ (s.prog p).exImage = some new ∧ (s.prog p).exState = 3 ∧ (s.prog p).state ≠ 2) ∧
    (∃ (s : State) (p : _) (old : _) (new : _), Accepted s rowReq (ek (0x5400 + p) 0x23) (.int 1) ∧ p < 1024 ∧ (s.prog p).image = some old ∧ (s.prog p).exImage = some new ∧ (s.prog p).exState = 3 ∧ (s.prog p).state = 2) ∧
    (∃ (s : State) (p : _) (old : _) (new : _), Accepted s rowReq (ek (0x5400 + p) 0x23) (.int 2) ∧ p < 1024 ∧ (s.prog p).image = some old ∧ (s.prog p).exImage = some new ∧ ((s.prog p).exState = 3 ∨ (s.prog p).exState = 4)) ∧
    (∃ (s : State) (p : _) (old : _) (new : _), p < 1024 ∧ (s.prog p).image = some old ∧ (s.prog p).exImage = some new ∧ s.domOn 11 = true ∧ (s.prog p).exState = 4) := by
  refine ⟨?_, ?_, ?_, ?_, ?_, ?_, ?_⟩
  · exact ⟨mm (pr (P 2 1)), 0, of_memOk (by decide +kernel), by decide +kernel⟩
  · exact ⟨rg [(ek 0x5400 0x83, 5)] [] (mm up), 3, true, by decide +kernel⟩
  · exact ⟨lg (fun l => { l with fdiWait := [(3, (true, 77))] }) (rg [(ek 0x5400 0x83, 5)] [] (mm up)), 3, true, 77, of_memOk (by decide +kernel), by decide +kernel⟩
  · exact ⟨ex 1 3, 3, { raw := [], number := 3, form := 0, cls := 2, period := 0, lp := 1, flags := 0, cost := 0, count := 0, instData := 0, retData := 0, name := [], code := [272631808, 419430401, 544210949], types := [], insts := [], pool := [], claims := [(7, 5, 2), (16, 3, 1), (4, 2048, 1)], retStart := [], rwdStart := [], reserved := false }, { raw := [0x09], number := 3, form := 0, cls := 2, period := 0, lp := 1, flags := 0, cost := 0, count := 0, instData := 0, retData := 0, name := [], code := [272631808, 419430401, 544210949], types := [], insts := [], pool := [], claims := [(7, 4, 3)], retStart := [], rwdStart := [], reserved := false }, of_accepted (by decide +kernel), by decide +kernel⟩
  · exact ⟨ex 2 3, 3, { raw := [], number := 3, form := 0, cls := 2, period := 0, lp := 1, flags := 0, cost := 0, count := 0, instData := 0, retData := 0, name := [], code := [272631808, 419430401, 544210949], types := [], insts := [], pool := [], claims := [(7, 5, 2), (16, 3, 1), (4, 2048, 1)], retStart := [], rwdStart := [], reserved := false }, { raw := [0x09], number := 3, form := 0, cls := 2, period := 0, lp := 1, flags := 0, cost := 0, count := 0, instData := 0, retData := 0, name := [], code := [272631808, 419430401, 544210949], types := [], insts := [], pool := [], claims := [(7, 4, 3)], retStart := [], rwdStart := [], reserved := false }, of_accepted (by decide +kernel), by decide +kernel⟩
  · exact ⟨ex 1 3, 3, { raw := [], number := 3, form := 0, cls := 2, period := 0, lp := 1, flags := 0, cost := 0, count := 0, instData := 0, retData := 0, name := [], code := [272631808, 419430401, 544210949], types := [], insts := [], pool := [], claims := [(7, 5, 2), (16, 3, 1), (4, 2048, 1)], retStart := [], rwdStart := [], reserved := false }, { raw := [0x09], number := 3, form := 0, cls := 2, period := 0, lp := 1, flags := 0, cost := 0, count := 0, instData := 0, retData := 0, name := [], code := [272631808, 419430401, 544210949], types := [], insts := [], pool := [], claims := [(7, 4, 3)], retStart := [], rwdStart := [], reserved := false }, of_accepted (by decide +kernel), by decide +kernel⟩
  · exact ⟨ex 2 4, 3, { raw := [], number := 3, form := 0, cls := 2, period := 0, lp := 1, flags := 0, cost := 0, count := 0, instData := 0, retData := 0, name := [], code := [272631808, 419430401, 544210949], types := [], insts := [], pool := [], claims := [(7, 5, 2), (16, 3, 1), (4, 2048, 1)], retStart := [], rwdStart := [], reserved := false }, { raw := [0x09], number := 3, form := 0, cls := 2, period := 0, lp := 1, flags := 0, cost := 0, count := 0, instData := 0, retData := 0, name := [], code := [272631808, 419430401, 544210949], types := [], insts := [], pool := [], claims := [(7, 4, 3)], retStart := [], rwdStart := [], reserved := false }, by decide +kernel⟩

/-- States and operands that meet the hypotheses of Stations, clause by clause. -/
theorem witness_Stations :
    (∃ (s : State) (n : Nat), s.memOk ∧ Accepted s rowReq (ek (0xB040 + n) 1) (.int 1) ∧ n < 64 ∧ s.flag (0xB040 + n) 1 = false ∧ (s.station n).state = 0) ∧
    (∃ (s : State) (n : Nat), s.memOk ∧ Accepted s rowReq (ek (0xB040 + n) 1) (.int 0) ∧ n < 64 ∧ s.flag (0xB040 + n) 1 = true ∧ (s.station n).state ≠ 0) ∧
    (∃ (s : State) (n : Nat), Accepted s rowReq (ek (0xB040 + n) 0x11) (.int 1) ∧ n < 64) ∧
    (∃ (s : State) (n : Nat), n < 64 ∧ s.stewardUp = true ∧ s.driven = true ∧ (s.station n).state ≠ 0 ∧ (s.station n).awaiting = false) ∧
    (∃ (s : State) (n : Nat) (g : RespSeg), s.memOk ∧ n < 64 ∧ s.stewardUp = true ∧ (s.station n).state = 2 ∧ (s.station n).awaiting = true ∧ (s.station n).segs = [] ∧ segments (s.inputCount n) = 1 ∧ g.count = (s.station n).count ∧ g.seg = 0 ∧ g.data.length = segmentLength (s.inputCount n) 0) ∧
    (∃ (s : State) (n : Nat), n < 64 ∧ s.stewardUp = true ∧ s.driven = true ∧ (s.station n).state ≠ 0 ∧ (s.station n).awaiting = true ∧ ((s.station n).state ≠ 2 ∨ (s.station n).misses + 1 < s.stationReg n 8)) ∧
    (∃ (s : State) (n : Nat), s.memOk ∧ n < 64 ∧ s.stewardUp = true ∧ s.driven = true ∧ (s.station n).state ≠ 0 ∧ (s.station n).awaiting = true ∧ (s.station n).state = 2 ∧ s.stationReg n 8 ≤ (s.station n).misses + 1) := by
  refine ⟨?_, ?_, ?_, ?_, ?_, ?_, ?_⟩
  · exact ⟨sta (S 0), 2, of_memOk (by decide +kernel), of_accepted (by decide +kernel), by decide +kernel⟩
  · exact ⟨can1 (sta (S 1)), 2, of_memOk (by decide +kernel), of_accepted (by decide +kernel), by decide +kernel⟩
  · exact ⟨mm (pr (P 2 1)), 0, of_accepted (by decide +kernel), by decide +kernel⟩
  · exact ⟨can1 (sta (S 1)), 2, by decide +kernel⟩
  · exact ⟨can1 (sta { S 2 with awaiting := true, count := 5 }), 2, { count := 5, seg := 0, data := [0xff, 0x0f, 0xff] }, of_memOk (by decide +kernel), by decide +kernel⟩
  · exact ⟨can1 (sta { S 2 with awaiting := true, count := 5 }), 2, by decide +kernel⟩
  · exact ⟨can1 (sta { S 2 with awaiting := true, misses := 1 } [] (mm (pr (P 2 2)))), 2, of_memOk (by decide +kernel), by decide +kernel⟩

end W08

namespace W09

def rg (l : List (Nat × Nat)) (b : List (Nat × ByteList)) (s : State) : State := { s with regs := mapPutAll (l.map fun p => (p.1, (p.2 : Int))) s.regs, blobs := mapPutAll b s.blobs }
def boot1 : ByteList := [byteOf 7, byteOf 8, byteOf 9]
def flt : ByteList := [byteOf 0x80, byteOf 0, byteOf 0, byteOf 0] ++ beBytes 6 0xAABBCCDDEEFF ++ [byteOf 0, byteOf 0]
def cfg (s : State := up) : State := rg [(ek 0x5003 5, 1), (ek 0x5003 6, 2), (ek 0x5003 8, 10), (ek 0x5003 9, 4), (ek 0x5003 0x0B, 1), (ek 0x5003 0x0C, 3), (ek 0x5003 0x0F, 128), (ek 0x5003 0x16, 2)] [(ek 0x5003 0x12, sha256 boot1), (ek 0x5003 0x0A, flt)] s
def fc (x : Facet) (s : State := cfg) : State := { s with facets := { s.facets with facet := [(3, x)] } }
def F (n : Nat) : Facet := { Facet.none with state := n, units := [4, 6], boot := boot1 }
def wr (s : State) (l : List (Nat × ByteList)) : State := { s with mem := l.foldl (fun m p => guestWrite m (s.facet 3) p.1 p.2) s.mem }
def old (s : State) : State := wr s [(5, [byteOf 3, byteOf 4]), (4194303, [byteOf 8])]
def sv : State := { fc (F 5) with facets := { (fc (F 5)).facets with blobs := [(2, { Blob.empty with state := 1, source := 3 })] } }
def saved : State := match exec (.saveComplete 3 true) (old sv) with | .next t => t | _ => sv
def rs : State := fc { F 6 with } saved
def d1 : DmaDesc := { src := 8, dst := 10, len := 4, tag := 77, completion := 0 }
def dma (x : Facet) : State := wr (fc x) [(64, leBytes 8 8 ++ leBytes 8 10 ++ leBytes 4 4 ++ leBytes 4 77 ++ leBytes 8 0), (8, [byteOf 1, byteOf 2, byteOf 3, byteOf 4, byteOf 5, byteOf 6])]
def q1 : NicQueue := { NicQueue.none with ring := 4096 + 4, txTail := 3, txHead := 1, taken := 2, rxTail := 5, rxHead := 4 }
def nq (tx rx : ByteList) (q := q1) : State := wr (fc { F 3 with nic := [(0, q)] }) [(4096 + 16, tx), (4096 + 256 + 64, rx)]

/-- States and operands that meet the hypotheses of FacetCommands, clause by clause. -/
theorem witness_FacetCommands :
    (∃ (s : State) (n : Nat), Accepted s rowReq (ek (0x5000 + n) 1) (.int 1) ∧ n < 256 ∧ (s.facet n).state = 0) ∧
    (∃ (s : State) (n : Nat), Accepted s rowReq (ek (0x5000 + n) 1) (.int 0) ∧ n < 256 ∧ (s.facet n).state = 1) ∧
    (∃ (s : State) (n : Nat), s.memOk ∧ Accepted s rowReq (ek (0x5000 + n) 2) (.int 1) ∧ n < 256 ∧ (s.facet n).units.Nodup ∧ (s.facet n).state = 1 ∧ s.launchCode n = 0) ∧
    (∃ (s : State) (n : Nat), Accepted s rowReq (ek (0x5000 + n) 2) (.int 2) ∧ n < 256 ∧ (s.facet n).live = true) ∧
    (∃ (s : State) (n : Nat), Accepted s rowReq (ek (0x5000 + n) 2) (.int 3) ∧ n < 256 ∧ (s.facet n).state = 4) ∧
    (∃ (s : State) (n : Nat), Accepted s rowReq (ek (0x5000 + n) 2) (.int 4) ∧ n < 256 ∧ (s.facet n).state = 4 ∧ s.saveCode n = 0) ∧
    (∃ (s : State) (n : Nat), Accepted s rowReq (ek (0x5000 + n) 2) (.int 5) ∧ n < 256 ∧ ((s.facet n).state = 1 ∨ (s.facet n).state = 8)) ∧
    (∃ (s : State) (n : Nat), Accepted s rowReq (ek (0x5000 + n) 2) (.int 6) ∧ n < 256 ∧ (s.facet n).state ≠ 0 ∧ (s.facet n).state ≠ 7) ∧
    (∃ (s : State) (n : Nat), Accepted s rowReq (ek (0x5000 + n) 0x23) (.int 1) ∧ n < 256) ∧
    (∃ (s : State) (n : Nat) (sub : Nat) (v : Nat), Accepted s rowReq (ek (0x5000 + n) sub) (.int v) ∧ n < 256 ∧ 11 ≤ sub ∧ sub ≤ 14 ∧ v < 2 ^ 64) := by
  refine ⟨?_, ?_, ?_, ?_, ?_, ?_, ?_, ?_, ?_, ?_⟩
  · exact ⟨cfg, 3, of_accepted (by decide +kernel), by decide +kernel⟩
  · exact ⟨fc (F 1), 3, of_accepted (by decide +kernel), by decide +kernel⟩
  · exact ⟨fc (F 1), 3, of_memOk (by decide +kernel), of_accepted (by decide +kernel), by decide +kernel⟩
  · exact ⟨fc (F 2), 3, of_accepted (by decide +kernel), by decide +kernel⟩
  · exact ⟨fc (F 4), 3, of_accepted (by decide +kernel), by decide +kernel⟩
  · exact ⟨fc (F 4), 3, of_accepted (by decide +kernel), by decide +kernel⟩
  · exact ⟨fc (F 1), 3, of_accepted (by decide +kernel), by decide +kernel⟩
  · exact ⟨fc (F 1), 3, of_accepted (by decide +kernel), by decide +kernel⟩
  · exact ⟨cfg, 0, of_accepted (by decide +kernel), by decide +kernel⟩
  · exact ⟨cfg, 0, 11, 0, of_accepted (by decide +kernel), by decide +kernel⟩

/-- States and operands that meet the hypotheses of FacetEvents, clause by clause. -/
theorem witness_FacetEvents :
    (∃ (s : State) (n : Nat) (b : _), n < 256 ∧ s.stewardUp = true ∧ (s.facet n).state = 5 ∧ s.writingBlob n = some b) ∧
    (∃ (s : State) (n : Nat), n < 256 ∧ s.stewardUp = true ∧ (s.facet n).state = 6 ∧ s.blobSnap (s.facetReg n 0x16) = none) ∧
    (∃ (s : State) (n : Nat) (sn : _), n < 256 ∧ s.stewardUp = true ∧ (s.facet n).state = 6 ∧ s.blobSnap (s.facetReg n 0x16) = some sn ∧ (sn.cores ≠ popCount (s.coreMask n) 64 ∨ sn.units ≠ (s.facet n).units.length ∨ sn.taskCount ≠ s.facetReg n 9)) ∧
    (∃ (s : State) (n : Nat) (r : _) (sn : _), n < 256 ∧ s.stewardUp = true ∧ (s.facet n).state = 6 ∧ s.blobSnap (s.facetReg n 0x16) = some sn ∧ sn.cores = popCount (s.coreMask n) 64 ∧ sn.units = (s.facet n).units.length ∧ sn.taskCount = s.facetReg n 9 ∧ r ≠ 0) ∧
    (∃ (s : State) (n : Nat) (sn : _), s.memOk ∧ n < 256 ∧ s.stewardUp = true ∧ (s.facet n).state = 6 ∧ s.blobSnap (s.facetReg n 0x16) = some sn ∧ sn.cores = popCount (s.coreMask n) 64 ∧ sn.units = (s.facet n).units.length ∧ sn.taskCount = s.facetReg n 9) ∧
    (∃ (s : State) (n : Nat), n < 256 ∧ s.stewardUp = true ∧ (s.facet n).state = 7) ∧
    (∃ (s : State) (n : Nat), n < 256 ∧ s.stewardUp = true ∧ (s.facet n).state = 2) ∧
    (∃ (s : State) (n : Nat), n < 256 ∧ s.guest n = true) ∧
    (∃ (s : State) (n : Nat) (core : _), n < 256 ∧ s.guest n = true ∧ core < 64 ∧ (s.coreMask n).testBit core = true) := by
  refine ⟨?_, ?_, ?_, ?_, ?_, ?_, ?_, ?_, ?_⟩
  · exact ⟨sv, 3, 2, by decide +kernel⟩
  · exact ⟨fc (F 6), 3, by decide +kernel⟩
  · exact ⟨fc { F 6 with units := [4] } saved, 3, { cores := 1, units := 2, taskCount := 4, irq := 0, mbox := { inSlots := [], outSlots := [], inProd := 0, inCons := 0, outProd := 0, outCons := 0, ctrl := 0, status := 0, held := [], noticeTag := 0 }, swb := [], dma := [], dmaCompleted := 0, dmaAccepted := 0, nic := [], tasks := [], bindings := [], waitLimit := 0, mirrorBase := 0, mirrorSize := 0, ready := false, memory := [(5, 0x03#8), (6, 0x04#8), (4194303, 0x08#8)] }, by decide +kernel⟩
  · exact ⟨rs, 3, 1, { cores := 1, units := 2, taskCount := 4, irq := 0, mbox := { inSlots := [], outSlots := [], inProd := 0, inCons := 0, outProd := 0, outCons := 0, ctrl := 0, status := 0, held := [], noticeTag := 0 }, swb := [], dma := [], dmaCompleted := 0, dmaAccepted := 0, nic := [], tasks := [], bindings := [], waitLimit := 0, mirrorBase := 0, mirrorSize := 0, ready := false, memory := [(5, 0x03#8), (6, 0x04#8), (4194303, 0x08#8)] }, by decide +kernel⟩
  · exact ⟨rs, 3, { cores := 1, units := 2, taskCount := 4, irq := 0, mbox := { inSlots := [], outSlots := [], inProd := 0, inCons := 0, outProd := 0, outCons := 0, ctrl := 0, status := 0, held := [], noticeTag := 0 }, swb := [], dma := [], dmaCompleted := 0, dmaAccepted := 0, nic := [], tasks := [], bindings := [], waitLimit := 0, mirrorBase := 0, mirrorSize := 0, ready := false, memory := [(5, 0x03#8), (6, 0x04#8), (4194303, 0x08#8)] }, of_memOk (by decide +kernel), by decide +kernel⟩
  · exact ⟨fc (F 7), 3, by decide +kernel⟩
  · exact ⟨fc (F 2), 3, by decide +kernel⟩
  · exact ⟨fc (F 2), 3, by decide +kernel⟩
  · exact ⟨fc (F 2), 3, 0, by decide +kernel⟩

/-- States and operands that meet the hypotheses of WindowWrites, clause by clause. -/
theorem witness_WindowWrites :
    (∃ (s : State) (n : Nat) (v : Nat), n < 256 ∧ v < 2 ^ 64 ∧ s.guest n = true) ∧
    (∃ (s : State) (n : Nat) (v : Nat), n < 256 ∧ v < 2 ^ 64 ∧ s.guest n = true ∧ sub32 (v % 2 ^ 32) (s.facet n).mbox.inCons ≤ sub32 (s.facet n).mbox.inProd (s.facet n).mbox.inCons) ∧
    (∃ (s : State) (n : Nat) (v : Nat), n < 256 ∧ v < 2 ^ 64 ∧ s.guest n = true ∧ sub32 (s.facet n).mbox.inProd (s.facet n).mbox.inCons < sub32 (v % 2 ^ 32) (s.facet n).mbox.inCons) ∧
    (∃ (s : State) (n : Nat) (v : Nat) (w : _) (c : Instr) (op : Bool → Bool → Bool), (c = .swbWrite n w v ∧ op = (fun _ b => b) ∨ c = .swbSet n w v ∧ op = (fun a b => a || b) ∨ c = .swbClr n w v ∧ op = (fun a b => a && !b)) ∧ n < 256 ∧ v < 2 ^ 64 ∧ s.guest n = true ∧ w < 4) ∧
    (∃ (s : State) (n : Nat) (v : Nat) (q : _), n < 256 ∧ v < 2 ^ 64 ∧ s.guest n = true ∧ q < 8) := by
  refine ⟨?_, ?_, ?_, ?_, ?_⟩
  · exact ⟨fc (F 2), 3, 0, by decide +kernel⟩
  · exact ⟨fc (F 2), 3, 0, by decide +kernel⟩
  · exact ⟨fc (F 2), 3, 1, by decide +kernel⟩
  · exact ⟨fc (F 3), 3, 2 ^ 64 - 1, 3, .swbWrite 3 3 (2 ^ 64 - 1), fun _ b => b, Or.inl ⟨rfl, rfl⟩, by decide +kernel⟩
  · exact ⟨fc (F 2), 3, 0, 0, by decide +kernel⟩

/-- States and operands that meet the hypotheses of DmaAndNics, clause by clause. -/
theorem witness_DmaAndNics :
    (∃ (s : State) (n : _) (a : _) (d : DmaDesc), n < 256 ∧ a < 2 ^ 64 ∧ s.guest n = true ∧ (s.facet n).inside a 32 = true ∧ a % 32 = 0 ∧ d.src < 2 ^ 64 ∧ d.dst < 2 ^ 64 ∧ 0 < d.len ∧ d.len ≤ 16777216 ∧ d.tag < 65536 ∧ d.completion < 2 ^ 32 ∧ bitsAt d.completion 29 2 = 0 ∧ bitsAt d.completion 12 12 = 0 ∧ guestRead s.mem (s.facet n) a 32 = leBytes 8 d.src ++ leBytes 8 d.dst ++ leBytes 4 d.len ++ leBytes 4 d.tag ++ leBytes 8 d.completion ∧ (s.facet n).inside d.src d.len = true ∧ (s.facet n).inside d.dst d.len = true ∧ (s.facet n).dma.length < s.facetReg n 0x0B) ∧
    (∃ (s : State) (n : _) (a : _) (d : DmaDesc), n < 256 ∧ a < 2 ^ 64 ∧ s.guest n = true ∧ (s.facet n).inside a 32 = true ∧ a % 32 = 0 ∧ d.src < 2 ^ 64 ∧ d.dst < 2 ^ 64 ∧ 0 < d.len ∧ d.len ≤ 16777216 ∧ d.tag < 65536 ∧ d.completion < 2 ^ 32 ∧ bitsAt d.completion 29 2 = 0 ∧ bitsAt d.completion 12 12 = 0 ∧ guestRead s.mem (s.facet n) a 32 = leBytes 8 d.src ++ leBytes 8 d.dst ++ leBytes 4 d.len ++ leBytes 4 d.tag ++ leBytes 8 d.completion ∧ (s.facet n).inside d.src d.len = true ∧ (s.facet n).inside d.dst d.len = true ∧ s.facetReg n 0x0B ≤ (s.facet n).dma.length) ∧
    (∃ (s : State) (n : _) (d : _) (l : _), s.memOk ∧ n < 256 ∧ s.domOn 2 = true ∧ s.domOn 11 = true ∧ (s.facet n).launched = true ∧ (s.facet n).dma = d :: l ∧ (s.facet n).units.Nodup ∧ (s.facet n).inside d.src d.len = true ∧ (s.facet n).inside d.dst d.len = true) ∧
    (∃ (s : State) (n : _) (q : _) (x : _) (a : _), s.memOk ∧ n < 256 ∧ q < 8 ∧ s.domOn 8 = true ∧ (s.facet n).launched = true ∧ s.power.framesStopped = false ∧ (s.facet n).queue q = x ∧ x.outstanding ≠ 0 ∧ (s.facet n).units.Nodup ∧ a = x.base + 16 * (x.txHead % x.entries) ∧ (s.facet n).inside a 16 = true) ∧
    (∃ (s : State) (nic : _) (vid : _) (tci : _) (data : _), nic < 2 ∧ vid < 4096 ∧ tci < 65536 ∧ s.domOn 8 = true ∧ s.matchQueue nic vid (beAt data 0 6) = none ∧ s.facets.steward.length < 1024) ∧
    (∃ (s : State) (nic : _) (vid : _) (tci : _) (data : _) (n : _) (q : _), nic < 2 ∧ vid < 4096 ∧ tci < 65536 ∧ s.domOn 8 = true ∧ s.matchQueue nic vid (beAt data 0 6) = some (n, q) ∧ ((s.facet n).live = false ∨ ((s.facet n).queue q).rxTail = ((s.facet n).queue q).rxHead)) ∧
    (∃ (s : State) (nic : _) (vid : _) (tci : _) (data : _) (n : _) (q : _) (x : _) (a : _) (b : _) (len : _), s.memOk ∧ nic < 2 ∧ vid < 4096 ∧ tci < 65536 ∧ s.domOn 8 = true ∧ s.matchQueue nic vid (beAt data 0 6) = some (n, q) ∧ (s.facet n).units.Nodup ∧ (s.facet n).live = true ∧ (s.facet n).queue q = x ∧ x.rxTail ≠ x.rxHead ∧ a = x.base + 16 * x.entries + 16 * (x.rxHead % x.entries) ∧ (s.facet n).inside a 16 = true ∧ guestRead s.mem (s.facet n) a 10 = leBytes 8 b ++ leBytes 2 len ∧ b < 2 ^ 64 ∧ len < 65536 ∧ (s.facet n).inside b len = true ∧ data.length ≤ len ∧ (b + len ≤ a ∨ a + 16 ≤ b)) := by
  refine ⟨?_, ?_, ?_, ?_, ?_, ?_, ?_⟩
  · exact ⟨dma (F 3), 3, 64, { src := 8, dst := 10, len := 4, tag := 77, completion := 0 }, by decide +kernel⟩
  · exact ⟨dma { F 3 with dma := [d1] }, 3, 64, { src := 8, dst := 10, len := 4, tag := 77, completion := 0 }, by decide +kernel⟩
  · exact ⟨dma { F 3 with dma := [d1] }, 3, { src := 8, dst := 10, len := 4, tag := 77, completion := 0 }, [], of_memOk (by decide +kernel), by decide +kernel⟩
  · exact ⟨nq (leBytes 8 64 ++ leBytes 2 60 ++ leBytes 2 0 ++ leBytes 4 1) (leBytes 8 500 ++ leBytes 2 100 ++ leBytes 6 0), 3, 0, { ring := 4100, txTail := 3, rxTail := 5, txHead := 1, rxHead := 4, taken := 2 }, 4112, of_memOk (by decide +kernel), by decide +kernel⟩
  · exact ⟨nq (leBytes 8 64 ++ leBytes 2 60 ++ leBytes 2 0 ++ leBytes 4 1) (leBytes 8 500 ++ leBytes 2 100 ++ leBytes 6 0), 0, 0, 0, ([0x40] ++ List.replicate 7 0x00 ++ [0x3c, 0x00, 0x00, 0x00, 0x01, 0x00, 0x00, 0x00]), by decide +kernel⟩
  · exact ⟨nq [] [] { q1 with rxTail := 4 }, 0, 0, 0, ([0xaa, 0xbb, 0xcc, 0xdd, 0xee, 0xff] ++ List.replicate 58 0x02), 3, 0, by decide +kernel⟩
  · exact ⟨nq (leBytes 8 64 ++ leBytes 2 60 ++ leBytes 2 0 ++ leBytes 4 1) (leBytes 8 500 ++ leBytes 2 100 ++ leBytes 6 0), 0, 0, 0, beBytes 6 0xAABBCCDDEEFF ++ List.replicate 58 (byteOf 2), 3, 0, q1, 4416, 500, 100, of_memOk (by decide +kernel), by decide +kernel⟩

end W09

namespace W10

def rg (l : List (Nat × Nat)) (b : List (Nat × ByteList)) (s : State) : State := { s with regs := mapPutAll (l.map fun p => (p.1, (p.2 : Int))) s.regs, blobs := mapPutAll b s.blobs }
def cfg (s : State := up) : State := rg [(ek 0x5003 5, 3), (ek 0x5003 6, 2), (ek 0x5003 8, 10), (ek 0x5003 9, 4), (ek 0x5003 0x0D, 64), (ek 0x5003 0x15, 1), (ek 0x7001 2, 3)] [] { s with time := { s.time with mono := 4321 } }
def F (n : Nat) : Facet := { Facet.none with state := n, units := [4, 6] }
def fc (x : Facet) (s : State := cfg) : State := { s with facets := { s.facets with facet := [(3, x)], stamp := 9 } }
def hdw (tag code len : Nat) : Nat := msgHeader tag code len 0
def mb (code : Nat) (p : List Nat) : Mailbox := { Mailbox.empty with outSlots := mapPutAll ((enumFrom' 0 (hdw 5 code p.length :: p)).map fun x => ((14 + x.2) % 16, x.1)) [], outProd := 14 + 1 + p.length, outCons := 14, inProd := 15, inCons := 13 }
def wr (l : List (Nat × ByteList)) (s : State) : State := { s with mem := l.foldl (fun m p => guestWrite m (s.facet 3) p.1 p.2) s.mem }
def ms (code : Nat) (p : List Nat) : State := fc { F 3 with mbox := mb code p }
def per (s : State) : State := { s with facets := { s.facets with facet := s.facets.facet.map fun p => (p.1, { p.2 with persist := memWriteList [] (guestBase + 4) [byteOf 5, byteOf 6, byteOf 7] }) } }
def hdrB : ByteList := [byteOf 0, byteOf 0] ++ beBytes 4 2 ++ beBytes 4 5 ++ beBytes 2 3 ++ [byteOf 0, byteOf 0] ++ beBytes 2 1 ++ beBytes 2 1 ++ beBytes 2 0 ++ List.replicate 44 (byteOf 0) ++ [byteOf 0, byteOf 0, byteOf 0, byteOf 5, byteOf 9, byteOf 8, byteOf 7, byteOf 6, byteOf 1, byteOf 2]
def cs (x : CapSlot) (s : State) : State := { s with capture := { s.capture with slots := [(1, x)] } }
def cdef : CapDef := cfg.capDef 1
def sr (o : Nat) : StoredRec := { id := 1, slot := 1, exported := false, record := CapRec.fresh { cdef with owner := o } }
def tk (st : Nat) : Task := { Task.free with state := st, flags := 5, mask := 4, priority := 2, affinity := 1 }
def tasks (l : List (Nat × Task)) (x : Facet := F 3) : State := { fc x with facets := { (fc x).facets with tasks := l } }

/-- States and operands that meet the hypotheses of MailboxMessages, clause by clause. -/
theorem witness_MailboxMessages :
    (∃ (s : State) (n : Nat) (p : _), MessageWaits s n 1 p (1 + p.length)) ∧
    (∃ (s : State) (n : Nat) (code : _) (p : _), MessageWaits s n code p 1 ∧ code ≠ 1 ∧ messageLength code = none) ∧
    (∃ (s : State) (n : Nat) (code : _) (p : _) (k : _), MessageWaits s n code p 1 ∧ code ≠ 1 ∧ messageLength code = some k ∧ p.length ≠ k) ∧
    (∃ (s : State) (n : Nat) (off : _) (len : _) (a : _), MessageWaits s n 0x0920 [off, len, a] 2) ∧
    (∃ (s : State) (n : Nat) (off : _) (len : _) (a : _), MessageWaits s n 0x0920 [off, len, a] 2 ∧ s.memOk ∧ (s.facet n).units.Nodup ∧ 1 ≤ len ∧ len ≤ 16777216 ∧ off + len ≤ s.persistSize n ∧ (s.facet n).inside a len = true) ∧
    (∃ (s : State) (n : Nat) (off : _) (len : _) (a : _), MessageWaits s n 0x0920 [off, len, a] 2 ∧ 1 ≤ len ∧ len ≤ 16777216 ∧ s.persistSize n < off + len) ∧
    (∃ (s : State) (n : Nat) (off : _) (len : _) (a : _), MessageWaits s n 0x0921 [off, len, a] 2) ∧
    (∃ (s : State) (n : Nat) (off : _) (len : _) (a : _), MessageWaits s n 0x0921 [off, len, a] 2 ∧ Memory.wf (s.facet n).persist = true ∧ 1 ≤ len ∧ len ≤ 16777216 ∧ off + len ≤ s.persistSize n ∧ (s.facet n).inside a len = true) ∧
    (∃ (s : State) (n : Nat), MessageWaits s n 0x0922 [] 2) := by
  refine ⟨?_, ?_, ?_, ?_, ?_, ?_, ?_, ?_, ?_⟩
  · exact ⟨ms 1 [], 3, [], of_messageWaits (by decide +kernel)⟩
  · exact ⟨ms 0x777 [1], 3, 1911, [1], of_messageWaits (by decide +kernel), by decide +kernel⟩
  · exact ⟨ms 0x0922 [1], 3, 2338, [1], 0, of_messageWaits (by decide +kernel), by decide +kernel⟩
  · exact ⟨per (ms 0x0920 [4, 3, 4]), 3, 4, 3, 4, of_messageWaits (by decide +kernel)⟩
  · exact ⟨per (ms 0x0920 [4, 3, 4]), 3, 4, 3, 4, of_messageWaits (by decide +kernel), of_memOk (by decide +kernel), by decide +kernel⟩
  · exact ⟨ms 0x0920 [1048576, 1, 0], 3, 1048576, 1, 0, of_messageWaits (by decide +kernel), by decide +kernel⟩
  · exact ⟨wr [(64, [byteOf 1, byteOf 2, byteOf 3, byteOf 4])] (ms 0x0921 [4, 4, 64]), 3, 4, 4, 64, of_messageWaits (by decide +kernel)⟩
  · exact ⟨wr [(64, [byteOf 1, byteOf 2, byteOf 3, byteOf 4])] (ms 0x0921 [4, 4, 64]), 3, 4, 4, 64, of_messageWaits (by decide +kernel), by decide +kernel⟩
  · exact ⟨ms 0x0922 [], 3, of_messageWaits (by decide +kernel)⟩

/-- States and operands that meet the hypotheses of CaptureMessages, clause by clause. -/
theorem witness_CaptureMessages :
    (∃ (s : State) (n : Nat) (r : _) (a : _) (vals : _), MessageWaits s n 0x0801 [r, a] 1 ∧ r < 32 ∧ vals = headerValues capHeaderFields (guestRead s.mem (s.facet n) a 64)) ∧
    (∃ (s : State) (n : Nat) (r : _) (a : _) (vals : _) (na : _) (nb : _) (nc : _), MessageWaits s n 0x0801 [r, a] 1 ∧ r < 32 ∧ vals = headerValues capHeaderFields (guestRead s.mem (s.facet n) a 64) ∧ (0x0A, na) ∈ vals ∧ (0x0B, nb) ∈ vals ∧ (0x0C, nc) ∈ vals ∧ s.capReg r 2 = n ∧ (s.slot r).state = 0 ∧ headerOk vals = true ∧ (s.facet n).inside a (64 + 8 * na + 4 * nb + 16 * nc + 16 * (na + nb)) = true) ∧
    (∃ (s : State) (n : Nat) (r : _) (a : _) (vals : _), MessageWaits s n 0x0801 [r, a] 1 ∧ r < 32 ∧ vals = headerValues capHeaderFields (guestRead s.mem (s.facet n) a 64) ∧ s.capReg r 2 ≠ n) ∧
    (∃ (s : State) (n : Nat) (r : _) (a : _) (vals : _), MessageWaits s n 0x0801 [r, a] 1 ∧ r < 32 ∧ vals = headerValues capHeaderFields (guestRead s.mem (s.facet n) a 64) ∧ s.capReg r 2 = n ∧ (s.slot r).state ≠ 0) ∧
    (∃ (s : State) (n : Nat) (r : _), MessageWaits s n 0x0802 [r] 1 ∧ r < 32 ∧ s.capReg r 2 = n) ∧
    (∃ (s : State) (n : Nat) (r : _), MessageWaits s n 0x0802 [r] 1 ∧ r < 32 ∧ s.capReg r 2 = n ∧ s.armCode r = 0 ∧ (s.slot r).state = 0) ∧
    (∃ (s : State) (n : Nat) (r : _), MessageWaits s n 0x0802 [r] 1 ∧ r < 32 ∧ s.capReg r 2 = n ∧ s.armCode r ≠ 0) ∧
    (∃ (s : State) (n : Nat) (r : _), MessageWaits s n 0x0803 [r] 1 ∧ r < 32 ∧ s.capReg r 2 = n ∧ ((s.slot r).state = 1 ∨ (s.slot r).state = 2)) ∧
    (∃ (s : State) (n : Nat) (r : _), MessageWaits s n 0x0804 [r] 1 ∧ r < 32 ∧ s.capReg r 2 = n) ∧
    (∃ (s : State) (n : Nat) (r : _), MessageWaits s n 0x0804 [r] 1 ∧ r < 32 ∧ s.capReg r 2 = n ∧ ((s.slot r).state = 1 ∨ (s.slot r).state = 2) ∧ s.capReg r 3 ≠ 1) ∧
    (∃ (s : State) (n : Nat) (r : _), MessageWaits s n 0x0804 [r] 1 ∧ r < 32 ∧ s.capReg r 2 = n ∧ ((s.slot r).state = 0 ∨ (s.slot r).state = 3 ∨ s.capReg r 3 = 1)) ∧
    (∃ (s : State) (n : Nat) (r : _), MessageWaits s n 0x0805 [r] 3 ∧ r < 32 ∧ s.capReg r 2 = n) ∧
    (∃ (s : State) (n : Nat) (id : _) (file : _) (off : _) (len : _) (a : _) (x : _), MessageWaits s n 0x0806 [id, file, off, len * 2 ^ 36 + a] 2 ∧ a < 2 ^ 36 ∧ s.stored id = some x) ∧
    (∃ (s : State) (n : Nat) (id : _) (file : _) (off : _) (len : _) (a : _) (x : _), MessageWaits s n 0x0806 [id, file, off, len * 2 ^ 36 + a] 2 ∧ s.memOk ∧ a < 2 ^ 36 ∧ s.stored id = some x ∧ (s.facet n).units.Nodup ∧ x.record.defn.owner = n ∧ file ≤ 2 ∧ 1 ≤ len ∧ len ≤ 16777216 ∧ (s.facet n).inside a len = true) ∧
    (∃ (s : State) (n : Nat) (id : _) (file : _) (off : _) (len : _) (a : _) (x : _), MessageWaits s n 0x0806 [id, file, off, len * 2 ^ 36 + a] 2 ∧ a < 2 ^ 36 ∧ s.stored id = some x ∧ x.record.defn.owner ≠ n) := by
  refine ⟨?_, ?_, ?_, ?_, ?_, ?_, ?_, ?_, ?_, ?_, ?_, ?_, ?_, ?_, ?_⟩
  · exact ⟨wr [(64, hdrB)] (ms 0x0801 [1, 64]), 3, 1, 64, [(3, 0), (4, 0), (5, 2), (6, 5), (7, 3), (8, 0), (9, 0), (10, 1), (11, 1), (12, 0)], of_messageWaits (by decide +kernel), by decide +kernel⟩
  · exact ⟨wr [(64, hdrB)] (ms 0x0801 [1, 64]), 3, 1, 64, [(3, 0), (4, 0), (5, 2), (6, 5), (7, 3), (8, 0), (9, 0), (10, 1), (11, 1), (12, 0)], 1, 1, 0, of_messageWaits (by decide +kernel), by decide +kernel⟩
  · exact ⟨ms 0x0801 [0, 64], 3, 0, 64, [(3, 0), (4, 0), (5, 0), (6, 0), (7, 0), (8, 0), (9, 0), (10, 0), (11, 0), (12, 0)], of_messageWaits (by decide +kernel), by decide +kernel⟩
  · exact ⟨cs { CapSlot.idle with state := 1 } (ms 0x0801 [1, 64]), 3, 1, 64, [(3, 0), (4, 0), (5, 0), (6, 0), (7, 0), (8, 0), (9, 0), (10, 0), (11, 0), (12, 0)], of_messageWaits (by decide +kernel), by decide +kernel⟩
  · exact ⟨ms 0x0802 [1], 3, 1, of_messageWaits (by decide +kernel), by decide +kernel⟩
  · exact ⟨ms 0x0802 [1], 3, 1, of_messageWaits (by decide +kernel), by decide +kernel⟩
  · exact ⟨rg [(ek 0x7001 0x0A, 5)] [] (ms 0x0802 [1]), 3, 1, of_messageWaits (by decide +kernel), by decide +kernel⟩
  · exact ⟨cs { CapSlot.idle with state := 1 } (ms 0x0803 [1]), 3, 1, of_messageWaits (by decide +kernel), by decide +kernel⟩
  · exact ⟨cs { CapSlot.idle with state := 1 } (ms 0x0804 [1]), 3, 1, of_messageWaits (by decide +kernel), by decide +kernel⟩
  · exact ⟨cs { CapSlot.idle with state := 1 } (ms 0x0804 [1]), 3, 1, of_messageWaits (by decide +kernel), by decide +kernel⟩
  · exact ⟨cs { CapSlot.idle with state := 3 } (ms 0x0804 [1]), 3, 1, of_messageWaits (by decide +kernel), by decide +kernel⟩
  · exact ⟨cs { CapSlot.idle with state := 1 } (ms 0x0805 [1]), 3, 1, of_messageWaits (by decide +kernel), by decide +kernel⟩
  · exact ⟨{ ms 0x0806 [1, 0, 0, 20 * 2^36 + 64] with capture := { (ms 0 []).capture with store := [sr 3] } }, 3, 1, 0, 0, 20, 64, { id := 1, slot := 1, exported := false, record := { defn := { owner := 3, mode := 0, k := 0, pre := 0, post := 1, alloc := 1, extend := false, station := [], analog := [], binary := [], conds := [], names := [] }, capacity := 61440, ivs := [], count := 0, primary := 65535, trigRow := 0, trigInst := 0, trigs := [], unlisted := 0, last := none, flags := 0 } }, of_messageWaits (by decide +kernel), by decide +kernel⟩
  · exact ⟨{ ms 0x0806 [1, 0, 0, 20 * 2^36 + 64] with capture := { (ms 0 []).capture with store := [sr 3] } }, 3, 1, 0, 0, 20, 64, { id := 1, slot := 1, exported := false, record := { defn := { owner := 3, mode := 0, k := 0, pre := 0, post := 1, alloc := 1, extend := false, station := [], analog := [], binary := [], conds := [], names := [] }, capacity := 61440, ivs := [], count := 0, primary := 65535, trigRow := 0, trigInst := 0, trigs := [], unlisted := 0, last := none, flags := 0 } }, of_messageWaits (by decide +kernel), of_memOk (by decide +kernel), by decide +kernel⟩
  · exact ⟨{ ms 0x0806 [1, 0, 0, 20 * 2^36 + 64] with capture := { (ms 0 []).capture with store := [sr 4] } }, 3, 1, 0, 0, 20, 64, { id := 1, slot := 1, exported := false, record := { defn := { owner := 4, mode := 0, k := 0, pre := 0, post := 1, alloc := 1, extend := false, station := [], analog := [], binary := [], conds := [], names := [] }, capacity := 61440, ivs := [], count := 0, primary := 65535, trigRow := 0, trigInst := 0, trigs := [], unlisted := 0, last := none, flags := 0 } }, of_messageWaits (by decide +kernel), by decide +kernel⟩

/-- States and operands that meet the hypotheses of TakingTasks, clause by clause. -/
theorem witness_TakingTasks :
    (∃ (s : State) (n : _) (core : _) (c : _) (i : Instr), n < 256 ∧ core < 64 ∧ s.guest n = true ∧ (s.coreMask n).testBit core = true ∧ c ∈ s.candidates n core ∧ (∀ d ∈ s.candidates n core, d = c ∨ Task.better c d = true) ∧ (i = .take n core ∨ ∃ irq, i = .takeWait n core irq)) ∧
    (∃ (s : State) (n : _) (core : _), n < 256 ∧ core < 64 ∧ s.guest n = true ∧ (s.coreMask n).testBit core = true ∧ s.candidates n core = []) ∧
    (∃ (s : State) (n : _) (core : _) (irq : _), n < 256 ∧ core < 64 ∧ s.guest n = true ∧ (s.coreMask n).testBit core = true ∧ s.candidates n core = [] ∧ (irq = true ∨ (s.facet n).irq.testBit core = true)) ∧
    (∃ (s : State) (n : _) (core : _), n < 256 ∧ core < 64 ∧ s.guest n = true ∧ (s.coreMask n).testBit core = true ∧ s.candidates n core = [] ∧ (s.facet n).irq.testBit core = false) ∧
    (∃ (s : State) (n : _) (core : _), n < 256 ∧ core < 64 ∧ s.guest n = true ∧ core ∈ (s.facet n).waiters ∧ (s.facet n).waitLimit ≠ 0) := by
  refine ⟨?_, ?_, ?_, ?_, ?_⟩
  · exact ⟨tasks [(10, tk 2), (11, { tk 2 with priority := 3 }), (12, { tk 2 with affinity := 2, priority := 7 })], 3, 0, (11, { state := 2, flags := 5, mask := 4, all := false, priority := 3, affinity := 1, stamp := 0, since := 0, core := 0, cancelPending := false }), (Instr.take 3 0), by decide +kernel⟩
  · exact ⟨fc (F 3), 3, 0, by decide +kernel⟩
  · exact ⟨fc (F 3), 3, 0, true, by decide +kernel⟩
  · exact ⟨fc (F 3), 3, 0, by decide +kernel⟩
  · exact ⟨fc { F 3 with waiters := [1], waitLimit := 9 }, 3, 1, by decide +kernel⟩

/-- States and operands that meet the hypotheses of TaskOperations, clause by clause. -/
theorem witness_TaskOperations :
    (∃ (s : State) (n : _) (v : _) (g : _) (k : _), OnTask s n v g k ∧ k.state = 0) ∧
    (∃ (s : State) (n : _) (v : _) (g : _) (k : _), OnTask s n v g k ∧ (s.facet n).waiters = [] ∧ k.state ≠ 0) ∧
    (∃ (s : State) (n : _) (v : _) (g : _) (k : _) (core : _) (k1 : _), OnTask s n v g k ∧ (s.facet n).waiters = [core] ∧ s.candidates n core = [] ∧ k.state = 1 ∧ (k.affinity = 0 ∨ k.affinity.testBit core = true) ∧ k1 = { k with flags := Nat.lor k.flags (v % 2 ^ 32) } ∧ k1.satisfied = true) ∧
    (∃ (s : State) (n : _) (v : _) (g : _) (k : _) (core : _) (k1 : _), OnTask s n v g k ∧ core < 64 ∧ (s.facet n).waiters = [] ∧ k.state = 3 ∧ k.core = core ∧ k1 = (if v.testBit 63 then k else { k with mask := v % 2 ^ 32, all := v.testBit 62 })) ∧
    (∃ (s : State) (n : _) (v : _) (g : _) (k : _), OnTask s n v g k ∧ (s.facet n).waiters = [] ∧ k.state = 0 ∧ s.affinityOk n = true) ∧
    (∃ (s : State) (n : _) (v : _) (g : _) (k : _), OnTask s n v g k ∧ (s.facet n).waiters = [] ∧ (k.state = 1 ∨ k.state = 2 ∨ k.state = 3)) ∧
    (∃ (s : State) (n : _) (v : _) (g : _) (k : _), OnTask s n v g k ∧ (s.facet n).waiters = [] ∧ k.state = 4) ∧
    (∃ (s : State) (n : _) (v : _) (g : _) (k : _), OnTask s n v g k ∧ (s.facet n).waiters = [] ∧ (k.state = 1 ∨ k.state = 2 ∨ k.state = 4)) ∧
    (∃ (s : State) (n : _) (v : _) (g : _) (k : _), OnTask s n v g k ∧ (s.facet n).waiters = [] ∧ k.state ≠ 0 ∧ s.affinityOk n = true) ∧
    (∃ (s : State) (n : _) (v : _), n < 256 ∧ v < 2 ^ 64 ∧ s.guest n = true ∧ s.facetReg n 9 ≤ opTask v) ∧
    (∃ (s : State) (n : _) (v : _) (i : Instr), n < 256 ∧ v < 2 ^ 64 ∧ s.guest n = true ∧ s.facetReg n 9 ≤ opTask v ∧ (i = .cancel n v ∨ i = .restart n v ∨ i = .delete n v ∨ (∃ core, core < 64 ∧ i = .done n core v) ∨ s.affinityOk n = true ∧ (i = .create n v ∨ i = .setPriorityAndAffinity n v))) ∧
    (∃ (s : State) (n : _) (i : Nat) (v : _), n < 256 ∧ i < 16 ∧ v < 2 ^ 64 ∧ s.guest n = true ∧ (v.testBit 63 = false ∨ s.sourceOk n (v % 256) = true ∧ bitsAt v 36 12 < s.facetReg n 9)) ∧
    (∃ (s : State) (n : _) (i : Nat) (v : _), n < 256 ∧ i < 16 ∧ v < 2 ^ 64 ∧ s.guest n = true ∧ v.testBit 63 = true ∧ (s.sourceOk n (v % 256) = false ∨ s.facetReg n 9 ≤ bitsAt v 36 12)) := by
  refine ⟨?_, ?_, ?_, ?_, ?_, ?_, ?_, ?_, ?_, ?_, ?_, ?_, ?_⟩
  · exact ⟨fc (F 3), 3, 4294967296, 11, { state := 0, flags := 0, mask := 0, all := false, priority := 0, affinity := 0, stamp := 0, since := 0, core := 0, cancelPending := false }, of_onTask (by decide +kernel), by decide +kernel⟩
  · exact ⟨tasks [(10, tk 2), (11, { tk 2 with priority := 3 }), (12, { tk 2 with affinity := 2, priority := 7 })], 3, 4294967296, 11, { state := 2, flags := 5, mask := 4, all := false, priority := 3, affinity := 1, stamp := 0, since := 0, core := 0, cancelPending := false }, of_onTask (by decide +kernel), by decide +kernel⟩
  · exact ⟨tasks [(11, { tk 1 with mask := 8 })] { F 3 with waiters := [0] }, 3, 4294967304, 11, { state := 1, flags := 5, mask := 8, all := false, priority := 2, affinity := 1, stamp := 0, since := 0, core := 0, cancelPending := false }, 0, { state := 1, flags := 13, mask := 8, all := false, priority := 2, affinity := 1, stamp := 0, since := 0, core := 0, cancelPending := false }, of_onTask (by decide +kernel), by decide +kernel⟩
  · exact ⟨tasks [(11, { tk 3 with core := 0 })], 3, 4294967296, 11, { state := 3, flags := 5, mask := 4, all := false, priority := 2, affinity := 1, stamp := 0, since := 0, core := 0, cancelPending := false }, 0, { state := 3, flags := 5, mask := 0, all := false, priority := 2, affinity := 1, stamp := 0, since := 0, core := 0, cancelPending := false }, of_onTask (by decide +kernel), by decide +kernel⟩
  · exact ⟨fc (F 3), 3, 4294967296, 11, { state := 0, flags := 0, mask := 0, all := false, priority := 0, affinity := 0, stamp := 0, since := 0, core := 0, cancelPending := false }, of_onTask (by decide +kernel), by decide +kernel⟩
  · exact ⟨tasks [(10, tk 2), (11, { tk 2 with priority := 3 }), (12, { tk 2 with affinity := 2, priority := 7 })], 3, 4294967296, 11, { state := 2, flags := 5, mask := 4, all := false, priority := 3, affinity := 1, stamp := 0, since := 0, core := 0, cancelPending := false }, of_onTask (by decide +kernel), by decide +kernel⟩
  · exact ⟨tasks [(11, tk 4)], 3, 4294967296, 11, { state := 4, flags := 5, mask := 4, all := false, priority := 2, affinity := 1, stamp := 0, since := 0, core := 0, cancelPending := false }, of_onTask (by decide +kernel), by decide +kernel⟩
  · exact ⟨tasks [(10, tk 2), (11, { tk 2 with priority := 3 }), (12, { tk 2 with affinity := 2, priority := 7 })], 3, 4294967296, 11, { state := 2, flags := 5, mask := 4, all := false, priority := 3, affinity := 1, stamp := 0, since := 0, core := 0, cancelPending := false }, of_onTask (by decide +kernel), by decide +kernel⟩
  · exact ⟨tasks [(10, tk 2), (11, { tk 2 with priority := 3 }), (12, { tk 2 with affinity := 2, priority := 7 })], 3, 4294967296, 11, { state := 2, flags := 5, mask := 4, all := false, priority := 3, affinity := 1, stamp := 0, since := 0, core := 0, cancelPending := false }, of_onTask (by decide +kernel), by decide +kernel⟩
  · exact ⟨fc (F 3), 3, 17179869184, by decide +kernel⟩
  · exact ⟨fc (F 3), 3, 17179869184, (Instr.cancel 3 17179869184), by decide +kernel⟩
  · exact ⟨fc (F 3), 3, 0, 0, by decide +kernel⟩
  · exact ⟨fc (F 3), 3, 0, 9223372311732682752, by decide +kernel⟩

end W10

namespace W10r

def rg (l : List (Nat × Nat)) (b : List (Nat × ByteList)) (s : State) : State := { s with regs := mapPutAll (l.map fun p => (p.1, (p.2 : Int))) s.regs, blobs := mapPutAll b s.blobs }
def cfg (s : State := up) : State := rg [(ek 0x5003 5, 3), (ek 0x5003 6, 2), (ek 0x5003 8, 10), (ek 0x5003 9, 4), (ek 0x5003 0x0D, 64), (ek 0x5003 0x15, 1), (ek 0x7001 2, 3)] [] { s with time := { s.time with mono := 4321 } }
def cs (x : CapSlot) (s : State := cfg) : State := { s with capture := { s.capture with slots := [(1, x)] } }
def cdef : CapDef := cfg.capDef 1
def R0 : CapRec := CapRec.fresh { cdef with k := 0, mode := 0, pre := 2, post := 5 }
def iv (n : Nat) : Interval := { row := n, inst := n, vals := [], valid := [], bins := 0, disc := false, oos := false }
def row1 : Row := { num := 12, inst := 5000, tick := 5, deadline := 1000000, disc := false, oos := false, cfg := [], delivered := [], off := [], freqs := [] }
def bat (s : State) : State := { s with phasor := { s.phasor with row := some row1, posted := true } }
def rdy (s : State) : State := { s with capture := { s.capture with ready := true, row := some row1 } }
def sr : StoredRec := { id := 1, slot := 1, exported := false, record := R0 }
def sto (s : State) : State := { rg [(ek 0x7000 0x85, 1)] [] s with capture := { s.capture with store := [sr, { sr with id := 2, exported := true }] } }
def cont : State := rdy (cs { CapSlot.idle with state := 2, startAt := some 4000, data := some { R0 with last := some 8, count := 4, capacity := 20, ivs := [iv 3], defn := { R0.defn with mode := 1 } } })

/-- States and operands that meet the hypotheses of Records, clause by clause. -/
theorem witness_Records :
    (∃ (s : State) (r : _), Accepted s rowReq (ek (0x7000 + r) 1) (.int 1) ∧ r < 32 ∧ (s.slot r).state = 0) ∧
    (∃ (s : State) (r : _), Accepted s rowReq (ek (0x7000 + r) 1) (.int 0) ∧ r < 32 ∧ ((s.slot r).state = 1 ∨ (s.slot r).state = 2)) ∧
    (∃ (s : State) (r : _), Accepted s rowReq (ek (0x7000 + r) 0x14) (.int 1) ∧ r < 32 ∧ (((s.slot r).state = 1 ∨ (s.slot r).state = 2) ∧ s.capReg r 3 ≠ 1)) ∧
    (∃ (s : State) (r : _), Accepted s rowReq (ek (0x7000 + r) 0x14) (.int 1) ∧ r < 32 ∧ ((s.slot r).state = 0 ∨ (s.slot r).state = 3 ∨ s.capReg r 3 = 1)) ∧
    (∃ (s : State) (r : _) (d : _), r < 32 ∧ s.stewardUp = true ∧ (s.slot r).state = 3 ∧ (s.slot r).data = some d ∧ d.bytes ≤ s.storeFree) ∧
    (∃ (s : State) (r : _), r < 32 ∧ s.stewardUp = true ∧ (s.slot r).rearm = true ∧ (s.slot r).state = 0 ∧ s.armCode r = 0) ∧
    (∃ (s : State) (r : _), r < 32 ∧ s.stewardUp = true ∧ (s.slot r).rearm = true ∧ (s.slot r).state = 0 ∧ s.armCode r ≠ 0) ∧
    (∃ (s : State) (x : _), Accepted s rowReq (ek 0x7000 0x89) (.int 1) ∧ s.stored (s.regN 0x7000 0x85) = some x) ∧
    (∃ (s : State), Accepted s rowReq (ek 0x7000 0x89) (.int 1) ∧ s.stored (s.regN 0x7000 0x85) = none) ∧
    (∃ (s : State), Accepted s rowReq (ek 0x7000 0x89) (.int 2) ∧ s.uploading = false) ∧
    (∃ (s : State) (row : _), s.domOn 11 = true ∧ s.capture.row = none ∧ s.phasor.row = some row ∧ s.phasor.posted = true) ∧
    (∃ (s : State) (row : _), s.domOn 11 = true ∧ s.capture.ready = true ∧ s.capture.row = some row) := by
  refine ⟨?_, ?_, ?_, ?_, ?_, ?_, ?_, ?_, ?_, ?_, ?_, ?_⟩
  · exact ⟨cfg, 0, of_accepted (by decide +kernel), by decide +kernel⟩
  · exact ⟨cs { CapSlot.idle with state := 1, data := some R0 }, 1, of_accepted (by decide +kernel), by decide +kernel⟩
  · exact ⟨cs { CapSlot.idle with state := 1, data := some R0 }, 1, of_accepted (by decide +kernel), by decide +kernel⟩
  · exact ⟨cfg, 0, of_accepted (by decide +kernel), by decide +kernel⟩
  · exact ⟨cs { CapSlot.idle with state := 3, data := some { R0 with count := 3 } }, 1, { defn := { owner := 3, mode := 0, k := 0, pre := 2, post := 5, alloc := 1, extend := false, station := [], analog := [], binary := [], conds := [], names := [] }, capacity := 61440, ivs := [], count := 3, primary := 65535, trigRow := 0, trigInst := 0, trigs := [], unlisted := 0, last := none, flags := 0 }, by decide +kernel⟩
  · exact ⟨cs { CapSlot.idle with rearm := true }, 1, by decide +kernel⟩
  · exact ⟨rg [(ek 0x7001 0x0A, 3)] [] (cs { CapSlot.idle with rearm := true }), 1, by decide +kernel⟩
  · exact ⟨sto cfg, { id := 1, slot := 1, exported := false, record := { defn := { owner := 3, mode := 0, k := 0, pre := 2, post := 5, alloc := 1, extend := false, station := [], analog := [], binary := [], conds := [], names := [] }, capacity := 61440, ivs := [], count := 0, primary := 65535, trigRow := 0, trigInst := 0, trigs := [], unlisted := 0, last := none, flags := 0 } }, of_accepted (by decide +kernel), by decide +kernel⟩
  · exact ⟨cfg, of_accepted (by decide +kernel), by decide +kernel⟩
  · exact ⟨cfg, of_accepted (by decide +kernel), by decide +kernel⟩
  · exact ⟨bat (cs { CapSlot.idle with state := 1, data := some { R0 with defn := { R0.defn with analog := [5] } } }), { num := 12, inst := 5000, tick := 5, deadline := 1000000, disc := false, oos := false, cfg := [], delivered := [], off := [], freqs := [] }, by decide +kernel⟩
  · exact ⟨cont, { num := 12, inst := 5000, tick := 5, deadline := 1000000, disc := false, oos := false, cfg := [], delivered := [], off := [], freqs := [] }, by decide +kernel⟩

end W10r

namespace W11

def pa (f : Pair → Pair) (s : State) : State := { s with pair := f s.pair }
def key (s : State) : State := { s with sec := { s.sec with epoch := 5, mirrorKey := List.replicate 32 (byteOf 3), partnerState := 1, bound := List.replicate 32 (byteOf 9) }, time := { s.time with mono := 9000000, sec := 20 } }
def L : State := key (pa (fun p => { p with partnerRole := 2, fit := true, trained := true, lane0 := true, lane1 := true, partnerAt := some 8999000 }) up)
def A : State := key (pa (fun p => { p with fit := true, trained := true, lane0 := true, lane1 := true, partnerAt := some 8999000, partnerRole := 1 }) shade)
def D (e : Nat) : State := pa (fun p => { p with role := 3, elig := e, partnerRole := 1 }) A
def b0 : Blink := { (default : Blink) with authentic := true, major := 1, seq := 8, epoch := 5, role := 1, arrival := 9000500 , fingerprint := A.access.fingerprint, overlayDigest := overlayDigest [] }

/-- States and operands that meet the hypotheses of Blinks, clause by clause. -/
theorem witness_Blinks :
    (∃ (s : State) (a : UnitBits), a.processors.length = 16 ∧ s.engineUp = true) ∧
    (∃ (s : State), s.fitNow = true) ∧
    (∃ (s : State), s.stewardUp = true ∧ 7 ≤ s.boot.phase ∧ s.domOn 8 = true) ∧
    (∃ (s : State) (b : Blink), s.running = true ∧ s.boot.swapThenReset = false ∧ b.epoch ≠ 0 ∧ b.authentic = false ∧ s.pair.missed < 2) ∧
    (∃ (s : State) (b : Blink), s.running = true ∧ s.boot.swapThenReset = false ∧ (b.epoch = 0 ∨ b.authentic = true ∧ s.epochKnown b.epoch = true) ∧ s.seqFresh 1 b.epoch b.seq = false) ∧
    (∃ (s : State) (b : Blink), s.running = true ∧ s.boot.swapThenReset = false ∧ (b.epoch = 0 ∨ b.authentic = true ∧ s.epochKnown b.epoch = true) ∧ s.seqFresh 1 b.epoch b.seq = true ∧ b.epoch = 0 ∧ s.sec.epoch ≠ 0 ∧ s.pair.missed < 2 ∧ s.power.peerPresentN = false) ∧
    (∃ (s : State) (b : Blink), s.running = true ∧ s.boot.swapThenReset = false ∧ (b.epoch = 0 ∨ b.authentic = true ∧ s.epochKnown b.epoch = true) ∧ s.seqFresh 1 b.epoch b.seq = true ∧ (b.epoch ≠ 0 ∨ s.sec.epoch = 0)) ∧
    (∃ (s : State) (b : Blink) (lines : _), s.running = true ∧ s.boot.swapThenReset = false ∧ (b.epoch = 0 ∨ b.authentic = true ∧ s.epochKnown b.epoch = true) ∧ s.seqFresh 1 b.epoch b.seq = true ∧ (b.epoch ≠ 0 ∨ s.sec.epoch = 0) ∧ b.release = true ∧ b.handBack = false ∧ b.role = 1 ∧ b.epoch ≠ 0 ∧ s.pair.role = 2 ∧ s.pair.elig = 0 ∧ s.sec.provisioned = true ∧ s.health.fault = false ∧ s.pair.takeoverFault = false ∧ s.pair.setFault = false ∧ s.pair.contradict0 < 2 ∧ s.pair.contradict1 < 2 ∧ b.major = 1 ∧ b.fingerprint = s.access.fingerprint ∧ b.overlayDigest = overlayDigest s.access.overlay ∧ b.forwardCount ≤ s.access.applied ∧ linesOwner lines = false ∧ (linesRequest lines = false ∨ s.slotA = true)) ∧
    (∃ (s : State) (b : Blink), s.running = true ∧ s.boot.swapThenReset = false ∧ (b.epoch = 0 ∨ b.authentic = true ∧ s.epochKnown b.epoch = true) ∧ s.seqFresh 1 b.epoch b.seq = true ∧ (b.epoch ≠ 0 ∨ s.sec.epoch = 0) ∧ b.release = false ∧ b.role = 1 ∧ s.pair.role = 1 ∧ s.pair.req = false) ∧
    (∃ (s : State) (b : Blink), s.running = true ∧ (b.epoch = 0 ∨ b.authentic = true ∧ s.epochKnown b.epoch = true) ∧ s.seqFresh 7 b.epoch b.seq = true ∧ (s.lit = false ∨ b.role ≠ 1)) ∧
    (∃ (s : State) (b : Blink), s.running = true ∧ (b.epoch = 0 ∨ b.authentic = true ∧ s.epochKnown b.epoch = true) ∧ s.seqFresh 7 b.epoch b.seq = true ∧ s.lit = true ∧ b.role = 1) ∧
    (∃ (s : State), s.running = true) := by
  refine ⟨?_, ?_, ?_, ?_, ?_, ?_, ?_, ?_, ?_, ?_, ?_, ?_⟩
  · exact ⟨L, { lens := true, phasor := true, summation := false, lanes := true, goose := true, processors := [true, true, true, true, true, true, true, true, true, true, true, true, true, true, true, true] }, by decide +kernel⟩
  · exact ⟨L, by decide +kernel⟩
  · exact ⟨L, by decide +kernel⟩
  · exact ⟨L, { authentic := false, major := 1, minor := 0, seq := 8, time := 0, epoch := 5, release := false, handBack := false, slot := 0, role := 1, linesDriven := 0, linesRead := 0, health := 0, eligibility := 0, firmware := 0, lanes := 0, fingerprint := [], overlayDigest := (List.replicate 32 0x00), newestTickMirror := 0, servo := 0, utcOffset := 0, freqCorr := 0, gmIdentity := 0, newestSealed := 0, forwardCount := 0, pendingJump := 0, accepts := false, arrival := 9000500 }, by decide +kernel⟩
  · exact ⟨pa (fun p => { p with lastSeq := [(41, 8), (47, 8)] }) A, { authentic := true, major := 1, minor := 0, seq := 8, time := 0, epoch := 5, release := false, handBack := false, slot := 0, role := 1, linesDriven := 0, linesRead := 0, health := 0, eligibility := 0, firmware := 0, lanes := 0, fingerprint := [], overlayDigest := (List.replicate 32 0x00), newestTickMirror := 0, servo := 0, utcOffset := 0, freqCorr := 0, gmIdentity := 0, newestSealed := 0, forwardCount := 0, pendingJump := 0, accepts := false, arrival := 9000500 }, by decide +kernel⟩
  · exact ⟨{ A with power := { A.power with peerPresentN := false } }, { authentic := true, major := 1, minor := 0, seq := 9, time := 0, epoch := 0, release := false, handBack := false, slot := 0, role := 1, linesDriven := 0, linesRead := 0, health := 0, eligibility := 0, firmware := 0, lanes := 0, fingerprint := [], overlayDigest := (List.replicate 32 0x00), newestTickMirror := 0, servo := 0, utcOffset := 0, freqCorr := 0, gmIdentity := 0, newestSealed := 0, forwardCount := 0, pendingJump := 0, accepts := false, arrival := 9000500 }, by decide +kernel⟩
  · exact ⟨L, { authentic := true, major := 1, minor := 0, seq := 8, time := 0, epoch := 5, release := false, handBack := false, slot := 0, role := 1, linesDriven := 0, linesRead := 0, health := 0, eligibility := 0, firmware := 0, lanes := 0, fingerprint := [], overlayDigest := (List.replicate 32 0x00), newestTickMirror := 0, servo := 0, utcOffset := 0, freqCorr := 0, gmIdentity := 0, newestSealed := 0, forwardCount := 0, pendingJump := 0, accepts := false, arrival := 9000500 }, by decide +kernel⟩
  · exact ⟨pa (fun p => { p with lastSeq := [(41, 8), (47, 8)] }) A, { authentic := true, major := 1, minor := 0, seq := 9, time := 0, epoch := 5, release := true, handBack := false, slot := 0, role := 1, linesDriven := 0, linesRead := 0, health := 0, eligibility := 0, firmware := 0, lanes := 0, fingerprint := [], overlayDigest := (List.replicate 32 0x00), newestTickMirror := 0, servo := 0, utcOffset := 0, freqCorr := 0, gmIdentity := 0, newestSealed := 0, forwardCount := 0, pendingJump := 0, accepts := false, arrival := 9000500 }, { own0 := false, own1 := false, req0 := false, req1 := false }, by decide +kernel⟩
  · exact ⟨L, { authentic := true, major := 1, minor := 0, seq := 8, time := 0, epoch := 5, release := false, handBack := false, slot := 0, role := 1, linesDriven := 0, linesRead := 0, health := 0, eligibility := 0, firmware := 0, lanes := 0, fingerprint := [], overlayDigest := (List.replicate 32 0x00), newestTickMirror := 0, servo := 0, utcOffset := 0, freqCorr := 0, gmIdentity := 0, newestSealed := 0, forwardCount := 0, pendingJump := 0, accepts := false, arrival := 9000500 }, by decide +kernel⟩
  · exact ⟨L, { authentic := true, major := 1, minor := 0, seq := 7, time := 0, epoch := 5, release := false, handBack := false, slot := 0, role := 2, linesDriven := 0, linesRead := 0, health := 0, eligibility := 0, firmware := 0, lanes := 0, fingerprint := [], overlayDigest := (List.replicate 32 0x00), newestTickMirror := 0, servo := 0, utcOffset := 0, freqCorr := 0, gmIdentity := 0, newestSealed := 0, forwardCount := 0, pendingJump := 0, accepts := false, arrival := 9000500 }, by decide +kernel⟩
  · exact ⟨L, { authentic := true, major := 1, minor := 0, seq := 8, time := 0, epoch := 5, release := false, handBack := false, slot := 0, role := 1, linesDriven := 0, linesRead := 0, health := 0, eligibility := 0, firmware := 0, lanes := 0, fingerprint := [], overlayDigest := (List.replicate 32 0x00), newestTickMirror := 0, servo := 0, utcOffset := 0, freqCorr := 0, gmIdentity := 0, newestSealed := 0, forwardCount := 0, pendingJump := 0, accepts := false, arrival := 9000500 }, by decide +kernel⟩
  · exact ⟨L, by decide +kernel⟩

/-- States and operands that meet the hypotheses of Ownership, clause by clause. -/
theorem witness_Ownership :
    (∃ (s : State) (a : _), s.running = true ∧ s.pair.partnerAt = some a ∧ s.pair.missed < 2) ∧
    (∃ (s : State) (lines : _) (a : _), s.running = true ∧ s.pair.partnerAt = some a ∧ s.pair.missed = 2 ∧ s.pair.role = 2 ∧ s.sec.provisioned = true ∧ s.pair.takeoverFault = false ∧ linesOwner lines = false ∧ (linesRequest lines = false ∨ s.slotA = true)) ∧
    (∃ (s : State) (lines : _) (a : _), s.running = true ∧ s.pair.partnerAt = some a ∧ s.pair.missed = 2 ∧ (s.pair.role = 2 ∨ s.pair.role = 3) ∧ linesOwner lines = true) ∧
    (∃ (s : State), s.domOn 1 = true) ∧
    (∃ (s : State), s.domOn 1 = true ∧ s.pair.role ≠ 2) ∧
    (∃ (s : State) (lines : _), s.domOn 1 = true ∧ s.pair.role = 2 ∧ s.sec.provisioned = true ∧ s.pair.takeoverFault = false ∧ linesOwner lines = false ∧ (linesRequest lines = false ∨ s.slotA = true)) ∧
    (∃ (s : State) (k : _), k < 2 ∧ s.running = true ∧ s.pair.setFault = false) ∧
    (∃ (s : State), s.domOn 1 = true ∧ s.pair.own = true) ∧
    (∃ (s : State), s.domOn 1 = true ∧ s.pair.switchesDue = true) ∧
    (∃ (s : State), s.domOn 8 = true ∧ s.pair.fenceDue = true) := by
  refine ⟨?_, ?_, ?_, ?_, ?_, ?_, ?_, ?_, ?_, ?_⟩
  · exact ⟨A, 8999000, by decide +kernel⟩
  · exact ⟨pa (fun p => { p with missed := 2 }) A, default, 8999000, by decide +kernel⟩
  · exact ⟨pa (fun p => { p with missed := 2 }) A, { own0 := true, own1 := false, req0 := false, req1 := false }, 8999000, by decide +kernel⟩
  · exact ⟨A, by decide +kernel⟩
  · exact ⟨L, by decide +kernel⟩
  · exact ⟨A, { own0 := false, own1 := false, req0 := false, req1 := false }, by decide +kernel⟩
  · exact ⟨A, 0, by decide +kernel⟩
  · exact ⟨L, by decide +kernel⟩
  · exact ⟨pa (fun p => { p with switchesDue := true, fenceDue := true }) L, by decide +kernel⟩
  · exact ⟨pa (fun p => { p with switchesDue := true, fenceDue := true }) L, by decide +kernel⟩

/-- States and operands that meet the hypotheses of MirrorLink, clause by clause. -/
theorem witness_MirrorLink :
    (∃ (s : State) (l0 : _) (l1 : _), s.stewardUp = true ∧ l0 = false ∧ l1 = false) ∧
    (∃ (s : State) (l0 : _) (l1 : _), s.stewardUp = true ∧ (l0 = true ∨ l1 = true) ∧ s.pair.lane0 = false ∧ s.pair.lane1 = false) ∧
    (∃ (s : State) (l0 : _) (l1 : _), s.stewardUp = true ∧ s.pair.lane = 0 ∧ s.pair.lane0 = true ∧ l0 = false ∧ l1 = true) ∧
    (∃ (s : State), s.running = true) ∧
    (∃ (s : State) (lane : _), lane < 2 ∧ s.running = true) ∧
    (∃ (s : State) (num : _) (inst : _), s.running = true ∧ s.mirrorTo = true ∧ s.lens.newest = some (num, inst)) ∧
    (∃ (s : State), s.running = true ∧ s.mirrorTo = true) ∧
    (∃ (s : State), s.running = true ∧ s.mirrorTo = true) ∧
    (∃ (s : State) (m : MirrorMsg), s.running = true ∧ m.authentic = false) ∧
    (∃ (s : State) (m : MirrorMsg), s.running = true ∧ m.authentic = true ∧ s.epochKnown m.epoch = true ∧ s.seqFresh m.kind m.epoch m.seq = false) ∧
    (∃ (s : State) (m : MirrorMsg), s.running = true ∧ m.authentic = true ∧ s.epochKnown m.epoch = true ∧ s.seqFresh m.kind m.epoch m.seq = true ∧ s.mirrorFrom = false) ∧
    (∃ (s : State) (m : _), MirrorTaken s m ∧ s.mirrorFrom = true) ∧
    (∃ (s : State) (m : _), MirrorTaken s m ∧ s.mirrorFrom = true ∧ s.pair.role = 3 ∧ s.eligNow = 16) ∧
    (∃ (s : State) (m : OverlayMsg), s.running = true ∧ m.tag.authentic = false) ∧
    (∃ (s : State) (m : OverlayMsg) (key : _) (i : _), TagTaken s 3 m.tag ∧ s.running = true ∧ (s.pair.role = 2 ∨ s.pair.role = 3) ∧ s.pair.elig.testBit 5 = true ∧ m.full = true ∧ m.entries = [(key, .int i)] ∧ 0x400000 ≤ key ∧ key < 0x470000 ∧ s.access.overlay = [] ∧ s.pair.partner = none) := by
  refine ⟨?_, ?_, ?_, ?_, ?_, ?_, ?_, ?_, ?_, ?_, ?_, ?_, ?_, ?_, ?_⟩
  · exact ⟨A, false, false, by decide +kernel⟩
  · exact ⟨pa (fun p => { p with lane0 := false, lane1 := false, trained := false }) A, false, true, by decide +kernel⟩
  · exact ⟨A, false, true, by decide +kernel⟩
  · exact ⟨A, by decide +kernel⟩
  · exact ⟨A, 0, by decide +kernel⟩
  · exact ⟨{ L with lens := { L.lens with newest := some (12, 5000) } }, 12, 5000, by decide +kernel⟩
  · exact ⟨L, by decide +kernel⟩
  · exact ⟨L, by decide +kernel⟩
  · exact ⟨A, { authentic := false, kind := 2, epoch := 5, seq := 4, unit := 4, instant := 777, handover := false, pubs := [{ pub := 3, stNum := 7, sqNum := 8, values := [], t := 5, k := 2 }], progs := [], facets := [], forwardCount := 0 }, by decide +kernel⟩
  · exact ⟨pa (fun p => { p with lastSeq := [(42, 8)] }) A, { authentic := true, kind := 2, epoch := 5, seq := 4, unit := 4, instant := 777, handover := false, pubs := [{ pub := 3, stNum := 7, sqNum := 8, values := [], t := 5, k := 2 }], progs := [], facets := [], forwardCount := 0 }, by decide +kernel⟩
  · exact ⟨L, { authentic := true, kind := 2, epoch := 5, seq := 4, unit := 4, instant := 777, handover := false, pubs := [{ pub := 3, stNum := 7, sqNum := 8, values := [], t := 5, k := 2 }], progs := [], facets := [], forwardCount := 0 }, by decide +kernel⟩
  · exact ⟨A, { authentic := true, kind := 2, epoch := 5, seq := 4, unit := 4, instant := 777, handover := false, pubs := [{ pub := 3, stNum := 7, sqNum := 8, values := [], t := 5, k := 2 }], progs := [], facets := [], forwardCount := 0 }, of_mirrorTaken (by decide +kernel), by decide +kernel⟩
  · exact ⟨D 16, { authentic := true, kind := 2, epoch := 5, seq := 4, unit := 4, instant := 777, handover := false, pubs := [{ pub := 3, stNum := 7, sqNum := 8, values := [], t := 5, k := 2 }], progs := [], facets := [], forwardCount := 0 }, of_mirrorTaken (by decide +kernel), by decide +kernel⟩
  · exact ⟨A, { tag := { authentic := false, epoch := 5, seq := 6 }, full := true, forwardCount := 6, entries := [] }, by decide +kernel⟩
  · exact ⟨D 32, { tag := { authentic := true, epoch := 5, seq := 6 }, full := true, forwardCount := 6, entries := [(4195075, Val.int 5)] }, 4195075, 5, of_tagTaken (by decide +kernel), by decide +kernel⟩

/-- States and operands that meet the hypotheses of TakeoverAndSwap, clause by clause. -/
theorem witness_TakeoverAndSwap :
    (∃ (s : State), s.running = true ∧ s.lit = true ∧ s.pair.checking = true ∧ s.power.oselFb = false ∧ (s.flag 0x8001 5 = false ∨ s.predecessorFit = false)) ∧
    (∃ (s : State), s.running = true ∧ s.lit = true ∧ s.pair.checking = true ∧ s.power.oselFb = false ∧ s.flag 0x8001 5 = true ∧ s.predecessorFit = true) ∧
    (∃ (s : State), Accepted s rowReq (ek 0x8002 1) (.int 1) ∧ s.swapCode = 0) ∧
    (∃ (s : State), Accepted s rowReq (ek 0x8002 1) (.int 1) ∧ s.lit = false) ∧
    (∃ (s : State) (tag : MirrorTag) (u : _), TagTaken s 5 tag ∧ u < 2 ^ 32 ∧ s.running = true ∧ s.lit = true ∧ s.pair.swapArmed = true ∧ s.pair.handover = some u) ∧
    (∃ (s : State) (tag : MirrorTag) (u : _), u < 2 ^ 32 ∧ s.running = true ∧ tag.authentic = false) ∧
    (∃ (s : State), s.running = true ∧ s.lit = true ∧ s.pair.swapArmed = true) ∧
    (∃ (s : State), Accepted s rowReq (ek 0x8002 2) (.int 1) ∧ s.pair.takeoverFault = true) ∧
    (∃ (s : State), Accepted s rowReq (ek 0x8002 3) (.int 1) ∧ s.pair.safeHold.isSome = true) ∧
    (∃ (s : State) (lines : _), Accepted (s.readLines lines) rowReq (ek 0x8002 4) (.int 1) ∧ s.pair.role = 3 ∧ s.pair.partnerRole = 4 ∧ s.sec.provisioned = true ∧ s.pair.takeoverFault = false ∧ linesOwner lines = false ∧ (linesRequest lines = false ∨ s.slotA = true)) ∧
    (∃ (s : State) (lines : _), Accepted (s.readLines lines) rowReq (ek 0x8002 4) (.int 1) ∧ s.pair.role = 3 ∧ (s.pair.partnerRole ≠ 4 ∨ linesOwner lines = true)) ∧
    (∃ (s : State), Accepted s rowReq (ek 0x8002 5) (.int 1) ∧ s.lit = true) ∧
    (∃ (s : State), Accepted s rowReq (ek 0x8002 5) (.int 1) ∧ s.lit = false) ∧
    (∃ (s : State), Accepted s rowReq (ek 0x8000 0x0D) (.int 1)) := by
  refine ⟨?_, ?_, ?_, ?_, ?_, ?_, ?_, ?_, ?_, ?_, ?_, ?_, ?_, ?_⟩
  · exact ⟨pa (fun p => { p with checking := true }) { L with power := { L.power with oselFb := false } }, by decide +kernel⟩
  · exact ⟨{ pa (fun p => { p with checking := true, predecessor := true, partner := some b0, partnerAt := some 9000000 }) { L with power := { L.power with oselFb := false } } with regs := [(ek 0x8001 5, 1)] }, by decide +kernel⟩
  · exact ⟨pa (fun p => { p with checking := true }) { L with power := { L.power with oselFb := false } }, of_accepted (by decide +kernel), by decide +kernel⟩
  · exact ⟨A, of_accepted (by decide +kernel), by decide +kernel⟩
  · exact ⟨pa (fun p => { p with swapArmed := true, handover := some 3 }) L, { authentic := true, epoch := 5, seq := 6 }, 3, of_tagTaken (by decide +kernel), by decide +kernel⟩
  · exact ⟨pa (fun p => { p with checking := true }) { L with power := { L.power with oselFb := false } }, { authentic := false, epoch := 5, seq := 6 }, 0, by decide +kernel⟩
  · exact ⟨pa (fun p => { p with swapArmed := true, handover := some 3 }) L, by decide +kernel⟩
  · exact ⟨pa (fun p => { p with takeoverFault := true, elig := 0 }) L, of_accepted (by decide +kernel), by decide +kernel⟩
  · exact ⟨pa (fun p => { p with safeHold := some L.images }) L, of_accepted (by decide +kernel), by decide +kernel⟩
  · exact ⟨pa (fun p => { p with partnerRole := 4 }) (D 16), { own0 := false, own1 := false, req0 := false, req1 := false }, of_accepted (by decide +kernel), by decide +kernel⟩
  · exact ⟨pa (fun p => { p with partnerRole := 4 }) (D 16), { own0 := true, own1 := false, req0 := false, req1 := false }, of_accepted (by decide +kernel), by decide +kernel⟩
  · exact ⟨pa (fun p => { p with checking := true }) { L with power := { L.power with oselFb := false } }, of_accepted (by decide +kernel), by decide +kernel⟩
  · exact ⟨A, of_accepted (by decide +kernel), by decide +kernel⟩
  · exact ⟨pa (fun p => { p with checking := true }) { L with power := { L.power with oselFb := false } }, of_accepted (by decide +kernel)⟩

/-- States and operands that meet the hypotheses of PairReports, clause by clause. -/
theorem witness_PairReports :
    (∃ (s : State), s.running = true ∧ s.pair.trained = true) ∧
    (∃ (s : State) (tag : MirrorTag), TagTaken s 4 tag ∧ s.running = true) ∧
    (∃ (s : State) (tag : MirrorTag), s.running = true ∧ tag.epoch = 0 ∧ s.seqFresh 4 0 tag.seq = true) ∧
    (∃ (s : State) (tag : MirrorTag), s.running = true ∧ tag.epoch ≠ 0 ∧ tag.authentic = false) ∧
    (∃ (s : State), s.stewardUp = true) ∧
    (∃ (s : State) (data : ByteList) (key : ByteList), data.length = 5652 ∧ key = bytesAt data 52 60 ∧ s.running = true ∧ s.sec.nonce = some (bytesAt data 20 32) ∧ s.sec.bound ≠ zero32 ∧ s.sec.bound = sha256 key ∧ leAt data 6 1 = (if s.power.slotB then 0 else 1)) ∧
    (∃ (s : State) (data : ByteList) (key : ByteList), data.length = 5652 ∧ key = bytesAt data 52 60 ∧ s.running = true ∧ (s.sec.nonce ≠ some (bytesAt data 20 32) ∨ s.sec.bound = zero32 ∨ s.sec.bound ≠ sha256 key ∨ leAt data 6 1 ≠ (if s.power.slotB then 0 else 1))) := by
  refine ⟨?_, ?_, ?_, ?_, ?_, ?_, ?_⟩
  · exact ⟨A, by decide +kernel⟩
  · exact ⟨A, { authentic := true, epoch := 5, seq := 6 }, of_tagTaken (by decide +kernel), by decide +kernel⟩
  · exact ⟨A, { authentic := true, epoch := 0, seq := 6 }, by decide +kernel⟩
  · exact ⟨A, { authentic := false, epoch := 5, seq := 6 }, by decide +kernel⟩
  · exact ⟨A, by decide +kernel⟩
  · exact ⟨{ A with sec := { A.sec with nonce := some (List.replicate 32 (byteOf 7)), bound := sha256 (List.replicate 60 (byteOf 7)) } }, (List.replicate 6 0x00 ++ [0x01] ++ List.replicate 5645 0x07), (List.replicate 60 0x07), by decide +kernel⟩
  · exact ⟨A, (List.replicate 6 0x00 ++ [0x01] ++ List.replicate 5645 0x07), (List.replicate 60 0x07), by decide +kernel⟩

end W11

namespace W12

def rg (l : List (Nat × Nat)) (b : List (Nat × ByteList)) (s : State) : State := { s with regs := mapPutAll (l.map fun p => (p.1, (p.2 : Int))) s.regs, blobs := mapPutAll b s.blobs }
def lo (f : Log → Log) (s : State) : State := { s with log := f s.log }
def fct (n : Nat) (s : State) : State := { s with facets := { s.facets with facet := [(3, { Facet.none with state := n, units := [4] })] } }
def base : State := { up with time := { up.time with sec := 7, mono := 5000001000 } }
def q1 : LogReq := ⟨0x0701, 1, 0xFFFF, 0, 3, [byteOf 1]⟩
def q2 : LogReq := ⟨0x0B05, 1, 3, 0, 3, [byteOf 1]⟩
def recs (n : Nat) : List LogRecord := (List.range n).reverse.map fun i => { base.recordOf (if i % 2 = 0 then q1 else q2) (i + 5) with }
def held (s : State) : State := lo (fun l => { l with held := recs 30, next := 35, cursors := [(3, { cursor := 3, slots := [], bank := false, overrun := false, newEntered := true, skipped := 0, resume := 0, notify := false })] }) s
def ct (x : CanCtl) (s := base) : State := { s with can := { s.can with ctl := [(0, x)] } }
def C : CanCtl := { CanCtl.stopped with state := 1 }
def frx (k : Nat) : CanFrame := { (default : CanFrame) with ident := canIdent k (base.ownNode 0) (base.partnerNode 0) 0, ext := true, fd := true, data := [byteOf 1] }
def rx1 : RxEntry := ⟨frx 0x12, 6⟩
def ob (id : Nat) : TxObject := ⟨{ frx 0x18 with ident := id }, none, false⟩

/-- States and operands that meet the hypotheses of TheLog, clause by clause. -/
theorem witness_TheLog :
    (∃ (s : State) (r : LogReq), r.typ < 65536 ∧ r.data.length ≤ 32 ∧ s.domOn 2 = true ∧ s.supplied = true ∧ s.log.ready = false) ∧
    (∃ (s : State) (r : LogReq), r.typ < 65536 ∧ r.data.length ≤ 32 ∧ s.domOn 2 = true ∧ s.supplied = true ∧ s.log.ready = true ∧ s.log.bankMode = false ∧ (logUnlimited r.typ = true ∨ mapGet s.log.second r.typ 0 < 256)) ∧
    (∃ (s : State) (r : LogReq), r.typ < 65536 ∧ r.data.length ≤ 32 ∧ s.domOn 2 = true ∧ s.supplied = true ∧ s.log.ready = true ∧ logUnlimited r.typ = false ∧ 256 ≤ mapGet s.log.second r.typ 0) ∧
    (∃ (s : State), s.domOn 2 = true ∧ s.log.ready = true) ∧
    (∃ (s : State), s.domOn 2 = true ∧ s.log.ready = true ∧ s.log.bankMode = false) ∧
    (∃ (s : State) (addr : _), s.domOn 2 = true ∧ s.log.ready = true ∧ s.log.bankMode = false ∧ addr < 2 ^ 40) ∧
    (∃ (s : State), s.domOn 2 = true ∧ s.log.ready = true ∧ s.log.state = 1) ∧
    (∃ (s : State) (n : _) (v : _), n < 256 ∧ v < 2 ^ 64 ∧ s.guest n = true) ∧
    (∃ (s : State) (c : _) (v : _), 256 ≤ c ∧ c < 768 ∧ v < 2 ^ 64 ∧ s.stewardUp = true ∧ (512 ≤ c ∨ c = 264 ∨ (mapFind s.access.sessions (c - 256)).isSome = true)) ∧
    (∃ (s : State) (sess : _), Accepted s (sessReq sess) (ek 0x9000 0x0A) (.int 1) ∧ sess ≤ 8 ∧ (s.log.state = 0 ∨ s.log.state = 2)) ∧
    (∃ (s : State) (sess : _), Accepted s (sessReq sess) (ek 0x9000 0x0A) (.int 1) ∧ sess ≤ 8 ∧ (s.log.state = 1 ∨ s.log.state = 3)) := by
  refine ⟨?_, ?_, ?_, ?_, ?_, ?_, ?_, ?_, ?_, ?_, ?_⟩
  · exact ⟨lo (fun l => { l with ready := false }) base, { typ := 1793, severity := 1, facet := 65535, code := 0, inst := 3, data := [0x01] }, by decide +kernel⟩
  · exact ⟨base, { typ := 1793, severity := 1, facet := 65535, code := 0, inst := 3, data := [0x01] }, by decide +kernel⟩
  · exact ⟨lo (fun l => { l with second := [(0x0701, 256)] }) base, { typ := 1793, severity := 1, facet := 65535, code := 0, inst := 3, data := [0x01] }, by decide +kernel⟩
  · exact ⟨base, by decide +kernel⟩
  · exact ⟨base, by decide +kernel⟩
  · exact ⟨base, 0, by decide +kernel⟩
  · exact ⟨lo (fun l => { l with state := 1, bank := [(0, base.recordOf q1 5)] }) base, by decide +kernel⟩
  · exact ⟨fct 3 (held base), 3, 0, by decide +kernel⟩
  · exact ⟨base, 264, 0, by decide +kernel⟩
  · exact ⟨base, 0, of_accepted (by decide +kernel), by decide +kernel⟩
  · exact ⟨lo (fun l => { l with state := 1, bank := [(0, base.recordOf q1 5)] }) base, 0, of_accepted (by decide +kernel), by decide +kernel⟩

/-- States and operands that meet the hypotheses of HealthAndTests, clause by clause. -/
theorem witness_HealthAndTests :
    (∃ (s : State) (mask : Nat), Accepted s rowReq (ek 0x9010 5) (.int mask) ∧ mask < 2 ^ 64 ∧ Nat.land mask s.health.latched = mask ∧ Nat.land mask s.health.present = 0) ∧
    (∃ (s : State) (mask : Nat), Accepted s rowReq (ek 0x9010 5) (.int mask) ∧ mask < 2 ^ 64 ∧ (Nat.land mask s.health.latched ≠ mask ∨ Nat.land mask s.health.present ≠ 0)) ∧
    (∃ (s : State) (addr : _), s.stewardUp = true ∧ s.domOn 11 = true ∧ addr < 2 ^ 40 ∧ guardedDdr addr = false) ∧
    (∃ (s : State), s.stewardUp = true ∧ s.domOn 11 = true) ∧
    (∃ (s : State) (addr : _), addr < 2 ^ 40 ∧ s.stewardUp = true) ∧
    (∃ (s : State) (c : Instr) (i : Nat) (cause : Nat) (unit : Nat) (pass : Bool), s.standby = true ∧ (c = .coreCrossCheck unit pass ∧ i = 2 ∧ cause = 14 ∧ unit < 64 ∧ s.domOn (3 + unit / 16) = true ∨ c = .logicProcessorTest unit pass ∧ i = 3 ∧ cause = 15 ∧ unit < 16 ∧ s.domOn 11 = true) ∧ pass = false) ∧
    (∃ (s : State) (c : Instr) (i : Nat) (cause : Nat) (unit : Nat) (pass : Bool), s.standby = true ∧ (c = .coreCrossCheck unit pass ∧ i = 2 ∧ cause = 14 ∧ unit < 64 ∧ s.domOn (3 + unit / 16) = true ∨ c = .logicProcessorTest unit pass ∧ i = 3 ∧ cause = 15 ∧ unit < 16 ∧ s.domOn 11 = true) ∧ pass = true ∧ ((s.testEntry i).result ≠ 3 ∨ (s.testEntry i).unit = unit)) ∧
    (∃ (s : State) (lane : _), lane < 50 ∧ s.stewardUp = true ∧ s.domOn 9 = true ∧ s.domOn 10 = true) ∧
    (∃ (s : State) (n : _) (addr : _) (kind : _), n < 256 ∧ addr < 2 ^ 64 ∧ kind < 3 ∧ s.guest n = true ∧ (s.facet n).inside addr 8 = true) ∧
    (∃ (s : State) (n : _) (addr : _) (kind : _), n < 256 ∧ addr < 2 ^ 64 ∧ kind < 3 ∧ s.guest n = true ∧ (s.facet n).inside addr 8 = false ∧ kind = 0 ∧ (s.facet n).planeGranted addr = true) ∧
    (∃ (s : State) (n : _) (addr : _) (kind : _), n < 256 ∧ addr < 2 ^ 64 ∧ kind < 3 ∧ s.guest n = true ∧ (s.facet n).inside addr 8 = false ∧ inPlaneView addr = true ∧ (kind ≠ 0 ∨ (s.facet n).planeGranted addr = false)) ∧
    (∃ (s : State) (n : _) (addr : _) (kind : _), n < 256 ∧ addr < 2 ^ 64 ∧ kind < 3 ∧ s.guest n = true ∧ (s.facet n).inside addr 8 = false ∧ inPlaneView addr = false) ∧
    (∃ (s : State) (n : _) (offset : _), n < 256 ∧ offset < 65536 ∧ offset ≠ 8 ∧ offset ≠ 0x1000 ∧ offset ≠ 0x1008 ∧ offset ≠ 0x3008 ∧ s.guest n = true ∧ 0x3100 ≤ offset ∧ offset < 0x3300 ∧ (s.tpo ((offset - 0x3100) / 32)).owner ≠ n) ∧
    (∃ (s : State) (n : _) (offset : _), n < 256 ∧ offset < 65536 ∧ offset ≠ 8 ∧ offset ≠ 0x1000 ∧ offset ≠ 0x1008 ∧ offset ≠ 0x3008 ∧ s.guest n = true ∧ (offset < 0x3100 ∨ 0x3300 ≤ offset)) ∧
    (∃ (s : State) (addr : _), addr < 2 ^ 40 ∧ s.stewardUp = true ∧ regionOf addr = none) ∧
    (∃ (s : State) (addr : _), addr < 2 ^ 40 ∧ s.stewardUp = true ∧ (regionOf addr = some .logicData ∨ regionOf addr = some .guest)) := by
  refine ⟨?_, ?_, ?_, ?_, ?_, ?_, ?_, ?_, ?_, ?_, ?_, ?_, ?_, ?_, ?_, ?_⟩
  · exact ⟨base, 0, of_accepted (by decide +kernel), by decide +kernel⟩
  · exact ⟨base, 1, of_accepted (by decide +kernel), by decide +kernel⟩
  · exact ⟨base, 0, by decide +kernel⟩
  · exact ⟨base, by decide +kernel⟩
  · exact ⟨base, 0, by decide +kernel⟩
  · exact ⟨{ base with pair := shade.pair, power := shade.power }, (Instr.coreCrossCheck 1 false), 2, 14, 1, false, by decide +kernel⟩
  · exact ⟨{ base with pair := shade.pair, power := shade.power }, (Instr.coreCrossCheck 1 true), 2, 14, 1, true, by decide +kernel⟩
  · exact ⟨base, 0, by decide +kernel⟩
  · exact ⟨fct 3 base, 3, 0, 0, by decide +kernel⟩
  · exact ⟨{ fct 3 base with facets := { (fct 3 base).facets with facet := [(3, { Facet.none with state := 3, units := [4], plane := 1 })] } }, 3, 68719476736, 0, by decide +kernel⟩
  · exact ⟨fct 3 base, 3, 68719476736, 0, by decide +kernel⟩
  · exact ⟨fct 3 base, 3, 4362076160, 0, by decide +kernel⟩
  · exact ⟨fct 3 base, 3, 12576, by decide +kernel⟩
  · exact ⟨fct 3 base, 3, 0, by decide +kernel⟩
  · exact ⟨base, 4328521728, by decide +kernel⟩
  · exact ⟨base, 4362076160, by decide +kernel⟩

/-- States and operands that meet the hypotheses of BusFrames, clause by clause. -/
theorem witness_BusFrames :
    (∃ (s : State) (c : Nat) (fr : CanFrame), c < 2 ∧ s.domOn 1 = true ∧ fr.ident < (if fr.ext then 2 ^ 29 else 2 ^ 11) ∧ fr.data.length ≤ 64 ∧ (s.ctl c).state ≠ 1 ∧ (s.ctl c).state ≠ 2 ∧ (s.ctl c).state ≠ 5) ∧
    (∃ (s : State) (c : Nat) (fr : CanFrame), c < 2 ∧ s.domOn 1 = true ∧ fr.ident < (if fr.ext then 2 ^ 29 else 2 ^ 11) ∧ fr.data.length ≤ 64 ∧ ((s.ctl c).state = 1 ∨ (s.ctl c).state = 2 ∨ (s.ctl c).state = 5) ∧ (s.ctl c).offered = none ∧ (s.ctl c).stopping = false ∧ s.fifoOf c fr = some 0 ∧ (s.ctl c).fifo0.length < 64) ∧
    (∃ (s : State) (c : Nat) (fr : CanFrame), c < 2 ∧ s.domOn 1 = true ∧ fr.ident < (if fr.ext then 2 ^ 29 else 2 ^ 11) ∧ fr.data.length ≤ 64 ∧ ((s.ctl c).state = 1 ∨ (s.ctl c).state = 2 ∨ (s.ctl c).state = 5) ∧ (s.ctl c).offered = none ∧ (s.ctl c).stopping = false ∧ s.fifoOf c fr = some 0 ∧ 64 ≤ (s.ctl c).fifo0.length) ∧
    (∃ (s : State) (c : Nat) (fr : CanFrame), c < 2 ∧ s.domOn 1 = true ∧ fr.ident < (if fr.ext then 2 ^ 29 else 2 ^ 11) ∧ fr.data.length ≤ 64 ∧ ((s.ctl c).state = 1 ∨ (s.ctl c).state = 2 ∨ (s.ctl c).state = 5) ∧ (s.ctl c).offered = none ∧ (s.ctl c).stopping = false ∧ s.fifoOf c fr = some 1 ∧ (s.ctl c).fifo1.length < 16) ∧
    (∃ (s : State) (c : Nat) (fr : CanFrame), c < 2 ∧ s.domOn 1 = true ∧ fr.ident < (if fr.ext then 2 ^ 29 else 2 ^ 11) ∧ fr.data.length ≤ 64 ∧ ((s.ctl c).state = 1 ∨ (s.ctl c).state = 2 ∨ (s.ctl c).state = 5) ∧ (s.ctl c).offered = none ∧ (s.ctl c).stopping = false ∧ s.fifoOf c fr = some 1 ∧ 16 ≤ (s.ctl c).fifo1.length) ∧
    (∃ (s : State) (c : Nat) (fr : CanFrame), c < 2 ∧ s.domOn 1 = true ∧ fr.ident < (if fr.ext then 2 ^ 29 else 2 ^ 11) ∧ fr.data.length ≤ 64 ∧ ((s.ctl c).state = 1 ∨ (s.ctl c).state = 2 ∨ (s.ctl c).state = 5) ∧ (s.ctl c).offered = none ∧ (s.ctl c).stopping = false ∧ s.fifoOf c fr = none) ∧
    (∃ (s : State) (c : Nat), c < 2 ∧ s.domOn 1 = true) ∧
    (∃ (s : State) (c : Nat) (o : _) (x : _), c < 2 ∧ s.domOn 1 = true ∧ ((s.ctl c).state = 1 ∨ (s.ctl c).state = 2) ∧ (s.ctl c).offered = none ∧ (o, x) ∈ (s.ctl c).objects ∧ (∀ p ∈ (s.ctl c).objects, p = (o, x) ∨ x.frame.ident < p.2.frame.ident)) ∧
    (∃ (s : State) (c : Nat) (o : _) (x : _), c < 2 ∧ s.domOn 1 = true ∧ (s.ctl c).offered = some o ∧ mapFind (s.ctl c).objects o = some x ∧ (s.ctl c).tec ≤ 256 ∧ (s.ctl c).stopping = false) ∧
    (∃ (s : State) (c : Nat) (e : CanError), c < 2 ∧ s.domOn 1 = true ∧ e.kind < 7 ∧ ((s.ctl c).state = 1 ∨ (s.ctl c).state = 2) ∧ (s.ctl c).stopping = false ∧ e.transmitting = true ∧ e.kind ≠ 3 ∧ (s.ctl c).tec + 8 ≤ 255) ∧
    (∃ (s : State) (c : Nat) (e : CanError), c < 2 ∧ s.domOn 1 = true ∧ e.kind < 7 ∧ ((s.ctl c).state = 1 ∨ (s.ctl c).state = 2) ∧ (s.ctl c).stopping = false ∧ e.transmitting = true ∧ e.kind ≠ 3 ∧ 255 < (s.ctl c).tec + 8) ∧
    (∃ (s : State) (c : Nat) (e : CanError), c < 2 ∧ s.domOn 1 = true ∧ e.kind < 7 ∧ ((s.ctl c).state = 1 ∨ (s.ctl c).state = 2) ∧ (s.ctl c).stopping = false ∧ e.transmitting = false ∧ (s.ctl c).tec ≤ 255) ∧
    (∃ (s : State) (c : Nat) (e : CanError) (o : _) (x : _) (n : _), c < 2 ∧ s.domOn 1 = true ∧ e.kind < 7 ∧ ((s.ctl c).state = 1 ∨ (s.ctl c).state = 2) ∧ (s.ctl c).stopping = false ∧ e.transmitting = true ∧ e.kind = 3 ∧ (s.ctl c).tec + 8 ≤ 255 ∧ (s.ctl c).offered = some o ∧ mapFind (s.ctl c).objects o = some x ∧ x.cancelled = false ∧ n = (if (s.ctl c).alone.1 = o then (s.ctl c).alone.2 else 0) + 1 ∧ n < (s.ctl c).limit) ∧
    (∃ (s : State) (c : Nat) (e : CanError) (o : _) (x : _) (n : _), c < 2 ∧ s.domOn 1 = true ∧ e.kind < 7 ∧ ((s.ctl c).state = 1 ∨ (s.ctl c).state = 2) ∧ (s.ctl c).stopping = false ∧ e.transmitting = true ∧ e.kind = 3 ∧ (s.ctl c).tec + 8 ≤ 255 ∧ (s.ctl c).offered = some o ∧ mapFind (s.ctl c).objects o = some x ∧ x.cancelled = false ∧ n = (if (s.ctl c).alone.1 = o then (s.ctl c).alone.2 else 0) + 1 ∧ (s.ctl c).limit ≤ n) := by
  refine ⟨?_, ?_, ?_, ?_, ?_, ?_, ?_, ?_, ?_, ?_, ?_, ?_, ?_, ?_⟩
  · exact ⟨ct CanCtl.stopped, 0, { ident := 302055936, ext := true, fd := true, brs := false, esi := false, data := [0x01] }, by decide +kernel⟩
  · exact ⟨ct C, 0, { ident := 302055936, ext := true, fd := true, brs := false, esi := false, data := [0x01] }, by decide +kernel⟩
  · exact ⟨ct { C with fifo0 := List.replicate 64 rx1, fifo1 := List.replicate 16 rx1 }, 0, { ident := 302055936, ext := true, fd := true, brs := false, esi := false, data := [0x01] }, by decide +kernel⟩
  · exact ⟨ct C, 0, { ident := 419496448, ext := true, fd := true, brs := false, esi := false, data := [0x01] }, by decide +kernel⟩
  · exact ⟨ct { C with fifo0 := List.replicate 64 rx1, fifo1 := List.replicate 16 rx1 }, 0, { ident := 419496448, ext := true, fd := true, brs := false, esi := false, data := [0x01] }, by decide +kernel⟩
  · exact ⟨ct C, 0, { ident := 285278720, ext := true, fd := true, brs := false, esi := false, data := [0x01] }, by decide +kernel⟩
  · exact ⟨ct CanCtl.stopped, 0, by decide +kernel⟩
  · exact ⟨ct { C with objects := [(2, ob 9), (5, ob 7)] }, 0, 5, { frame := { ident := 7, ext := true, fd := true, brs := false, esi := false, data := [0x01] }, station := none, cancelled := false }, by decide +kernel⟩
  · exact ⟨ct { C with objects := [(2, ob 9), (5, ob 7)], offered := some 5, tec := 100 }, 0, 5, { frame := { ident := 7, ext := true, fd := true, brs := false, esi := false, data := [0x01] }, station := none, cancelled := false }, by decide +kernel⟩
  · exact ⟨ct C, 0, { transmitting := true, kind := 1, dataPhase := false, primary := false, noDominant := false }, by decide +kernel⟩
  · exact ⟨ct { C with objects := [(2, ob 9), (5, { ob 7 with cancelled := true })], offered := some 5, tec := 256 }, 0, { transmitting := true, kind := 1, dataPhase := false, primary := false, noDominant := false }, by decide +kernel⟩
  · exact ⟨ct C, 0, { transmitting := false, kind := 1, dataPhase := false, primary := true, noDominant := false }, by decide +kernel⟩
  · exact ⟨ct { C with objects := [(5, ob 7)], offered := some 5, limit := 16 }, 0, { transmitting := true, kind := 3, dataPhase := false, primary := false, noDominant := false }, 5, { frame := { ident := 7, ext := true, fd := true, brs := false, esi := false, data := [0x01] }, station := none, cancelled := false }, 1, by decide +kernel⟩
  · exact ⟨ct { C with objects := [(2, ob 9), (5, ob 7)], offered := some 5, tec := 100 }, 0, { transmitting := true, kind := 3, dataPhase := false, primary := false, noDominant := false }, 5, { frame := { ident := 7, ext := true, fd := true, brs := false, esi := false, data := [0x01] }, station := none, cancelled := false }, 1, by decide +kernel⟩

/-- States and operands that meet the hypotheses of Controllers, clause by clause. -/
theorem witness_Controllers :
    (∃ (s : State) (c : Nat), Accepted s rowReq (ek (0xB000 + c) 0x10) (.int 1) ∧ c < 2 ∧ (s.ctl c).state = 3) ∧
    (∃ (s : State) (c : Nat), Accepted s rowReq (ek (0xB000 + c) 0x10) (.int 1) ∧ c < 2 ∧ (s.ctl c).state ≠ 3) ∧
    (∃ (s : State) (c : Nat), c < 2 ∧ s.domOn 1 = true ∧ (s.ctl c).state = 4 ∧ (s.ctl c).stopping = false) ∧
    (∃ (s : State) (c : Nat), Accepted s rowReq (ek (0xB000 + c) 0x0E) (.int 1) ∧ c < 2 ∧ ((s.ctl c).state = 1 ∨ (s.ctl c).state = 2) ∧ (s.ctl c).offered = none) ∧
    (∃ (s : State) (c : Nat), Accepted s rowReq (ek (0xB000 + c) 0x0E) (.int 0) ∧ c < 2 ∧ (s.ctl c).state = 5 ∧ (s.ctl c).tec ≤ 127 ∧ (s.ctl c).recv ≤ 127) ∧
    (∃ (s : State) (c : Nat), Accepted s rowReq (ek (0xB000 + c) 1) (.int 1) ∧ c < 2 ∧ (s.ctl c).state = 0 ∧ (s.ctl c).tec ≤ 127 ∧ (s.ctl c).recv ≤ 127 ∧ s.canReg c 0x0E = 0) ∧
    (∃ (s : State) (c : Nat), Accepted s rowReq (ek (0xB000 + c) 1) (.int 0) ∧ c < 2 ∧ (s.ctl c).state ≠ 0 ∧ (s.ctl c).offered = none) ∧
    (∃ (s : State) (c : Nat), Accepted s rowReq (ek (0xB000 + c) 1) (.int 0) ∧ c < 2 ∧ (s.ctl c).state ≠ 0 ∧ (s.ctl c).offered.isSome = true) ∧
    (∃ (s : State) (c : Nat), Accepted s rowReq (ek (0xB000 + c) 0x1F) (.int 1) ∧ c < 2) := by
  refine ⟨?_, ?_, ?_, ?_, ?_, ?_, ?_, ?_, ?_⟩
  · exact ⟨ct { C with state := 3, tec := 300 }, 0, of_accepted (by decide +kernel), by decide +kernel⟩
  · exact ⟨ct { C with state := 3, tec := 300 }, 1, of_accepted (by decide +kernel), by decide +kernel⟩
  · exact ⟨ct { C with state := 4 }, 0, by decide +kernel⟩
  · exact ⟨ct C, 0, of_accepted (by decide +kernel), by decide +kernel⟩
  · exact ⟨rg [(ek 0xB000 0x0E, 1)] [] (ct { C with state := 5 }), 0, of_accepted (by decide +kernel), by decide +kernel⟩
  · exact ⟨ct { C with state := 3, tec := 300 }, 1, of_accepted (by decide +kernel), by decide +kernel⟩
  · exact ⟨ct { C with state := 3, tec := 300 }, 0, of_accepted (by decide +kernel), by decide +kernel⟩
  · exact ⟨ct { C with offered := some 5, objects := [(5, ob 7)] }, 0, of_accepted (by decide +kernel), by decide +kernel⟩
  · exact ⟨ct { C with state := 3, tec := 300 }, 0, of_accepted (by decide +kernel), by decide +kernel⟩

end W12

namespace W13

def se (f : Security → Security) (s : State) : State := { s with sec := f s.sec }
def base : State := { up with time := { up.time with sec := 7, mono := 5000001000 } }
def K : State := se (fun x => { x with psk := [(1, [byteOf 1])], mirrorKey := [byteOf 1], epoch := 5, bound := List.replicate 32 (byteOf 3), migration := [byteOf 2], roots := [(0, [byteOf 3])] }) base
def N (n : Nat) : ByteList := List.replicate 32 (byteOf n)
def sess (s : State) : State := { s with access := { s.access with sessions := [(3, Session.fresh 2 3)] } }

/-- States and operands that meet the hypotheses of Attestation, clause by clause. -/
theorem witness_Attestation :
    (∃ (s : State) (sess : _) (nonce : _), Accepted s (sessReq sess) (ek 0xA010 1) (.bytes nonce) ∧ sess ≤ 8 ∧ s.sec.seed = []) ∧
    (∃ (s : State) (sess : _) (nonce : _), Accepted s (sessReq sess) (ek 0xA010 1) (.bytes nonce) ∧ sess ≤ 8 ∧ s.sec.seed ≠ [] ∧ s.sec.q < 1073741824 ∧ (∀ p ∈ s.sec.queue, p.1 ≠ sess) ∧ s.sec.queue.length < 8) ∧
    (∃ (s : State) (sess : _) (nonce : _), Accepted s (sessReq sess) (ek 0xA010 1) (.bytes nonce) ∧ sess ≤ 8 ∧ s.sec.seed ≠ [] ∧ s.sec.q < 1073741824 ∧ (∃ p ∈ s.sec.queue, p.1 = sess)) ∧
    (∃ (s : State) (sess : _) (nonce : _), Accepted s (sessReq sess) (ek 0xA010 1) (.bytes nonce) ∧ sess ≤ 8 ∧ s.sec.seed ≠ [] ∧ s.sec.q < 1073741824 ∧ (∀ p ∈ s.sec.queue, p.1 ≠ sess) ∧ 8 ≤ s.sec.queue.length) ∧
    (∃ (s : State) (sess : _) (nonce : _) (rest : _), s.stewardUp = true ∧ 0 < s.sec.tokens ∧ s.sec.seed ≠ [] ∧ s.sec.queue = (sess, nonce) :: rest ∧ (∀ p ∈ s.sec.queue, p.1 ≠ partnerSlot) ∧ s.sec.q < 1073741824) ∧
    (∃ (s : State) (nonce : _) (rest : _), s.stewardUp = true ∧ 0 < s.sec.tokens ∧ s.sec.seed ≠ [] ∧ s.sec.queue = (partnerSlot, nonce) :: rest ∧ s.sec.q < 1073741824) ∧
    (∃ (s : State) (sess : _) (nonce : _) (rest : _), s.stewardUp = true ∧ 0 < s.sec.tokens ∧ s.sec.seed ≠ [] ∧ s.sec.queue = (sess, nonce) :: rest ∧ (∀ p ∈ s.sec.queue, p.1 ≠ partnerSlot) ∧ 1073741824 ≤ s.sec.q) ∧
    (∃ (s : State), s.domOn 2 = true) := by
  refine ⟨?_, ?_, ?_, ?_, ?_, ?_, ?_, ?_⟩
  · exact ⟨se (fun x => { x with seed := [] }) K, 0, (List.replicate 32 0x01), of_accepted (by decide +kernel), by decide +kernel⟩
  · exact ⟨K, 0, (List.replicate 32 0x01), of_accepted (by decide +kernel), by decide +kernel⟩
  · exact ⟨sess (se (fun x => { x with queue := [(3, N 1), (4, N 2)] }) K), 3, (List.replicate 32 0x01), of_accepted (by decide +kernel), by decide +kernel⟩
  · exact ⟨se (fun x => { x with queue := (List.range 8).map fun i => (i + 10, N 1) }) K, 0, (List.replicate 32 0x01), of_accepted (by decide +kernel), by decide +kernel⟩
  · exact ⟨sess (se (fun x => { x with queue := [(3, N 1), (4, N 2)] }) K), 3, (List.replicate 32 0x01), [(4, (List.replicate 32 0x02))], by decide +kernel⟩
  · exact ⟨se (fun x => { x with queue := [(9, N 1), (4, N 2)] }) K, (List.replicate 32 0x01), [(4, (List.replicate 32 0x02))], by decide +kernel⟩
  · exact ⟨sess (se (fun x => { x with queue := [(3, N 1), (4, N 2)], q := 1073741824 }) K), 3, (List.replicate 32 0x01), [(4, (List.replicate 32 0x02))], by decide +kernel⟩
  · exact ⟨K, by decide +kernel⟩

/-- States and operands that meet the hypotheses of TamperAndDebugPort, clause by clause. -/
theorem witness_TamperAndDebugPort :
    (∃ (s : State) (x : _), x < 2 ^ 32 ∧ s.domOn 0 = true ∧ (s.sec.state = 0 ∨ s.sec.state = 3)) ∧
    (∃ (s : State) (x : _), x < 2 ^ 32 ∧ s.domOn 0 = true ∧ s.sec.state ≠ 0 ∧ s.sec.state ≠ 3) ∧
    (∃ (s : State), s.serves 8 = true) ∧
    (∃ (s : State) (data : _), Accepted s (sessReq 8) (ek 0xA040 2) (.bytes data) ∧ s.sec.responseOk data = true) ∧
    (∃ (s : State) (data : _), Accepted s (sessReq 8) (ek 0xA040 2) (.bytes data) ∧ s.sec.responseOk data = false) ∧
    (∃ (s : State), Accepted s (sessReq 8) (ek 0xA040 4) (.int 1)) ∧
    (∃ (s : State), s.domOn 2 = true) := by
  refine ⟨?_, ?_, ?_, ?_, ?_, ?_, ?_⟩
  · exact ⟨se (fun x => { x with state := 0 }) K, 0, by decide +kernel⟩
  · exact ⟨K, 0, by decide +kernel⟩
  · exact ⟨K, by decide +kernel⟩
  · exact ⟨se (fun x => { x with owners := [], challenge := some (N 1) }) K, [], of_accepted (by decide +kernel), by decide +kernel⟩
  · exact ⟨K, (List.replicate 32 0x01), of_accepted (by decide +kernel), by decide +kernel⟩
  · exact ⟨se (fun x => { x with state := 1, debugOpen := true }) K, of_accepted (by decide +kernel)⟩
  · exact ⟨K, by decide +kernel⟩

/-- States and operands that meet the hypotheses of KeysAndBinding, clause by clause. -/
theorem witness_KeysAndBinding :
    (∃ (s : State), Accepted s (sessReq 8) (ek 0xA050 1) (.int 1) ∧ s.sec.state ≠ 2) ∧
    (∃ (s : State), Accepted s (sessReq 8) (ek 0xA050 1) (.int 1) ∧ s.sec.state = 2) ∧
    (∃ (s : State), Accepted s rowReq (ek 0xA020 4) (.int 1) ∧ s.sec.sinceTraining = true) ∧
    (∃ (s : State), Accepted s rowReq (ek 0xA020 4) (.int 1) ∧ s.sec.sinceTraining = false) ∧
    (∃ (s : State), Accepted s rowReq (ek 0xA020 4) (.int 2)) ∧
    (∃ (s : State), Accepted s rowReq (ek 0xA020 4) (.int 3) ∧ s.lit = false) ∧
    (∃ (s : State), Accepted s rowReq (ek 0xA020 4) (.int 3) ∧ s.lit = true ∧ s.sec.pendEpoch ≠ 0) ∧
    (∃ (s : State) (data : _), Accepted s rowReq (ek 0xA020 5) (.bytes data) ∧ s.sec.epoch < leAt data 0 4) ∧
    (∃ (s : State) (data : _), Accepted s rowReq (ek 0xA020 5) (.bytes data) ∧ leAt data 0 4 ≤ s.sec.epoch) ∧
    (∃ (s : State) (data : _), Accepted s rowReq (ek 0xA020 8) (.bytes data)) ∧
    (∃ (s : State) (i : _) (data : _), Accepted s rowReq (ek 0xA001 i) (.bytes data) ∧ 1 ≤ i ∧ i ≤ 2) := by
  refine ⟨?_, ?_, ?_, ?_, ?_, ?_, ?_, ?_, ?_, ?_, ?_⟩
  · exact ⟨se (fun x => { x with state := 1, debugOpen := true }) K, of_accepted (by decide +kernel), by decide +kernel⟩
  · exact ⟨se (fun x => { x with debugOpen := true }) K, of_accepted (by decide +kernel), by decide +kernel⟩
  · exact ⟨se (fun x => { x with sinceTraining := true, received := N 4 }) K, of_accepted (by decide +kernel), by decide +kernel⟩
  · exact ⟨K, of_accepted (by decide +kernel), by decide +kernel⟩
  · exact ⟨K, of_accepted (by decide +kernel)⟩
  · exact ⟨{ (se (fun x => { x with sinceTraining := true, received := N 4, pendEpoch := 7, pendKey := N 2 }) K) with pair := shade.pair, power := shade.power }, of_accepted (by decide +kernel), by decide +kernel⟩
  · exact ⟨se (fun x => { x with pendEpoch := 7, pendKey := N 2 }) K, of_accepted (by decide +kernel), by decide +kernel⟩
  · exact ⟨K, ([0x06, 0x00, 0x00, 0x00] ++ List.replicate 32 0x01), of_accepted (by decide +kernel), by decide +kernel⟩
  · exact ⟨K, ([0x05, 0x00, 0x00, 0x00] ++ List.replicate 32 0x01), of_accepted (by decide +kernel), by decide +kernel⟩
  · exact ⟨K, (List.replicate 32 0x01), of_accepted (by decide +kernel)⟩
  · exact ⟨K, 1, (List.replicate 60 0x01), of_accepted (by decide +kernel), by decide +kernel⟩

end W13

/-! ### Ill-formed commands: one for each bound of WellFormed -/

theorem test_ill_formed_1 : ∀ c ∈ ([
    .vinMainUndervoltage (2 ^ 16), .vinMainOvervoltageWarning (2 ^ 16), .vinMainOvervoltage (2 ^ 16), .vinAnaUndervoltage (2 ^ 16),
    .vinIoLost (2 ^ 16), .vbatLow (2 ^ 16), .vbatAbsent (2 ^ 16), .clusterPairOff 2,
    .clusterPairOff (6 + 1), .clusterPairOn 2, .clusterPairOn (6 + 1), .domainRampingDone 2,
    .domainRampingDone (6 + 1), .domainTestingDone 2 true, .domainTestingDone (6 + 1) true, .fdoPulseTest 32 true,
    .facetLaunchDeadline 256, .installationBegin (8 + 1), .installationAbort (8 + 1), .installationVerify (8 + 1),
    .firmwareSegment (8 + 1) default, .trialSlot 256, .configurationBegin (8 + 1), .configurationAbort (8 + 1),
    .configurationVerify (8 + 1), .configurationSegment (8 + 1) default, .read ({ (default : MapMsg) with sess := 8 + 1 }), .write ({ (default : MapMsg) with sess := 8 + 1 }),
    .writeSet ({ (default : MapMsg) with sess := 8 + 1 }), .describe ({ (default : MapMsg) with sess := 8 + 1 }), .lock ({ (default : MapMsg) with sess := 8 + 1 }), .unlock ({ (default : MapMsg) with sess := 8 + 1 }),
    .close ({ (default : MapMsg) with sess := 8 + 1 }), .segInitDown ({ (default : MapMsg) with sess := 8 + 1 }), .segDown ({ (default : MapMsg) with sess := 8 + 1 }), .segEndDown ({ (default : MapMsg) with sess := 8 + 1 }),
    .segInitUp ({ (default : MapMsg) with sess := 8 + 1 }), .segUp ({ (default : MapMsg) with sess := 8 + 1 }), .abort ({ (default : MapMsg) with sess := 8 + 1 }), .closeNotify (8 + 1)] : List Instr), c.wf = false := by decide +kernel

theorem test_ill_formed_2 : ∀ c ∈ ([
    .sessionIdleTimeout (8 + 1), .lockExpiry 65536, .transferTimeout (8 + 1), .cabinetRead ({ (default : CabReq) with ctrl := 2 }),
    .cabinetRead ({ (default : CabReq) with dst := 256 }), .cabinetRead ({ (default : CabReq) with src := 256 }), .cabinetRead ({ (default : CabReq) with data := List.replicate 65 0 }), .cabinetWrite ({ (default : CabReq) with ctrl := 2 }),
    .cabinetWrite ({ (default : CabReq) with dst := 256 }), .cabinetWrite ({ (default : CabReq) with src := 256 }), .cabinetWrite ({ (default : CabReq) with data := List.replicate 65 0 }), .cabinetSegmentInitDown ({ (default : CabReq) with ctrl := 2 }),
    .cabinetSegmentInitDown ({ (default : CabReq) with dst := 256 }), .cabinetSegmentInitDown ({ (default : CabReq) with src := 256 }), .cabinetSegmentInitDown ({ (default : CabReq) with data := List.replicate 65 0 }), .cabinetSegmentDown ({ (default : CabReq) with ctrl := 2 }),
    .cabinetSegmentDown ({ (default : CabReq) with dst := 256 }), .cabinetSegmentDown ({ (default : CabReq) with src := 256 }), .cabinetSegmentDown ({ (default : CabReq) with data := List.replicate 65 0 }), .cabinetSegmentEnd ({ (default : CabReq) with ctrl := 2 }),
    .cabinetSegmentEnd ({ (default : CabReq) with dst := 256 }), .cabinetSegmentEnd ({ (default : CabReq) with src := 256 }), .cabinetSegmentEnd ({ (default : CabReq) with data := List.replicate 65 0 }), .cabinetSegmentInitUp ({ (default : CabReq) with ctrl := 2 }),
    .cabinetSegmentInitUp ({ (default : CabReq) with dst := 256 }), .cabinetSegmentInitUp ({ (default : CabReq) with src := 256 }), .cabinetSegmentInitUp ({ (default : CabReq) with data := List.replicate 65 0 }), .cabinetSegmentUp ({ (default : CabReq) with ctrl := 2 }),
    .cabinetSegmentUp ({ (default : CabReq) with dst := 256 }), .cabinetSegmentUp ({ (default : CabReq) with src := 256 }), .cabinetSegmentUp ({ (default : CabReq) with data := List.replicate 65 0 }), .cabinetAbort ({ (default : CabReq) with ctrl := 2 }),
    .cabinetAbort ({ (default : CabReq) with dst := 256 }), .cabinetAbort ({ (default : CabReq) with src := 256 }), .cabinetAbort ({ (default : CabReq) with data := List.replicate 65 0 }), .cabinetNodeStateRelease 256,
    .cabinetTransferTimeout 256, .sync 48 default, .followUp 48 default, .announce 48 default] : List Instr), c.wf = false := by decide +kernel

theorem test_ill_formed_3 : ∀ c ∈ ([
    .pdelayReq 48 default, .pdelayResp 48 default, .syncTransmit 48, .announceTransmit 48,
    .pdelayReqTransmit 48, .setTime (2 ^ 48) 1, .setTime 1 (2 ^ 32), .tpoStart 16 1,
    .tpoStart 1 (2 ^ 40), .tpoEdge 16, .tpoPulseEnd 16, .tpoGrant 16 1,
    .tpoGrant 1 65536, .captureEdge 4, .oldestStampRead 4, .timeStatusRead 256,
    .frameHead ({ (default : FrameHead) with port := 52 }), .frameTail 52 default, .linkDown 52, .linkDownHoldExpiry 52,
    .linkUp 52, .portEnable 52, .portDisable 52, .portClearCounters 52,
    .supervisionFrame 8, .nodeForget 8 1 true, .nodeForget 1 (2 ^ 48) true, .sampledValueFrame ({ (default : SvFrame) with entry := 16384 }),
    .streamEnable 1024, .streamDisable 1024, .streamClearCounters 1024, .instantBatch 16,
    .summationGroupEnable 512, .summationGroupDisable 512, .groupClear 512, .laneEnable 1024,
    .laneDisable 1024, .resetLatch 1024, .publisherEnable 512, .publisherDisable 512] : List Instr), c.wf = false := by decide +kernel

theorem test_ill_formed_4 : ∀ c ∈ ([
    .retransmission 512, .gooseSubmit 256 1, .gooseSubmit 1 (2 ^ 64), .gooseFrame ({ (default : GooseFrame) with entry := 16384 }),
    .subscriptionTimeout 4096, .subscriptionEnable 4096, .subscriptionDisable 4096, .subscriptionClearCounters 4096,
    .programStart 1024, .programStop 1024, .fastCycle 1024, .normalCycle 1024,
    .slowCycle 1024, .programClear 1024, .fdiEdge 32 true, .fdiFilterExpiry 32,
    .exchangeSwitch 1024, .exchangeDiscard 1024, .exchangeSwitchAtBoundary 1024, .stationEnable 64,
    .stationDisable 64, .stationExchange 64, .stationResponse 64 default, .responseTimeout 64,
    .stationClear 64, .facetDefine 256, .facetDelete 256, .launch 256,
    .freeze 256, .thaw 256, .save 256, .saveComplete 256 true,
    .restore 256, .restoreComplete 256 1, .facetReset 256, .facetResetComplete 256,
    .readyReported 256, .readyWithdrawn 256, .guestCoreFault 256 1, .guestCoreFault 1 64] : List Instr), c.wf = false := by decide +kernel

theorem test_ill_formed_5 : ∀ c ∈ ([
    .facetClear 256, .shareChange 256 11 1, .shareChange 1 10 1, .shareChange 1 (14 + 1) 1,
    .shareChange 1 11 (2 ^ 64), .mirrorBase 256 true 1, .mirrorBase 1 true (2 ^ 64), .outProd 256 1,
    .outProd 1 (2 ^ 64), .inCons 256 1, .inCons 1 (2 ^ 64), .mboxStatus 256 1,
    .mboxStatus 1 (2 ^ 64), .outboundMessage 256, .echo 256, .persistentRead 256,
    .persistentWrite 256, .persistentSize 256, .swbWrite 256 1 1, .swbWrite 1 4 1,
    .swbWrite 1 1 (2 ^ 64), .swbSet 256 1 1, .swbSet 1 4 1, .swbSet 1 1 (2 ^ 64),
    .swbClr 256 1 1, .swbClr 1 4 1, .swbClr 1 1 (2 ^ 64), .dmaSubmit 256 1,
    .dmaSubmit 1 (2 ^ 64), .dmaCompletion 256, .nqRing 256 1 1, .nqRing 1 8 1,
    .nqRing 1 1 (2 ^ 64), .nqTxTail 256 1 1, .nqTxTail 1 8 1, .nqTxTail 1 1 (2 ^ 64),
    .nqRxTail 256 1 1, .nqRxTail 1 8 1, .nqRxTail 1 1 (2 ^ 64), .nicTransmit 256 1] : List Instr), c.wf = false := by decide +kernel

theorem test_ill_formed_6 : ∀ c ∈ ([
    .nicTransmit 1 8, .nicReceive 2 1 1 default, .nicReceive 1 4096 1 default, .nicReceive 1 1 65536 default,
    .take 256 1, .take 1 64, .takeWait 256 1 true, .takeWait 1 64 true,
    .waitLimitExpiry 256 1, .waitLimitExpiry 1 64, .done 256 1 1, .done 1 64 1,
    .done 1 1 (2 ^ 64), .post 256 1, .post 1 (2 ^ 64), .create 256 1,
    .create 1 (2 ^ 64), .cancel 256 1, .cancel 1 (2 ^ 64), .restart 256 1,
    .restart 1 (2 ^ 64), .delete 256 1, .delete 1 (2 ^ 64), .setPriorityAndAffinity 256 1,
    .setPriorityAndAffinity 1 (2 ^ 64), .eventBind 256 1 1, .eventBind 1 16 1, .eventBind 1 1 (2 ^ 64),
    .arm 32, .disarm 32, .manualTrigger 32, .recordStored 32,
    .autoReArm 32, .captureDefine 256, .captureArm 256, .captureDisarm 256,
    .captureTrigger 256, .captureStatus 256, .captureExport 256, .handshakeSetFault 2] : List Instr), c.wf = false := by decide +kernel

theorem test_ill_formed_7 : ∀ c ∈ ([
    .linkMeasurement 2 1, .swapAcknowledgement ({ (default : SwapAck) with unit := 2 ^ 32 }), .logRecord ({ (default : LogReq) with typ := 65536 }), .logRecord ({ (default : LogReq) with data := List.replicate 33 0 }),
    .agCursor 256 1, .agCursor 1 (2 ^ 64), .agNotify 256 1, .agNotify 1 (2 ^ 64),
    .sessionCursor 255 1, .sessionCursor 768 1, .sessionCursor 256 (2 ^ 64), .clearLog (8 + 1),
    .logMemoryFailure (2 ^ 40), .healthAcknowledge (2 ^ 64), .canFrameReceived 2 default, .canFrameReceived 1 ({ (default : CanFrame) with data := List.replicate 65 0 }),
    .fifoHeadRead 2 1, .fifoHeadRead 1 2, .transmitOffer 2, .frameSent 2,
    .busError 2 default, .busError 1 ({ (default : CanError) with kind := 7 }), .recoverFromBusOff 2, .recoveryComplete 2,
    .restrictedOperationOn 2, .restrictedOperationOff 2, .controllerEnable 2, .controllerDisable 2,
    .controllerClear 2, .tamperEvent (2 ^ 32), .attestationNonce (8 + 1) default, .configurationRoot 0 default,
    .configurationRoot (2 + 1) default, .ddrEccError true (2 ^ 40), .sramScrub true (2 ^ 40), .coreCrossCheck 64 true,
    .logicProcessorTest 16 true, .serdesErrorRate 50 true, .registerWrite (.entry (2 ^ 24) default), .registerWrite (.facet 256 0 0)] : List Instr), c.wf = false := by decide +kernel

theorem test_ill_formed_8 : ∀ c ∈ ([
    .registerWrite (.facet 0 65536 0), .registerWrite (.facet 0 0 (2 ^ 64)), .auditPass [(1, 2), (65536, 0)], .livenessProbe default,
    .identityReportReceived [], .accessFault 256 0 0 false, .accessFault 0 (2 ^ 64) 0 false, .accessFault 0xFFFF (2 ^ 40) 0 false,
    .accessFault 0 0 3 false, .accessFault 256 0 0 true, .accessFault 0 65536 0 true, .accessFault 0 0x1000 0 true,
    .accessFault 0 0x1008 0 true, .accessFault 0 0x3008 0 true, .canFrameReceived 1 { (default : CanFrame) with ident := 2 ^ 11 }, .canFrameReceived 1 { (default : CanFrame) with ident := 2 ^ 29, ext := true }] : List Instr), c.wf = false := by decide +kernel

/-- An ill-formed command is a fault without effect, and a well-formed one of the same kind is not. -/
theorem test_ill_formed_fault : exec (.portEnable 52) State.reset = .fault .illFormed ∧ (Instr.portEnable 51).wf = true :=
  ⟨rfl, by decide⟩

/-! ### Small steps, with expected results from the spec's worked examples and tables -/

/-- The next state of a command, or the state itself. -/
def after (c : Instr) (s : State) : State :=
  match exec c s with
  | .next t => t
  | _ => s

/-- A step takes the front of the queue. -/
theorem test_step_front : (match step { up with pending := [.masterLost, .rtcCopy] } with
    | .next t => t.pending
    | _ => []) = [.rtcCopy] := by decide +kernel

/-- An empty queue: one cycle of 4 ns. -/
theorem test_step_idle : (match step up with
    | .next t => t.time.mono
    | _ => 0) = 4 := by decide +kernel

/-- The highest subindices that R295, R323, R349 and R427 give. -/
theorem test_top_subindex : [0x5400, 0x5001, 0x5000, 0x7001, 0x7000, 0xB000].map topSub =
    [some 0xBF, some 0x23, some 0xD3, some 0x21, some 0x8B, some 0x1F] := by decide +kernel

/-- R84: SECURITY satisfies VIEW and SECURITY only, SERVICE does not satisfy SECURITY. -/
theorem test_roles : [1, 2, 3, 4, 5].map (fun r => [1, 2, 3, 4, 5].map (roleOk r)) =
    [[true, false, false, false, false], [true, true, false, false, false], [true, true, true, false, false],
     [true, false, false, true, false], [true, true, true, false, true]] := by decide +kernel

def engineer : State := { up with access := { up.access with sessions := [(3, Session.fresh 2 3)] } }

/-- The example of R97: 0x1803:07 is set to 950 with request 0x0A41. -/
def warning : MapMsg :=
  { sess := 3, version := 1, flags := 0, tid := 0x0A41, index := 0x1803, sub := 7, typ := 3, len := 2, payload := [0x03, 0xB6] }

theorem test_map_write : (after (.write warning) engineer).reply.code = 0 ∧ (after (.write warning) engineer).reg 0x1803 7 = 950 ∧
    mapFind (after (.write warning) engineer).access.overlay (ek 0x1803 7) = some (.int 950) := by decide +kernel

/-- The same request again is answered and not executed; 1,050 is answered 0x0109. -/
theorem test_map_repeat : (after (.write warning) (after (.write warning) engineer)).access.repeats = 1 ∧
    (after (.write { warning with tid := 0x0A42, payload := [0x04, 0x1A] }) (after (.write warning) engineer)).reply.code = 0x0109 ∧
    (after (.write { warning with tid := 0x0A42, payload := [0x04, 0x1A] }) (after (.write warning) engineer)).reg 0x1803 7 = 950 := by
  decide +kernel

/-- The example of R125. -/
theorem test_schedule : schedule 1099500000000 488372224 = some 1100000000000 ∧ schedule 1099500000000 599988372224 = none := by
  decide +kernel

/-- The example of R389: tick 1,210 of second 5 at the 4,800 grid. -/
theorem test_tick_instant : tickInstant 4800 (5 * 4800 + 1210) = 5 * 1000000000 + 252083333 := by decide +kernel

/-- R384: the first record has number 1, and the next 2. -/
theorem test_first_record : (after (.logRecord ⟨0x0701, 1, 0xFFFF, 0, 3, []⟩) up).log.held.map (·.seq) = [1] ∧
    (after (.logRecord ⟨0x0701, 1, 0xFFFF, 0, 3, []⟩) up).log.next = 2 := by decide +kernel

/-- Table 16.4 and the example of chapter 16: the transmit counter rises by 8; above 127 the controller is error passive. -/
def alone (tec : Nat) : State :=
  { up with can := { up.can with ctl := [(1, { CanCtl.stopped with
      state := 1, tec := tec, offered := some 0,
      objects := [(0, ⟨{ (default : CanFrame) with ext := true, fd := true }, none, false⟩)] })] } }

theorem test_bus_error : ((after (.busError 1 ⟨true, 1, false, false, false⟩) (alone 8)).ctl 1).tec = 16 ∧
    ((after (.busError 1 ⟨true, 1, false, false, false⟩) (alone 120)).ctl 1).tec = 128 ∧
    ((after (.busError 1 ⟨true, 1, false, false, false⟩) (alone 120)).ctl 1).state = 2 := by decide +kernel

/-- Table 2.6 and R32: VIN_IO brings up PD0 and PD1 and leaves PD2 off. -/
theorem test_vin_io : (after .vinIoQualified State.reset).domOn 1 = true ∧ (after .vinIoQualified State.reset).domOn 2 = false := by
  decide +kernel

/-- R148: a frame shorter than 64 bytes is counted at :15 of its port. -/
def link2 : State := { up with fabric := { up.fabric with link := [(2, 2)] } }

theorem test_short_frame : (after (.frameHead { (default : FrameHead) with port := 2, length := 63 }) link2).portReg 2 0x15 = 1 := by
  decide +kernel

/-- R352, R357: a module that fences itself drops OSEL_OWN at once. -/
theorem test_self_fence : (after .selfFence up).power.oselOwn = false ∧ (after .selfFence up).pair.own = false := by decide +kernel

/-- SHA-256 of "abc" (the standard's test vector). -/
theorem test_sha256_abc : (sha256 [0x61, 0x62, 0x63]).take 4 = [0xBA, 0x78, 0x16, 0xBF] := by decide +kernel

/-- R161's CRC-32 of the ASCII digits 1 to 9. -/
theorem test_crc32 : crc32 [0x31, 0x32, 0x33, 0x34, 0x35, 0x36, 0x37, 0x38, 0x39] = 0xCBF43926 := by decide +kernel

/-! ### The machine as a whole, and the rules stated whole -/

namespace W15

theorem witness_EmptyQueueIsOneCycle :
    (∃ s : State, s.pending = [] ∧ s.rising = true ∧ s.power.riseStep < riseOrder.length) ∧
    (∃ s : State, s.pending = [] ∧ s.rising = false ∧ 0 ≤ 17179869184 + s.time.corr ∧ s.domOn 8 = true) ∧
    (∃ s : State, s.pending = [] ∧ s.rising = false ∧ s.domOn 8 = false) :=
  ⟨⟨{ up with power := { up.power with stage := .rising } }, by decide +kernel⟩, ⟨up, by decide +kernel⟩,
    ⟨State.reset, by decide +kernel⟩⟩

theorem witness_EveryCommandCompletes : (Instr.portEnable 51).wf = true ∧ (Instr.portEnable 52).wf = false := by decide +kernel

/-- A step of a LIT that fences itself, from a state with a byte in memory, in which both invariants hold. -/
def fencing : State := { up with pending := [.selfFence], mem := [(5, 3)] }

theorem witness_MemoryStaysCanonical : fencing.memOk ∧ fencing.ownership ∧ (match step fencing with
    | .next _ => true
    | _ => false) = true :=
  ⟨of_memOk (by decide +kernel), ⟨by decide +kernel, by decide +kernel⟩, by decide +kernel⟩

theorem witness_RingEntries : (8191 : Nat) < 8192 ∧ fencing.memOk := ⟨by omega, of_memOk (by decide +kernel)⟩

def view (r : Nat) : State := { up with access := { up.access with sessions := [(3, Session.fresh 2 r)] }, lens := { up.lens with newest := some (77, 12345678901234) } }
def cab (r : Nat) : State := { up with can := { up.can with ctl := [(0, { CanCtl.stopped with state := 1 })] }, regs := [(ek 0x1140 1, 5 * 256 + r)] }
def ask (k : Nat) : MapMsg := { sess := 3, version := 1, flags := 0, tid := 1, index := k / 256, sub := k % 256, typ := entryType k, len := 1, payload := [1] }
def cabAsk (k : Nat) : CabReq := { ctrl := 0, dst := State.reset.ownNode 0, src := 5, data := [0] ++ beBytes 2 (k / 256) ++ [byteOf (k % 256), byteOf (entryType k), 1, 0, 0, 1] }

/-- Is the entry refused to the role: for a read, for a write. -/
def readRefused (role k : Nat) : Bool := (entryOf k).any fun e => e.acc != 2 && !roleOk role e.rd
def writeRefused (role k : Nat) : Bool := (entryOf k).any fun e => e.acc != 0 && !roleOk role e.wr

theorem witness_RolesSatisfyRequirements :
    (Served (view 1) (ask (ek 0x1110 1)) (Session.fresh 2 1) ∧
      readRefused ((view 1).requester 3 (Session.fresh 2 1)).role (ek 0x1110 1) = true) ∧
    (Served (view 1) (ask (ek 0xA020 5)) (Session.fresh 2 1) ∧
      writeRefused ((view 1).requester 3 (Session.fresh 2 1)).role (ek 0xA020 5) = true) ∧
    (CabinetServed (cab 1) (cabAsk (ek 0x1110 1)) ∧
      readRefused ((cab 1).cabinetRequester (cabAsk (ek 0x1110 1))).role (cabKey (cabAsk (ek 0x1110 1)).data) = true) ∧
    (CabinetServed (cab 1) (cabAsk (ek 0xB000 2)) ∧
      writeRefused ((cab 1).cabinetRequester (cabAsk (ek 0xB000 2))).role (cabKey (cabAsk (ek 0xB000 2)).data) = true) :=
  ⟨⟨of_served (by decide +kernel), by decide +kernel⟩, ⟨of_served (by decide +kernel), by decide +kernel⟩,
    ⟨of_cabinetServed (by decide +kernel), by decide +kernel⟩, ⟨of_cabinetServed (by decide +kernel), by decide +kernel⟩⟩

def full (s : State) : State := { s with access := { s.access with waiting := List.replicate 256 (.map 0 (ask 5)), pendingForwards := [default] } }

theorem witness_FullQueueAnswered :
    ((full (view 1)).busy = true ∧ 256 ≤ (full (view 1)).access.waiting.length ∧ (full (view 1)).inSequence = false ∧
      (full (view 1)).session 3 = some (Session.fresh 2 1) ∧ (full (view 1)).serves 3 = true) ∧
    ((full (cab 1)).busy = true ∧ 256 ≤ (full (cab 1)).access.waiting.length ∧ (full (cab 1)).inSequence = false ∧
      (full (cab 1)).domOn 1 = true ∧ ((full (cab 1)).ctl 0).state = 1 ∧ (full (cab 1)).stewardUp = true) := by decide +kernel

theorem witness_NewestRowRead :
    (view 1).lens.newest = some (77, 12345678901234) ∧
    (∀ sub, sub = 9 ∨ sub = 0x0A → Served (view 1) (ask (ek 0x47F0 sub)) (Session.fresh 2 1) ∧
      ((view 1).requester 3 (Session.fresh 2 1)).role = 1 ∧
      (view 1).pathOk ((view 1).requester 3 (Session.fresh 2 1)) (ek 0x47F0 sub) false = true) := by
  refine ⟨rfl, ?_⟩
  rintro sub (rfl | rfl)
  · exact ⟨of_served (by decide +kernel), by decide +kernel, by decide +kernel⟩
  · exact ⟨of_served (by decide +kernel), by decide +kernel, by decide +kernel⟩

def cur (en : Bool) : Cursor := { cursor := 3, slots := [], bank := false, overrun := false, newEntered := false, skipped := 0, resume := 0, notify := en }
def watched (en : Bool) : State := { up with log := { up.log with cursors := [(3, cur en)] }, facets := { up.facets with facet := [(3, { Facet.none with state := 4 })] } }

theorem witness_LogViews : Accepted (watched true) rowReq (ek (0x5000 + 3) 2) (.int 6) ∧ ((watched true).facet 3).state ≠ 0 ∧
    ((watched true).facet 3).state ≠ 7 ∧ mapFind (watched true).log.cursors 3 = some (cur true) :=
  ⟨of_accepted (by decide +kernel), by decide +kernel, by decide +kernel, by decide +kernel⟩

/-- The hypotheses of LogNotices with EN set and clear, for a record in the view (facet 3) and one outside it (no facet). -/
theorem witness_LogNotices : ∀ en ∈ [true, false], ∀ f ∈ [3, 0xFFFF],
    (watched en).domOn 2 = true ∧ (watched en).supplied = true ∧ (watched en).log.ready = true ∧
    (watched en).log.bankMode = false ∧ mapGet (watched en).log.second 0x0701 0 < 256 ∧
    ((watched en).log.cursors.map (·.1)).Nodup ∧ mapFind (watched en).log.cursors 3 = some (cur en) ∧
    inView 3 ((watched en).recordOf ⟨0x0701, 1, f, 0, 3, []⟩ (watched en).log.next) = decide (f = 3) ∧
    ((watched en).facet 3).launched = true ∧ ((watched en).facet 3).mbox.held = [] ∧
    sub32 ((watched en).facet 3).mbox.inProd ((watched en).facet 3).mbox.inCons + 2 ≤ 16 := by decide +kernel

end W15

end Sys2Proof.Tests
end

/-! # The ring entries (R12)

An entry is a run of little-endian words. The file first says what memory holds after a run of bytes is written, then what a
word stored there reads back as, and puts the two rings' entries together from their words. -/

namespace Sys2Proof.Machine

/-! ### Little-endian words -/

@[simp] theorem leBytes_length (w n : Nat) : (leBytes w n).length = w := by
  induction w generalizing n with
  | zero => rfl
  | succ w ih => simp [leBytes, ih]

theorem byteOf_toNat (n : Nat) : (byteOf n).toNat = n % 256 := BitVec.toNat_ofNat n 8

/-- The bytes of a number give it back modulo their width. -/
theorem leNat_leBytes (w n : Nat) : leNat (leBytes w n) = n % 256 ^ w := by
  induction w generalizing n with
  | zero => simp [leBytes, leNat, Nat.mod_one]
  | succ w ih => rw [leBytes, leNat, ih, byteOf_toNat, Nat.pow_succ', ← Nat.mod_mul]

/-- The four bytes of a 32-bit word give it back. -/
theorem leNat_leBytes_word {x : Nat} (hx : x < 2 ^ 32) : leNat (leBytes 4 x) = x := by
  rw [leNat_leBytes, Nat.mod_eq_of_lt (by omega)]

theorem two_pow_pos (w : Nat) : (0 : Int) < 2 ^ w := Int.pow_pos (by decide)

theorem toBits_cast (w : Nat) (v : Int) : (toBits w v : Int) = v % 2 ^ w :=
  Int.toNat_of_nonneg (Int.emod_nonneg v (Int.ne_of_gt (two_pow_pos w)))

theorem toBits_lt (w : Nat) (v : Int) : toBits w v < 2 ^ w := by
  have hlt : (toBits w v : Int) < 2 ^ w := by rw [toBits_cast]; exact Int.emod_lt_of_pos v (two_pow_pos w)
  exact_mod_cast hlt

/-- Two's complement in w + 1 bits gives back every integer of its range. -/
theorem ofBits_toBits (w : Nat) (v : Int) (hlo : -2 ^ w ≤ v) (hhi : v < 2 ^ w) : ofBits (w + 1) (toBits (w + 1) v) = v := by
  have hpow : (2 : Int) ^ (w + 1) = 2 ^ w * 2 := Int.pow_succ 2 w
  have hhalf : toBits (w + 1) v < 2 ^ w ↔ v % 2 ^ (w + 1) < (2 : Int) ^ w := by
    rw [← toBits_cast]; exact_mod_cast Iff.rfl
  rw [ofBits, Nat.mod_eq_of_lt (toBits_lt _ v), Nat.add_sub_cancel]
  simp only [hhalf, toBits_cast]
  rcases Int.lt_or_le v 0 with hneg | hpos
  · have hmod : v % 2 ^ (w + 1) = v + 2 ^ (w + 1) := by
      rw [← Int.add_emod_right, Int.emod_eq_of_lt (by omega) (by omega)]
    rw [hmod, if_neg (by omega)]
    omega
  · rw [Int.emod_eq_of_lt hpos (by omega), if_pos hhi]

/-! ### Runs of bytes in memory -/

theorem memWriteList_append (m : Mem) (a : Nat) (l r : ByteList) :
    memWriteList m a (l ++ r) = memWriteList (memWriteList m a l) (a + l.length) r := by
  induction l generalizing m a with
  | nil => rfl
  | cons b l ih => rw [List.cons_append, memWriteList, ih, memWriteList, List.length_cons, Nat.add_right_comm, Nat.add_assoc]

/-- A run of bytes that was written reads back. -/
theorem memReadList_memWriteList_same (m : Mem) (a : Nat) (l : ByteList) (h : Memory.wf m = true) :
    memReadList (memWriteList m a l) a l.length = l := by
  induction l generalizing m a with
  | nil => rfl
  | cons b l ih =>
    have hfirst : memRead (memWriteList (memWrite m a b) (a + 1) l) a = b := by
      rw [memRead_memWriteList_other _ _ _ _ (by omega), memRead_memWrite_same _ _ _ h]
    rw [List.length_cons, memWriteList, memReadList, hfirst, ih _ _ (memWrite_wf m a b h)]

/-- A write of several bytes leaves what is read beside them. -/
theorem memReadList_memWriteList_other (m : Mem) (a : Nat) (l : ByteList) (b n : Nat) (h : b + n ≤ a ∨ a + l.length ≤ b) :
    memReadList (memWriteList m a l) b n = memReadList m b n := by
  induction n generalizing b with
  | zero => rfl
  | succ n ih => rw [memReadList, memReadList, memRead_memWriteList_other _ _ _ _ (by omega), ih _ (by omega)]

/-! ### Two words stored side by side

A sample entry is one such store of 8 bytes, a phasor entry two of them. -/

/-- The words x and y stored at a and a + 4. -/
def storePair (m : Mem) (a x y : Nat) : Mem := memWriteList m a (leBytes 4 x ++ leBytes 4 y)

theorem storePair_eq_stores (m : Mem) (a x y : Nat) :
    storePair m a x y = memWriteList (memWriteList m a (leBytes 4 x)) (a + 4) (leBytes 4 y) := by
  rw [storePair, memWriteList_append, leBytes_length]

theorem storePair_wf (m : Mem) (a x y : Nat) (h : Memory.wf m = true) : Memory.wf (storePair m a x y) = true :=
  memWriteList_wf _ m a h

theorem word_memWriteList_same (m : Mem) (a x : Nat) (h : Memory.wf m = true) (hx : x < 2 ^ 32) :
    leNat (memReadList (memWriteList m a (leBytes 4 x)) a 4) = x := by
  have hback := memReadList_memWriteList_same m a (leBytes 4 x) h
  rw [leBytes_length] at hback
  rw [hback, leNat_leBytes_word hx]

theorem word_storePair_low (m : Mem) (a x y : Nat) (h : Memory.wf m = true) (hx : x < 2 ^ 32) :
    leNat (memReadList (storePair m a x y) a 4) = x := by
  rw [storePair_eq_stores, memReadList_memWriteList_other _ _ _ _ _ (.inl (Nat.le_refl _)), word_memWriteList_same m a x h hx]

theorem word_storePair_high (m : Mem) (a x y : Nat) (h : Memory.wf m = true) (hy : y < 2 ^ 32) :
    leNat (memReadList (storePair m a x y) (a + 4) 4) = y := by
  rw [storePair_eq_stores, word_memWriteList_same _ _ y (memWriteList_wf _ m a h) hy]

theorem memRead_storePair_other (m : Mem) (a x y b : Nat) (hb : b < a ∨ a + 8 ≤ b) :
    memRead (storePair m a x y) b = memRead m b :=
  memRead_memWriteList_other _ m a b (by simpa using hb)

theorem memReadList_storePair_above (m : Mem) (a x y b n : Nat) (hb : a + 8 ≤ b) :
    memReadList (storePair m a x y) b n = memReadList m b n :=
  memReadList_memWriteList_other m a _ b n (.inr (by simpa using hb))

/-! ### The sample entry -/

theorem putSample_mem (s : State) (c R : Nat) (v : Int) (q : Nat) :
    (s.putSample c R v q).mem = storePair s.mem (sampleAddr c R) (toBits 32 v) q := rfl

theorem sampleValue_putSample (s : State) (c R : Nat) (v : Int) (q : Nat) (h : s.memOk) (hlo : -2 ^ 31 ≤ v) (hhi : v < 2 ^ 31) :
    sampleValue (s.putSample c R v q).mem c R = v := by
  rw [sampleValue, putSample_mem, word_storePair_low _ _ _ _ h (toBits_lt 32 v), ofBits_toBits 31 v hlo hhi]

theorem sampleQuality_putSample (s : State) (c R : Nat) (v : Int) (q : Nat) (h : s.memOk) (hq : q < 2 ^ 32) :
    sampleQuality (s.putSample c R v q).mem c R = q := by
  rw [sampleQuality, putSample_mem, word_storePair_high _ _ _ _ h hq]

theorem memRead_putSample_other (s : State) (c R : Nat) (v : Int) (q a : Nat)
    (ha : a < sampleAddr c R ∨ sampleAddr c R + 8 ≤ a) : memRead (s.putSample c R v q).mem a = memRead s.mem a := by
  rw [putSample_mem, memRead_storePair_other _ _ _ _ _ ha]

/-! ### The phasor entry -/

theorem putPhasor_mem (s : State) (c R re im freq q : Nat) :
    (s.putPhasor c R re im freq q).mem =
      storePair (storePair s.mem (phasorAddr c R + 8) freq q) (phasorAddr c R) re im := rfl

/-- The four words of a phasor entry read back; the store of the lower two leaves the upper two. -/
theorem words_putPhasor (s : State) (c R re im freq q : Nat) (h : s.memOk) (hre : re < 2 ^ 32) (him : im < 2 ^ 32)
    (hfreq : freq < 2 ^ 32) (hq : q < 2 ^ 32) :
    leNat (memReadList (s.putPhasor c R re im freq q).mem (phasorAddr c R) 4) = re ∧
      leNat (memReadList (s.putPhasor c R re im freq q).mem (phasorAddr c R + 4) 4) = im ∧
      leNat (memReadList (s.putPhasor c R re im freq q).mem (phasorAddr c R + 8) 4) = freq ∧
      leNat (memReadList (s.putPhasor c R re im freq q).mem (phasorAddr c R + 12) 4) = q := by
  have hupper := storePair_wf s.mem (phasorAddr c R + 8) freq q h
  rw [putPhasor_mem]
  refine ⟨word_storePair_low _ _ _ _ hupper hre, word_storePair_high _ _ _ _ hupper him, ?_, ?_⟩
  · rw [memReadList_storePair_above _ _ _ _ _ _ (by omega), word_storePair_low _ _ _ _ h hfreq]
  · rw [memReadList_storePair_above _ _ _ _ _ _ (by omega), word_storePair_high _ _ _ _ h hq]

theorem memRead_putPhasor_other (s : State) (c R re im freq q a : Nat)
    (ha : a < phasorAddr c R ∨ phasorAddr c R + 16 ≤ a) :
    memRead (s.putPhasor c R re im freq q).mem a = memRead s.mem a := by
  rw [putPhasor_mem, memRead_storePair_other _ _ _ _ _ (by omega), memRead_storePair_other _ _ _ _ _ (by omega)]

/-- Settles O55: each entry is made of stores of two words, which read back and leave every byte beside them. -/
theorem ringEntries : Obligations.RingEntries := by
  intro c R _
  refine ⟨rfl, rfl, fun s hs => ⟨fun v q hlo hhi hq => ?_, fun re im freq q hre him hfreq hq => ?_⟩⟩
  · exact ⟨sampleValue_putSample s c R v q hs hlo hhi, sampleQuality_putSample s c R v q hs hq,
      fun _ => memRead_putSample_other s c R v q _, State.putSample_within s c R v q⟩
  · exact ⟨words_putPhasor s c R re im freq q hs hre him hfreq hq, fun _ => memRead_putPhasor_other s c R re im freq q _,
      State.putPhasor_within s c R re im freq q⟩

end Sys2Proof.Machine

/-! # A full queue (R109)

A request of a session meets the queue in `State.received`, one of the cabinet bus in `State.cabinet`. Each command of the two
protocols is the request of its opcode, so both refusals are proved once, for every meaning that a request may have. -/

namespace Sys2Proof.Machine

/-- The commands of the Management Access Protocol with their opcodes (Table 4.5). -/
def sessionOps : List (Nat × (MapMsg → Instr)) :=
  [(0x01, .read), (0x02, .write), (0x03, .writeSet), (0x04, .describe), (0x05, .lock), (0x06, .unlock), (0x07, .close),
    (0x10, .segInitDown), (0x11, .segDown), (0x12, .segEndDown), (0x13, .segInitUp), (0x14, .segUp), (0x1F, .abort)]

/-- The commands of cabinet object access with their codes (Table 4.7). -/
def cabinetOps : List (Nat × (CabReq → Instr)) :=
  [(0, .cabinetRead), (1, .cabinetWrite), (2, .cabinetSegmentInitDown), (3, .cabinetSegmentDown), (4, .cabinetSegmentEnd),
    (5, .cabinetSegmentInitUp), (6, .cabinetSegmentUp), (7, .cabinetAbort)]

/-- Each command of a session is the request of its opcode. -/
theorem exec_sessionOp {p : Nat × (MapMsg → Instr)} (hp : p ∈ sessionOps) (m : MapMsg) (s : State) (hrange : m.sess ≤ 8) :
    exec (p.2 m) s = .next (s.mapRequest p.1 m) := by
  obtain ⟨hexec, hwf⟩ : exec (p.2 m) s = checked (p.2 m) (s.mapRequest p.1 m) ∧ (p.2 m).wf = decide (m.sess ≤ 8) := by
    simp only [sessionOps, List.mem_cons, List.not_mem_nil, or_false] at hp
    rcases hp with rfl | rfl | rfl | rfl | rfl | rfl | rfl | rfl | rfl | rfl | rfl | rfl | rfl <;> exact ⟨rfl, rfl⟩
  rw [hexec, checked_wf (by simp [hwf, hrange])]

/-- Each command of a cabinet client is the request of its code, with domain 1 on. -/
theorem exec_cabinetOp {p : Nat × (CabReq → Instr)} (hp : p ∈ cabinetOps) (r : CabReq) (s : State)
    (hrange : r.ctrl < 2 ∧ r.dst < 256 ∧ r.src < 256 ∧ r.data.length ≤ 64) (hon : s.domOn 1 = true) :
    exec (p.2 r) s = .next (s.cabinet p.1 r fun q t => t.cabExec p.1 q r) := by
  obtain ⟨hexec, hwf⟩ : exec (p.2 r) s =
        checked (p.2 r) (s.when (s.domOn 1) fun u => u.cabinet p.1 r fun q t => t.cabExec p.1 q r) ∧
      (p.2 r).wf = decide (r.ctrl < 2 ∧ r.dst < 256 ∧ r.src < 256 ∧ r.data.length ≤ 64) := by
    simp only [cabinetOps, List.mem_cons, List.not_mem_nil, or_false] at hp
    rcases hp with rfl | rfl | rfl | rfl | rfl | rfl | rfl | rfl <;> exact ⟨rfl, rfl⟩
  rw [hexec, checked_wf (by simp [hwf, hrange]), State.when_true hon]

/-- Every request of a session, whatever its opcode, is heard by `received`. -/
theorem mapRequest_eq_received (s : State) (op : Nat) (m : MapMsg) : ∃ f, s.mapRequest op m = s.received op m f := by
  unfold State.mapRequest
  split
  · exact ⟨_, rfl⟩
  · exact ⟨_, rfl⟩
  · exact ⟨_, rfl⟩

/-- With 256 operations waiting, one more is answered 0x0114 and not kept. -/
theorem defer_full {s : State} (w : Waiting) (hfull : 256 ≤ s.access.waiting.length) : s.defer w = s.answer 0x0114 :=
  if_pos hfull

/-- A request of a session that finds the queue full is answered 0x0114, whatever it would do. -/
theorem received_full {s : State} {m : MapMsg} {x : Session} (op : Nat) (f : Session → State → State)
    (hbusy : s.busy = true) (hfull : 256 ≤ s.access.waiting.length) (hpower : s.inSequence = false)
    (hsession : s.session m.sess = some x) (hserves : s.serves m.sess = true) :
    s.received op m f = (s.answer 0x0114).respond op m := by
  simp [State.received, hsession, hpower, hserves, hbusy, defer_full _ hfull]

/-- A request of the cabinet bus that finds the queue full is answered 0x0114, whatever it would do. -/
theorem cabinet_full {s : State} {r : CabReq} (cmd : Nat) (f : Requester → State → Nat × Nat × ByteList × State)
    (hbusy : s.busy = true) (hfull : 256 ≤ s.access.waiting.length) (hpower : s.inSequence = false)
    (hown : r.dst = s.ownNode r.ctrl) (hctl : (s.ctl r.ctrl).state = 1) (hup : s.stewardUp = true) :
    s.cabinet cmd r f = (s.cabSend r.ctrl r.src (cabResponse r.data 0 0x0114 [])).answer 0x0114 := by
  simp [State.cabinet, hown, hctl, hpower, hup, hbusy, hfull]

/-- The response of a refusal carries its code and no payload, and changes nothing but the answer. -/
theorem answer_respond (s : State) (op : Nat) (m : MapMsg) {c : Nat} (hknown : c ≠ 65536) :
    ((s.answer c).respond op m).reply.code = c ∧ ((s.answer c).respond op m).reply.payload = [] ∧
      Within [.reply] s ((s.answer c).respond op m) := by
  have hwithin : Within [.reply] s ((s.answer c).respond op m) :=
    (State.respond_within _ op m).step (fun _ => id) (State.answer_within s c [])
  refine ⟨?_, ?_, hwithin⟩ <;> simp [State.respond, State.answer, hknown]

/-- Settles O57: a request meets the queue before its operation, and the refusal writes only the answer and, on the cabinet
bus, the response frame. -/
theorem fullQueueAnswered : Obligations.FullQueueAnswered := by
  intro s hbusy hfull hpower
  refine ⟨fun op hop m x hrange hsession hserves => ?_, fun op hop r hctrl hdst hsrc hdata hon hown hctl hup => ?_⟩
  · obtain ⟨p, hp, rfl⟩ : ∃ p ∈ sessionOps, p.2 = op := List.mem_map.1 hop
    obtain ⟨f, hreceived⟩ := mapRequest_eq_received s p.1 m
    have hexec := exec_sessionOp hp m s hrange
    rw [hreceived, received_full p.1 f hbusy hfull hpower hsession hserves] at hexec
    exact ⟨_, hexec, answer_respond s p.1 m (by decide)⟩
  · obtain ⟨p, hp, rfl⟩ : ∃ p ∈ cabinetOps, p.2 = op := List.mem_map.1 hop
    have hexec := exec_cabinetOp hp r s ⟨hctrl, hdst, hsrc, hdata⟩ hon
    rw [cabinet_full p.1 _ hbusy hfull hpower hown hctl hup] at hexec
    exact ⟨_, hexec, rfl, (State.answer_within ..).step (by decide) ((State.cabSend_within ..).step (by decide) (.refl _ s))⟩

end Sys2Proof.Machine

/-! # A write that the role refuses (R84)

The statement fails on one point. A capture slot keeps the code of every refused write of its :01 at :21
(`State.noteRefusal`), the refusal of a role included, so such a write leaves a register changed. -/

namespace Sys2Proof.Machine

/-- A request that `Served` describes is executed, answered and kept. -/
theorem request97_served {s : State} {m : MapMsg} {x : Session} (h : Served s m x) (op : Nat) (f : Requester → State → State) :
    s.request97 op m f = ((f (s.requester m.sess x) s).respond op m).keepRequest op m (requestDigest op m) := by
  have hother : s.otherRequest m = s := by
    unfold State.otherRequest
    split
    · next t ht =>
      have hidle := h.idle t (by simpa [h.opened] using ht)
      refine if_neg ?_
      rintro ⟨hup, hkey⟩
      rcases hidle with hdown | hkey'
      · exact Bool.false_ne_true (hup.symm.trans hdown)
      · exact hkey' hkey
    · rfl
  have hlater : ∀ n, x.lastId = some n →
      ((m.tid + 4294967296 - n % 4294967296) % 4294967296 == 0 ||
        decide (2147483648 ≤ (m.tid + 4294967296 - n % 4294967296) % 4294967296)) = false := by
    intro n hn
    have := h.later n hn
    simp only [Bool.or_eq_false_iff, beq_eq_false_iff_ne, decide_eq_false_iff_not]
    omega
  unfold State.request97
  simp only [State.received, h.opened, h.power, h.serves, State.busy, h.busy, h.formed, h.tid, h.fresh, hother]
  cases hlast : x.lastId with
  | none => simp
  | some n => simp [hlater n hlast]

/-- The check of a write to an entry that the role may not write. -/
theorem writeCode_role {s : State} {q : Requester} {key : Nat} {e : Entry} (hentry : entryOf key = some e)
    (hsub : key % 256 ≠ 0) (hacc : e.acc ≠ 0) (hrole : roleOk q.role e.wr = false) : s.writeCode q key = 0x0105 := by
  simp [State.writeCode, hentry, hsub, hacc, hrole]

/-- A single write whose entry refuses it answers the code of that check; only the note of the refusal is made. -/
theorem writeRaw_refused {s : State} {q : Requester} {i : RawItem} {c : Nat} (hcode : s.writeCode q i.key = c) (hc : c ≠ 0) :
    s.writeRaw q [i] = ⟨i.key % 256, c, s.noteRefusal i.key c⟩ := by
  have hraw : s.rawCode q i = c := by simp [State.rawCode, hcode, hc]
  simp [State.writeRaw, State.writeItems, firstFault, hraw, hc]

/-- The registers after a WRITE of a session that its entry refuses: those that the note of the refusal leaves. -/
theorem opWrite_refused_regs {s : State} {m : MapMsg} {x : Session} {c : Nat} (h : Served s m x)
    (hcode : s.writeCode (s.requester m.sess x) (ek m.index m.sub) = c) (hc : c ≠ 0) :
    (opWrite m s).regs = (s.noteRefusal (ek m.index m.sub) c).regs := by
  rw [opWrite, request97_served h, (State.keepRequest_within ..).same_regs, (State.respond_within ..).same_regs, State.mapWrite,
    writeRaw_refused hcode hc, (State.answer_within ..).same_regs]

/-- A capture slot notes the code at its :21. -/
theorem noteRefusal_slot (s : State) (c : Nat) {n : Nat} (hn : n < 32) :
    s.noteRefusal (ek (0x7000 + n) 1) c = s.setReg (0x7000 + n) 0x21 c := by
  have hindex : ek (0x7000 + n) 1 / 256 = 0x7000 + n := by unfold ek; omega
  have hsub : ek (0x7000 + n) 1 % 256 = 1 := by unfold ek; omega
  unfold State.noteRefusal
  rw [hindex, hsub]
  exact if_pos (by omega)

/-- The entry that arms a capture slot is RW, and ENGINEER writes it. -/
theorem slot_01_roles {n : Nat} (hn : n < 32) : ∃ e, entryOf (ek (0x7000 + n) 1) = some e ∧ e.acc = 1 ∧ e.wr = 3 :=
  ⟨_, entryOf_uniform (by decide) hn rfl, rfl, rfl⟩

/-- A steward in phase 9, whose session 3 holds VIEW. -/
def viewer : State :=
  { State.reset with
    power := { Power.reset with stage := .up, dom := [(2, .on)] }
    boot := { Boot.reset with phase := 9 }
    access := { Access.reset with sessions := [(3, Session.fresh 2 1)] } }

/-- The first request of that session: 1 (BOOL) to 0x7000:01, which arms capture slot 0. -/
def armRequest : MapMsg :=
  { sess := 3, version := 1, flags := 0, tid := 1, index := 0x7000, sub := 1, typ := 1, len := 1, payload := [1] }

theorem served_armRequest : Served viewer armRequest (Session.fresh 2 1) where
  range := by decide
  opened := rfl
  power := rfl
  serves := rfl
  busy := rfl
  formed := rfl
  tid := by decide
  fresh := rfl
  later := nofun
  idle := nofun

/-- Refutes O56: a VIEW session writes 0x7000:01, which ENGINEER writes. The answer is 0x0105, and 0x7000:21, empty before,
holds 0x0105. -/
theorem not_rolesSatisfyRequirements : ¬ Obligations.RolesSatisfyRequirements := by
  rintro ⟨-, -, -, hsessions, -⟩
  obtain ⟨e, hentry, hacc, hwr⟩ := slot_01_roles (n := 0) (by decide)
  have hrole : roleOk (viewer.requester armRequest.sess (Session.fresh 2 1)).role e.wr = false := by rw [hwr]; rfl
  obtain ⟨-, hwrite⟩ := hsessions viewer armRequest _ e served_armRequest (by decide) (by decide) hentry
  obtain ⟨t, hexec, -, hregs, -⟩ := hwrite (by omega) hrole
  have hrun : exec (.write armRequest) viewer = .next (opWrite armRequest viewer) :=
    checked_wf (c := .write armRequest) rfl _
  have ht : opWrite armRequest viewer = t := Host.Outcome.next.inj (hrun.symm.trans hexec)
  have hnoted : t.regs = [(ek 0x7000 0x21, 0x0105)] := by
    rw [← ht, opWrite_refused_regs served_armRequest (writeCode_role hentry (by decide) (by omega) hrole) (by decide)]
    exact congrArg State.regs (noteRefusal_slot viewer 0x0105 (n := 0) (by decide))
  exact absurd (hregs.symm.trans hnoted) nofun

end Sys2Proof.Machine

/-! # The newest sealed row as read (R174)

A READ of a session answers the value that the dictionary gives, and most entries are read without an effect. Both facts are
stated for every entry; the two entries of the Lens and the two registers of the facet window then add only their values. -/

namespace Sys2Proof.Machine

/-! ### A READ of a session -/

/-- An entry whose read does more than report it: a capture stamp, the unlock challenge, a measured quantity. -/
def readActs (key : Nat) : Prop :=
  (0x3120 ≤ key / 256 ∧ key / 256 ≤ 0x3123 ∧ key % 256 = 2) ∨ key = ek 0xA040 1 ∨ measuredKey key = true

/-- A read that role and path allow gives the entry's value and has no effect of its own (R81, R84). -/
theorem dictRead_plain {s : State} {q : Requester} {key : Nat} {e : Entry} (hentry : entryOf key = some e)
    (hsub : key % 256 ≠ 0) (hacc : e.acc ≠ 2) (hrole : roleOk q.role e.rd = true) (hpath : s.pathOk q key false = true)
    (hplain : ¬ readActs key) :
    s.dictRead q key = (0, entryType key, valBytes (entryType key) (s.readEntry q.who key), s) := by
  obtain ⟨hstamp, hchallenge, hmeasured⟩ : ¬ (0x3120 ≤ key / 256 ∧ key / 256 ≤ 0x3123 ∧ key % 256 = 2) ∧
      key ≠ ek 0xA040 1 ∧ measuredKey key ≠ true := by simpa only [readActs, not_or] using hplain
  have htyp : entryType key = e.typ := by simp [entryType, hentry]
  simp [State.dictRead, hentry, hsub, hacc, hrole, hpath, hstamp, hchallenge, hmeasured, htyp]

/-- A response whose result is known is sent with the code and payload that were answered. -/
theorem respond_answer {s : State} (op : Nat) (m : MapMsg) {c : Nat} (b : ByteList) (hknown : c ≠ 65536) :
    ((s.answer c b).respond op m).reply.code = c ∧ ((s.answer c b).respond op m).reply.payload = b := by
  simp [State.respond, State.answer, hknown]

/-- A READ of a value that fits one message is answered with it, where the read has no effect of its own. -/
theorem exec_read_answers {s : State} {m : MapMsg} {x : Session} {typ : Nat} {b : ByteList} (h : Served s m x)
    (hread : s.dictRead (s.requester m.sess x) (ek m.index m.sub) = (0, typ, b, s)) (hfits : b.length ≤ 1024) :
    ∃ t, exec (.read m) s = .next t ∧ t.reply.code = 0 ∧ t.reply.payload = b ∧ Within [.reply, .access] s t := by
  have hvalue : s.mapRead (s.requester m.sess x) m = s.answer 0 b := by
    simp [State.mapRead, hread, Nat.not_lt.2 hfits]
  have hrun : opRead m s = ((s.answer 0 b).respond 1 m).keepRequest 1 m (requestDigest 1 m) := by
    rw [opRead, request97_served h, hvalue]
  obtain ⟨hcode, hpayload⟩ := respond_answer (s := s) 1 m b (c := 0) (by decide)
  refine exec_next (t := opRead m s) rfl (by simp [Instr.wf, h.range]) ?_
  rw [hrun, (State.keepRequest_within ..).same_reply]
  exact ⟨hcode, hpayload, (State.keepRequest_within ..).step (by decide)
    ((State.respond_within ..).step (by decide) (State.answer_within ..).mono)⟩

/-! ### 0x47F0:09 and :0A -/

/-- Both entries are RO, and VIEW reads them. -/
theorem entryOf_newest {sub : Nat} (hsub : sub = 9 ∨ sub = 0x0A) :
    ∃ e, entryOf (ek 0x47F0 sub) = some e ∧ e.acc = 0 ∧ e.rd = 1 := by
  rcases hsub with rfl | rfl <;> exact ⟨_, rfl, rfl, rfl⟩

theorem not_readActs_newest {sub : Nat} (hsub : sub = 9 ∨ sub = 0x0A) : ¬ readActs (ek 0x47F0 sub) := by
  unfold readActs
  rcases hsub with rfl | rfl <;> decide

/-- Every role that satisfies VIEW reads the two entries, without an effect. -/
theorem dictRead_newest {s : State} {q : Requester} {sub : Nat} (hsub : sub = 9 ∨ sub = 0x0A)
    (hview : roleOk q.role 1 = true) (hpath : s.pathOk q (ek 0x47F0 sub) false = true) :
    s.dictRead q (ek 0x47F0 sub) = (0, entryType (ek 0x47F0 sub),
      valBytes (entryType (ek 0x47F0 sub)) (s.readEntry q.who (ek 0x47F0 sub)), s) := by
  obtain ⟨e, hentry, hacc, hrd⟩ := entryOf_newest hsub
  have hvalue : ek 0x47F0 sub % 256 ≠ 0 := by unfold ek; omega
  exact dictRead_plain hentry hvalue (by omega) (by rw [hrd, hview]) hpath (not_readActs_newest hsub)

theorem entryType_newestRow : entryType (ek 0x47F0 9) = 0x1B := rfl

theorem entryType_newestTick : entryType (ek 0x47F0 0x0A) = 0x30 := rfl

theorem readEntry_newestRow {s : State} {num inst : Nat} (hnewest : s.lens.newest = some (num, inst)) (who : Nat) :
    s.readEntry who (ek 0x47F0 9) = .int num := by
  have hlens : s.readEntry who (ek 0x47F0 9) = .int ((s.lens.newest.map fun p => (p.1 : Int)).getD 0) := rfl
  rw [hlens, hnewest]
  rfl

theorem readEntry_newestTick {s : State} {num inst : Nat} (hnewest : s.lens.newest = some (num, inst)) (who : Nat) :
    s.readEntry who (ek 0x47F0 0x0A) = .bytes (time80 inst) := by
  have hlens : s.readEntry who (ek 0x47F0 0x0A) = .bytes (time80 ((s.lens.newest.map (·.2)).getD 0)) := rfl
  rw [hlens, hnewest]
  rfl

/-- A number of w bits is its own two's complement. -/
theorem toBits_natCast {w n : Nat} (hn : n < 2 ^ w) : toBits w n = n := by
  have hlt : (n : Int) < 2 ^ w := by exact_mod_cast hn
  rw [toBits, Int.emod_eq_of_lt (Int.natCast_nonneg n) hlt, Int.toNat_natCast]

theorem valBytes_u64 {n : Nat} (hn : n < 2 ^ 64) : valBytes 0x1B (.int n) = beBytes 8 n := by
  change beBytes 8 (toBits 64 n) = beBytes 8 n
  rw [toBits_natCast hn]

@[simp] theorem beBytes_length (w n : Nat) : (beBytes w n).length = w := by rw [beBytes, List.length_reverse, leBytes_length]

@[simp] theorem time80_length (t : Nat) : (time80 t).length = 10 := by simp [time80]

/-! ### NEWEST_ROW and NEWEST_TICK (Table 12.3) -/

theorem windowRead_newestRow (s : State) (n : Nat) : s.windowRead n 0x0038 = (s.lens.newest.map (·.1)).getD 0 := rfl

theorem windowRead_newestTick (s : State) (n : Nat) : s.windowRead n 0x0040 = (s.lens.newest.map (·.2)).getD 0 := rfl

/-- Settles O58: a READ answers the value of the entry, and the registers of the window are that value. -/
theorem newestRowRead : Obligations.NewestRowRead := by
  intro s num inst hnewest
  refine ⟨fun m x hserved hrole hpath hindex => ?_, fun n => ?_⟩
  · have hview : roleOk (s.requester m.sess x).role 1 = true := by rw [hrole]; rfl
    refine ⟨fun hsub hnum => ?_, fun hsub => ?_⟩
    · have hread := dictRead_newest (.inl hsub) hview hpath
      rw [hsub, entryType_newestRow, readEntry_newestRow hnewest, valBytes_u64 hnum] at hread
      exact exec_read_answers hserved (by rw [hindex, hsub, hread]) (by simp)
    · have hread := dictRead_newest (.inr hsub) hview hpath
      rw [hsub, entryType_newestTick, readEntry_newestTick hnewest] at hread
      exact exec_read_answers hserved (by rw [hindex, hsub, hread]; rfl) (by simp)
  · rw [windowRead_newestRow, windowRead_newestTick, hnewest]
    exact ⟨rfl, rfl⟩

end Sys2Proof.Machine

/-! # What readers see of the log (R396)

A facet reset writes the reader's cursor in its own step, on a log that none of its other steps touches. -/

namespace Sys2Proof.Machine

/-- The types that every facet sees are the seven of Table 15.2. -/
theorem logSeenByAll_iff (typ : Nat) :
    logSeenByAll typ = true ↔ typ ∈ [0x0301, 0x0302, 0x0A01, 0x0B01, 0x0B04, 0x0B06, 0x0E02] := by
  simp [logSeenByAll, or_assoc]

theorem inView_facet {n : Nat} (hn : n < 256) (r : LogRecord) :
    inView n r = true ↔ r.facet = n ∨ logSeenByAll r.typ = true := by
  simp [inView, Nat.not_le.2 hn]

theorem inView_reader {n : Nat} (hn : 256 ≤ n) (r : LogRecord) : inView n r = true := by
  simp [inView, hn]

/-- A reset sets the cursor of its facet back and clears EN; no other step of it changes the log. -/
theorem resetFacet_cursor {s : State} {n : Nat} {k : Cursor} (hfind : mapFind s.log.cursors n = some k) :
    mapFind (s.resetFacet n).log.cursors n = some { k with cursor := 0, notify := false } := by
  unfold State.resetFacet
  extract_lets f s0 s1 s2 log s3
  have hs0 : s0.log = s.log := by
    unfold s0
    split
    · exact (State.setBlobOf_within ..).same_log
    · rfl
  have hs1 : s1.log = s.log := by
    rw [(State.freeTasks_within ..).same_log, (State.capFacetReset_within ..).same_log,
      (State.dropSubmissions_within ..).same_log, hs0]
  have hs2 : s2.log = s.log := by
    refine (applyAll_keeps _ State.log (fun k t => ?_) _ _).trans hs1
    split
    · exact (State.tpoOff_within ..).same_log
    · rfl
  have hs3 : s3.log.cursors = mapPut n { k with cursor := 0, notify := false } s2.log.cursors := by
    simp only [s3, hs2, hfind]
  rw [(State.setFacet_within ..).same_log, hs3, mapFind_mapPut_same]

/-- Command 6 of a defined facet that is not in a reset is the reset; :17 then holds 0. -/
theorem facetCommand_reset {s : State} {n : Nat} (hdefined : (s.facet n).state ≠ 0) (hout : (s.facet n).state ≠ 7) :
    s.facetCommand n 6 = (0, (s.resetFacet n).setFacet n { (s.resetFacet n).facet n with result := 0 }) := by
  simp [State.facetCommand, facetCommandCode, hdefined, hout]

/-- A write to :02 of a facet entry is its command. -/
theorem action_facetCommand {n : Nat} (hn : n < 256) (s : State) (q : Requester) (v : Val) :
    s.action q (ek (0x5000 + n) 2) v = s.facetCommand n (valNat v) := by
  have hindex : ek (0x5000 + n) 2 / 256 = 0x5000 + n := by unfold ek; omega
  have hsub : ek (0x5000 + n) 2 % 256 = 2 := by unfold ek; omega
  unfold State.action
  simp only [hindex, hsub]
  repeat rw [if_neg (by omega)]
  rw [if_pos (by omega), State.actFacet, Nat.add_sub_cancel_left]

/-- An accepted FACET_RESET leaves the reader of its facet at cursor 0 with EN clear. -/
theorem opFacetReset_cursor {s : State} {n : Nat} {k : Cursor} (hn : n < 256)
    (haccepted : Accepted s rowReq (ek (0x5000 + n) 2) (.int 6)) (hdefined : (s.facet n).state ≠ 0)
    (hout : (s.facet n).state ≠ 7) (hfind : mapFind s.log.cursors n = some k) :
    mapFind (opFacetReset n s).log.cursors n = some { k with cursor := 0, notify := false } := by
  rw [opFacetReset, rowWrite_action haccepted (facet_02_kind hn), action_facetCommand hn,
    show valNat (.int 6) = 6 from rfl, facetCommand_reset hdefined hout, State.answer_log, (State.setFacet_within ..).same_log,
    resetFacet_cursor hfind]

/-- Settles O59: the views are those of `inView`, and the reset of a facet is the accepted command 6. -/
theorem logViews : Obligations.LogViews := by
  refine ⟨fun n r => ⟨fun hn => ?_, fun hn => inView_reader hn r⟩,
    fun s n hn haccepted hdefined hout k hfind => ⟨opFacetReset n s, { k with cursor := 0, notify := false }, ?_, ?_, rfl, rfl⟩⟩
  · rw [inView_facet hn, logSeenByAll_iff]
  · exact checked_wf (c := .facetReset n) (by simp [Instr.wf, hn]) _
  · exact opFacetReset_cursor hn haccepted hdefined hout hfind

end Sys2Proof.Machine

/-! # Notices of records (R397)

A record is told to the readers one after the other. A turn reaches the mailbox of its own facet only, and after its doorbell
the bindings post flags, which no mailbox holds. -/

namespace Sys2Proof.Machine

/-! ### What posting a flag leaves -/

/-- The mailbox of a facet and its state, on which a notice to it rests. -/
def State.mailbox (s : State) (n : Nat) : Mailbox × Nat := ((s.facet n).mbox, (s.facet n).state)

theorem mailbox_eq {s t : State} {n : Nat} (h : t.mailbox n = s.mailbox n) :
    (t.facet n).mbox = (s.facet n).mbox ∧ (t.facet n).launched = (s.facet n).launched := by
  obtain ⟨hmbox, hstate⟩ := Prod.mk.inj h
  exact ⟨hmbox, by rw [Facet.launched, Facet.launched, hstate]⟩

theorem mailbox_setFacet_other (s : State) {n m : Nat} (f : Facet) (hne : m ≠ n) : (s.setFacet m f).mailbox n = s.mailbox n := by
  simp only [State.mailbox, State.facet_setFacet_other s f hne]

/-- A change of a facet beside its mailbox and state. -/
theorem mailbox_setFacet_keeps {s : State} {m : Nat} {f : Facet} (hmbox : f.mbox = (s.facet m).mbox)
    (hstate : f.state = (s.facet m).state) (n : Nat) : (s.setFacet m f).mailbox n = s.mailbox n := by
  by_cases hne : m = n
  · subst hne
    simp only [State.mailbox, State.facet_setFacet, hmbox, hstate]
  · exact mailbox_setFacet_other s f hne

theorem mailbox_handOver (s : State) (m core : Nat) (c : Nat × Task) (n : Nat) :
    (s.handOver m core c).mailbox n = s.mailbox n :=
  mailbox_setFacet_keeps (by rfl) (by rfl) n

theorem mailbox_serveWaiters (s : State) (m n : Nat) : (s.serveWaiters m).mailbox n = s.mailbox n := by
  unfold State.serveWaiters
  split
  · refine applyAll_keeps _ (State.mailbox · n) (fun core t => ?_) _ _
    unfold State.serveCore
    split
    · exact mailbox_handOver t m core _ n
    · rfl
  · rfl

theorem mailbox_postFlags (s : State) (m task flags n : Nat) : (s.postFlags m task flags).mailbox n = s.mailbox n := by
  unfold State.postFlags
  extract_lets g k f k1 s1
  split
  · exact mailbox_setFacet_keeps (by rfl) (by rfl) n
  · rw [mailbox_serveWaiters]
    unfold s1
    split <;> rfl

theorem mailbox_postSource (s : State) (m src row n : Nat) : (s.postSource m src row).mailbox n = s.mailbox n := by
  unfold State.postSource
  split
  · rfl
  · refine applyAll_keeps _ (State.mailbox · n) (fun i t => ?_) _ _
    rw [State.postBinding, apply_ite (State.mailbox · n), mailbox_postFlags, ite_self]

/-! ### What a message does to mailboxes (R303, R305) -/

theorem mailbox_doorbell_other (s : State) {m n : Nat} (hne : m ≠ n) : (s.doorbell m).mailbox n = s.mailbox n := by
  unfold State.doorbell
  rw [mailbox_postSource, mailbox_setFacet_other _ _ hne]

/-- The doorbell sets IN_PENDING. -/
theorem doorbell_mbox (s : State) (n : Nat) :
    ((s.doorbell n).facet n).mbox = { (s.facet n).mbox with status := withBit (s.facet n).mbox.status 0 true } := by
  unfold State.doorbell
  extract_lets f m target core raise f1 f2
  have hf2 : f2.mbox = f1.mbox := by
    unfold f2
    split <;> rfl
  calc (((s.setFacet n f2).postSource n 1 0).facet n).mbox
      = ((s.setFacet n f2).facet n).mbox := congrArg Prod.fst (mailbox_postSource _ n 1 0 n)
    _ = f1.mbox := by rw [State.facet_setFacet, hf2]

theorem mailbox_notice_other (s : State) {m n : Nat} (code : Nat) (payload : List Nat) (hne : m ≠ n) :
    (s.notice m code payload).mailbox n = s.mailbox n := by
  unfold State.notice State.sendToGuest
  dsimp only
  split
  · split
    · rw [mailbox_doorbell_other _ hne, mailbox_setFacet_other _ _ hne, mailbox_setFacet_other _ _ hne]
    · split
      · rw [mailbox_setFacet_other _ _ hne, mailbox_setFacet_other _ _ hne]
      · exact mailbox_setFacet_other _ _ hne
  · rfl

/-- A message that finds room, with nothing held before it, goes into the ring at IN_PROD. -/
theorem sendToGuest_mbox {s : State} {n : Nat} {words : List Nat} (hheld : (s.facet n).mbox.held = [])
    (hroom : sub32 (s.facet n).mbox.inProd (s.facet n).mbox.inCons + words.length ≤ 16) :
    ((s.sendToGuest n words).facet n).mbox = { (s.facet n).mbox with
      inSlots := putSlots (s.facet n).mbox.inProd words (s.facet n).mbox.inSlots
      inProd := wrap 32 ((s.facet n).mbox.inProd + words.length)
      status := withBit (s.facet n).mbox.status 0 true } := by
  unfold State.sendToGuest
  dsimp only
  rw [if_pos (by rw [hheld]; simpa [sub32] using hroom), doorbell_mbox, State.facet_setFacet]

/-- A notice carries its header with the facet's next tag, then its payload. -/
theorem notice_mbox {s : State} {n : Nat} (code : Nat) {payload : List Nat} (hlaunched : (s.facet n).launched = true)
    (hheld : (s.facet n).mbox.held = [])
    (hroom : sub32 (s.facet n).mbox.inProd (s.facet n).mbox.inCons + (payload.length + 1) ≤ 16) :
    ((s.notice n code payload).facet n).mbox = { (s.facet n).mbox with
      inSlots := putSlots (s.facet n).mbox.inProd
        (msgHeader (s.facet n).mbox.noticeTag code payload.length 0 :: payload) (s.facet n).mbox.inSlots
      inProd := wrap 32 ((s.facet n).mbox.inProd + (payload.length + 1))
      noticeTag := wrap 16 ((s.facet n).mbox.noticeTag + 1)
      status := withBit (s.facet n).mbox.status 0 true } := by
  unfold State.notice
  dsimp only
  rw [if_pos hlaunched, sendToGuest_mbox (by rw [State.facet_setFacet, hheld]) (by rw [State.facet_setFacet]; exact hroom),
    State.facet_setFacet, List.length_cons]

/-- Two words go into the slot at the index and the one after it. -/
theorem putSlots_pair (p a b : Nat) (m : Map Nat) :
    mapGet (putSlots p [a, b] m) (p % 16) 0 = a ∧ mapGet (putSlots p [a, b] m) ((p + 1) % 16) 0 = b := by
  have hne : (p + 1) % 16 ≠ p % 16 := by omega
  constructor
  · rw [putSlots, putSlots, putSlots, mapGet_mapPut_other _ _ _ hne, mapGet_mapPut_same]
  · rw [putSlots, putSlots, putSlots, mapGet_mapPut_same]

/-! ### The turn of a reader -/

theorem tellReader_out {r : LogRecord} {c : Nat × Cursor} (hout : inView c.1 r = false) (s : State) : s.tellReader r c = s := by
  simp [State.tellReader, hout]

/-- A reader with the record in its view has NEW set and EN cleared. -/
theorem tellReader_in {r : LogRecord} {c : Nat × Cursor} (hin : inView c.1 r = true) (s : State) :
    (s.tellReader r c).log =
      { s.log with cursors := mapPut c.1 { c.2 with newEntered := true, notify := false } s.log.cursors } := by
  unfold State.tellReader
  rw [if_pos hin]
  dsimp only
  split
  · rw [State.notice_log]
  · rfl

/-- A turn changes the mailbox of its own facet only, and with EN clear or the record outside the view not even that. -/
theorem mailbox_tellReader_keeps {r : LogRecord} {c : Nat × Cursor} {n : Nat}
    (h : c.1 ≠ n ∨ inView c.1 r = false ∨ c.2.notify = false) (s : State) : (s.tellReader r c).mailbox n = s.mailbox n := by
  cases hin : inView c.1 r with
  | false => rw [tellReader_out hin]
  | true =>
    rw [State.tellReader, if_pos hin]
    dsimp only
    split
    · next hnotify =>
      have hne : c.1 ≠ n := by simpa [hin, hnotify] using h
      rw [mailbox_notice_other _ _ _ hne]
      rfl
    · rfl

/-- With EN set, a reader whose view the record enters is sent 0x0B81 with AG_NEXT, where the notice finds room. -/
theorem tellReader_notice {s : State} {r : LogRecord} {n : Nat} {k : Cursor} (hin : inView n r = true)
    (hnotify : k.notify = true) (hlaunched : (s.facet n).launched = true) (hheld : (s.facet n).mbox.held = [])
    (hroom : sub32 (s.facet n).mbox.inProd (s.facet n).mbox.inCons + 2 ≤ 16) :
    let m := (s.facet n).mbox
    let m' := ((s.tellReader r (n, k)).facet n).mbox
    m'.inProd = (m.inProd + 2) % 2 ^ 32 ∧ mapGet m'.inSlots (m.inProd % 16) 0 = msgHeader m.noticeTag 0x0B81 1 0 ∧
      mapGet m'.inSlots ((m.inProd + 1) % 16) 0 = s.log.next := by
  intro m m'
  have hm' : m' = { m with
      inSlots := putSlots m.inProd [msgHeader m.noticeTag 0x0B81 1 0, s.log.next] m.inSlots
      inProd := wrap 32 (m.inProd + 2)
      noticeTag := wrap 16 (m.noticeTag + 1)
      status := withBit m.status 0 true } := by
    unfold m' State.tellReader
    rw [if_pos hin]
    dsimp only
    rw [if_pos hnotify]
    exact notice_mbox 0x0B81 hlaunched hheld hroom
  rw [hm']
  exact ⟨rfl, putSlots_pair ..⟩

/-! ### All readers in turn -/

theorem applyAll_append {α : Type} (f : α → State → State) (l r : List α) (s : State) :
    applyAll f (l ++ r) s = applyAll f r (applyAll f l s) := by
  induction l generalizing s with
  | nil => rfl
  | cons a l ih => exact ih _

/-- What each step over the members of a list keeps, all of them keep. -/
theorem applyAll_keeps_mem {α β : Type} {f : α → State → State} {g : State → β} {l : List α}
    (h : ∀ a ∈ l, ∀ s, g (f a s) = g s) (s : State) : g (applyAll f l s) = g s := by
  induction l generalizing s with
  | nil => rfl
  | cons a l ih =>
    exact (ih (fun b hb => h b (List.mem_cons_of_mem _ hb)) _).trans (h a List.mem_cons_self s)

/-- The turns of other readers leave the reader n as it is. -/
theorem tellOthers_keeps {l : List (Nat × Cursor)} {n : Nat} (hothers : ∀ c ∈ l, c.1 ≠ n) (r : LogRecord) (s : State) :
    (applyAll (State.tellReader r) l s).mailbox n = s.mailbox n ∧
      mapFind (applyAll (State.tellReader r) l s).log.cursors n = mapFind s.log.cursors n := by
  refine ⟨applyAll_keeps_mem (g := (State.mailbox · n)) (fun c hc t => mailbox_tellReader_keeps (.inl (hothers c hc)) t) s,
    applyAll_keeps_mem (g := fun t => mapFind t.log.cursors n) (fun c hc t => ?_) s⟩
  cases hin : inView c.1 r with
  | false => rw [tellReader_out hin]
  | true => rw [tellReader_in hin, mapFind_mapPut_other _ _ (hothers c hc)]

theorem tellAll_next (r : LogRecord) (l : List (Nat × Cursor)) (s : State) :
    (applyAll (State.tellReader r) l s).log.next = s.log.next :=
  applyAll_keeps _ (fun t => t.log.next) (fun c t => (State.tellReader_held r c t).2.1) l s

/-- An entry of a table without repeated keys stands once, between entries of other keys. -/
theorem mapFind_split {α : Type} {m : Map α} {i : Nat} {v : α} (hnodup : (m.map (·.1)).Nodup) (hfind : mapFind m i = some v) :
    ∃ l r, m = l ++ (i, v) :: r ∧ (∀ c ∈ l, c.1 ≠ i) ∧ ∀ c ∈ r, c.1 ≠ i := by
  induction m with
  | nil => cases hfind
  | cons p m ih =>
    obtain ⟨j, w⟩ := p
    rw [List.map_cons, List.nodup_cons] at hnodup
    obtain ⟨hfirst, hrest⟩ := hnodup
    rw [mapFind] at hfind
    by_cases hj : j = i
    · subst hj
      obtain rfl : w = v := by simpa using hfind
      exact ⟨[], m, rfl, nofun, fun c hc hcj => hfirst (List.mem_map.2 ⟨c, hc, hcj⟩)⟩
    · obtain ⟨l, r, rfl, hl, hr⟩ := ih hrest (by simpa [hj] using hfind)
      exact ⟨(j, w) :: l, r, rfl, List.forall_mem_cons.2 ⟨hj, hl⟩, hr⟩

theorem Log.place_cursors (l : Log) (r : LogRecord) : (l.place r).cursors = l.cursors := by
  unfold Log.place
  split <;> rfl

/-- A record that enters takes the next number and is then told to every reader. -/
theorem logReq_tells {s : State} {q : LogReq} (hready : s.log.ready = true)
    (hsecond : logUnlimited q.typ = true ∨ mapGet s.log.second q.typ 0 < 256) :
    ∃ u : State, s.logReq q = applyAll (State.tellReader (s.recordOf q s.log.next)) s.log.cursors u ∧
      u.facets = s.facets ∧ u.log.cursors = s.log.cursors ∧ u.log.next = s.log.next + 1 := by
  have hadmitted : (!logUnlimited q.typ && decide (256 ≤ mapGet s.log.second q.typ 0)) = false := by
    rcases hsecond with h | h
    · simp [h]
    · simp [Nat.not_le.2 h]
  unfold State.logReq
  extract_lets l num r s1 log s2
  have hcursors : s2.log.cursors = s.log.cursors := Log.place_cursors s.log r
  refine ⟨s2, ?_, rfl, hcursors, rfl⟩
  rw [if_neg (by simp [l, hready]), if_neg (by simp [num, l, hadmitted]), hcursors]

/-- The reader n has its turn in a state `u` where its cursor and its mailbox are still those of before, and keeps what that
turn leaves. -/
theorem logReq_turn {s : State} {q : LogReq} {n : Nat} {k : Cursor} (hready : s.log.ready = true)
    (hsecond : logUnlimited q.typ = true ∨ mapGet s.log.second q.typ 0 < 256)
    (hnodup : (s.log.cursors.map (·.1)).Nodup) (hfind : mapFind s.log.cursors n = some k) :
    ∃ u : State, u.mailbox n = s.mailbox n ∧ mapFind u.log.cursors n = some k ∧ u.log.next = s.log.next + 1 ∧
      (s.logReq q).log.next = s.log.next + 1 ∧
      (s.logReq q).mailbox n = (u.tellReader (s.recordOf q s.log.next) (n, k)).mailbox n ∧
      mapFind (s.logReq q).log.cursors n = mapFind (u.tellReader (s.recordOf q s.log.next) (n, k)).log.cursors n := by
  obtain ⟨u, htells, hfacets, hcursors, hnext⟩ := logReq_tells hready hsecond
  obtain ⟨before, after, hsplit, hbefore, hafter⟩ := mapFind_split hnodup hfind
  have hturn : s.logReq q = applyAll (State.tellReader (s.recordOf q s.log.next)) after
      ((applyAll (State.tellReader (s.recordOf q s.log.next)) before u).tellReader (s.recordOf q s.log.next) (n, k)) := by
    rw [htells, hsplit, applyAll_append, applyAll]
  obtain ⟨hmailbox, hcursor⟩ := tellOthers_keeps hbefore (s.recordOf q s.log.next) u
  obtain ⟨hmailbox', hcursor'⟩ := tellOthers_keeps hafter (s.recordOf q s.log.next)
    ((applyAll (State.tellReader (s.recordOf q s.log.next)) before u).tellReader (s.recordOf q s.log.next) (n, k))
  refine ⟨_, ?_, ?_, (tellAll_next ..).trans hnext, ?_, hturn ▸ hmailbox', hturn ▸ hcursor'⟩
  · rw [hmailbox, State.mailbox, State.facet, hfacets]
    rfl
  · rw [hcursor, hcursors, hfind]
  · rw [htells, tellAll_next, hnext]

/-- Settles O60: what the record leaves of a facet's reader is what the turn of that reader leaves. -/
theorem logNotices : Obligations.LogNotices := by
  intro s q n k htyp hdata _ hon hsupplied hready _ hsecond hnodup hfind
  have hexec : exec (.logRecord q) s = .next (s.logReq q) := by
    rw [← State.when_true (f := fun s => s.logReq q) (b := s.domOn 2 && s.supplied) (by rw [hon, hsupplied]; rfl)]
    exact checked_wf (c := .logRecord q) (by simp [Instr.wf, htyp, hdata]) _
  obtain ⟨u, hmailbox, hcursor, hnumber, hnext, hturn, hturnCursor⟩ := logReq_turn hready hsecond hnodup hfind
  have hwithin := State.logReq_within s q
  cases hin : inView n (s.recordOf q s.log.next) with
  | false =>
    rw [tellReader_out hin] at hturn hturnCursor
    exact ⟨_, k, hexec, hturnCursor.trans hcursor, hnext, nofun, fun _ => rfl,
      fun _ => (mailbox_eq (hturn.trans hmailbox)).1, hwithin⟩
  | true =>
    refine ⟨_, { k with newEntered := true, notify := false }, hexec, ?_, hnext, fun _ => ⟨rfl, fun hnotify => ?_⟩, nofun,
      fun hquiet => ?_, hwithin⟩
    · rw [hturnCursor, tellReader_in hin, mapFind_mapPut_same]
    · obtain ⟨hmbox, hlaunched⟩ := mailbox_eq hmailbox
      rw [(mailbox_eq hturn).1, hnext, ← hnumber, ← hmbox, ← hlaunched]
      exact tellReader_notice hin hnotify
    · have hclear : k.notify = false := hquiet.resolve_left nofun
      exact (mailbox_eq (hturn.trans ((mailbox_tellReader_keeps (.inr (.inr hclear)) u).trans hmailbox))).1

end Sys2Proof.Machine
